-- ==== Sys2Proof/Word.lean ====
section
/-!
DEFINITION. The word types of the Tamram and their plainest arithmetic (00_scope R2, R9; 02_bundles R39).
-/

namespace Sys2Proof

/-- A 64-bit scalar register value (02 R39). -/
abbrev Word := BitVec 64

/-- A byte of memory. -/
abbrev Byte := BitVec 8

/-- A vector register: 1 KiB, bit 0 the lowest bit of byte 0 (02 R39, 03 R63). -/
abbrev Row := BitVec 8192

/-- A scale register: 64 E8M0 codes (03 R80). -/
abbrev Scales := BitVec 512

/-- The 64-bit word of a number, modulo 2^64. -/
abbrev word (n : Nat) : Word := BitVec.ofNat 64 n

/-- The word whose value is 1 when the condition holds and 0 otherwise. -/
def wordOfBool (b : Bool) : Word := if b then 1#64 else 0#64

end Sys2Proof
end

