-- ==== Sys2Proof/Syntax.lean ====
section
/-!
DEFINITION. The abstract syntax of the Tamram: one structure per slot format (02_bundles R47, Table 2.8, narrowed to
the fields an instruction's entry leaves free), and ONE inductive `Instr` with a constructor per row of the opcode
table: the slot instructions with their operand fields as raw bit vectors, the bundle-level actions, and the events of
the device's other agents with the choices they carry (log 1).
-/

namespace Sys2Proof

/-- The six slots of a bundle (02 Table 2.1, R32). -/
inductive Slot where
  | S | A | V | M | C | K
deriving DecidableEq, Repr

/-- A slot part's word, as the bundle holds it (02 Table 2.1). -/
inductive PartWord where
  | s (w : BitVec 40)
  | a (w : BitVec 40)
  | v (w : BitVec 64)
  | m (w : BitVec 32)
  | c (w : BitVec 32)
  | k (w : BitVec 16)
deriving DecidableEq, Repr

/-- The group in slot `slot` of core `core` (01 R13, R14). -/
structure GRef where
  core : Nat
  slot : Nat
deriving DecidableEq, Repr

/-- A wick of a group, with the outstanding copy of its next step's operands that completes, or none where the step itself is meant (09
R243). -/
structure WickCopy where
  wk   : Nat
  copy : Option Nat
deriving DecidableEq, Repr

/-- A started entry of a copy engine, with the piece that comes next of those of its chunk, which nothing orders (11 R288). -/
structure RunPiece where
  run   : Nat
  piece : Nat
deriving DecidableEq, Repr

/-- A chunk sent to one member of a collective (12 R306, R314). -/
structure ChunkSend where
  chunk : Nat
  peer  : Nat
deriving DecidableEq, Repr

/-- A write of one page-table entry (14 Table 14.5) at a physical address, as the memory-management processor makes it. -/
structure PteWrite where
  pa  : Nat
  val : Word
deriving DecidableEq, Repr

/-- The engines of a core that hold a 64-entry translation cache (14 R371); the S slot's XLAT looks in the cache of the
long-instruction sequencers, which the S slot feeds (DEDUCED, log 21). -/
inductive Eng where
  | access | copy | seq
deriving DecidableEq, Repr

/-- A unit that asks for a translation (14 R371, R448): an engine of a core, a lantern, the core itself (overlay loads),
or the front end and the scheduler of a die. -/
inductive XUnit where
  | engine (core : Nat) (e : Eng)
  | lantern (slice : Nat)
  | core (core : Nat)
  | die (d : Nat)
deriving DecidableEq, Repr

/-- A message that arrives over the Prenar link for a collective (12 R306 to R314): the member it is from (its rank for
CSEND and CRECV), the parameters the members must agree on (12 R311), and a contribution to a chunk where it carries one, with the flags
of a chunk formed there (12 R313). -/
structure ChunkMsg where
  src   : Nat
  params : List Nat
  chunk : Nat
  data  : List Byte
  flags : BitVec 6
deriving DecidableEq, Repr

/-- Where a SNUFF arrives (13 R345). -/
inductive SnuffSite where
  | core (c : Nat)
  | copyChannel (c ch : Nat)
  | scheduler (die : Nat)
deriving DecidableEq, Repr

/-- A unit of the device that a lamp test may test (14 R385, R393). -/
inductive LampUnit where
  | pane (core pane : Nat)
  | vector (core : Nat)
  | copyEngine (core : Nat)
  | hamperBank (core off : Nat)
  | lantern (slice : Nat)
  | llcBank (slice : Nat)
  | storeBank (core : Nat)
  | channel (stack ch : Nat)
  | lane (lane : Nat)
deriving DecidableEq, Repr

/-- A management register (22 Table 22.3). -/
inductive MgmtReg where
  | qcmd | qarg0 | qarg1 | part | rank | pth (p : Nat) | mboxCmd | attNonce | attCmd | other (off : Nat)
deriving DecidableEq, Repr

/-- An access of the host to a management register or window (22 R446). -/
structure HostAccess where
  off : Nat
  wr  : Bool
  val : Word
deriving DecidableEq, Repr


/-- SR form with two scalar sources (R47, R118). -/
structure R3 where
  sb : BitVec 6
  sa : BitVec 6
  dst : BitVec 6
  pred : BitVec 5
deriving DecidableEq, Repr

/-- SR form with one scalar source and a destination. -/
structure R2 where
  sa : BitVec 6
  dst : BitVec 6
  pred : BitVec 5
deriving DecidableEq, Repr

/-- SR form with a destination only. -/
structure R1 where
  dst : BitVec 6
  pred : BitVec 5
deriving DecidableEq, Repr

/-- SR form with a predicate only. -/
structure R0 where
  pred : BitVec 5
deriving DecidableEq, Repr

/-- SI form (R47, R120). -/
structure RI where
  imm : BitVec 15
  sa : BitVec 6
  dst : BitVec 6
  pred : BitVec 5
deriving DecidableEq, Repr

/-- CMP (R122). -/
structure Cmp where
  cond : BitVec 4
  sb : BitVec 6
  sa : BitVec 6
  pd : BitVec 4
  pred : BitVec 5
deriving DecidableEq, Repr

/-- CMPI (R122). -/
structure CmpI where
  cond : BitVec 4
  imm : BitVec 11
  sa : BitVec 6
  pd : BitVec 4
  pred : BitVec 5
deriving DecidableEq, Repr

/-- SEL (R123). -/
structure Sel where
  neg : BitVec 1
  ps : BitVec 4
  sb : BitVec 6
  sa : BitVec 6
  dst : BitVec 6
  pred : BitVec 5
deriving DecidableEq, Repr

/-- PLOG (R124). -/
structure PLog where
  tt : BitVec 4
  pb : BitVec 4
  pa : BitVec 4
  pd : BitVec 4
  pred : BitVec 5
deriving DecidableEq, Repr

/-- SB form: BR, LOOP, LOOPI (R125, R127). -/
structure SB where
  fn : BitVec 3
  sa : BitVec 6
  off : BitVec 18
  pred : BitVec 5
deriving DecidableEq, Repr

/-- CALL (R117). -/
structure CallF where
  off : BitVec 18
  pred : BitVec 5
deriving DecidableEq, Repr

/-- LBRK (R128). -/
structure LBrk where
  lv : BitVec 3
  off : BitVec 18
  pred : BitVec 5
deriving DecidableEq, Repr

/-- GSET (R90). -/
structure GSet where
  g : BitVec 4
  mode : BitVec 3
  sb : BitVec 6
  sa : BitVec 6
  dst : BitVec 6
  pred : BitVec 5
deriving DecidableEq, Repr

/-- GRD (R90). -/
structure GRd where
  g : BitVec 4
  sel : BitVec 2
  dst : BitVec 6
  pred : BitVec 5
deriving DecidableEq, Repr

/-- issuing long instruction, format SL (R235, R274, R307). -/
structure XL where
  wk : BitVec 2
  nd : BitVec 4
  pred : BitVec 5
deriving DecidableEq, Repr

/-- wick control (R235). -/
structure XK where
  wk : BitVec 2
  pred : BitVec 5
deriving DecidableEq, Repr

/-- XSTAT (R235). -/
structure XS where
  sel : BitVec 3
  wk : BitVec 2
  pred : BitVec 5
deriving DecidableEq, Repr

/-- BINIT (R353). -/
structure BInit where
  scope : BitVec 3
  sb : BitVec 6
  sa : BitVec 6
  dst : BitVec 6
  pred : BitVec 5
deriving DecidableEq, Repr

/-- TRAP (R386). -/
structure TrapF where
  code : BitVec 15
  pred : BitVec 5
deriving DecidableEq, Repr

/-- RTT (R386). -/
structure RttF where
  skip : BitVec 1
  pred : BitVec 5
deriving DecidableEq, Repr

/-- CSRR (R386). -/
structure CsrRd where
  num : BitVec 12
  dst : BitVec 6
  pred : BitVec 5
deriving DecidableEq, Repr

/-- CSRW, CSRS, CSRC (R386). -/
structure CsrWr where
  num : BitVec 12
  sa : BitVec 6
  pred : BitVec 5
deriving DecidableEq, Repr

/-- TCINV (R386). -/
structure TcInv where
  all : BitVec 1
  sa : BitVec 6
  pred : BitVec 5
deriving DecidableEq, Repr

/-- ERRRD (R386). -/
structure ErrRd where
  sel : BitVec 1
  sa : BitVec 6
  dst : BitVec 6
  pred : BitVec 5
deriving DecidableEq, Repr

/-- BRK (R386). -/
structure BrkF where
  code : BitVec 9
  pred : BitVec 5
deriving DecidableEq, Repr

/-- format AM (R47). -/
structure AM where
  off : BitVec 5
  qual : BitVec 2
  size : BitVec 3
  data : BitVec 9
  base : BitVec 4
  st : BitVec 4
  pred : BitVec 5
deriving DecidableEq, Repr

/-- format AX (R47). -/
structure AX where
  ret : BitVec 1
  scope : BitVec 3
  size : BitVec 3
  cmp : BitVec 6
  val : BitVec 6
  base : BitVec 4
  st : BitVec 4
  pred : BitVec 5
deriving DecidableEq, Repr

/-- format AR (R47). -/
structure AR where
  imm : BitVec 13
  sa : BitVec 6
  aa : BitVec 4
  ad : BitVec 4
  pred : BitVec 5
deriving DecidableEq, Repr

/-- format AF (R47, R172). -/
structure AF where
  scope : BitVec 3
  mask : BitVec 16
  pred : BitVec 5
deriving DecidableEq, Repr

/-- format VR (R47). -/
structure VR where
  fn : BitVec 7
  fz : BitVec 1
  rm : BitVec 2
  ty : BitVec 5
  vc : BitVec 9
  vb : BitVec 9
  va : BitVec 9
  vd : BitVec 9
  pred : BitVec 5
deriving DecidableEq, Repr

/-- MLEASE (R227). -/
structure MLe where
  mask : BitVec 4
  pred : BitVec 5
deriving DecidableEq, Repr

/-- M form with a predicate only (R227). -/
structure M0 where
  pred : BitVec 5
deriving DecidableEq, Repr

/-- MWAIT lease: fn[23] = 1 (R227). -/
structure MWl where
  pred : BitVec 5
deriving DecidableEq, Repr

/-- MCFG (R227). -/
structure MN where
  nr : BitVec 4
  pred : BitVec 5
deriving DecidableEq, Repr

/-- MCFGR (R227). -/
structure MRd where
  sel : BitVec 4
  nr : BitVec 4
  pred : BitVec 5
deriving DecidableEq, Repr

/-- MFSET, MFADV (R227). -/
structure MF where
  nr : BitVec 4
  fd : BitVec 3
  pred : BitVec 5
deriving DecidableEq, Repr

/-- matrix step (R227). -/
structure MS where
  useS : BitVec 1
  fs : BitVec 3
  fb : BitVec 3
  fa : BitVec 3
  pred : BitVec 5
deriving DecidableEq, Repr

/-- copy form (R297). -/
structure CC where
  useR : BitVec 1
  nb : BitVec 4
  na : BitVec 4
  ch : BitVec 3
  pred : BitVec 5
deriving DecidableEq, Repr

/-- CPYL (R297). -/
structure CL where
  na : BitVec 4
  ch : BitVec 3
  pred : BitVec 5
deriving DecidableEq, Repr

/-- STAMP (R297). -/
structure CS where
  nb : BitVec 4
  na : BitVec 4
  ch : BitVec 3
  pred : BitVec 5
deriving DecidableEq, Repr

/-- CPYQ (R297). -/
structure CQ where
  sel : BitVec 2
  nd : BitVec 4
  ch : BitVec 3
  pred : BitVec 5
deriving DecidableEq, Repr

/-- KLD, KLDI (R83). -/
structure KL where
  off : BitVec 4
  src : BitVec 4
  cd : BitVec 4
deriving DecidableEq, Repr

/-- KMOV (R83). -/
structure KM where
  src : BitVec 4
  cd : BitVec 4
deriving DecidableEq, Repr

/-- Every row of the opcode table (02 Tables 2.9 to 2.13 and the class chapters), slot by slot, then the bundle's own
actions and the events of the device's agents. -/
inductive Instr where
  /-- NOP (R54). -/
  | nop
  /-- ANOP (R54). -/
  | anop
  /-- VNOP (R54). -/
  | vnop
  /-- MNOP (R54). -/
  | mnop
  /-- CNOP (R54). -/
  | cnop
  /-- KNOP (R54). -/
  | knop
  /-- ADD (R119). -/
  | add (x : R3)
  /-- SUB (R119). -/
  | sub (x : R3)
  /-- MUL (R119). -/
  | mul (x : R3)
  /-- MULH (R119). -/
  | mulh (x : R3)
  /-- MULHU (R119). -/
  | mulhu (x : R3)
  /-- DIV (R119). -/
  | div (x : R3)
  /-- DIVU (R119). -/
  | divu (x : R3)
  /-- REM (R119). -/
  | rem (x : R3)
  /-- REMU (R119). -/
  | remu (x : R3)
  /-- AND (R119). -/
  | and (x : R3)
  /-- OR (R119). -/
  | or (x : R3)
  /-- XOR (R119). -/
  | xor (x : R3)
  /-- ANDN (R119). -/
  | andn (x : R3)
  /-- SHL (R119). -/
  | shl (x : R3)
  /-- SHR (R119). -/
  | shr (x : R3)
  /-- SAR (R119). -/
  | sar (x : R3)
  /-- ROTR (R119). -/
  | rotr (x : R3)
  /-- MIN (R119). -/
  | min (x : R3)
  /-- MAX (R119). -/
  | max (x : R3)
  /-- MINU (R119). -/
  | minu (x : R3)
  /-- MAXU (R119). -/
  | maxu (x : R3)
  /-- CLZ (R119). -/
  | clz (x : R2)
  /-- POPC (R119). -/
  | popc (x : R2)
  /-- ADDI (R120). -/
  | addi (x : RI)
  /-- ANDI (R120). -/
  | andi (x : RI)
  /-- ORI (R120). -/
  | ori (x : RI)
  /-- XORI (R120). -/
  | xori (x : RI)
  /-- SHLI (R120). -/
  | shli (x : RI)
  /-- SHRI (R120). -/
  | shri (x : RI)
  /-- SARI (R120). -/
  | sari (x : RI)
  /-- LUI (R120). -/
  | lui (x : RI)
  /-- CMP (R122). -/
  | cmp (x : Cmp)
  /-- CMPI (R122). -/
  | cmpi (x : CmpI)
  /-- SEL (R123). -/
  | sel (x : Sel)
  /-- PLOG (R124). -/
  | plog (x : PLog)
  /-- BR (R125). -/
  | br (x : SB)
  /-- JMP (R126). -/
  | jmp (x : R2)
  /-- CALL (R117). -/
  | call (x : CallF)
  /-- RET (R117). -/
  | ret (x : R0)
  /-- LOOP (R104). -/
  | loop (x : SB)
  /-- LOOPI (R104). -/
  | loopi (x : SB)
  /-- LBRK (R128). -/
  | lbrk (x : LBrk)
  /-- GSET (R91). -/
  | gset (x : GSet)
  /-- GRD (R91). -/
  | grd (x : GRd)
  /-- GCLR (R91). -/
  | gclr (x : R2)
  /-- XMM (R252). -/
  | xmm (x : XL)
  /-- XCONV (R254). -/
  | xconv (x : XL)
  /-- XGATH (R255). -/
  | xgath (x : XL)
  /-- XSORT (R256). -/
  | xsort (x : XL)
  /-- XTOPK (R257). -/
  | xtopk (x : XL)
  /-- XNORM (R258). -/
  | xnorm (x : XL)
  /-- XWAIT (R259). -/
  | xwait (x : XK)
  /-- XSTAT (R259). -/
  | xstat (x : XS)
  /-- XRES (R259). -/
  | xres (x : XK)
  /-- XDROP (R259). -/
  | xdrop (x : XK)
  /-- XATTN (R277). -/
  | xattn (x : XL)
  /-- KVSHOOT (R280). -/
  | kvshoot (x : XL)
  /-- KVFREQ (R283). -/
  | kvfreq (x : XL)
  /-- KVAPP (R281). -/
  | kvapp (x : XL)
  /-- KVPRE (R282). -/
  | kvpre (x : XL)
  /-- CALLRED (R317). -/
  | callred (x : XL)
  /-- CREDSC (R317). -/
  | credsc (x : XL)
  /-- CGATH (R317). -/
  | cgath (x : XL)
  /-- CBCAST (R317). -/
  | cbcast (x : XL)
  /-- CA2A (R317). -/
  | ca2a (x : XL)
  /-- CSEND (R317). -/
  | csend (x : XL)
  /-- CRECV (R317). -/
  | crecv (x : XL)
  /-- CRING (R318). -/
  | cring (x : XL)
  /-- CTOPK (R319). -/
  | ctopk (x : XL)
  /-- SPAWN (R354). -/
  | spawn (x : R2)
  /-- SPAWNI (R354). -/
  | spawni (x : R3)
  /-- SCOPE (R355). -/
  | scope (x : R1)
  /-- SCLOSE (R355). -/
  | sclose (x : R2)
  /-- SNUFF (R356). -/
  | snuff (x : R3)
  /-- SNUFFW (R356). -/
  | snuffw (x : R2)
  /-- BINIT (R357). -/
  | binit (x : BInit)
  /-- BARR (R357). -/
  | barr (x : R2)
  /-- BWAIT (R357). -/
  | bwait (x : R3)
  /-- YIELD (R358). -/
  | yield (x : R0)
  /-- PRIO (R358). -/
  | prio (x : R2)
  /-- DLINE (R358). -/
  | dline (x : R2)
  /-- END (R340). -/
  | endGroup (x : R0)
  /-- TAIL (R341). -/
  | tail (x : R0)
  /-- TRAP (R387). -/
  | trap (x : TrapF)
  /-- RTT (R388). -/
  | rtt (x : RttF)
  /-- CSRR (R389). -/
  | csrr (x : CsrRd)
  /-- CSRW (R389). -/
  | csrw (x : CsrWr)
  /-- CSRS (R389). -/
  | csrs (x : CsrWr)
  /-- CSRC (R389). -/
  | csrc (x : CsrWr)
  /-- XLAT (R390). -/
  | xlat (x : R2)
  /-- TCINV (R391). -/
  | tcinv (x : TcInv)
  /-- ERRRD (R392). -/
  | errrd (x : ErrRd)
  /-- ERRCLR (R392). -/
  | errclr (x : R1)
  /-- LAMP (R393). -/
  | lamp (x : R3)
  /-- BRK (R387). -/
  | brk (x : BrkF)
  /-- LD (R153). -/
  | ld (x : AM)
  /-- LDNA (R153). -/
  | ldna (x : AM)
  /-- LDBP (R153). -/
  | ldbp (x : AM)
  /-- LDG (R153). -/
  | ldg (x : AM)
  /-- ST (R155). -/
  | st (x : AM)
  /-- STNA (R155). -/
  | stna (x : AM)
  /-- STBP (R155). -/
  | stbp (x : AM)
  /-- STS (R155). -/
  | sts (x : AM)
  /-- PF (R156). -/
  | pf (x : AM)
  /-- PFNA (R156). -/
  | pfna (x : AM)
  /-- MONW (R158). -/
  | monw (x : AX)
  /-- ATADD (R161). -/
  | atadd (x : AX)
  /-- ATFADD (R161). -/
  | atfadd (x : AX)
  /-- ATMIN (R161). -/
  | atmin (x : AX)
  /-- ATMAX (R161). -/
  | atmax (x : AX)
  /-- ATMINU (R161). -/
  | atminu (x : AX)
  /-- ATMAXU (R161). -/
  | atmaxu (x : AX)
  /-- ATAND (R161). -/
  | atand (x : AX)
  /-- ATOR (R161). -/
  | ator (x : AX)
  /-- ATXOR (R161). -/
  | atxor (x : AX)
  /-- ATSWP (R161). -/
  | atswp (x : AX)
  /-- ATCAS (R161). -/
  | atcas (x : AX)
  /-- LEA (R163). -/
  | lea (x : AR)
  /-- LEAX (R163). -/
  | leax (x : AR)
  /-- AMOV (R163). -/
  | amov (x : AR)
  /-- AINC (R163). -/
  | ainc (x : AR)
  /-- MARK (R173). -/
  | mark (x : AF)
  /-- FENCE (R173). -/
  | fence (x : AF)
  /-- FENCE_X (R173). -/
  | fenceX (x : AF)
  /-- ACQ (R173). -/
  | acq (x : AF)
  /-- REL (R173). -/
  | rel (x : AF)
  /-- ACQREL (R173). -/
  | acqrel (x : AF)
  /-- DRAIN (R173). -/
  | drain (x : AF)
  /-- TKW (R173). -/
  | tkw (x : AF)
  /-- VADD (R194). -/
  | vadd (x : VR)
  /-- VSUB (R194). -/
  | vsub (x : VR)
  /-- VMUL (R194). -/
  | vmul (x : VR)
  /-- VMULH (R194). -/
  | vmulh (x : VR)
  /-- VDIV (R194). -/
  | vdiv (x : VR)
  /-- VSQRT (R194). -/
  | vsqrt (x : VR)
  /-- VMIN (R195). -/
  | vmin (x : VR)
  /-- VMAX (R195). -/
  | vmax (x : VR)
  /-- VABS (R195). -/
  | vabs (x : VR)
  /-- VNEG (R195). -/
  | vneg (x : VR)
  /-- VFMA (R194). -/
  | vfma (x : VR)
  /-- VFMS (R194). -/
  | vfms (x : VR)
  /-- VFNMA (R194). -/
  | vfnma (x : VR)
  /-- VAND (R196). -/
  | vand (x : VR)
  /-- VOR (R196). -/
  | vor (x : VR)
  /-- VXOR (R196). -/
  | vxor (x : VR)
  /-- VNOT (R196). -/
  | vnot (x : VR)
  /-- VSHL (R196). -/
  | vshl (x : VR)
  /-- VSHR (R196). -/
  | vshr (x : VR)
  /-- VSAR (R196). -/
  | vsar (x : VR)
  /-- VCLZ (R196). -/
  | vclz (x : VR)
  /-- VPOPC (R196). -/
  | vpopc (x : VR)
  /-- VCMP (R197). -/
  | vcmp (x : VR)
  /-- VSEL (R198). -/
  | vsel (x : VR)
  /-- VMOV (R198). -/
  | vmov (x : VR)
  /-- VBCAST (R198). -/
  | vbcast (x : VR)
  /-- VPERM (R199). -/
  | vperm (x : VR)
  /-- VSHUF (R200). -/
  | vshuf (x : VR)
  /-- VROT (R198). -/
  | vrot (x : VR)
  /-- VIOTA (R198). -/
  | viota (x : VR)
  /-- VEXP2 (R201). -/
  | vexp2 (x : VR)
  /-- VLOG2 (R201). -/
  | vlog2 (x : VR)
  /-- VRCP (R201). -/
  | vrcp (x : VR)
  /-- VRSQ (R201). -/
  | vrsq (x : VR)
  /-- VSIN (R201). -/
  | vsin (x : VR)
  /-- VCOS (R201). -/
  | vcos (x : VR)
  /-- VREDA (R202). -/
  | vreda (x : VR)
  /-- VREDX (R202). -/
  | vredx (x : VR)
  /-- VREDN (R202). -/
  | vredn (x : VR)
  /-- VSCAN (R203). -/
  | vscan (x : VR)
  /-- VCX (R204). -/
  | vcx (x : VR)
  /-- VCXS (R204). -/
  | vcxs (x : VR)
  /-- VINS (R205). -/
  | vins (x : VR)
  /-- VINSM (R205). -/
  | vinsm (x : VR)
  /-- CVT (R93). -/
  | cvt (x : VR)
  /-- QUANT_DERIVE (R94). -/
  | quantDerive (x : VR)
  /-- QUANT_APPLY (R95). -/
  | quantApply (x : VR)
  /-- DQUANT (R96). -/
  | dquant (x : VR)
  /-- PACK (R97). -/
  | pack (x : VR)
  /-- UNPACK (R98). -/
  | unpack (x : VR)
  /-- MLEASE (R228). -/
  | mlease (x : MLe)
  /-- MREL (R228). -/
  | mrel (x : M0)
  /-- MCFG (R229). -/
  | mcfg (x : MN)
  /-- MCFGR (R229). -/
  | mcfgr (x : MRd)
  /-- MFSET (R230). -/
  | mfset (x : MF)
  /-- MFADV (R230). -/
  | mfadv (x : MF)
  /-- MWAIT_STEPS (R231). -/
  | mwaitSteps (x : M0)
  /-- MWAIT_LEASE (R231). -/
  | mwaitLease (x : MWl)
  /-- MSTEP (R232). -/
  | mstep (x : MS)
  /-- MSTEPZ (R232). -/
  | mstepz (x : MS)
  /-- MSTEPT (R232). -/
  | mstept (x : MS)
  /-- MZERO (R233). -/
  | mzero (x : M0)
  /-- CPY (R298). -/
  | cpy (x : CC)
  /-- CPY2 (R298). -/
  | cpy2 (x : CC)
  /-- CPYH (R298). -/
  | cpyh (x : CC)
  /-- CPLN (R298). -/
  | cpln (x : CC)
  /-- ACCLD (R298). -/
  | accld (x : CC)
  /-- ACCST (R298). -/
  | accst (x : CC)
  /-- CPYL (R299). -/
  | cpyl (x : CL)
  /-- STAMP (R301). -/
  | stamp (x : CS)
  /-- GSTEP (R298). -/
  | gstep (x : CC)
  /-- CPYQ (R302). -/
  | cpyq (x : CQ)
  /-- KLD (R84). -/
  | kld (x : KL)
  /-- KLDI (R84). -/
  | kldi (x : KL)
  /-- KMOV (R84). -/
  | kmov (x : KM)
  /-- BUNDLE_DECODE (R31). -/
  | bundleDecode (g : GRef)
  /-- LOOP_END (R105). -/
  | loopEnd (g : GRef)
  /-- ROTATE (R107). -/
  | rotate (g : GRef)
  /-- TAG_GRANT (R140). -/
  | tagGrant (core : Nat)
  /-- LOAD_PERFORMED (R136). -/
  | loadPerformed (g : GRef) (st : Nat) (piece : Nat) (evict : List Nat)
  /-- STORE_PERFORMED (R155). -/
  | storePerformed (g : GRef) (st : Nat) (piece : Nat)
  /-- WRITE_ACKNOWLEDGEMENT (R155). -/
  | writeAcknowledgement (g : GRef) (st : Nat)
  /-- ATOMIC_PERFORMED (R161). -/
  | atomicPerformed (g : GRef) (st : Nat)
  /-- MONW_TEST (R158). -/
  | monwTest (g : GRef)
  /-- PAGE_WALK (R372). -/
  | pageWalk (u : XUnit) (asid : Nat) (va : Nat) (wr : Bool)
  /-- DEMAND_FAULT_SERVICE (R374). -/
  | demandFaultService (die : Nat) (serviced : Bool) (writes : List PteWrite)
  /-- MAPPING_CHANGE (R376). -/
  | mappingChange (asid : Nat) (va : Nat) (revoke : List PteWrite) (move : Option (Nat × Nat × Nat)) (install : List PteWrite)
  /-- ATS_INVALIDATION (R375). -/
  | atsInvalidation (asid : Nat) (va : Nat)
  /-- PRI_RESPONSE (R375). -/
  | priResponse (asid : Nat) (va : Nat) (ok : Bool)
  /-- ASYNC_TRAP_TAKEN (R363). -/
  | asyncTrapTaken (g : GRef)
  /-- ANSWER_RESUME (R367). -/
  | answerResume (q : Nat)
  /-- ANSWER_SKIP (R367). -/
  | answerSkip (q : Nat)
  /-- ANSWER_ABORT (R367). -/
  | answerAbort (q : Nat)
  /-- ANSWER_INVALID (R404). -/
  | answerInvalid (q : Nat)
  /-- LEASE_GRANT (R222). -/
  | leaseGrant (core : Nat)
  /-- LEASE_TIMEOUT (R221). -/
  | leaseTimeout (g : GRef)
  /-- MATRIX_STEP_START (R224). -/
  | matrixStepStart (core : Nat) (step : Nat)
  /-- MATRIX_STEP_COMMIT (R232). -/
  | matrixStepCommit (core : Nat) (step : Nat)
  /-- TILE_STEP_START (R243). -/
  | tileStepStart (g : GRef) (wk : WickCopy)
  /-- TILE_STEP_COMMIT (R244). -/
  | tileStepCommit (g : GRef) (wk : Nat)
  /-- KVSHOOT_COMPLETE (R273). -/
  | kvshootComplete (g : GRef) (wk : Nat)
  /-- BUFFER_ACKNOWLEDGE (R273). -/
  | bufferAcknowledge (g : GRef) (wk : Nat) (buf : Nat)
  /-- CHUNK_REQUEST (R313). -/
  | chunkRequest (g : GRef) (wk : Nat) (chunk : Nat) (dst : Nat)
  /-- CHUNK_RECEIVE (R306). -/
  | chunkReceive (g : GRef) (wk : Nat) (msg : ChunkMsg)
  /-- CHUNK_RETRY (R306). -/
  | chunkRetry (g : GRef) (wk : Nat) (chunk : Nat)
  /-- LANE_RETRAIN (R306). -/
  | laneRetrain (lane : Nat)
  /-- LOST_LINK (R312). -/
  | lostLink (g : GRef) (wk : Nat)
  /-- PEER_NOTICE (R312). -/
  | peerNotice (g : GRef) (wk : Nat)
  /-- COPY_START (R285). -/
  | copyStart (eng : Nat) (ch : Nat)
  /-- COPY_CHUNK (R288). -/
  | copyChunk (eng : Nat) (run : RunPiece)
  /-- COMPLETION_STAMP (R290). -/
  | completionStamp (eng : Nat) (run : Nat)
  /-- CHAIN_RECORD_READ (R299). -/
  | chainRecordRead (eng : Nat) (run : Nat)
  /-- CHAIN_UNPARK (R299). -/
  | chainUnpark (eng : Nat) (run : Nat)
  /-- ADMISSION (R325). -/
  | admission (task : Nat) (place : List Nat) (writes : List PteWrite)
  /-- GROUP_START (R329). -/
  | groupStart (core : Nat)
  /-- ISSUE_AGE_PROMOTION (R330). -/
  | issueAgePromotion (g : GRef)
  /-- YIELD_EXPIRY (R358). -/
  | yieldExpiry (g : GRef)
  /-- PREEMPTION_DECISION (R332). -/
  | preemptionDecision (task : Nat) (victim : Nat) (cores : List Nat)
  /-- PREEMPTION_LANDING (R333). -/
  | preemptionLanding (g : GRef)
  /-- PREEMPTION_SAVE (R334). -/
  | preemptionSave (core : Nat)
  /-- RESUMPTION (R336). -/
  | resumption (task : Nat) (core : Nat)
  /-- OVERLAY_LOAD (R339). -/
  | overlayLoad (g : GRef)
  /-- GROUP_RETIRE (R340). -/
  | groupRetire (core : Nat) (eng : Nat)
  /-- RETIREMENT_TRACKER_DRAIN (R341). -/
  | retirementTrackerDrain (core : Nat) (entry : Nat)
  /-- TASK_END (R342). -/
  | taskEnd (task : Nat)
  /-- SNUFF_ARRIVAL (R345). -/
  | snuffArrival (snuff : Nat) (site : SnuffSite)
  /-- SNUFF_COMPLETE (R346). -/
  | snuffComplete (snuff : Nat)
  /-- LAMP_TEST (R385). -/
  | lampTest (unit : LampUnit) (pass : Bool)
  /-- PROD_UPDATE (R397). -/
  | prodUpdate (q : Nat)
  /-- RECORD_FETCH (R399). -/
  | recordFetch (q : Nat)
  /-- NODE_FINAL (R399). -/
  | nodeFinal (q : Nat) (slot : Nat)
  /-- LAUNCH (R401). -/
  | launch (q : Nat) (slot : Nat)
  /-- ILAUNCH (R401). -/
  | ilaunch (q : Nat) (slot : Nat)
  /-- OUTING (R402). -/
  | outing (q : Nat) (slot : Nat)
  /-- OUTING_RETRY (R402). -/
  | outingRetry (q : Nat) (slot : Nat)
  /-- COPY_NODE (R401). -/
  | copyNode (q : Nat) (slot : Nat)
  /-- SIGNAL_STORE (R401). -/
  | signalStore (q : Nat) (slot : Nat)
  /-- SIGNAL_ADD (R401). -/
  | signalAdd (q : Nat) (slot : Nat)
  /-- SIGNAL_OR (R401). -/
  | signalOr (q : Nat) (slot : Nat)
  /-- WAIT_NODE (R401). -/
  | waitNode (q : Nat) (slot : Nat)
  /-- WAIT_SATISFIED (R401). -/
  | waitSatisfied (q : Nat) (slot : Nat)
  /-- COND_NODE (R401). -/
  | condNode (q : Nat) (slot : Nat)
  /-- LOOP_NODE (R403). -/
  | loopNode (q : Nat) (slot : Nat)
  /-- LOOP_ITERATION (R403). -/
  | loopIteration (q : Nat) (slot : Nat)
  /-- QUEUE_EVENT_POST (R405). -/
  | queueEventPost (q : Nat)
  /-- QUEUE_REGISTER (R449). -/
  | queueRegister (val : Word)
  /-- QUEUE_UNREGISTER (R449). -/
  | queueUnregister (val : Word)
  /-- QUEUE_RESET (R449). -/
  | queueReset (val : Word)
  /-- QUEUE_SNUFF_ROOT (R406). -/
  | queueSnuffRoot (val : Word)
  /-- PART_WRITE (R446). -/
  | partWrite (val : Word)
  /-- RANK_WRITE (R446). -/
  | rankWrite (val : Word)
  /-- PTH_WRITE (R446). -/
  | pthWrite (p : Nat) (val : Word)
  /-- MANAGEMENT_REGISTER_WRITE (R446). -/
  | managementRegisterWrite (reg : MgmtReg) (val : Word)
  /-- DENIED_ACCESS (R442). -/
  | deniedAccess (acc : HostAccess)
  /-- MBOX_NONE (R443). -/
  | mboxNone (val : Word)
  /-- MBOX_VERIFY_WRITE (R443). -/
  | mboxVerifyWrite (val : Word)
  /-- MBOX_CLEAR (R443). -/
  | mboxClear (val : Word)
  /-- MBOX_REFUSED (R443). -/
  | mboxRefused (val : Word)
  /-- RECOVERY_IMAGE_VERIFIED (R443). -/
  | recoveryImageVerified
  /-- ATT_NONCE_WRITE (R445). -/
  | attNonceWrite (nonce : BitVec 256)
  /-- ATTESTATION_REQUEST (R445). -/
  | attestationRequest
  /-- ATTESTATION_DONE (R444). -/
  | attestationDone
  /-- RESET (R440). -/
  | deviceReset
  /-- BOOT_ROM_HASH (R440). -/
  | bootRomHash
  /-- SLOT_CHOICE (R441). -/
  | slotChoice
  /-- FIRMWARE_LOAD (R440). -/
  | firmwareLoad
  /-- HBM_TRAIN (R440). -/
  | hbmTrain (failed : List LampUnit)
  /-- POWER_SAMPLE (R437). -/
  | powerSample (watts : Nat)
  /-- THERMAL_TRIP (R438). -/
  | thermalTrip (die : Nat) (celsius : Nat)
  /-- PTM_EXCHANGE (R439). -/
  | ptmExchange (host : Nat)
  /-- POWER_LOSS (R443). -/
  | powerLoss
  /-- PART_COMPLETION (R40). -/
  | partCompletion (g : GRef) (idx : Nat)
  /-- ATS_TRANSLATION_RESPONSE (R375). -/
  | atsTranslationResponse (asid : Nat) (va : Nat) (found : Bool) (wr : Bool)
  /-- SEND_ACKNOWLEDGEMENT (R314). -/
  | sendAcknowledgement (g : GRef) (wk : Nat) (chunk : ChunkSend)
  /-- HOST_STORE_ACKNOWLEDGEMENT (R170). -/
  | hostStoreAcknowledgement (g : GRef) (st : Nat)
deriving DecidableEq, Repr

end Sys2Proof
end

