-- ==== Sys2Proof/WellFormed.lean ====
section
/-!
DEFINITION. Which instructions the spec calls well formed: every check an instruction's entry makes on its fields at
decode (02_bundles R30, R31, R42 to R47 and the entries of the class chapters), each refusing under a name of its own.
The events of the device's agents carry no encoding and are well formed whatever their parameters.
-/

namespace Sys2Proof

/-- Why a part's word is no instruction; every one of them is the illegal-instruction trap of 02 R31. -/
inductive DecodeError where
  /-- An opcode that no map of 02 R48 to R53 lists. -/
  | unassignedOpcode
  /-- A NOP with another bit set (02 R30). -/
  | nopBits
  /-- A reserved bit, or a field the entry fixes, with another value (02 R31, R47). -/
  | reservedBits
  /-- A scalar source code 60 to 63 (02 R43). -/
  | badScalarSource
  /-- A scalar destination code other than 0 to 15 and 63 (02 R43). -/
  | badScalarDest
  /-- A vector operand field that 02 Table 2.5 or the entry calls illegal. -/
  | badVectorOperand
  /-- A type code outside the instruction's class (02 R45, 07 R206). -/
  | badType
  /-- A field value that the instruction's entry excludes. -/
  | badFieldValue
  /-- A system-state number that is not listed, or a write of a read-only one (02 R41). -/
  | badSystemState
  /-- A size, qualifier or scope code that is illegal (02 R47). -/
  | badAccessCode
deriving DecidableEq, Repr

/-- A check: the condition that refuses, and the name it refuses under. -/
def refuse (b : Bool) (e : DecodeError) : Bool × DecodeError := (b, e)

/-- The first check of a list that fails, by name. -/
def firstFailing : List (Bool × DecodeError) → Option DecodeError
  | [] => none
  | (bad, e) :: rest => if bad then some e else firstFailing rest

/-- Scalar source codes 60 to 63 are reserved (02 R43). -/
def badSrc (c : BitVec 6) : Bool × DecodeError := refuse (60 ≤ c.toNat) .badScalarSource

/-- A scalar destination is n0 to n15 or `_`, code 63 (02 R43). -/
def badDst (c : BitVec 6) : Bool × DecodeError := refuse (!(c.toNat < 16 || c.toNat == 63)) .badScalarDest

/-- The width in bits of a type code (03 Table 3.1, 02 Table 2.7). -/
def typeWidth (t : Nat) : Nat :=
  match t with
  | 0 => 2 | 1 => 4 | 2 => 8 | 3 => 16 | 4 => 32 | 5 => 64
  | 6 => 8 | 7 => 16 | 8 => 32 | 9 => 64
  | 10 => 4 | 11 => 8 | 12 => 8 | 13 => 16 | 14 => 16 | 15 => 32 | _ => 64

/-- Integer types of the V slot (07 Table 7.1, class I). -/
def classI (t : Nat) : Bool := 2 ≤ t && t ≤ 9
/-- Float types of the V slot (07 Table 7.1, class F). -/
def classF (t : Nat) : Bool := 13 ≤ t && t ≤ 16
/-- Classes I and F (07 Table 7.1). -/
def classIF (t : Nat) : Bool := classI t || classF t
/-- Every element type (07 Table 7.1, class X; 02 R45: codes 17 to 31 are illegal). -/
def classX (t : Nat) : Bool := t ≤ 16

/-- A vector operand field as a source (02 Table 2.5). -/
def vecSrcOk (f : BitVec 9) : Bool :=
  let n := f.toNat
  n < 0x110 || (0x140 ≤ n && n < 0x144) || (0x180 ≤ n && n < 0x190) || (0x1C0 ≤ n && n < 0x1C0 + 60)

/-- A vector operand field as a destination (02 Table 2.5). -/
def vecDstOk (f : BitVec 9) : Bool :=
  let n := f.toNat
  n < 0x110 || (0x180 ≤ n && n < 0x190) || n == 0x1FF

/-- A scalar-value field holds a scalar code (07 R190); codes 60 to 62 are reserved as sources (02 R43). -/
def vecScalarOk (f : BitVec 9) : Bool := 0x1C0 ≤ f.toNat && f.toNat < 0x1C0 + 60

/-- A group field of more than one register names a v or o register (07 R191). -/
def vecGroupOk (f : BitVec 9) : Bool := f.toNat < 0x110

/-- How an entry uses a vector operand field. -/
inductive VUse where
  /-- Read as an operand (02 R42). -/
  | src
  /-- Not read: must be 0x000 (07 R189). -/
  | unused
  /-- Read as a scalar value (07 R190). -/
  | scalar
  /-- Given another meaning by the entry. -/
  | other
deriving DecidableEq, Repr

/-- The check of one vector operand field. -/
def VUse.bad (u : VUse) (f : BitVec 9) : Bool × DecodeError :=
  match u with
  | .src => refuse (!vecSrcOk f) .badVectorOperand
  | .unused => refuse (f != 0#9) .reservedBits
  | .scalar => refuse (!vecScalarOk f) .badVectorOperand
  | .other => refuse (false) .badVectorOperand

/-- The checks common to the V entries (07 R189, R206): type class, the uses of va, vb and vc, the destination, and the
fn bits without a meaning, which `fnMask` lists. -/
def vChecks (x : VR) (cls : Nat → Bool) (a b c : VUse) (fnMask : BitVec 7) : List (Bool × DecodeError) :=
  [ refuse (!cls x.ty.toNat) .badType, a.bad x.va, b.bad x.vb, c.bad x.vc, refuse (!vecDstOk x.vd) .badVectorOperand,
    refuse ((x.fn &&& fnMask) != 0#7) .reservedBits ]

/-- An instruction with a saturation bit fn[57] on integers only (07 R193, R206). -/
def vSatChecks (x : VR) (b : VUse) : List (Bool × DecodeError) :=
  vChecks x classIF .src b .unused 0x7E#7 ++ [refuse (x.fn.getLsbD 0 && classF x.ty.toNat) .badFieldValue]

/-- The number of registers of a group that an entry's log2 field gives (07 R191). -/
def groupSize (l : Nat) : Nat := 2 ^ l

/-- log2 of the elements a register holds at a type's width (07 R184). -/
def log2Elems (t : Nat) : Nat :=
  match typeWidth t with
  | 2 => 12 | 4 => 11 | 8 => 10 | 16 => 9 | 32 => 8 | _ => 7

/-- The checks of VCX and VCXS (07 R204, R191). -/
def vcxChecks (x : VR) (b : VUse) : List (Bool × DecodeError) :=
  let j := (x.fn.extractLsb' 3 4).toNat
  let l := (x.fn.extractLsb' 1 2).toNat
  let k := (x.vc.extractLsb' 0 5).toNat
  vChecks x classIF .src b .other 0x01#7 ++
    [ refuse (x.vc.extractLsb' 6 3 != 0#3) .reservedBits,
      refuse (log2Elems x.ty.toNat + l ≤ j) .badFieldValue,
      refuse (k ≤ j || 16 < k) .badFieldValue,
      refuse (l != 0 && !(vecGroupOk x.va && vecGroupOk x.vd)) .badVectorOperand,
      refuse (l != 0 && b == .src && !vecGroupOk x.vb) .badVectorOperand ]

/-- The checks of VINS and VINSM (07 R205). -/
def vinsChecks (x : VR) (c : VUse) : List (Bool × DecodeError) :=
  vChecks x classIF .src .src c 0x60#7 ++
    [refuse (log2Elems x.ty.toNat < (x.fn.extractLsb' 0 4).toNat) .badFieldValue]

/-- The source type of a conversion, vc[44:40] (03 R92). -/
def VR.st (x : VR) : Nat := (x.vc.extractLsb' 0 5).toNat
/-- The part index of a conversion, fn[61:57] (03 R92). -/
def VR.part (x : VR) : Nat := (x.fn.extractLsb' 0 5).toNat

/-- The checks common to the conversions (03 R92, R99, Table 3.6). -/
def cvtChecks (x : VR) (b : VUse) (derive : Bool) : List (Bool × DecodeError) :=
  [ refuse (!classX x.ty.toNat) .badType, refuse (!classX x.st) .badType, refuse (!vecSrcOk x.va) .badVectorOperand, b.bad x.vb,
    refuse (!vecDstOk x.vd) .badVectorOperand, refuse (x.vc.extractLsb' 6 3 != 0#3) .reservedBits,
    refuse (x.vc.getLsbD 5 != derive) .reservedBits, refuse (x.fn.extractLsb' 5 2 != 0#2) .reservedBits ]

/-- A narrow float destination of QUANT or source of DQUANT (03 R94, R96). -/
def narrowFloat (t : Nat) : Bool := 10 ≤ t && t ≤ 12
/-- The wide side of QUANT and DQUANT: .bf16 or .f32 (03 R94, R96). -/
def quantWide (t : Nat) : Bool := t == 13 || t == 15

/-- Which access of a system-state number the device lists (02 Table 2.4, 04 R114, 05 R137, 12 R304, 13 Table 13.5,
14 Table 14.4): none, read-only, or read-write. -/
inductive CsrAccess where
  | absent | ro | rw
deriving DecidableEq, Repr

/-- The listed system-state numbers (14 R369). -/
def csrAccess (n : Nat) : CsrAccess :=
  if n = 0x010 ∨ n = 0x011 ∨ n = 0x012 ∨ n = 0x013 ∨ n = 0x014 ∨ n = 0x015 ∨ n = 0x016 ∨ n = 0x020 then .ro
  else if n = 0x030 then .rw
  else if n = 0x040 ∨ n = 0x041 ∨ n = 0x043 ∨ n = 0x045 then .ro
  else if n = 0x042 ∨ n = 0x044 then .rw
  else if 0x048 ≤ n ∧ n ≤ 0x04F then .rw
  else if n = 0x050 ∨ n = 0x051 then .ro
  else if 0x060 ≤ n ∧ n ≤ 0x06F then .ro
  else if n = 0x070 ∨ n = 0x080 then .ro
  else .absent

/-- The bytes of a size code of the A slot, 0 where the code is illegal (02 R47). -/
def accessBytes (c : BitVec 3) : Nat :=
  match c.toNat with
  | 0 => 1 | 1 => 2 | 2 => 4 | 3 => 8 | 4 => 16 | 5 => 1024 | _ => 0

/-- Size codes 6 and 7 are illegal (02 R47). -/
def badSize (c : BitVec 3) : Bool × DecodeError := refuse (6 ≤ c.toNat) .badAccessCode
/-- Scope codes 6 and 7 are illegal (02 R47). -/
def badScope (c : BitVec 3) : Bool × DecodeError := refuse (6 ≤ c.toNat) .badAccessCode

/-- The data field of a load: a v or o register, the stream's own queue, or `_` (05 R152). -/
def loadDataOk (x : AM) : Bool :=
  x.data.toNat < 0x110 || x.data.toNat == 0x180 + x.st.toNat || x.data.toNat == 0x1FF

/-- The data field of a store: a v or o register, the stream's own queue, or a scalar code (05 R154). -/
def storeDataOk (x : AM) : Bool :=
  x.data.toNat < 0x110 || x.data.toNat == 0x180 + x.st.toNat || (0x1C0 ≤ x.data.toNat && x.data.toNat < 0x1C0 + 60)

/-- The checks of the loads (05 R152). -/
def loadChecks (x : AM) : List (Bool × DecodeError) := [badSize x.size, refuse (!loadDataOk x) .badVectorOperand]
/-- The checks of the stores (05 R154). -/
def storeChecks (x : AM) : List (Bool × DecodeError) :=
  [badSize x.size, refuse (x.qual != 0#2) .badFieldValue, refuse (!storeDataOk x) .badVectorOperand]
/-- The checks of the prefetches (05 R156). -/
def prefetchChecks (x : AM) : List (Bool × DecodeError) :=
  [badSize x.size, refuse (x.qual != 0#2 || x.data != 0#9) .reservedBits]

/-- An even n register, for a 16-byte value (05 R160). -/
def pairOk (c : BitVec 6) : Bool := c.toNat < 16 && c.toNat % 2 == 0

/-- The checks of an atomic whose sizes are `sizes` (05 R160, Table 5.5). -/
def atomicChecks (x : AX) (sizes : List Nat) (cas : Bool) : List (Bool × DecodeError) :=
  let z := accessBytes x.size
  [ refuse (!sizes.contains z) .badAccessCode, badScope x.scope,
    (if z == 16 then refuse (!pairOk x.val) .badScalarSource else badSrc x.val),
    (if !cas then refuse (x.cmp != 0#6) .reservedBits
     else if z == 16 then refuse (!pairOk x.cmp) .badScalarSource else badSrc x.cmp) ]

/-- The checks of SR forms with two sources (02 R43). -/
def r3Checks (x : R3) : List (Bool × DecodeError) := [badSrc x.sa, badSrc x.sb, badDst x.dst]
/-- The checks of SR forms with one source (02 R43). -/
def r2Checks (x : R2) : List (Bool × DecodeError) := [badSrc x.sa, badDst x.dst]
/-- The checks of SI forms (02 R43). -/
def riChecks (x : RI) : List (Bool × DecodeError) := [badSrc x.sa, badDst x.dst]
/-- A shift count above 63 is illegal (04 R120). -/
def shiftChecks (x : RI) : List (Bool × DecodeError) := riChecks x ++ [refuse (63 < x.imm.toNat) .badFieldValue]

/-- A write of a system-state number (02 R41, 14 R389). -/
def csrWrChecks (x : CsrWr) : List (Bool × DecodeError) :=
  [badSrc x.sa, refuse (csrAccess x.num.toNat != .rw) .badSystemState]

/-- A matrix step names a scale cursor or leaves its field zero (08 R227). -/
def stepChecks (x : MS) : List (Bool × DecodeError) := [refuse (x.useS == 0#1 && x.fs != 0#3) .reservedBits]

/-- A copy form names a resume register or leaves its field zero (11 R297). -/
def copyChecks (x : CC) : List (Bool × DecodeError) := [refuse (x.useR == 0#1 && x.nb != 0#4) .reservedBits]

/-- A hardware loop's end lies ahead of it (04 R104). -/
def loopOffChecks (x : SB) : List (Bool × DecodeError) := [refuse (x.off.toInt ≤ 0) .badFieldValue]

/-- The checks an ordering instruction with a scope and a nonzero mask makes (06 R172). -/
def scopedMaskChecks (x : AF) : List (Bool × DecodeError) :=
  [badScope x.scope, refuse (x.mask == 0#16) .badFieldValue]
/-- The checks of MARK and DRAIN (06 R172). -/
def maskOnlyChecks (x : AF) : List (Bool × DecodeError) :=
  [refuse (x.scope != 0#3) .reservedBits, refuse (x.mask == 0#16) .badFieldValue]

/-- The checks of each instruction, in the order in which they are made. -/
def Instr.checks : Instr → List (Bool × DecodeError)
  | .nop => []
  | .anop => []
  | .vnop => []
  | .mnop => []
  | .cnop => []
  | .knop => []
  | .add x => r3Checks x
  | .sub x => r3Checks x
  | .mul x => r3Checks x
  | .mulh x => r3Checks x
  | .mulhu x => r3Checks x
  | .div x => r3Checks x
  | .divu x => r3Checks x
  | .rem x => r3Checks x
  | .remu x => r3Checks x
  | .and x => r3Checks x
  | .or x => r3Checks x
  | .xor x => r3Checks x
  | .andn x => r3Checks x
  | .shl x => r3Checks x
  | .shr x => r3Checks x
  | .sar x => r3Checks x
  | .rotr x => r3Checks x
  | .min x => r3Checks x
  | .max x => r3Checks x
  | .minu x => r3Checks x
  | .maxu x => r3Checks x
  | .clz x => r2Checks x
  | .popc x => r2Checks x
  | .addi x => riChecks x
  | .andi x => riChecks x
  | .ori x => riChecks x
  | .xori x => riChecks x
  | .shli x => shiftChecks x
  | .shri x => shiftChecks x
  | .sari x => shiftChecks x
  | .lui x => riChecks x
  | .cmp x => [badSrc x.sa, badSrc x.sb, refuse (x.pd == 0#4) .badFieldValue, refuse (12 ≤ x.cond.toNat) .badFieldValue]
  | .cmpi x => [badSrc x.sa, refuse (x.pd == 0#4) .badFieldValue, refuse (6 ≤ x.cond.toNat && x.cond.toNat ≤ 9 || 12 ≤ x.cond.toNat) .badFieldValue]
  | .sel x => [badSrc x.sa, badSrc x.sb, badDst x.dst]
  | .plog x => [refuse (x.pd == 0#4) .badFieldValue]
  | .br x => [badSrc x.sa, refuse (5 ≤ x.fn.toNat) .badFieldValue, refuse (x.fn == 0#3 && x.sa != 0#6) .reservedBits]
  | .jmp x => r2Checks x
  | .call _ => []
  | .ret _ => []
  | .loop x => badSrc x.sa :: loopOffChecks x
  | .loopi x => loopOffChecks x
  | .lbrk x => [refuse (6 ≤ x.lv.toNat) .badFieldValue]
  | .gset x => [badSrc x.sa, badSrc x.sb, badDst x.dst]
  | .grd x => [badDst x.dst, refuse (x.sel == 3#2) .badFieldValue]
  | .gclr x => r2Checks x
  | .xmm _ => []
  | .xconv _ => []
  | .xgath _ => []
  | .xsort _ => []
  | .xtopk _ => []
  | .xnorm _ => []
  | .xwait _ => []
  | .xstat _ => []
  | .xres _ => []
  | .xdrop _ => []
  | .xattn _ => []
  | .kvshoot _ => []
  | .kvfreq _ => []
  | .kvapp _ => []
  | .kvpre _ => []
  | .callred _ => []
  | .credsc _ => []
  | .cgath _ => []
  | .cbcast _ => []
  | .ca2a _ => []
  | .csend _ => []
  | .crecv _ => []
  | .cring _ => []
  | .ctopk _ => []
  | .spawn x => r2Checks x
  | .spawni x => r3Checks x
  | .scope x => [badDst x.dst]
  | .sclose x => r2Checks x
  | .snuff x => r3Checks x
  | .snuffw x => r2Checks x
  | .binit x => [badSrc x.sa, badSrc x.sb, badDst x.dst, badScope x.scope]
  | .barr x => r2Checks x
  | .bwait x => r3Checks x
  | .yield _ => []
  | .prio x => r2Checks x
  | .dline x => r2Checks x
  | .endGroup _ => []
  | .tail _ => []
  | .trap _ => []
  | .rtt _ => []
  | .csrr x => [badDst x.dst, refuse (csrAccess x.num.toNat == .absent) .badSystemState]
  | .csrw x => csrWrChecks x
  | .csrs x => csrWrChecks x
  | .csrc x => csrWrChecks x
  | .xlat x => r2Checks x
  | .tcinv x => [badSrc x.sa, refuse (x.all == 1#1 && x.sa != 0#6) .reservedBits]
  | .errrd x => [badSrc x.sa, badDst x.dst]
  | .errclr x => [badDst x.dst]
  | .lamp x => r3Checks x
  | .brk _ => []
  | .ld x => loadChecks x
  | .ldna x => loadChecks x
  | .ldbp x => loadChecks x
  | .ldg x => loadChecks x
  | .st x => storeChecks x
  | .stna x => storeChecks x
  | .stbp x => storeChecks x
  | .sts x => storeChecks x
  | .pf x => prefetchChecks x
  | .pfna x => prefetchChecks x
  | .monw x => [refuse (x.size != 2#3 && x.size != 3#3) .badAccessCode, badScope x.scope, badSrc x.cmp, badSrc x.val]
  | .atadd x => atomicChecks x [4, 8] false
  | .atfadd x => atomicChecks x [4, 8] false
  | .atmin x => atomicChecks x [4, 8] false
  | .atmax x => atomicChecks x [4, 8] false
  | .atminu x => atomicChecks x [4, 8] false
  | .atmaxu x => atomicChecks x [4, 8] false
  | .atand x => atomicChecks x [4, 8] false
  | .ator x => atomicChecks x [4, 8] false
  | .atxor x => atomicChecks x [4, 8] false
  | .atswp x => atomicChecks x [4, 8, 16] false
  | .atcas x => atomicChecks x [8, 16] true
  | .lea x => [badSrc x.sa]
  | .leax x => [badSrc x.sa, refuse (16 ≤ x.imm.toNat) .reservedBits]
  | .amov x => [badSrc x.sa, refuse (x.aa != 0#4) .reservedBits]
  | .ainc x => [badSrc x.sa]
  | .mark x => maskOnlyChecks x
  | .fence x => [badScope x.scope, refuse (x.mask != 0#16) .reservedBits]
  | .fenceX x => scopedMaskChecks x
  | .acq x => scopedMaskChecks x
  | .rel x => scopedMaskChecks x
  | .acqrel x => scopedMaskChecks x
  | .drain x => maskOnlyChecks x
  | .tkw x => scopedMaskChecks x ++ [refuse (x.mask.getLsbD 0) .badFieldValue]
  | .vadd x => vSatChecks x .src
  | .vsub x => vSatChecks x .src
  | .vmul x => vSatChecks x .src
  | .vmulh x => vChecks x classI .src .src .unused 0x7F#7
  | .vdiv x => vChecks x classF .src .src .unused 0x7F#7
  | .vsqrt x => vChecks x classF .src .unused .unused 0x7F#7
  | .vmin x => vChecks x classIF .src .src .unused 0x7F#7
  | .vmax x => vChecks x classIF .src .src .unused 0x7F#7
  | .vabs x => vSatChecks x .unused
  | .vneg x => vSatChecks x .unused
  | .vfma x => vChecks x classIF .src .src .src 0x7F#7
  | .vfms x => vChecks x classIF .src .src .src 0x7F#7
  | .vfnma x => vChecks x classIF .src .src .src 0x7F#7
  | .vand x => vChecks x classI .src .src .unused 0x7F#7
  | .vor x => vChecks x classI .src .src .unused 0x7F#7
  | .vxor x => vChecks x classI .src .src .unused 0x7F#7
  | .vnot x => vChecks x classI .src .unused .unused 0x7F#7
  | .vshl x => vChecks x classI .src .src .unused 0x7F#7
  | .vshr x => vChecks x classI .src .src .unused 0x7F#7
  | .vsar x => vChecks x classI .src .src .unused 0x7F#7
  | .vclz x => vChecks x classI .src .unused .unused 0x7F#7
  | .vpopc x => vChecks x classI .src .unused .unused 0x7F#7
  | .vcmp x => vChecks x classIF .src .src .unused 0x78#7 ++
      [refuse (6 ≤ (x.fn.extractLsb' 0 3).toNat && classI x.ty.toNat) .badFieldValue]
  | .vsel x => vChecks x classX .src .src .src 0x7F#7
  | .vmov x => vChecks x classX .src .unused .unused 0x7F#7
  | .vbcast x => vChecks x classX .src .scalar .unused 0x7F#7
  | .vperm x => vChecks x classX .src .src .unused 0x7C#7 ++
      [ refuse (x.fn.extractLsb' 0 2 == 3#2) .badFieldValue,
        refuse (x.fn.extractLsb' 0 2 != 0#2 && !vecGroupOk x.va) .badVectorOperand ]
  | .vshuf x => vChecks x classX .src (if x.fn.extractLsb' 0 3 == 4#3 then .unused else .src) .unused 0x78#7 ++
      [refuse (5 ≤ (x.fn.extractLsb' 0 3).toNat) .badFieldValue]
  | .vrot x => vChecks x classX .src .scalar .unused 0x7F#7
  | .viota x => vChecks x classI .scalar .scalar .unused 0x7F#7
  | .vexp2 x => vChecks x (fun t => t == 15) .src .unused .unused 0x7F#7
  | .vlog2 x => vChecks x (fun t => t == 15) .src .unused .unused 0x7F#7
  | .vrcp x => vChecks x (fun t => t == 15) .src .unused .unused 0x7F#7
  | .vrsq x => vChecks x (fun t => t == 15) .src .unused .unused 0x7F#7
  | .vsin x => vChecks x (fun t => t == 15) .src .unused .unused 0x7F#7
  | .vcos x => vChecks x (fun t => t == 15) .src .unused .unused 0x7F#7
  | .vreda x => vChecks x classIF .src .scalar .unused 0x7F#7
  | .vredx x => vChecks x classIF .src .scalar .unused 0x7F#7
  | .vredn x => vChecks x classIF .src .scalar .unused 0x7F#7
  | .vscan x => vChecks x classIF .src .src .unused 0x78#7 ++
      [refuse (x.fn.extractLsb' 0 2 == 3#2) .badFieldValue]
  | .vcx x => vcxChecks x .unused
  | .vcxs x => vcxChecks x .src
  | .vins x => vinsChecks x .unused
  | .vinsm x => vinsChecks x .src
  | .cvt x => cvtChecks x .unused false ++
      [refuse (Nat.max (typeWidth x.st) (typeWidth x.ty.toNat) / Nat.min (typeWidth x.st) (typeWidth x.ty.toNat) ≤ x.part) .badFieldValue]
  | .quantDerive x => cvtChecks x .unused true ++
      [ refuse (!(narrowFloat x.ty.toNat && quantWide x.st)) .badType, refuse (x.part != 0) .reservedBits, refuse (x.rm != 0#2) .reservedBits ]
  | .quantApply x => cvtChecks x .src false ++
      [ refuse (!(narrowFloat x.ty.toNat && quantWide x.st)) .badType,
        refuse (typeWidth x.st / typeWidth x.ty.toNat ≤ x.part) .badFieldValue ]
  | .dquant x => cvtChecks x .src false ++
      [ refuse (!(quantWide x.ty.toNat && narrowFloat x.st)) .badType,
        refuse (typeWidth x.ty.toNat / typeWidth x.st ≤ x.part) .badFieldValue ]
  | .pack x => cvtChecks x .src false ++
      [refuse (typeWidth x.st != 2 * typeWidth x.ty.toNat) .badType, refuse (x.part != 0) .reservedBits]
  | .unpack x => cvtChecks x .unused false ++
      [refuse (typeWidth x.ty.toNat != 2 * typeWidth x.st) .badType, refuse (1 < x.part) .reservedBits]
  | .mlease x => [refuse (!(List.contains [1, 2, 4, 8, 3, 12, 15] x.mask.toNat)) .badFieldValue]
  | .mrel _ => []
  | .mcfg _ => []
  | .mcfgr x => [refuse (3 ≤ x.sel.toNat && x.sel.toNat ≤ 7) .badFieldValue]
  | .mfset _ => []
  | .mfadv _ => []
  | .mwaitSteps _ => []
  | .mwaitLease _ => []
  | .mstep x => stepChecks x
  | .mstepz x => stepChecks x
  | .mstept x => stepChecks x
  | .mzero _ => []
  | .cpy x => copyChecks x
  | .cpy2 x => copyChecks x
  | .cpyh x => copyChecks x
  | .cpln x => copyChecks x
  | .accld x => copyChecks x
  | .accst x => copyChecks x
  | .cpyl _ => []
  | .stamp _ => []
  | .gstep x => copyChecks x
  | .cpyq x => [refuse (2 ≤ x.sel.toNat) .badFieldValue]
  | .kld _ => []
  | .kldi _ => []
  | .kmov _ => []
  | .bundleDecode _ => []
  | .loopEnd _ => []
  | .rotate _ => []
  | .tagGrant _ => []
  | .loadPerformed _ _ _ _ => []
  | .storePerformed _ _ _ => []
  | .writeAcknowledgement _ _ => []
  | .atomicPerformed _ _ => []
  | .monwTest _ => []
  | .pageWalk _ _ _ _ => []
  | .demandFaultService _ _ _ => []
  | .mappingChange _ _ _ _ _ => []
  | .atsInvalidation _ _ => []
  | .priResponse _ _ _ => []
  | .asyncTrapTaken _ => []
  | .answerResume _ => []
  | .answerSkip _ => []
  | .answerAbort _ => []
  | .answerInvalid _ => []
  | .leaseGrant _ => []
  | .leaseTimeout _ => []
  | .matrixStepStart _ _ => []
  | .matrixStepCommit _ _ => []
  | .tileStepStart _ _ => []
  | .tileStepCommit _ _ => []
  | .kvshootComplete _ _ => []
  | .bufferAcknowledge _ _ _ => []
  | .chunkRequest _ _ _ _ => []
  | .chunkReceive _ _ _ => []
  | .chunkRetry _ _ _ => []
  | .laneRetrain _ => []
  | .lostLink _ _ => []
  | .peerNotice _ _ => []
  | .copyStart _ _ => []
  | .copyChunk _ _ => []
  | .completionStamp _ _ => []
  | .chainRecordRead _ _ => []
  | .chainUnpark _ _ => []
  | .admission _ _ _ => []
  | .groupStart _ => []
  | .issueAgePromotion _ => []
  | .yieldExpiry _ => []
  | .preemptionDecision _ _ _ => []
  | .preemptionLanding _ => []
  | .preemptionSave _ => []
  | .resumption _ _ => []
  | .overlayLoad _ => []
  | .groupRetire _ _ => []
  | .retirementTrackerDrain _ _ => []
  | .taskEnd _ => []
  | .snuffArrival _ _ => []
  | .snuffComplete _ => []
  | .lampTest _ _ => []
  | .prodUpdate _ => []
  | .recordFetch _ => []
  | .nodeFinal _ _ => []
  | .launch _ _ => []
  | .ilaunch _ _ => []
  | .outing _ _ => []
  | .outingRetry _ _ => []
  | .copyNode _ _ => []
  | .signalStore _ _ => []
  | .signalAdd _ _ => []
  | .signalOr _ _ => []
  | .waitNode _ _ => []
  | .waitSatisfied _ _ => []
  | .condNode _ _ => []
  | .loopNode _ _ => []
  | .loopIteration _ _ => []
  | .queueEventPost _ => []
  | .queueRegister _ => []
  | .queueUnregister _ => []
  | .queueReset _ => []
  | .queueSnuffRoot _ => []
  | .partWrite _ => []
  | .rankWrite _ => []
  | .pthWrite _ _ => []
  | .managementRegisterWrite _ _ => []
  | .deniedAccess _ => []
  | .mboxNone _ => []
  | .mboxVerifyWrite _ => []
  | .mboxClear _ => []
  | .mboxRefused _ => []
  | .recoveryImageVerified => []
  | .attNonceWrite _ => []
  | .attestationRequest => []
  | .attestationDone => []
  | .deviceReset => []
  | .bootRomHash => []
  | .slotChoice => []
  | .firmwareLoad => []
  | .hbmTrain _ => []
  | .powerSample _ => []
  | .thermalTrip _ _ => []
  | .ptmExchange _ => []
  | .powerLoss => []
  | .partCompletion _ _ => []
  | .atsTranslationResponse _ _ _ _ => []
  | .sendAcknowledgement _ _ _ => []
  | .hostStoreAcknowledgement _ _ => []

/-- The name of the first check that refuses an instruction; none where it is well formed. -/
def Instr.illegal (i : Instr) : Option DecodeError := firstFailing i.checks

/-- An instruction that every check passes. -/
def Instr.wf (i : Instr) : Bool := i.illegal.isNone

end Sys2Proof
end

