-- ==== Sys2Proof/Decode.lean ====
section
/-!
DEFINITION. Decoding a slot part's word and a bundle (02_bundles R28 to R31, R42 to R53), total on any bits and
rejecting by name; and after it the encoder of a well-formed slot instruction, written from the same tables.
-/

namespace Sys2Proof

/-- A part whose fixed bits are as its entry says, or a reserved bit set. -/
def field {α : Type} (f : α → Instr) (x : Option α) : Except DecodeError Instr :=
  match x with
  | some y => .ok (f y)
  | none => .error .reservedBits


/-- The bits of a R3 part: SR form with two scalar sources (R47, R118). -/
def R3.bits (op : BitVec 8) (x : R3) : BitVec 40 :=
  0#9 ++ x.sb ++ x.sa ++ x.dst ++ x.pred ++ op
/-- Reads a R3 part; none where a bit its entry fixes differs. -/
def R3.ofBits (w : BitVec 40) : Option R3 :=
  if w.extractLsb' 31 9 = 0#9 then
    some ⟨w.extractLsb' 25 6, w.extractLsb' 19 6, w.extractLsb' 13 6, w.extractLsb' 8 5⟩
  else none

/-- The bits of a R2 part: SR form with one scalar source and a destination. -/
def R2.bits (op : BitVec 8) (x : R2) : BitVec 40 :=
  0#9 ++ 0#6 ++ x.sa ++ x.dst ++ x.pred ++ op
/-- Reads a R2 part; none where a bit its entry fixes differs. -/
def R2.ofBits (w : BitVec 40) : Option R2 :=
  if w.extractLsb' 31 9 = 0#9 ∧ w.extractLsb' 25 6 = 0#6 then
    some ⟨w.extractLsb' 19 6, w.extractLsb' 13 6, w.extractLsb' 8 5⟩
  else none

/-- The bits of a R1 part: SR form with a destination only. -/
def R1.bits (op : BitVec 8) (x : R1) : BitVec 40 :=
  0#9 ++ 0#6 ++ 0#6 ++ x.dst ++ x.pred ++ op
/-- Reads a R1 part; none where a bit its entry fixes differs. -/
def R1.ofBits (w : BitVec 40) : Option R1 :=
  if w.extractLsb' 31 9 = 0#9 ∧ w.extractLsb' 25 6 = 0#6 ∧ w.extractLsb' 19 6 = 0#6 then
    some ⟨w.extractLsb' 13 6, w.extractLsb' 8 5⟩
  else none

/-- The bits of a R0 part: SR form with a predicate only. -/
def R0.bits (op : BitVec 8) (x : R0) : BitVec 40 :=
  0#9 ++ 0#6 ++ 0#6 ++ 0#6 ++ x.pred ++ op
/-- Reads a R0 part; none where a bit its entry fixes differs. -/
def R0.ofBits (w : BitVec 40) : Option R0 :=
  if w.extractLsb' 31 9 = 0#9 ∧ w.extractLsb' 25 6 = 0#6 ∧ w.extractLsb' 19 6 = 0#6 ∧ w.extractLsb' 13 6 = 0#6 then
    some ⟨w.extractLsb' 8 5⟩
  else none

/-- The bits of a RI part: SI form (R47, R120). -/
def RI.bits (op : BitVec 8) (x : RI) : BitVec 40 :=
  x.imm ++ x.sa ++ x.dst ++ x.pred ++ op
/-- Reads a RI part; none where a bit its entry fixes differs. -/
def RI.ofBits (w : BitVec 40) : Option RI := some ⟨w.extractLsb' 25 15, w.extractLsb' 19 6, w.extractLsb' 13 6, w.extractLsb' 8 5⟩

/-- The bits of a Cmp part: CMP (R122). -/
def Cmp.bits (op : BitVec 8) (x : Cmp) : BitVec 40 :=
  0#5 ++ x.cond ++ x.sb ++ x.sa ++ 0#2 ++ x.pd ++ x.pred ++ op
/-- Reads a Cmp part; none where a bit its entry fixes differs. -/
def Cmp.ofBits (w : BitVec 40) : Option Cmp :=
  if w.extractLsb' 35 5 = 0#5 ∧ w.extractLsb' 17 2 = 0#2 then
    some ⟨w.extractLsb' 31 4, w.extractLsb' 25 6, w.extractLsb' 19 6, w.extractLsb' 13 4, w.extractLsb' 8 5⟩
  else none

/-- The bits of a CmpI part: CMPI (R122). -/
def CmpI.bits (op : BitVec 8) (x : CmpI) : BitVec 40 :=
  x.cond ++ x.imm ++ x.sa ++ 0#2 ++ x.pd ++ x.pred ++ op
/-- Reads a CmpI part; none where a bit its entry fixes differs. -/
def CmpI.ofBits (w : BitVec 40) : Option CmpI :=
  if w.extractLsb' 17 2 = 0#2 then
    some ⟨w.extractLsb' 36 4, w.extractLsb' 25 11, w.extractLsb' 19 6, w.extractLsb' 13 4, w.extractLsb' 8 5⟩
  else none

/-- The bits of a Sel part: SEL (R123). -/
def Sel.bits (op : BitVec 8) (x : Sel) : BitVec 40 :=
  0#4 ++ x.neg ++ x.ps ++ x.sb ++ x.sa ++ x.dst ++ x.pred ++ op
/-- Reads a Sel part; none where a bit its entry fixes differs. -/
def Sel.ofBits (w : BitVec 40) : Option Sel :=
  if w.extractLsb' 36 4 = 0#4 then
    some ⟨w.extractLsb' 35 1, w.extractLsb' 31 4, w.extractLsb' 25 6, w.extractLsb' 19 6, w.extractLsb' 13 6, w.extractLsb' 8 5⟩
  else none

/-- The bits of a PLog part: PLOG (R124). -/
def PLog.bits (op : BitVec 8) (x : PLog) : BitVec 40 :=
  0#5 ++ x.tt ++ 0#2 ++ x.pb ++ 0#2 ++ x.pa ++ 0#2 ++ x.pd ++ x.pred ++ op
/-- Reads a PLog part; none where a bit its entry fixes differs. -/
def PLog.ofBits (w : BitVec 40) : Option PLog :=
  if w.extractLsb' 35 5 = 0#5 ∧ w.extractLsb' 29 2 = 0#2 ∧ w.extractLsb' 23 2 = 0#2 ∧ w.extractLsb' 17 2 = 0#2 then
    some ⟨w.extractLsb' 31 4, w.extractLsb' 25 4, w.extractLsb' 19 4, w.extractLsb' 13 4, w.extractLsb' 8 5⟩
  else none

/-- The bits of a SB part: SB form: BR, LOOP, LOOPI (R125, R127). -/
def SB.bits (op : BitVec 8) (x : SB) : BitVec 40 :=
  x.fn ++ x.sa ++ x.off ++ x.pred ++ op
/-- Reads a SB part; none where a bit its entry fixes differs. -/
def SB.ofBits (w : BitVec 40) : Option SB := some ⟨w.extractLsb' 37 3, w.extractLsb' 31 6, w.extractLsb' 13 18, w.extractLsb' 8 5⟩

/-- The bits of a CallF part: CALL (R117). -/
def CallF.bits (op : BitVec 8) (x : CallF) : BitVec 40 :=
  0#3 ++ 0#6 ++ x.off ++ x.pred ++ op
/-- Reads a CallF part; none where a bit its entry fixes differs. -/
def CallF.ofBits (w : BitVec 40) : Option CallF :=
  if w.extractLsb' 37 3 = 0#3 ∧ w.extractLsb' 31 6 = 0#6 then
    some ⟨w.extractLsb' 13 18, w.extractLsb' 8 5⟩
  else none

/-- The bits of a LBrk part: LBRK (R128). -/
def LBrk.bits (op : BitVec 8) (x : LBrk) : BitVec 40 :=
  x.lv ++ 0#6 ++ x.off ++ x.pred ++ op
/-- Reads a LBrk part; none where a bit its entry fixes differs. -/
def LBrk.ofBits (w : BitVec 40) : Option LBrk :=
  if w.extractLsb' 31 6 = 0#6 then
    some ⟨w.extractLsb' 37 3, w.extractLsb' 13 18, w.extractLsb' 8 5⟩
  else none

/-- The bits of a GSet part: GSET (R90). -/
def GSet.bits (op : BitVec 8) (x : GSet) : BitVec 40 :=
  x.g ++ 0#2 ++ x.mode ++ x.sb ++ x.sa ++ x.dst ++ x.pred ++ op
/-- Reads a GSet part; none where a bit its entry fixes differs. -/
def GSet.ofBits (w : BitVec 40) : Option GSet :=
  if w.extractLsb' 34 2 = 0#2 then
    some ⟨w.extractLsb' 36 4, w.extractLsb' 31 3, w.extractLsb' 25 6, w.extractLsb' 19 6, w.extractLsb' 13 6, w.extractLsb' 8 5⟩
  else none

/-- The bits of a GRd part: GRD (R90). -/
def GRd.bits (op : BitVec 8) (x : GRd) : BitVec 40 :=
  x.g ++ x.sel ++ 0#3 ++ 0#6 ++ 0#6 ++ x.dst ++ x.pred ++ op
/-- Reads a GRd part; none where a bit its entry fixes differs. -/
def GRd.ofBits (w : BitVec 40) : Option GRd :=
  if w.extractLsb' 31 3 = 0#3 ∧ w.extractLsb' 25 6 = 0#6 ∧ w.extractLsb' 19 6 = 0#6 then
    some ⟨w.extractLsb' 36 4, w.extractLsb' 34 2, w.extractLsb' 13 6, w.extractLsb' 8 5⟩
  else none

/-- The bits of a XL part: issuing long instruction, format SL (R235, R274, R307). -/
def XL.bits (op : BitVec 8) (x : XL) : BitVec 40 :=
  0#18 ++ 0#3 ++ x.wk ++ x.nd ++ x.pred ++ op
/-- Reads a XL part; none where a bit its entry fixes differs. -/
def XL.ofBits (w : BitVec 40) : Option XL :=
  if w.extractLsb' 22 18 = 0#18 ∧ w.extractLsb' 19 3 = 0#3 then
    some ⟨w.extractLsb' 17 2, w.extractLsb' 13 4, w.extractLsb' 8 5⟩
  else none

/-- The bits of a XK part: wick control (R235). -/
def XK.bits (op : BitVec 8) (x : XK) : BitVec 40 :=
  0#18 ++ 0#3 ++ x.wk ++ 0#4 ++ x.pred ++ op
/-- Reads a XK part; none where a bit its entry fixes differs. -/
def XK.ofBits (w : BitVec 40) : Option XK :=
  if w.extractLsb' 22 18 = 0#18 ∧ w.extractLsb' 19 3 = 0#3 ∧ w.extractLsb' 13 4 = 0#4 then
    some ⟨w.extractLsb' 17 2, w.extractLsb' 8 5⟩
  else none

/-- The bits of a XS part: XSTAT (R235). -/
def XS.bits (op : BitVec 8) (x : XS) : BitVec 40 :=
  0#18 ++ x.sel ++ x.wk ++ 0#4 ++ x.pred ++ op
/-- Reads a XS part; none where a bit its entry fixes differs. -/
def XS.ofBits (w : BitVec 40) : Option XS :=
  if w.extractLsb' 22 18 = 0#18 ∧ w.extractLsb' 13 4 = 0#4 then
    some ⟨w.extractLsb' 19 3, w.extractLsb' 17 2, w.extractLsb' 8 5⟩
  else none

/-- The bits of a BInit part: BINIT (R353). -/
def BInit.bits (op : BitVec 8) (x : BInit) : BitVec 40 :=
  0#6 ++ x.scope ++ x.sb ++ x.sa ++ x.dst ++ x.pred ++ op
/-- Reads a BInit part; none where a bit its entry fixes differs. -/
def BInit.ofBits (w : BitVec 40) : Option BInit :=
  if w.extractLsb' 34 6 = 0#6 then
    some ⟨w.extractLsb' 31 3, w.extractLsb' 25 6, w.extractLsb' 19 6, w.extractLsb' 13 6, w.extractLsb' 8 5⟩
  else none

/-- The bits of a TrapF part: TRAP (R386). -/
def TrapF.bits (op : BitVec 8) (x : TrapF) : BitVec 40 :=
  x.code ++ 0#6 ++ 0#6 ++ x.pred ++ op
/-- Reads a TrapF part; none where a bit its entry fixes differs. -/
def TrapF.ofBits (w : BitVec 40) : Option TrapF :=
  if w.extractLsb' 19 6 = 0#6 ∧ w.extractLsb' 13 6 = 0#6 then
    some ⟨w.extractLsb' 25 15, w.extractLsb' 8 5⟩
  else none

/-- The bits of a RttF part: RTT (R386). -/
def RttF.bits (op : BitVec 8) (x : RttF) : BitVec 40 :=
  0#8 ++ x.skip ++ 0#6 ++ 0#6 ++ 0#6 ++ x.pred ++ op
/-- Reads a RttF part; none where a bit its entry fixes differs. -/
def RttF.ofBits (w : BitVec 40) : Option RttF :=
  if w.extractLsb' 32 8 = 0#8 ∧ w.extractLsb' 25 6 = 0#6 ∧ w.extractLsb' 19 6 = 0#6 ∧ w.extractLsb' 13 6 = 0#6 then
    some ⟨w.extractLsb' 31 1, w.extractLsb' 8 5⟩
  else none

/-- The bits of a CsrRd part: CSRR (R386). -/
def CsrRd.bits (op : BitVec 8) (x : CsrRd) : BitVec 40 :=
  0#3 ++ x.num ++ 0#6 ++ x.dst ++ x.pred ++ op
/-- Reads a CsrRd part; none where a bit its entry fixes differs. -/
def CsrRd.ofBits (w : BitVec 40) : Option CsrRd :=
  if w.extractLsb' 37 3 = 0#3 ∧ w.extractLsb' 19 6 = 0#6 then
    some ⟨w.extractLsb' 25 12, w.extractLsb' 13 6, w.extractLsb' 8 5⟩
  else none

/-- The bits of a CsrWr part: CSRW, CSRS, CSRC (R386). -/
def CsrWr.bits (op : BitVec 8) (x : CsrWr) : BitVec 40 :=
  0#3 ++ x.num ++ x.sa ++ 0#6 ++ x.pred ++ op
/-- Reads a CsrWr part; none where a bit its entry fixes differs. -/
def CsrWr.ofBits (w : BitVec 40) : Option CsrWr :=
  if w.extractLsb' 37 3 = 0#3 ∧ w.extractLsb' 13 6 = 0#6 then
    some ⟨w.extractLsb' 25 12, w.extractLsb' 19 6, w.extractLsb' 8 5⟩
  else none

/-- The bits of a TcInv part: TCINV (R386). -/
def TcInv.bits (op : BitVec 8) (x : TcInv) : BitVec 40 :=
  0#8 ++ x.all ++ 0#6 ++ x.sa ++ 0#6 ++ x.pred ++ op
/-- Reads a TcInv part; none where a bit its entry fixes differs. -/
def TcInv.ofBits (w : BitVec 40) : Option TcInv :=
  if w.extractLsb' 32 8 = 0#8 ∧ w.extractLsb' 25 6 = 0#6 ∧ w.extractLsb' 13 6 = 0#6 then
    some ⟨w.extractLsb' 31 1, w.extractLsb' 19 6, w.extractLsb' 8 5⟩
  else none

/-- The bits of a ErrRd part: ERRRD (R386). -/
def ErrRd.bits (op : BitVec 8) (x : ErrRd) : BitVec 40 :=
  0#8 ++ x.sel ++ 0#6 ++ x.sa ++ x.dst ++ x.pred ++ op
/-- Reads a ErrRd part; none where a bit its entry fixes differs. -/
def ErrRd.ofBits (w : BitVec 40) : Option ErrRd :=
  if w.extractLsb' 32 8 = 0#8 ∧ w.extractLsb' 25 6 = 0#6 then
    some ⟨w.extractLsb' 31 1, w.extractLsb' 19 6, w.extractLsb' 13 6, w.extractLsb' 8 5⟩
  else none

/-- The bits of a BrkF part: BRK (R386). -/
def BrkF.bits (op : BitVec 8) (x : BrkF) : BitVec 40 :=
  x.code ++ 0#6 ++ 0#6 ++ 0#6 ++ x.pred ++ op
/-- Reads a BrkF part; none where a bit its entry fixes differs. -/
def BrkF.ofBits (w : BitVec 40) : Option BrkF :=
  if w.extractLsb' 25 6 = 0#6 ∧ w.extractLsb' 19 6 = 0#6 ∧ w.extractLsb' 13 6 = 0#6 then
    some ⟨w.extractLsb' 31 9, w.extractLsb' 8 5⟩
  else none

/-- The bits of a AM part: format AM (R47). -/
def AM.bits (op : BitVec 8) (x : AM) : BitVec 40 :=
  x.off ++ x.qual ++ x.size ++ x.data ++ x.base ++ x.st ++ x.pred ++ op
/-- Reads a AM part; none where a bit its entry fixes differs. -/
def AM.ofBits (w : BitVec 40) : Option AM := some ⟨w.extractLsb' 35 5, w.extractLsb' 33 2, w.extractLsb' 30 3, w.extractLsb' 21 9, w.extractLsb' 17 4, w.extractLsb' 13 4, w.extractLsb' 8 5⟩

/-- The bits of a AX part: format AX (R47). -/
def AX.bits (op : BitVec 8) (x : AX) : BitVec 40 :=
  x.ret ++ x.scope ++ x.size ++ x.cmp ++ x.val ++ x.base ++ x.st ++ x.pred ++ op
/-- Reads a AX part; none where a bit its entry fixes differs. -/
def AX.ofBits (w : BitVec 40) : Option AX := some ⟨w.extractLsb' 39 1, w.extractLsb' 36 3, w.extractLsb' 33 3, w.extractLsb' 27 6, w.extractLsb' 21 6, w.extractLsb' 17 4, w.extractLsb' 13 4, w.extractLsb' 8 5⟩

/-- The bits of a AR part: format AR (R47). -/
def AR.bits (op : BitVec 8) (x : AR) : BitVec 40 :=
  x.imm ++ x.sa ++ x.aa ++ x.ad ++ x.pred ++ op
/-- Reads a AR part; none where a bit its entry fixes differs. -/
def AR.ofBits (w : BitVec 40) : Option AR := some ⟨w.extractLsb' 27 13, w.extractLsb' 21 6, w.extractLsb' 17 4, w.extractLsb' 13 4, w.extractLsb' 8 5⟩

/-- The bits of a AF part: format AF (R47, R172). -/
def AF.bits (op : BitVec 8) (x : AF) : BitVec 40 :=
  0#8 ++ x.scope ++ x.mask ++ x.pred ++ op
/-- Reads a AF part; none where a bit its entry fixes differs. -/
def AF.ofBits (w : BitVec 40) : Option AF :=
  if w.extractLsb' 32 8 = 0#8 then
    some ⟨w.extractLsb' 29 3, w.extractLsb' 13 16, w.extractLsb' 8 5⟩
  else none

/-- The bits of a VR part: format VR (R47). -/
def VR.bits (op : BitVec 8) (x : VR) : BitVec 64 :=
  x.fn ++ x.fz ++ x.rm ++ x.ty ++ x.vc ++ x.vb ++ x.va ++ x.vd ++ x.pred ++ op
/-- Reads a VR part; none where a bit its entry fixes differs. -/
def VR.ofBits (w : BitVec 64) : Option VR := some ⟨w.extractLsb' 57 7, w.extractLsb' 56 1, w.extractLsb' 54 2, w.extractLsb' 49 5, w.extractLsb' 40 9, w.extractLsb' 31 9, w.extractLsb' 22 9, w.extractLsb' 13 9, w.extractLsb' 8 5⟩

/-- The bits of a MLe part: MLEASE (R227). -/
def MLe.bits (op : BitVec 8) (x : MLe) : BitVec 32 :=
  0#5 ++ x.mask ++ 0#4 ++ 0#3 ++ 0#3 ++ x.pred ++ op
/-- Reads a MLe part; none where a bit its entry fixes differs. -/
def MLe.ofBits (w : BitVec 32) : Option MLe :=
  if w.extractLsb' 27 5 = 0#5 ∧ w.extractLsb' 19 4 = 0#4 ∧ w.extractLsb' 16 3 = 0#3 ∧ w.extractLsb' 13 3 = 0#3 then
    some ⟨w.extractLsb' 23 4, w.extractLsb' 8 5⟩
  else none

/-- The bits of a M0 part: M form with a predicate only (R227). -/
def M0.bits (op : BitVec 8) (x : M0) : BitVec 32 :=
  0#9 ++ 0#4 ++ 0#3 ++ 0#3 ++ x.pred ++ op
/-- Reads a M0 part; none where a bit its entry fixes differs. -/
def M0.ofBits (w : BitVec 32) : Option M0 :=
  if w.extractLsb' 23 9 = 0#9 ∧ w.extractLsb' 19 4 = 0#4 ∧ w.extractLsb' 16 3 = 0#3 ∧ w.extractLsb' 13 3 = 0#3 then
    some ⟨w.extractLsb' 8 5⟩
  else none

/-- The bits of a MWl part: MWAIT lease: fn[23] = 1 (R227). -/
def MWl.bits (op : BitVec 8) (x : MWl) : BitVec 32 :=
  1#9 ++ 0#4 ++ 0#3 ++ 0#3 ++ x.pred ++ op
/-- Reads a MWl part; none where a bit its entry fixes differs. -/
def MWl.ofBits (w : BitVec 32) : Option MWl :=
  if w.extractLsb' 23 9 = 1#9 ∧ w.extractLsb' 19 4 = 0#4 ∧ w.extractLsb' 16 3 = 0#3 ∧ w.extractLsb' 13 3 = 0#3 then
    some ⟨w.extractLsb' 8 5⟩
  else none

/-- The bits of a MN part: MCFG (R227). -/
def MN.bits (op : BitVec 8) (x : MN) : BitVec 32 :=
  0#9 ++ x.nr ++ 0#3 ++ 0#3 ++ x.pred ++ op
/-- Reads a MN part; none where a bit its entry fixes differs. -/
def MN.ofBits (w : BitVec 32) : Option MN :=
  if w.extractLsb' 23 9 = 0#9 ∧ w.extractLsb' 16 3 = 0#3 ∧ w.extractLsb' 13 3 = 0#3 then
    some ⟨w.extractLsb' 19 4, w.extractLsb' 8 5⟩
  else none

/-- The bits of a MRd part: MCFGR (R227). -/
def MRd.bits (op : BitVec 8) (x : MRd) : BitVec 32 :=
  0#5 ++ x.sel ++ x.nr ++ 0#3 ++ 0#3 ++ x.pred ++ op
/-- Reads a MRd part; none where a bit its entry fixes differs. -/
def MRd.ofBits (w : BitVec 32) : Option MRd :=
  if w.extractLsb' 27 5 = 0#5 ∧ w.extractLsb' 16 3 = 0#3 ∧ w.extractLsb' 13 3 = 0#3 then
    some ⟨w.extractLsb' 23 4, w.extractLsb' 19 4, w.extractLsb' 8 5⟩
  else none

/-- The bits of a MF part: MFSET, MFADV (R227). -/
def MF.bits (op : BitVec 8) (x : MF) : BitVec 32 :=
  0#9 ++ x.nr ++ 0#3 ++ x.fd ++ x.pred ++ op
/-- Reads a MF part; none where a bit its entry fixes differs. -/
def MF.ofBits (w : BitVec 32) : Option MF :=
  if w.extractLsb' 23 9 = 0#9 ∧ w.extractLsb' 16 3 = 0#3 then
    some ⟨w.extractLsb' 19 4, w.extractLsb' 13 3, w.extractLsb' 8 5⟩
  else none

/-- The bits of a MS part: matrix step (R227). -/
def MS.bits (op : BitVec 8) (x : MS) : BitVec 32 :=
  0#5 ++ x.useS ++ x.fs ++ 0#4 ++ x.fb ++ x.fa ++ x.pred ++ op
/-- Reads a MS part; none where a bit its entry fixes differs. -/
def MS.ofBits (w : BitVec 32) : Option MS :=
  if w.extractLsb' 27 5 = 0#5 ∧ w.extractLsb' 19 4 = 0#4 then
    some ⟨w.extractLsb' 26 1, w.extractLsb' 23 3, w.extractLsb' 16 3, w.extractLsb' 13 3, w.extractLsb' 8 5⟩
  else none

/-- The bits of a CC part: copy form (R297). -/
def CC.bits (op : BitVec 8) (x : CC) : BitVec 32 :=
  0#7 ++ x.useR ++ x.nb ++ x.na ++ x.ch ++ x.pred ++ op
/-- Reads a CC part; none where a bit its entry fixes differs. -/
def CC.ofBits (w : BitVec 32) : Option CC :=
  if w.extractLsb' 25 7 = 0#7 then
    some ⟨w.extractLsb' 24 1, w.extractLsb' 20 4, w.extractLsb' 16 4, w.extractLsb' 13 3, w.extractLsb' 8 5⟩
  else none

/-- The bits of a CL part: CPYL (R297). -/
def CL.bits (op : BitVec 8) (x : CL) : BitVec 32 :=
  0#8 ++ 0#4 ++ x.na ++ x.ch ++ x.pred ++ op
/-- Reads a CL part; none where a bit its entry fixes differs. -/
def CL.ofBits (w : BitVec 32) : Option CL :=
  if w.extractLsb' 24 8 = 0#8 ∧ w.extractLsb' 20 4 = 0#4 then
    some ⟨w.extractLsb' 16 4, w.extractLsb' 13 3, w.extractLsb' 8 5⟩
  else none

/-- The bits of a CS part: STAMP (R297). -/
def CS.bits (op : BitVec 8) (x : CS) : BitVec 32 :=
  0#8 ++ x.nb ++ x.na ++ x.ch ++ x.pred ++ op
/-- Reads a CS part; none where a bit its entry fixes differs. -/
def CS.ofBits (w : BitVec 32) : Option CS :=
  if w.extractLsb' 24 8 = 0#8 then
    some ⟨w.extractLsb' 20 4, w.extractLsb' 16 4, w.extractLsb' 13 3, w.extractLsb' 8 5⟩
  else none

/-- The bits of a CQ part: CPYQ (R297). -/
def CQ.bits (op : BitVec 8) (x : CQ) : BitVec 32 :=
  0#6 ++ x.sel ++ x.nd ++ 0#4 ++ x.ch ++ x.pred ++ op
/-- Reads a CQ part; none where a bit its entry fixes differs. -/
def CQ.ofBits (w : BitVec 32) : Option CQ :=
  if w.extractLsb' 26 6 = 0#6 ∧ w.extractLsb' 16 4 = 0#4 then
    some ⟨w.extractLsb' 24 2, w.extractLsb' 20 4, w.extractLsb' 13 3, w.extractLsb' 8 5⟩
  else none

/-- The bits of a KL part: KLD, KLDI (R83). -/
def KL.bits (op : BitVec 4) (x : KL) : BitVec 16 :=
  x.off ++ x.src ++ x.cd ++ op
/-- Reads a KL part; none where a bit its entry fixes differs. -/
def KL.ofBits (w : BitVec 16) : Option KL := some ⟨w.extractLsb' 12 4, w.extractLsb' 8 4, w.extractLsb' 4 4⟩

/-- The bits of a KM part: KMOV (R83). -/
def KM.bits (op : BitVec 4) (x : KM) : BitVec 16 :=
  0#4 ++ x.src ++ x.cd ++ op
/-- Reads a KM part; none where a bit its entry fixes differs. -/
def KM.ofBits (w : BitVec 16) : Option KM :=
  if w.extractLsb' 12 4 = 0#4 then
    some ⟨w.extractLsb' 8 4, w.extractLsb' 4 4⟩
  else none

/-- The S slot's opcode map (02 R48): the instruction a part's word spells, before its entry's own limits. -/
def rawDecodeS (w : BitVec 40) : Except DecodeError Instr :=
  match (w.extractLsb' 0 8).toNat with
  | 0 => if w = 0#40 then .ok .nop else .error .nopBits
  | 0x01 => field .add (R3.ofBits w)
  | 0x02 => field .sub (R3.ofBits w)
  | 0x03 => field .mul (R3.ofBits w)
  | 0x04 => field .mulh (R3.ofBits w)
  | 0x05 => field .mulhu (R3.ofBits w)
  | 0x06 => field .div (R3.ofBits w)
  | 0x07 => field .divu (R3.ofBits w)
  | 0x08 => field .rem (R3.ofBits w)
  | 0x09 => field .remu (R3.ofBits w)
  | 0x0a => field .and (R3.ofBits w)
  | 0x0b => field .or (R3.ofBits w)
  | 0x0c => field .xor (R3.ofBits w)
  | 0x0d => field .andn (R3.ofBits w)
  | 0x0e => field .shl (R3.ofBits w)
  | 0x0f => field .shr (R3.ofBits w)
  | 0x10 => field .sar (R3.ofBits w)
  | 0x11 => field .rotr (R3.ofBits w)
  | 0x12 => field .min (R3.ofBits w)
  | 0x13 => field .max (R3.ofBits w)
  | 0x14 => field .minu (R3.ofBits w)
  | 0x15 => field .maxu (R3.ofBits w)
  | 0x16 => field .clz (R2.ofBits w)
  | 0x17 => field .popc (R2.ofBits w)
  | 0x18 => field .addi (RI.ofBits w)
  | 0x19 => field .andi (RI.ofBits w)
  | 0x1a => field .ori (RI.ofBits w)
  | 0x1b => field .xori (RI.ofBits w)
  | 0x1c => field .shli (RI.ofBits w)
  | 0x1d => field .shri (RI.ofBits w)
  | 0x1e => field .sari (RI.ofBits w)
  | 0x1f => field .lui (RI.ofBits w)
  | 0x20 => field .cmp (Cmp.ofBits w)
  | 0x21 => field .cmpi (CmpI.ofBits w)
  | 0x22 => field .sel (Sel.ofBits w)
  | 0x23 => field .plog (PLog.ofBits w)
  | 0x24 => field .br (SB.ofBits w)
  | 0x25 => field .jmp (R2.ofBits w)
  | 0x26 => field .call (CallF.ofBits w)
  | 0x27 => field .ret (R0.ofBits w)
  | 0x28 => field .loop (SB.ofBits w)
  | 0x29 => field .loopi (SB.ofBits w)
  | 0x2a => field .lbrk (LBrk.ofBits w)
  | 0x30 => field .gset (GSet.ofBits w)
  | 0x31 => field .grd (GRd.ofBits w)
  | 0x32 => field .gclr (R2.ofBits w)
  | 0x40 => field .xmm (XL.ofBits w)
  | 0x41 => field .xconv (XL.ofBits w)
  | 0x42 => field .xgath (XL.ofBits w)
  | 0x43 => field .xsort (XL.ofBits w)
  | 0x44 => field .xtopk (XL.ofBits w)
  | 0x45 => field .xnorm (XL.ofBits w)
  | 0x46 => field .xwait (XK.ofBits w)
  | 0x47 => field .xstat (XS.ofBits w)
  | 0x48 => field .xres (XK.ofBits w)
  | 0x49 => field .xdrop (XK.ofBits w)
  | 0x50 => field .xattn (XL.ofBits w)
  | 0x51 => field .kvshoot (XL.ofBits w)
  | 0x52 => field .kvfreq (XL.ofBits w)
  | 0x53 => field .kvapp (XL.ofBits w)
  | 0x54 => field .kvpre (XL.ofBits w)
  | 0x58 => field .callred (XL.ofBits w)
  | 0x59 => field .credsc (XL.ofBits w)
  | 0x5a => field .cgath (XL.ofBits w)
  | 0x5b => field .cbcast (XL.ofBits w)
  | 0x5c => field .ca2a (XL.ofBits w)
  | 0x5d => field .csend (XL.ofBits w)
  | 0x5e => field .crecv (XL.ofBits w)
  | 0x5f => field .cring (XL.ofBits w)
  | 0x60 => field .ctopk (XL.ofBits w)
  | 0x68 => field .spawn (R2.ofBits w)
  | 0x69 => field .spawni (R3.ofBits w)
  | 0x6a => field .scope (R1.ofBits w)
  | 0x6b => field .sclose (R2.ofBits w)
  | 0x6c => field .snuff (R3.ofBits w)
  | 0x6d => field .snuffw (R2.ofBits w)
  | 0x6e => field .binit (BInit.ofBits w)
  | 0x6f => field .barr (R2.ofBits w)
  | 0x70 => field .bwait (R3.ofBits w)
  | 0x71 => field .yield (R0.ofBits w)
  | 0x72 => field .prio (R2.ofBits w)
  | 0x73 => field .dline (R2.ofBits w)
  | 0x74 => field .endGroup (R0.ofBits w)
  | 0x75 => field .tail (R0.ofBits w)
  | 0x78 => field .trap (TrapF.ofBits w)
  | 0x79 => field .rtt (RttF.ofBits w)
  | 0x7a => field .csrr (CsrRd.ofBits w)
  | 0x7b => field .csrw (CsrWr.ofBits w)
  | 0x7c => field .csrs (CsrWr.ofBits w)
  | 0x7d => field .csrc (CsrWr.ofBits w)
  | 0x7e => field .xlat (R2.ofBits w)
  | 0x7f => field .tcinv (TcInv.ofBits w)
  | 0x80 => field .errrd (ErrRd.ofBits w)
  | 0x81 => field .errclr (R1.ofBits w)
  | 0x82 => field .lamp (R3.ofBits w)
  | 0x83 => field .brk (BrkF.ofBits w)
  | _ => .error .unassignedOpcode

/-- The A slot's opcode map (02 R49): the instruction a part's word spells, before its entry's own limits. -/
def rawDecodeA (w : BitVec 40) : Except DecodeError Instr :=
  match (w.extractLsb' 0 8).toNat with
  | 0 => if w = 0#40 then .ok .anop else .error .nopBits
  | 0x01 => field .ld (AM.ofBits w)
  | 0x02 => field .ldna (AM.ofBits w)
  | 0x03 => field .ldbp (AM.ofBits w)
  | 0x04 => field .ldg (AM.ofBits w)
  | 0x05 => field .st (AM.ofBits w)
  | 0x06 => field .stna (AM.ofBits w)
  | 0x07 => field .stbp (AM.ofBits w)
  | 0x08 => field .sts (AM.ofBits w)
  | 0x09 => field .pf (AM.ofBits w)
  | 0x0a => field .pfna (AM.ofBits w)
  | 0x0b => field .monw (AX.ofBits w)
  | 0x10 => field .atadd (AX.ofBits w)
  | 0x11 => field .atfadd (AX.ofBits w)
  | 0x12 => field .atmin (AX.ofBits w)
  | 0x13 => field .atmax (AX.ofBits w)
  | 0x14 => field .atminu (AX.ofBits w)
  | 0x15 => field .atmaxu (AX.ofBits w)
  | 0x16 => field .atand (AX.ofBits w)
  | 0x17 => field .ator (AX.ofBits w)
  | 0x18 => field .atxor (AX.ofBits w)
  | 0x19 => field .atswp (AX.ofBits w)
  | 0x1a => field .atcas (AX.ofBits w)
  | 0x20 => field .lea (AR.ofBits w)
  | 0x21 => field .leax (AR.ofBits w)
  | 0x22 => field .amov (AR.ofBits w)
  | 0x23 => field .ainc (AR.ofBits w)
  | 0x30 => field .mark (AF.ofBits w)
  | 0x31 => field .fence (AF.ofBits w)
  | 0x32 => field .fenceX (AF.ofBits w)
  | 0x33 => field .acq (AF.ofBits w)
  | 0x34 => field .rel (AF.ofBits w)
  | 0x35 => field .acqrel (AF.ofBits w)
  | 0x36 => field .drain (AF.ofBits w)
  | 0x37 => field .tkw (AF.ofBits w)
  | _ => .error .unassignedOpcode

/-- The V slot's opcode map (02 R50): the instruction a part's word spells, before its entry's own limits. -/
def rawDecodeV (w : BitVec 64) : Except DecodeError Instr :=
  match (w.extractLsb' 0 8).toNat with
  | 0 => if w = 0#64 then .ok .vnop else .error .nopBits
  | 0x01 => field .vadd (VR.ofBits w)
  | 0x02 => field .vsub (VR.ofBits w)
  | 0x03 => field .vmul (VR.ofBits w)
  | 0x04 => field .vmulh (VR.ofBits w)
  | 0x05 => field .vdiv (VR.ofBits w)
  | 0x06 => field .vsqrt (VR.ofBits w)
  | 0x07 => field .vmin (VR.ofBits w)
  | 0x08 => field .vmax (VR.ofBits w)
  | 0x09 => field .vabs (VR.ofBits w)
  | 0x0a => field .vneg (VR.ofBits w)
  | 0x0b => field .vfma (VR.ofBits w)
  | 0x0c => field .vfms (VR.ofBits w)
  | 0x0d => field .vfnma (VR.ofBits w)
  | 0x10 => field .vand (VR.ofBits w)
  | 0x11 => field .vor (VR.ofBits w)
  | 0x12 => field .vxor (VR.ofBits w)
  | 0x13 => field .vnot (VR.ofBits w)
  | 0x14 => field .vshl (VR.ofBits w)
  | 0x15 => field .vshr (VR.ofBits w)
  | 0x16 => field .vsar (VR.ofBits w)
  | 0x17 => field .vclz (VR.ofBits w)
  | 0x18 => field .vpopc (VR.ofBits w)
  | 0x20 => field .vcmp (VR.ofBits w)
  | 0x21 => field .vsel (VR.ofBits w)
  | 0x22 => field .vmov (VR.ofBits w)
  | 0x23 => field .vbcast (VR.ofBits w)
  | 0x24 => field .vperm (VR.ofBits w)
  | 0x25 => field .vshuf (VR.ofBits w)
  | 0x26 => field .vrot (VR.ofBits w)
  | 0x27 => field .viota (VR.ofBits w)
  | 0x30 => field .vexp2 (VR.ofBits w)
  | 0x31 => field .vlog2 (VR.ofBits w)
  | 0x32 => field .vrcp (VR.ofBits w)
  | 0x33 => field .vrsq (VR.ofBits w)
  | 0x34 => field .vsin (VR.ofBits w)
  | 0x35 => field .vcos (VR.ofBits w)
  | 0x40 => field .vreda (VR.ofBits w)
  | 0x41 => field .vredx (VR.ofBits w)
  | 0x42 => field .vredn (VR.ofBits w)
  | 0x43 => field .vscan (VR.ofBits w)
  | 0x50 => field .vcx (VR.ofBits w)
  | 0x51 => field .vcxs (VR.ofBits w)
  | 0x52 => field .vins (VR.ofBits w)
  | 0x53 => field .vinsm (VR.ofBits w)
  | 0x60 => field .cvt (VR.ofBits w)
  | 0x61 => if w.extractLsb' 45 1 = 1#1 then field .quantDerive (VR.ofBits w) else field .quantApply (VR.ofBits w)
  | 0x62 => field .dquant (VR.ofBits w)
  | 0x63 => field .pack (VR.ofBits w)
  | 0x64 => field .unpack (VR.ofBits w)
  | _ => .error .unassignedOpcode

/-- The M slot's opcode map (02 R51): the instruction a part's word spells, before its entry's own limits. -/
def rawDecodeM (w : BitVec 32) : Except DecodeError Instr :=
  match (w.extractLsb' 0 8).toNat with
  | 0 => if w = 0#32 then .ok .mnop else .error .nopBits
  | 0x01 => field .mlease (MLe.ofBits w)
  | 0x02 => field .mrel (M0.ofBits w)
  | 0x03 => field .mcfg (MN.ofBits w)
  | 0x04 => field .mcfgr (MRd.ofBits w)
  | 0x05 => field .mfset (MF.ofBits w)
  | 0x06 => field .mfadv (MF.ofBits w)
  | 0x07 => if w.extractLsb' 23 1 = 1#1 then field .mwaitLease (MWl.ofBits w) else field .mwaitSteps (M0.ofBits w)
  | 0x08 => field .mstep (MS.ofBits w)
  | 0x09 => field .mstepz (MS.ofBits w)
  | 0x0a => field .mstept (MS.ofBits w)
  | 0x0b => field .mzero (M0.ofBits w)
  | _ => .error .unassignedOpcode

/-- The C slot's opcode map (02 R52): the instruction a part's word spells, before its entry's own limits. -/
def rawDecodeC (w : BitVec 32) : Except DecodeError Instr :=
  match (w.extractLsb' 0 8).toNat with
  | 0 => if w = 0#32 then .ok .cnop else .error .nopBits
  | 0x01 => field .cpy (CC.ofBits w)
  | 0x02 => field .cpy2 (CC.ofBits w)
  | 0x03 => field .cpyh (CC.ofBits w)
  | 0x04 => field .cpln (CC.ofBits w)
  | 0x05 => field .accld (CC.ofBits w)
  | 0x06 => field .accst (CC.ofBits w)
  | 0x07 => field .cpyl (CL.ofBits w)
  | 0x08 => field .stamp (CS.ofBits w)
  | 0x09 => field .gstep (CC.ofBits w)
  | 0x0a => field .cpyq (CQ.ofBits w)
  | _ => .error .unassignedOpcode

/-- The K slot's opcode map (02 R53): the instruction a part's word spells, before its entry's own limits. -/
def rawDecodeK (w : BitVec 16) : Except DecodeError Instr :=
  match (w.extractLsb' 0 4).toNat with
  | 0 => if w = 0#16 then .ok .knop else .error .nopBits
  | 0x01 => field .kld (KL.ofBits w)
  | 0x02 => field .kldi (KL.ofBits w)
  | 0x03 => field .kmov (KM.ofBits w)
  | _ => .error .unassignedOpcode

/-- THE ENCODER: the word of a slot instruction, written from the same tables of the spec (02 Table 2.8, R48 to R53);
none for the actions that have no word (the bundle-level rows and the device's events). -/
def encodePart : Instr → Option PartWord
  | .nop => some (.s 0#40)
  | .anop => some (.a 0#40)
  | .vnop => some (.v 0#64)
  | .mnop => some (.m 0#32)
  | .cnop => some (.c 0#32)
  | .knop => some (.k 0#16)
  | .add x => some (.s (x.bits 0x1#8))
  | .sub x => some (.s (x.bits 0x2#8))
  | .mul x => some (.s (x.bits 0x3#8))
  | .mulh x => some (.s (x.bits 0x4#8))
  | .mulhu x => some (.s (x.bits 0x5#8))
  | .div x => some (.s (x.bits 0x6#8))
  | .divu x => some (.s (x.bits 0x7#8))
  | .rem x => some (.s (x.bits 0x8#8))
  | .remu x => some (.s (x.bits 0x9#8))
  | .and x => some (.s (x.bits 0xa#8))
  | .or x => some (.s (x.bits 0xb#8))
  | .xor x => some (.s (x.bits 0xc#8))
  | .andn x => some (.s (x.bits 0xd#8))
  | .shl x => some (.s (x.bits 0xe#8))
  | .shr x => some (.s (x.bits 0xf#8))
  | .sar x => some (.s (x.bits 0x10#8))
  | .rotr x => some (.s (x.bits 0x11#8))
  | .min x => some (.s (x.bits 0x12#8))
  | .max x => some (.s (x.bits 0x13#8))
  | .minu x => some (.s (x.bits 0x14#8))
  | .maxu x => some (.s (x.bits 0x15#8))
  | .clz x => some (.s (x.bits 0x16#8))
  | .popc x => some (.s (x.bits 0x17#8))
  | .addi x => some (.s (x.bits 0x18#8))
  | .andi x => some (.s (x.bits 0x19#8))
  | .ori x => some (.s (x.bits 0x1a#8))
  | .xori x => some (.s (x.bits 0x1b#8))
  | .shli x => some (.s (x.bits 0x1c#8))
  | .shri x => some (.s (x.bits 0x1d#8))
  | .sari x => some (.s (x.bits 0x1e#8))
  | .lui x => some (.s (x.bits 0x1f#8))
  | .cmp x => some (.s (x.bits 0x20#8))
  | .cmpi x => some (.s (x.bits 0x21#8))
  | .sel x => some (.s (x.bits 0x22#8))
  | .plog x => some (.s (x.bits 0x23#8))
  | .br x => some (.s (x.bits 0x24#8))
  | .jmp x => some (.s (x.bits 0x25#8))
  | .call x => some (.s (x.bits 0x26#8))
  | .ret x => some (.s (x.bits 0x27#8))
  | .loop x => some (.s (x.bits 0x28#8))
  | .loopi x => some (.s (x.bits 0x29#8))
  | .lbrk x => some (.s (x.bits 0x2a#8))
  | .gset x => some (.s (x.bits 0x30#8))
  | .grd x => some (.s (x.bits 0x31#8))
  | .gclr x => some (.s (x.bits 0x32#8))
  | .xmm x => some (.s (x.bits 0x40#8))
  | .xconv x => some (.s (x.bits 0x41#8))
  | .xgath x => some (.s (x.bits 0x42#8))
  | .xsort x => some (.s (x.bits 0x43#8))
  | .xtopk x => some (.s (x.bits 0x44#8))
  | .xnorm x => some (.s (x.bits 0x45#8))
  | .xwait x => some (.s (x.bits 0x46#8))
  | .xstat x => some (.s (x.bits 0x47#8))
  | .xres x => some (.s (x.bits 0x48#8))
  | .xdrop x => some (.s (x.bits 0x49#8))
  | .xattn x => some (.s (x.bits 0x50#8))
  | .kvshoot x => some (.s (x.bits 0x51#8))
  | .kvfreq x => some (.s (x.bits 0x52#8))
  | .kvapp x => some (.s (x.bits 0x53#8))
  | .kvpre x => some (.s (x.bits 0x54#8))
  | .callred x => some (.s (x.bits 0x58#8))
  | .credsc x => some (.s (x.bits 0x59#8))
  | .cgath x => some (.s (x.bits 0x5a#8))
  | .cbcast x => some (.s (x.bits 0x5b#8))
  | .ca2a x => some (.s (x.bits 0x5c#8))
  | .csend x => some (.s (x.bits 0x5d#8))
  | .crecv x => some (.s (x.bits 0x5e#8))
  | .cring x => some (.s (x.bits 0x5f#8))
  | .ctopk x => some (.s (x.bits 0x60#8))
  | .spawn x => some (.s (x.bits 0x68#8))
  | .spawni x => some (.s (x.bits 0x69#8))
  | .scope x => some (.s (x.bits 0x6a#8))
  | .sclose x => some (.s (x.bits 0x6b#8))
  | .snuff x => some (.s (x.bits 0x6c#8))
  | .snuffw x => some (.s (x.bits 0x6d#8))
  | .binit x => some (.s (x.bits 0x6e#8))
  | .barr x => some (.s (x.bits 0x6f#8))
  | .bwait x => some (.s (x.bits 0x70#8))
  | .yield x => some (.s (x.bits 0x71#8))
  | .prio x => some (.s (x.bits 0x72#8))
  | .dline x => some (.s (x.bits 0x73#8))
  | .endGroup x => some (.s (x.bits 0x74#8))
  | .tail x => some (.s (x.bits 0x75#8))
  | .trap x => some (.s (x.bits 0x78#8))
  | .rtt x => some (.s (x.bits 0x79#8))
  | .csrr x => some (.s (x.bits 0x7a#8))
  | .csrw x => some (.s (x.bits 0x7b#8))
  | .csrs x => some (.s (x.bits 0x7c#8))
  | .csrc x => some (.s (x.bits 0x7d#8))
  | .xlat x => some (.s (x.bits 0x7e#8))
  | .tcinv x => some (.s (x.bits 0x7f#8))
  | .errrd x => some (.s (x.bits 0x80#8))
  | .errclr x => some (.s (x.bits 0x81#8))
  | .lamp x => some (.s (x.bits 0x82#8))
  | .brk x => some (.s (x.bits 0x83#8))
  | .ld x => some (.a (x.bits 0x1#8))
  | .ldna x => some (.a (x.bits 0x2#8))
  | .ldbp x => some (.a (x.bits 0x3#8))
  | .ldg x => some (.a (x.bits 0x4#8))
  | .st x => some (.a (x.bits 0x5#8))
  | .stna x => some (.a (x.bits 0x6#8))
  | .stbp x => some (.a (x.bits 0x7#8))
  | .sts x => some (.a (x.bits 0x8#8))
  | .pf x => some (.a (x.bits 0x9#8))
  | .pfna x => some (.a (x.bits 0xa#8))
  | .monw x => some (.a (x.bits 0xb#8))
  | .atadd x => some (.a (x.bits 0x10#8))
  | .atfadd x => some (.a (x.bits 0x11#8))
  | .atmin x => some (.a (x.bits 0x12#8))
  | .atmax x => some (.a (x.bits 0x13#8))
  | .atminu x => some (.a (x.bits 0x14#8))
  | .atmaxu x => some (.a (x.bits 0x15#8))
  | .atand x => some (.a (x.bits 0x16#8))
  | .ator x => some (.a (x.bits 0x17#8))
  | .atxor x => some (.a (x.bits 0x18#8))
  | .atswp x => some (.a (x.bits 0x19#8))
  | .atcas x => some (.a (x.bits 0x1a#8))
  | .lea x => some (.a (x.bits 0x20#8))
  | .leax x => some (.a (x.bits 0x21#8))
  | .amov x => some (.a (x.bits 0x22#8))
  | .ainc x => some (.a (x.bits 0x23#8))
  | .mark x => some (.a (x.bits 0x30#8))
  | .fence x => some (.a (x.bits 0x31#8))
  | .fenceX x => some (.a (x.bits 0x32#8))
  | .acq x => some (.a (x.bits 0x33#8))
  | .rel x => some (.a (x.bits 0x34#8))
  | .acqrel x => some (.a (x.bits 0x35#8))
  | .drain x => some (.a (x.bits 0x36#8))
  | .tkw x => some (.a (x.bits 0x37#8))
  | .vadd x => some (.v (x.bits 0x1#8))
  | .vsub x => some (.v (x.bits 0x2#8))
  | .vmul x => some (.v (x.bits 0x3#8))
  | .vmulh x => some (.v (x.bits 0x4#8))
  | .vdiv x => some (.v (x.bits 0x5#8))
  | .vsqrt x => some (.v (x.bits 0x6#8))
  | .vmin x => some (.v (x.bits 0x7#8))
  | .vmax x => some (.v (x.bits 0x8#8))
  | .vabs x => some (.v (x.bits 0x9#8))
  | .vneg x => some (.v (x.bits 0xa#8))
  | .vfma x => some (.v (x.bits 0xb#8))
  | .vfms x => some (.v (x.bits 0xc#8))
  | .vfnma x => some (.v (x.bits 0xd#8))
  | .vand x => some (.v (x.bits 0x10#8))
  | .vor x => some (.v (x.bits 0x11#8))
  | .vxor x => some (.v (x.bits 0x12#8))
  | .vnot x => some (.v (x.bits 0x13#8))
  | .vshl x => some (.v (x.bits 0x14#8))
  | .vshr x => some (.v (x.bits 0x15#8))
  | .vsar x => some (.v (x.bits 0x16#8))
  | .vclz x => some (.v (x.bits 0x17#8))
  | .vpopc x => some (.v (x.bits 0x18#8))
  | .vcmp x => some (.v (x.bits 0x20#8))
  | .vsel x => some (.v (x.bits 0x21#8))
  | .vmov x => some (.v (x.bits 0x22#8))
  | .vbcast x => some (.v (x.bits 0x23#8))
  | .vperm x => some (.v (x.bits 0x24#8))
  | .vshuf x => some (.v (x.bits 0x25#8))
  | .vrot x => some (.v (x.bits 0x26#8))
  | .viota x => some (.v (x.bits 0x27#8))
  | .vexp2 x => some (.v (x.bits 0x30#8))
  | .vlog2 x => some (.v (x.bits 0x31#8))
  | .vrcp x => some (.v (x.bits 0x32#8))
  | .vrsq x => some (.v (x.bits 0x33#8))
  | .vsin x => some (.v (x.bits 0x34#8))
  | .vcos x => some (.v (x.bits 0x35#8))
  | .vreda x => some (.v (x.bits 0x40#8))
  | .vredx x => some (.v (x.bits 0x41#8))
  | .vredn x => some (.v (x.bits 0x42#8))
  | .vscan x => some (.v (x.bits 0x43#8))
  | .vcx x => some (.v (x.bits 0x50#8))
  | .vcxs x => some (.v (x.bits 0x51#8))
  | .vins x => some (.v (x.bits 0x52#8))
  | .vinsm x => some (.v (x.bits 0x53#8))
  | .cvt x => some (.v (x.bits 0x60#8))
  | .quantDerive x => some (.v (x.bits 0x61#8))
  | .quantApply x => some (.v (x.bits 0x61#8))
  | .dquant x => some (.v (x.bits 0x62#8))
  | .pack x => some (.v (x.bits 0x63#8))
  | .unpack x => some (.v (x.bits 0x64#8))
  | .mlease x => some (.m (x.bits 0x1#8))
  | .mrel x => some (.m (x.bits 0x2#8))
  | .mcfg x => some (.m (x.bits 0x3#8))
  | .mcfgr x => some (.m (x.bits 0x4#8))
  | .mfset x => some (.m (x.bits 0x5#8))
  | .mfadv x => some (.m (x.bits 0x6#8))
  | .mwaitSteps x => some (.m (x.bits 0x7#8))
  | .mwaitLease x => some (.m (x.bits 0x7#8))
  | .mstep x => some (.m (x.bits 0x8#8))
  | .mstepz x => some (.m (x.bits 0x9#8))
  | .mstept x => some (.m (x.bits 0xa#8))
  | .mzero x => some (.m (x.bits 0xb#8))
  | .cpy x => some (.c (x.bits 0x1#8))
  | .cpy2 x => some (.c (x.bits 0x2#8))
  | .cpyh x => some (.c (x.bits 0x3#8))
  | .cpln x => some (.c (x.bits 0x4#8))
  | .accld x => some (.c (x.bits 0x5#8))
  | .accst x => some (.c (x.bits 0x6#8))
  | .cpyl x => some (.c (x.bits 0x7#8))
  | .stamp x => some (.c (x.bits 0x8#8))
  | .gstep x => some (.c (x.bits 0x9#8))
  | .cpyq x => some (.c (x.bits 0xa#8))
  | .kld x => some (.k (x.bits 0x1#4))
  | .kldi x => some (.k (x.bits 0x2#4))
  | .kmov x => some (.k (x.bits 0x3#4))
  | .bundleDecode _ => none
  | .loopEnd _ => none
  | .rotate _ => none
  | .tagGrant _ => none
  | .loadPerformed _ _ _ _ => none
  | .storePerformed _ _ _ => none
  | .writeAcknowledgement _ _ => none
  | .atomicPerformed _ _ => none
  | .monwTest _ => none
  | .pageWalk _ _ _ _ => none
  | .demandFaultService _ _ _ => none
  | .mappingChange _ _ _ _ _ => none
  | .atsInvalidation _ _ => none
  | .priResponse _ _ _ => none
  | .asyncTrapTaken _ => none
  | .answerResume _ => none
  | .answerSkip _ => none
  | .answerAbort _ => none
  | .answerInvalid _ => none
  | .leaseGrant _ => none
  | .leaseTimeout _ => none
  | .matrixStepStart _ _ => none
  | .matrixStepCommit _ _ => none
  | .tileStepStart _ _ => none
  | .tileStepCommit _ _ => none
  | .kvshootComplete _ _ => none
  | .bufferAcknowledge _ _ _ => none
  | .chunkRequest _ _ _ _ => none
  | .chunkReceive _ _ _ => none
  | .chunkRetry _ _ _ => none
  | .laneRetrain _ => none
  | .lostLink _ _ => none
  | .peerNotice _ _ => none
  | .copyStart _ _ => none
  | .copyChunk _ _ => none
  | .completionStamp _ _ => none
  | .chainRecordRead _ _ => none
  | .chainUnpark _ _ => none
  | .admission _ _ _ => none
  | .groupStart _ => none
  | .issueAgePromotion _ => none
  | .yieldExpiry _ => none
  | .preemptionDecision _ _ _ => none
  | .preemptionLanding _ => none
  | .preemptionSave _ => none
  | .resumption _ _ => none
  | .overlayLoad _ => none
  | .groupRetire _ _ => none
  | .retirementTrackerDrain _ _ => none
  | .taskEnd _ => none
  | .snuffArrival _ _ => none
  | .snuffComplete _ => none
  | .lampTest _ _ => none
  | .prodUpdate _ => none
  | .recordFetch _ => none
  | .nodeFinal _ _ => none
  | .launch _ _ => none
  | .ilaunch _ _ => none
  | .outing _ _ => none
  | .outingRetry _ _ => none
  | .copyNode _ _ => none
  | .signalStore _ _ => none
  | .signalAdd _ _ => none
  | .signalOr _ _ => none
  | .waitNode _ _ => none
  | .waitSatisfied _ _ => none
  | .condNode _ _ => none
  | .loopNode _ _ => none
  | .loopIteration _ _ => none
  | .queueEventPost _ => none
  | .queueRegister _ => none
  | .queueUnregister _ => none
  | .queueReset _ => none
  | .queueSnuffRoot _ => none
  | .partWrite _ => none
  | .rankWrite _ => none
  | .pthWrite _ _ => none
  | .managementRegisterWrite _ _ => none
  | .deniedAccess _ => none
  | .mboxNone _ => none
  | .mboxVerifyWrite _ => none
  | .mboxClear _ => none
  | .mboxRefused _ => none
  | .recoveryImageVerified => none
  | .attNonceWrite _ => none
  | .attestationRequest => none
  | .attestationDone => none
  | .deviceReset => none
  | .bootRomHash => none
  | .slotChoice => none
  | .firmwareLoad => none
  | .hbmTrain _ => none
  | .powerSample _ => none
  | .thermalTrip _ _ => none
  | .ptmExchange _ => none
  | .powerLoss => none
  | .partCompletion _ _ => none
  | .atsTranslationResponse _ _ _ _ => none
  | .sendAcknowledgement _ _ _ => none
  | .hostStoreAcknowledgement _ _ => none

/-- The instruction a slot part's word spells: its opcode map, then every check of its entry (02 R31, R48 to R53). -/
def checked (r : Except DecodeError Instr) : Except DecodeError Instr :=
  match r with
  | .error e => .error e
  | .ok i =>
    match i.illegal with
    | some e => .error e
    | none => .ok i

/-- Decodes one slot part, or says by name why its word is no instruction (02 R31). -/
def decodePart : PartWord → Except DecodeError Instr
  | .s w => checked (rawDecodeS w)
  | .a w => checked (rawDecodeA w)
  | .v w => checked (rawDecodeV w)
  | .m w => checked (rawDecodeM w)
  | .c w => checked (rawDecodeC w)
  | .k w => checked (rawDecodeK w)

/-- The bundle's part for a slot (02 Table 2.1). -/
def bundlePart (w : BitVec 256) : Slot → PartWord
  | .S => .s (w.extractLsb' 16 40)
  | .A => .a (w.extractLsb' 56 40)
  | .V => .v (w.extractLsb' 96 64)
  | .M => .m (w.extractLsb' 160 32)
  | .C => .c (w.extractLsb' 192 32)
  | .K => .k (w.extractLsb' 224 16)

/-- The bundle's header (02 Table 2.1, R29). -/
def bundleHeader (w : BitVec 256) : BitVec 16 := w.extractLsb' 0 16
/-- The bundle's T word (02 Table 2.1, R38). -/
def bundleTWord (w : BitVec 256) : BitVec 16 := w.extractLsb' 240 16

/-- The header's PP bit (02 R29). -/
def hdrPP (h : BitVec 16) : Bool := h.getLsbD 8
/-- The header's RS bit (02 R29). -/
def hdrRS (h : BitVec 16) : Bool := h.getLsbD 7
/-- The header's LE bit (02 R29). -/
def hdrLE (h : BitVec 16) : Bool := h.getLsbD 6
/-- The place of a slot in SYNC and in TRAP.SKEW's SLOT (02 R29, 04 Table 4.3). -/
def Slot.num : Slot → Nat
  | .S => 0 | .A => 1 | .V => 2 | .M => 3 | .C => 4 | .K => 5
/-- The six slots in the order of 04 R108. -/
def slots : List Slot := [.S, .A, .V, .M, .C, .K]

/-- The n register an S result, an MCFGR or a CPYQ writes (02 R34, R43). -/
def nDest : Instr → Option Nat
  | .add x => if x.dst.toNat < 16 then some x.dst.toNat else none
  | .sub x => if x.dst.toNat < 16 then some x.dst.toNat else none
  | .mul x => if x.dst.toNat < 16 then some x.dst.toNat else none
  | .mulh x => if x.dst.toNat < 16 then some x.dst.toNat else none
  | .mulhu x => if x.dst.toNat < 16 then some x.dst.toNat else none
  | .div x => if x.dst.toNat < 16 then some x.dst.toNat else none
  | .divu x => if x.dst.toNat < 16 then some x.dst.toNat else none
  | .rem x => if x.dst.toNat < 16 then some x.dst.toNat else none
  | .remu x => if x.dst.toNat < 16 then some x.dst.toNat else none
  | .and x => if x.dst.toNat < 16 then some x.dst.toNat else none
  | .or x => if x.dst.toNat < 16 then some x.dst.toNat else none
  | .xor x => if x.dst.toNat < 16 then some x.dst.toNat else none
  | .andn x => if x.dst.toNat < 16 then some x.dst.toNat else none
  | .shl x => if x.dst.toNat < 16 then some x.dst.toNat else none
  | .shr x => if x.dst.toNat < 16 then some x.dst.toNat else none
  | .sar x => if x.dst.toNat < 16 then some x.dst.toNat else none
  | .rotr x => if x.dst.toNat < 16 then some x.dst.toNat else none
  | .min x => if x.dst.toNat < 16 then some x.dst.toNat else none
  | .max x => if x.dst.toNat < 16 then some x.dst.toNat else none
  | .minu x => if x.dst.toNat < 16 then some x.dst.toNat else none
  | .maxu x => if x.dst.toNat < 16 then some x.dst.toNat else none
  | .clz x => if x.dst.toNat < 16 then some x.dst.toNat else none
  | .popc x => if x.dst.toNat < 16 then some x.dst.toNat else none
  | .addi x => if x.dst.toNat < 16 then some x.dst.toNat else none
  | .andi x => if x.dst.toNat < 16 then some x.dst.toNat else none
  | .ori x => if x.dst.toNat < 16 then some x.dst.toNat else none
  | .xori x => if x.dst.toNat < 16 then some x.dst.toNat else none
  | .shli x => if x.dst.toNat < 16 then some x.dst.toNat else none
  | .shri x => if x.dst.toNat < 16 then some x.dst.toNat else none
  | .sari x => if x.dst.toNat < 16 then some x.dst.toNat else none
  | .lui x => if x.dst.toNat < 16 then some x.dst.toNat else none
  | .sel x => if x.dst.toNat < 16 then some x.dst.toNat else none
  | .jmp x => if x.dst.toNat < 16 then some x.dst.toNat else none
  | .gset x => if x.dst.toNat < 16 then some x.dst.toNat else none
  | .grd x => if x.dst.toNat < 16 then some x.dst.toNat else none
  | .gclr x => if x.dst.toNat < 16 then some x.dst.toNat else none
  | .spawn x => if x.dst.toNat < 16 then some x.dst.toNat else none
  | .spawni x => if x.dst.toNat < 16 then some x.dst.toNat else none
  | .scope x => if x.dst.toNat < 16 then some x.dst.toNat else none
  | .sclose x => if x.dst.toNat < 16 then some x.dst.toNat else none
  | .snuff x => if x.dst.toNat < 16 then some x.dst.toNat else none
  | .snuffw x => if x.dst.toNat < 16 then some x.dst.toNat else none
  | .binit x => if x.dst.toNat < 16 then some x.dst.toNat else none
  | .barr x => if x.dst.toNat < 16 then some x.dst.toNat else none
  | .bwait x => if x.dst.toNat < 16 then some x.dst.toNat else none
  | .prio x => if x.dst.toNat < 16 then some x.dst.toNat else none
  | .dline x => if x.dst.toNat < 16 then some x.dst.toNat else none
  | .csrr x => if x.dst.toNat < 16 then some x.dst.toNat else none
  | .xlat x => if x.dst.toNat < 16 then some x.dst.toNat else none
  | .errrd x => if x.dst.toNat < 16 then some x.dst.toNat else none
  | .errclr x => if x.dst.toNat < 16 then some x.dst.toNat else none
  | .lamp x => if x.dst.toNat < 16 then some x.dst.toNat else none
  | .mcfgr x => some x.nr.toNat
  | .cpyq x => some x.nd.toNat
  | _ => none

/-- The predicates an S part writes: CMP, CMPI and PLOG their pd; LOOP and LOOPI with drain p8 to p15 (04 R104, R122, R124). -/
def predDests : Instr → List Nat
  | .cmp x => [x.pd.toNat]
  | .cmpi x => [x.pd.toNat]
  | .plog x => [x.pd.toNat]
  | .loop x => if x.fn == 0#3 then [] else [8, 9, 10, 11, 12, 13, 14, 15]
  | .loopi x => if x.fn == 0#3 then [] else [8, 9, 10, 11, 12, 13, 14, 15]
  | _ => []

/-- The fields of a V part (02 R47). -/
def vrOf : Instr → Option VR
  | .vadd x => some x
  | .vsub x => some x
  | .vmul x => some x
  | .vmulh x => some x
  | .vdiv x => some x
  | .vsqrt x => some x
  | .vmin x => some x
  | .vmax x => some x
  | .vabs x => some x
  | .vneg x => some x
  | .vfma x => some x
  | .vfms x => some x
  | .vfnma x => some x
  | .vand x => some x
  | .vor x => some x
  | .vxor x => some x
  | .vnot x => some x
  | .vshl x => some x
  | .vshr x => some x
  | .vsar x => some x
  | .vclz x => some x
  | .vpopc x => some x
  | .vcmp x => some x
  | .vsel x => some x
  | .vmov x => some x
  | .vbcast x => some x
  | .vperm x => some x
  | .vshuf x => some x
  | .vrot x => some x
  | .viota x => some x
  | .vexp2 x => some x
  | .vlog2 x => some x
  | .vrcp x => some x
  | .vrsq x => some x
  | .vsin x => some x
  | .vcos x => some x
  | .vreda x => some x
  | .vredx x => some x
  | .vredn x => some x
  | .vscan x => some x
  | .vcx x => some x
  | .vcxs x => some x
  | .vins x => some x
  | .vinsm x => some x
  | .cvt x => some x
  | .quantDerive x => some x
  | .quantApply x => some x
  | .dquant x => some x
  | .pack x => some x
  | .unpack x => some x
  | _ => none

/-- How many registers a V part's va, vb and vd name: the G of VPERM, VCX and VCXS (07 R191). -/
def vGroup : Instr → Nat × Nat × Nat
  | .vperm x => (2 ^ (x.fn.extractLsb' 0 2).toNat, 1, 1)
  | .vcx x => (2 ^ (x.fn.extractLsb' 1 2).toNat, 1, 2 ^ (x.fn.extractLsb' 1 2).toNat)
  | .vcxs x => (2 ^ (x.fn.extractLsb' 1 2).toNat, 2 ^ (x.fn.extractLsb' 1 2).toNat, 2 ^ (x.fn.extractLsb' 1 2).toNat)
  | _ => (1, 1, 1)

/-- Which of a V part's fields va, vb, vc are vector operands it reads (07 Table 7.4, 03 Table 3.6). -/
def vReads : Instr → Bool × Bool × Bool
  | .vadd _ => (true, true, false)
  | .vsub _ => (true, true, false)
  | .vmul _ => (true, true, false)
  | .vmulh _ => (true, true, false)
  | .vdiv _ => (true, true, false)
  | .vsqrt _ => (true, false, false)
  | .vmin _ => (true, true, false)
  | .vmax _ => (true, true, false)
  | .vabs _ => (true, false, false)
  | .vneg _ => (true, false, false)
  | .vfma _ => (true, true, true)
  | .vfms _ => (true, true, true)
  | .vfnma _ => (true, true, true)
  | .vand _ => (true, true, false)
  | .vor _ => (true, true, false)
  | .vxor _ => (true, true, false)
  | .vnot _ => (true, false, false)
  | .vshl _ => (true, true, false)
  | .vshr _ => (true, true, false)
  | .vsar _ => (true, true, false)
  | .vclz _ => (true, false, false)
  | .vpopc _ => (true, false, false)
  | .vcmp _ => (true, true, false)
  | .vsel _ => (true, true, true)
  | .vmov _ => (true, false, false)
  | .vbcast _ => (true, false, false)
  | .vperm _ => (true, true, false)
  | .vshuf x => (true, x.fn.extractLsb' 0 3 != 4#3, false)
  | .vrot _ => (true, false, false)
  | .viota _ => (false, false, false)
  | .vexp2 _ => (true, false, false)
  | .vlog2 _ => (true, false, false)
  | .vrcp _ => (true, false, false)
  | .vrsq _ => (true, false, false)
  | .vsin _ => (true, false, false)
  | .vcos _ => (true, false, false)
  | .vreda _ => (true, false, false)
  | .vredx _ => (true, false, false)
  | .vredn _ => (true, false, false)
  | .vscan _ => (true, true, false)
  | .vcx _ => (true, false, false)
  | .vcxs _ => (true, true, false)
  | .vins _ => (true, true, false)
  | .vinsm _ => (true, true, true)
  | .cvt _ => (true, false, false)
  | .quantDerive _ => (true, false, false)
  | .quantApply _ => (true, true, false)
  | .dquant _ => (true, true, false)
  | .pack _ => (true, true, false)
  | .unpack _ => (true, false, false)
  | _ => (false, false, false)

/-- Whether the part keeps bits of vd it does not write, and so reads vd (03 R92). -/
def vKeepsDest : Instr → Bool
  | .cvt x => typeWidth x.ty.toNat < typeWidth x.st
  | .quantApply _ => true
  | _ => false

/-- A run of `g` register codes from `c` where `c` names a v or o register (02 Table 2.5). -/
def regRun (c g : Nat) : List Nat := if c < 0x110 then (List.range g).map (c + ·) else []

/-- The v and o registers a V part writes (07 R189, R191). -/
def vWrites (i : Instr) : List Nat :=
  match vrOf i with
  | some x => regRun x.vd.toNat (vGroup i).2.2
  | none => []

/-- The operand field codes a V part reads, in field order (02 R34). -/
def vSrcFields (i : Instr) : List (BitVec 9 × Nat) :=
  match vrOf i with
  | some x =>
    let r := vReads i
    let g := vGroup i
    (if r.1 then [(x.va, g.1)] else []) ++ (if r.2.1 then [(x.vb, g.2.1)] else []) ++ (if r.2.2 then [(x.vc, 1)] else [])
  | none => []

/-- The v and o registers a V part reads. -/
def vReadRegs (i : Instr) : List Nat :=
  (vSrcFields i).flatMap (fun p => regRun p.1.toNat p.2) ++ (if vKeepsDest i then vWrites i else [])

/-- The scalar codes a V part's fields name, broadcast or read as scalar values (02 R42, 07 R190). -/
def vScalarCodes (i : Instr) : List Nat :=
  match vrOf i with
  | some x =>
    let f (b : Bool) (c : BitVec 9) := if b && 0x1C0 ≤ c.toNat && c.toNat < 0x1FF then [c.toNat - 0x1C0] else []
    let other := match i with
      | .vcx _ => false | .vcxs _ => false | _ => true
    f true x.va ++ f true x.vb ++ f (other && (vReads i).2.2) x.vc
  | none => []

/-- The streams whose load-data queues a part pops, one entry for each pop, in field order (02 R34, 05 R137). -/
def popStreams (i : Instr) : List Nat :=
  match i with
  | .csrr x => if 0x060 ≤ x.num.toNat ∧ x.num.toNat ≤ 0x06F then [x.num.toNat - 0x060] else []
  | _ => (vSrcFields i).filterMap (fun p => if 0x180 ≤ p.1.toNat ∧ p.1.toNat < 0x190 then some (p.1.toNat - 0x180) else none)

/-- The stream whose store-data queue a V part pushes (02 Table 2.5). -/
def pushStream (i : Instr) : Option Nat :=
  match vrOf i with
  | some x => if 0x180 ≤ x.vd.toNat ∧ x.vd.toNat < 0x190 then some (x.vd.toNat - 0x180) else none
  | none => none

/-- The AM fields of an access (05 R151, R154, R156). -/
def amOf : Instr → Option AM
  | .ld x => some x | .ldna x => some x | .ldbp x => some x | .ldg x => some x
  | .st x => some x | .stna x => some x | .stbp x => some x | .sts x => some x
  | .pf x => some x | .pfna x => some x
  | _ => none

/-- The loads (05 R151). -/
def isLoad : Instr → Bool
  | .ld _ => true | .ldna _ => true | .ldbp _ => true | .ldg _ => true | _ => false
/-- The stores (05 R154). -/
def isStore : Instr → Bool
  | .st _ => true | .stna _ => true | .stbp _ => true | .sts _ => true | _ => false

/-- The v or o register a load writes when it is performed (05 R136). -/
def loadReg (i : Instr) : List Nat :=
  match amOf i with
  | some x => if isLoad i then regRun x.data.toNat 1 else []
  | none => []

/-- The control instructions (04 R102). -/
def isControl : Instr → Bool
  | .br _ => true | .jmp _ => true | .call _ => true | .ret _ => true | .loop _ => true | .loopi _ => true | .lbrk _ => true
  | .endGroup _ => true | .tail _ => true | .trap _ => true | .rtt _ => true
  | _ => false

/-- The asynchronous instructions, to which the T word applies (02 R38). -/
def isAsync : Instr → Bool
  | .mstep _ => true | .mstepz _ => true | .mstept _ => true | .mzero _ => true
  | .cpy _ => true | .cpy2 _ => true | .cpyh _ => true | .cpln _ => true | .accld _ => true | .accst _ => true
  | .cpyl _ => true | .stamp _ => true | .gstep _ => true
  | _ => false

/-- The S parts that make a bundle a switch point (02 R40). -/
def isSwitchS : Instr → Bool
  | .bwait _ => true | .snuffw _ => true | .xwait _ => true | .yield _ => true | _ => false

/-- A bundle cut into its parts (02 R28). -/
structure Bundle where
  hdr : BitVec 16
  s : Instr
  a : Instr
  v : Instr
  m : Instr
  c : Instr
  k : Instr
  tw : BitVec 16
deriving DecidableEq, Repr

/-- The header's own faults: a reserved bit, LE over a control instruction (04 R102), RS over an S part that writes a
stage predicate (04 R107). -/
def headerBad (h : BitVec 16) (s : Instr) : Bool :=
  (h.extractLsb' 9 7 != 0#7) || (hdrLE h && isControl s) || (hdrRS h && (predDests s).any (8 ≤ ·))

/-- The n registers an S part writes: its result's, and n8 to n15 for a RET (02 R34, 04 R117). -/
def nDests (i : Instr) : List Nat :=
  match i with
  | .ret _ => [8, 9, 10, 11, 12, 13, 14, 15]
  | i => (nDest i).toList

/-- Whether two lists share a member. -/
def meets (a b : List Nat) : Bool := a.any b.contains

/-- The parts of a bundle whose writes, pops or register pairs clash, each clash reported at the first of the two parts
(02 R34, R31); the numbers are those of TRAP.CAUSE's INFO (14 Table 14.1). -/
def conflicts (s a v m c : Instr) : List Nat :=
  (if meets (popStreams s) (popStreams v) then [0] else []) ++
  (if meets (nDests s) (nDests m) || meets (nDests s) (nDests c) then [0] else []) ++
  (if meets (loadReg a) (vWrites v) then [1] else []) ++
  (if (nDest m).isSome && nDest m == nDest c then [3] else [])

/-- The place of an INFO part code in the order of 02 R31: the header first, the T word last. -/
def infoOrder : List Nat := [6, 0, 1, 2, 3, 4, 5, 7]

/-- Whether a slot's word decodes. -/
def partBad (w : BitVec 256) (k : Slot) : Bool := (decodePart (bundlePart w k)).toOption.isNone

/-- The instruction of a slot of a bundle, NOP where its word does not decode. -/
def bundleInstr (w : BitVec 256) (k : Slot) : Instr :=
  match decodePart (bundlePart w k) with
  | .ok i => i
  | .error _ => .nop

/-- Every offending part of a bundle by its INFO code (02 R31, 14 Table 14.1). -/
def offending (w : BitVec 256) : List Nat :=
  let i := bundleInstr w
  (if headerBad (bundleHeader w) (i .S) then [6] else []) ++
  (slots.filterMap (fun k => if partBad w k then some k.num else none)) ++
  conflicts (i .S) (i .A) (i .V) (i .M) (i .C) ++
  (if bundleTWord w != 0#16 && !isAsync (i .M) && !isAsync (i .C) then [7] else [])

/-- Decodes a whole bundle: its parts, or the INFO code of the first offending part in the order of 02 R31. -/
def decodeBundle (w : BitVec 256) : Except Nat Bundle :=
  match infoOrder.find? (fun k => (offending w).contains k) with
  | some k => .error k
  | none =>
    let i := bundleInstr w
    .ok ⟨bundleHeader w, i .S, i .A, i .V, i .M, i .C, i .K, bundleTWord w⟩

/-- The part of a slot of a decoded bundle. -/
def Bundle.part (b : Bundle) : Slot → Instr
  | .S => b.s | .A => b.a | .V => b.v | .M => b.m | .C => b.c | .K => b.k

/-- The main vector registers a bundle names, for the window check at decode (02 R31). -/
def Bundle.windowRegs (b : Bundle) : List Nat :=
  let am := match amOf b.a with
    | some x => [x.data.toNat]
    | none => []
  let vv := match vrOf b.v with
    | some x => x.vd.toNat :: (vSrcFields b.v).map (fun p => p.1.toNat)
    | none => []
  (am ++ vv).filter (· < 0x100)

/-- A switch point, where the latches are emptied (02 R40). -/
def Bundle.switchPoint (b : Bundle) : Bool :=
  hdrLE b.hdr || hdrPP b.hdr || !(popStreams b.s).isEmpty || !(popStreams b.v).isEmpty || (pushStream b.v).isSome ||
  (match b.a with
    | .monw _ => true
    | .tkw _ => true
    | i => isLoad i && (match amOf i with | some x => x.qual.getLsbD 0 | none => false)) ||
  isSwitchS b.s

/-- The predicate field of a part: p0 where it has none (02 R44). -/
def predOf : Instr → BitVec 5
  | .add x => x.pred
  | .sub x => x.pred
  | .mul x => x.pred
  | .mulh x => x.pred
  | .mulhu x => x.pred
  | .div x => x.pred
  | .divu x => x.pred
  | .rem x => x.pred
  | .remu x => x.pred
  | .and x => x.pred
  | .or x => x.pred
  | .xor x => x.pred
  | .andn x => x.pred
  | .shl x => x.pred
  | .shr x => x.pred
  | .sar x => x.pred
  | .rotr x => x.pred
  | .min x => x.pred
  | .max x => x.pred
  | .minu x => x.pred
  | .maxu x => x.pred
  | .clz x => x.pred
  | .popc x => x.pred
  | .addi x => x.pred
  | .andi x => x.pred
  | .ori x => x.pred
  | .xori x => x.pred
  | .shli x => x.pred
  | .shri x => x.pred
  | .sari x => x.pred
  | .lui x => x.pred
  | .cmp x => x.pred
  | .cmpi x => x.pred
  | .sel x => x.pred
  | .plog x => x.pred
  | .br x => x.pred
  | .jmp x => x.pred
  | .call x => x.pred
  | .ret x => x.pred
  | .loop x => x.pred
  | .loopi x => x.pred
  | .lbrk x => x.pred
  | .gset x => x.pred
  | .grd x => x.pred
  | .gclr x => x.pred
  | .xmm x => x.pred
  | .xconv x => x.pred
  | .xgath x => x.pred
  | .xsort x => x.pred
  | .xtopk x => x.pred
  | .xnorm x => x.pred
  | .xwait x => x.pred
  | .xstat x => x.pred
  | .xres x => x.pred
  | .xdrop x => x.pred
  | .xattn x => x.pred
  | .kvshoot x => x.pred
  | .kvfreq x => x.pred
  | .kvapp x => x.pred
  | .kvpre x => x.pred
  | .callred x => x.pred
  | .credsc x => x.pred
  | .cgath x => x.pred
  | .cbcast x => x.pred
  | .ca2a x => x.pred
  | .csend x => x.pred
  | .crecv x => x.pred
  | .cring x => x.pred
  | .ctopk x => x.pred
  | .spawn x => x.pred
  | .spawni x => x.pred
  | .scope x => x.pred
  | .sclose x => x.pred
  | .snuff x => x.pred
  | .snuffw x => x.pred
  | .binit x => x.pred
  | .barr x => x.pred
  | .bwait x => x.pred
  | .yield x => x.pred
  | .prio x => x.pred
  | .dline x => x.pred
  | .endGroup x => x.pred
  | .tail x => x.pred
  | .trap x => x.pred
  | .rtt x => x.pred
  | .csrr x => x.pred
  | .csrw x => x.pred
  | .csrs x => x.pred
  | .csrc x => x.pred
  | .xlat x => x.pred
  | .tcinv x => x.pred
  | .errrd x => x.pred
  | .errclr x => x.pred
  | .lamp x => x.pred
  | .brk x => x.pred
  | .ld x => x.pred
  | .ldna x => x.pred
  | .ldbp x => x.pred
  | .ldg x => x.pred
  | .st x => x.pred
  | .stna x => x.pred
  | .stbp x => x.pred
  | .sts x => x.pred
  | .pf x => x.pred
  | .pfna x => x.pred
  | .monw x => x.pred
  | .atadd x => x.pred
  | .atfadd x => x.pred
  | .atmin x => x.pred
  | .atmax x => x.pred
  | .atminu x => x.pred
  | .atmaxu x => x.pred
  | .atand x => x.pred
  | .ator x => x.pred
  | .atxor x => x.pred
  | .atswp x => x.pred
  | .atcas x => x.pred
  | .lea x => x.pred
  | .leax x => x.pred
  | .amov x => x.pred
  | .ainc x => x.pred
  | .mark x => x.pred
  | .fence x => x.pred
  | .fenceX x => x.pred
  | .acq x => x.pred
  | .rel x => x.pred
  | .acqrel x => x.pred
  | .drain x => x.pred
  | .tkw x => x.pred
  | .vadd x => x.pred
  | .vsub x => x.pred
  | .vmul x => x.pred
  | .vmulh x => x.pred
  | .vdiv x => x.pred
  | .vsqrt x => x.pred
  | .vmin x => x.pred
  | .vmax x => x.pred
  | .vabs x => x.pred
  | .vneg x => x.pred
  | .vfma x => x.pred
  | .vfms x => x.pred
  | .vfnma x => x.pred
  | .vand x => x.pred
  | .vor x => x.pred
  | .vxor x => x.pred
  | .vnot x => x.pred
  | .vshl x => x.pred
  | .vshr x => x.pred
  | .vsar x => x.pred
  | .vclz x => x.pred
  | .vpopc x => x.pred
  | .vcmp x => x.pred
  | .vsel x => x.pred
  | .vmov x => x.pred
  | .vbcast x => x.pred
  | .vperm x => x.pred
  | .vshuf x => x.pred
  | .vrot x => x.pred
  | .viota x => x.pred
  | .vexp2 x => x.pred
  | .vlog2 x => x.pred
  | .vrcp x => x.pred
  | .vrsq x => x.pred
  | .vsin x => x.pred
  | .vcos x => x.pred
  | .vreda x => x.pred
  | .vredx x => x.pred
  | .vredn x => x.pred
  | .vscan x => x.pred
  | .vcx x => x.pred
  | .vcxs x => x.pred
  | .vins x => x.pred
  | .vinsm x => x.pred
  | .cvt x => x.pred
  | .quantDerive x => x.pred
  | .quantApply x => x.pred
  | .dquant x => x.pred
  | .pack x => x.pred
  | .unpack x => x.pred
  | .mlease x => x.pred
  | .mrel x => x.pred
  | .mcfg x => x.pred
  | .mcfgr x => x.pred
  | .mfset x => x.pred
  | .mfadv x => x.pred
  | .mwaitSteps x => x.pred
  | .mwaitLease x => x.pred
  | .mstep x => x.pred
  | .mstepz x => x.pred
  | .mstept x => x.pred
  | .mzero x => x.pred
  | .cpy x => x.pred
  | .cpy2 x => x.pred
  | .cpyh x => x.pred
  | .cpln x => x.pred
  | .accld x => x.pred
  | .accst x => x.pred
  | .cpyl x => x.pred
  | .stamp x => x.pred
  | .gstep x => x.pred
  | .cpyq x => x.pred
  | _ => 0#5

/-- The slot an instruction stands in; none for the bundle's own actions and the device's events. -/
def slotOf (i : Instr) : Option Slot :=
  match encodePart i with
  | some (.s _) => some .S
  | some (.a _) => some .A
  | some (.v _) => some .V
  | some (.m _) => some .M
  | some (.c _) => some .C
  | some (.k _) => some .K
  | none => none

/-- The instruction that an opcode-table word spells, its bits numbered from bit 0 of the part: 16 bits are a K part,
40 an S or A part, 64 a V part, 32 an M part where the word is one and else a C part (log 6). -/
def decodeTableWord (nbits w : Nat) : Option Instr :=
  if nbits = 16 then (decodePart (.k (BitVec.ofNat 16 w))).toOption
  else if nbits = 32 then
    match decodePart (.m (BitVec.ofNat 32 w)) with
    | .ok i => some i
    | .error _ => (decodePart (.c (BitVec.ofNat 32 w))).toOption
  else if nbits = 40 then
    match decodePart (.s (BitVec.ofNat 40 w)) with
    | .ok i => some i
    | .error _ => (decodePart (.a (BitVec.ofNat 40 w))).toOption
  else if nbits = 64 then (decodePart (.v (BitVec.ofNat 64 w))).toOption
  else none

end Sys2Proof
end

