-- ==== Sys2Proof/Config.lean ====
section
/-!
DEFINITION. What the spec fixes once for the device (01_machine Tables 1.1 to 1.3, 05 Table 5.2, 14 R371), and the free
values: results the spec does not give, each an opaque constant with no body, so that nothing can be proved of its value.
-/

namespace Sys2Proof.Config

/-- Cores of the package (01 R13). -/
def cores : Nat := 160
/-- Group slots of a core (01 R14). -/
def groupSlots : Nat := 8
/-- Bytes of the hamper (01 R15). -/
def hamperBytes : Nat := 12 * 1024 * 1024
/-- Bytes of HBM that programs can address: 1,056 GiB (01 R18). A physical address at or above it exists nowhere (log 12). -/
def hbmBytes : Nat := 1056 * 1024 * 1024 * 1024
/-- Panes of a core's array (01 R14). -/
def panes : Nat := 4
/-- Streams of a group (05 R134). -/
def streams : Nat := 16
/-- Depth of a slot queue (02 R32). -/
def slotDepth : Nat := 16
/-- Depth of an address queue (05 Table 5.2). -/
def addrDepth : Nat := 32
/-- Depth of a data queue (05 Table 5.2). -/
def dataDepth : Nat := 8
/-- Read tags of a core (05 Table 5.2). -/
def readTags : Nat := 1024
/-- Write tags of a core (05 Table 5.2). -/
def writeTags : Nat := 512
/-- Entries of an engine's, a core's and a die's translation cache (14 R371). -/
def engineEntries : Nat := 64
def coreEntries : Nat := 2048
def dieEntries : Nat := 16384
/-- Walks in flight on a die (14 R373). -/
def walks : Nat := 256
/-- Clocks a lease grant lasts, and its budget of steps (08 R221). -/
def leaseClk : Nat := 16384
def leaseBudget : Nat := 64

/-- The result of a lamp test, true for a pass (14 R385, R393: the outcome is the unit's, log 16). -/
opaque freeLamp : Nat → Bool
/-- The signature that the policy processor makes over a report's fields, by the one-time key's index (22 R444, R445; log 15). -/
opaque freeSignature : List Nat → Nat → Nat
/-- The bytes of an attestation report from byte 96 on: the spec gives the order of its fields and not their widths (22 R445; log 15). -/
opaque freeReport : List Nat → Nat → BitVec 8
/-- Whether the signature of a firmware image verifies under the fused key (22 R440; log 15). -/
opaque freeVerify : List Byte → Bool
/-- The VERSION of a firmware image: the spec does not lay out an image (22 R440; log 15). -/
opaque freeVersion : List Byte → Nat
/-- The FLOOR of a firmware image (22 R440; log 15). -/
opaque freeFloor : List Byte → Nat
/-- Whether the product of an infinity and a zero, added to a quiet NaN, raises NV (log 24). -/
opaque freeInvalid : Bool
/-- A transcendental's last unit where the enclosure of log 11 does not separate the two neighbours. -/
opaque freeRound : Nat → Bool

/-- The hamper bank that holds a hamper offset, which the spec does not lay out (14 R385, R393; log 55). -/
opaque hamperBank : Nat → Nat

/-- Values the spec leaves open, one for each count of `State.free` (log 23). -/
opaque freeNat : Nat → Nat
/-- Values the spec leaves open that are the same in every run of a program: each by what it is the value of, a leaf, a wick, an issue and
a step (01 R27, log 23). -/
opaque freeOf : List Nat → Nat

end Sys2Proof.Config
end

