-- ==== Sys2Proof/Machine/State.lean ====
section
/-!
DEFINITION. The state of the whole device as plain data: its groups, cores, dies, tasks, queues and registers
(02_bundles Table 2.3 and the class chapters), the reasons a step may stop, and the state after reset.
-/

namespace Sys2Proof.Machine

/-- A sparse map from a number to a value: keys strictly rising, no entry equal to what an unlisted key reads as. -/
abbrev SMap (α : Type) := List (Nat × α)

/-- Memory by physical address (01 R16): an unlisted address reads as the byte 0 (log 3). -/
abbrev Mem := List Host.Cell

/-- A place of the ember queue: filled, or awaiting the completion of the part that took it (04 R100). -/
inductive Ember where
  | filled (w : Word)
  | awaiting (id : Nat)
deriving DecidableEq, Repr

/-- A latch place: empty, awaiting its fill, or filled (02 R40). -/
inductive Latch where
  | empty
  | awaiting (id : Nat)
  | filled (r : Row)
deriving DecidableEq, Repr

/-- The mark of poisoned data: the unit code of 14 Table 14.8 and the address of the data (05 R150). -/
structure Poison where
  unit : Nat
  addr : Nat
deriving DecidableEq, Repr

/-- A vector register: its bits, and its poison mark where it holds poisoned data (02 R39, 05 R150). -/
structure VReg where
  val : Row
  poison : Option Poison
deriving DecidableEq, Repr

/-- A loop-stack entry (04 Table 4.1); START and END are byte addresses. -/
structure LoopEntry where
  start : Nat
  stop  : Nat
  drain : Nat
  count : Nat
  index : Nat
deriving DecidableEq, Repr

/-- A range-guard register (03 Table 3.4). -/
structure Guard where
  lower  : Word
  upper  : Word
  mode   : BitVec 8
  sticky : Bool
  count  : Nat
deriving DecidableEq, Repr

/-- A slot part dispatched and not yet issued (02 R32): its bundle's address, its place in program order, the bundle's
header and T word, whether the bundle is a switch point (02 R40), and whether it is a full sync (02 R36, 04 R102). -/
structure Part where
  addr : Nat
  seq  : Nat
  hdr  : BitVec 16
  tw   : BitVec 16
  sw   : Bool
  full : Bool
  word : PartWord
deriving DecidableEq, Repr

/-- A dispatched bundle whose header still has an action of its own to do (04 R105, R107), with the value that its rotation gives p8:
that of the loop stack from before the bundle (log 22). -/
structure HdrEntry where
  addr : Nat
  seq  : Nat
  rs   : Bool
  rotated : Bool
  le   : Bool
  p8   : Bool
deriving DecidableEq, Repr

/-- What a part still unissued of a bundle in part issued reads: the predicates and the flags from before the bundle (02 R34). -/
structure Before where
  seq   : Nat
  p     : List Bool
  flags : BitVec 6
deriving DecidableEq, Repr

/-- An issued S or V part whose result is not yet written (04 R100, 02 R40, 03 R73): where it goes, the value, the
places it fills and the flags it raises. -/
structure InFlight where
  id    : Nat
  seq   : Nat
  n     : Option (Nat × Word)
  p     : Option (Nat × Bool)
  ember : Option Word
  vecs  : List (Nat × Row)
  latch : Option Row
  push  : Option (Nat × Row)
  flags : BitVec 6
deriving DecidableEq, Repr

/-- Where a piece of an access lies: device memory by physical address, host memory by host address, or the scratchpad
by hamper offset (05 R130, R132, R148). -/
inductive PSpace where
  | dev | host | pad
deriving DecidableEq, Repr

/-- The part of an access that falls in one 16-byte granule (05 R141): its place in the access and where it lies. -/
structure Piece where
  off   : Nat
  len   : Nat
  space : PSpace
  pa    : Nat
  va    : Nat
  done  : Bool
deriving DecidableEq, Repr

/-- Which access an entry of a stream's address queues is (05 R134, Table 5.3, Table 5.5; 06 R173). -/
inductive AccKind where
  | load | loadNA | loadBP | loadG
  | store | storeNA | storeBP | storeS
  | monw | atomic (op : Nat) (ret : Bool)
deriving DecidableEq, Repr

/-- Where a load delivers (05 R136). -/
inductive LoadDst where
  | reg (code : Nat) | queue | discard
deriving DecidableEq, Repr

/-- An entry of a stream's address queues, with its translated address (05 R134). At a trap, `rel` keeps the distance of its bundle from
the base PC (04 R112; nested traps apart). -/
structure Access where
  ord    : Nat
  seq    : Nat
  stream : Nat
  kind   : AccKind
  ea     : Nat
  size   : Nat
  pieces : List Piece
  dst    : LoadDst
  wl     : Bool
  dk     : Bool
  data   : Option Row
  cmp    : BitVec 128
  val    : BitVec 128
  scope  : Nat
  ne     : Bool
  granted : Bool
  got    : Row
  poison : Option Poison
  sat    : Bool
  rel    : Option (Bool × Nat)
deriving DecidableEq, Repr

/-- What an ordering instruction in force waits for (06 R173). -/
inductive FenceNeed where
  /-- The reads selected are performed (ACQ). -/
  | reads
  /-- Every access selected is performed (MARK). -/
  | performed
  /-- The reads selected are performed and the writes acknowledged (Release). -/
  | released
deriving DecidableEq, Repr

/-- An ordering instruction in force: it selects accesses before `ord` and holds accesses after it (06 R173). -/
structure Fence where
  ord    : Nat
  need   : FenceNeed
  select : BitVec 16
  also   : Option Nat
  host   : Bool
  hold   : BitVec 16
  holdLoads : Bool
  mark   : Bool
  inval  : Bool
deriving DecidableEq, Repr

/-- One entry of a load-data queue (05 R134, R136). -/
structure DataEnt where
  row    : Row
  poison : Option Poison
deriving DecidableEq, Repr

/-- A production of a token (02 R38, 11 R291): the instructions still to complete, and whether it failed. At a trap,
`rel` keeps the distance of its bundle from the base PC (04 R112; nested traps apart). -/
structure Prod where
  id     : Nat
  tk     : Nat
  seq    : Nat
  left   : Nat
  failed : Bool
  rel    : Option (Bool × Nat)
deriving DecidableEq, Repr

/-- A scale write not yet visible to every reader (03 R81, R82). -/
structure ScaleWrite where
  seq : Nat
  reg : Nat
  val : Scales
deriving DecidableEq, Repr

/-- A pending asynchronous trap (14 R363). -/
structure PendTrap where
  info : Nat
  addr : Nat
  mult : Bool
deriving DecidableEq, Repr

/-- The answers to a fault record (14 R367). -/
inductive Answer where
  | resume | skip | abort
deriving DecidableEq, Repr

/-- A stopped group's record (14 R365 to R367): base PC and skew of the trap, its serial on the exception queue of
`queue`, and an answer that arrived while the group was saved. -/
structure StopRec where
  base   : Nat
  skew   : Word
  hskip  : Nat
  pOld   : Option Before
  code   : Nat
  serial : Nat
  queue  : Nat
  abortOnly : Bool
  answer : Option Answer
deriving DecidableEq, Repr

/-- A dyadic number num × 2^exp, exact (10 R266). -/
structure Dyad where
  num : Int
  exp : Int
deriving DecidableEq, Repr

/-- An exact value of an attention sum: NaN, an infinity, or a dyadic number (10 R266, R269). -/
inductive EVal where
  | nan
  | inf (neg : Bool)
  | fin (d : Dyad)
deriving DecidableEq, Repr

/-- A partial triple of attention (10 R266, R269): m (none is −∞), l, o, and whether a score was NaN or +∞. -/
structure Triple where
  m   : Option Dyad
  l   : Dyad
  o   : List EVal
  bad : Bool
deriving DecidableEq, Repr

/-- A byte range of a footprint: space (0 global, 1 scratchpad, 2 accumulator), first byte, length (09 R241). -/
structure Range where
  space : Nat
  lo    : Nat
  len   : Nat
deriving DecidableEq, Repr

/-- A guard as a long instruction captured it (03 R87). -/
structure CapGuard where
  g     : Nat
  lower : Word
  upper : Word
  mode  : BitVec 8
deriving DecidableEq, Repr

/-- What a started tile step will commit as one unit (09 R244): memory elements by bit address, width and code,
accumulator entries, guard counts, flags, the carry kept between steps, and the wick's LIVE and OOB. -/
structure StepOut where
  step   : Nat
  mem    : List (Nat × Nat × Nat)
  acc    : List (Nat × Word)
  guards : List (Nat × Nat)
  trapGuard : Option Nat
  flags  : BitVec 6
  live   : Bool
  oob    : Bool
  carry  : List Triple
  topk   : List (Nat × List (Nat × Nat))
deriving DecidableEq, Repr

/-- How a running long instruction is to stop at its next step boundary (09 R249, R259, 13 R345). -/
inductive SeqStop where
  | none | drop | cancel | preempt
deriving DecidableEq, Repr

/-- A copy of a sequencer, counted by COUT and CSEQ (09 R243): copy `peer` of the operands of step `chunk`, discarded unless `live`; or
an unacknowledged send of a chunk to a member of a collective (12 R314). -/
structure SeqCopy where
  num  : Nat
  peer : Nat
  chunk : Nat
  live : Bool
deriving DecidableEq, Repr

/-- What a completed copy of a sequencer fetched for a step (09 R243): its bytes by address, an error it met, and the hamper bytes that
hold them, a fill that a program's write ends. -/
structure FetchBuf where
  step : Nat
  copy : Nat
  data : List (Nat × Byte)
  bad  : Option Poison
  fill : Nat
  off  : Nat
  len  : Nat
deriving DecidableEq, Repr

/-- A contribution received for a collective (12 R306, R313), with the flags of a chunk formed elsewhere, and the fill of the buffer that
holds it. -/
structure Contribution where
  chunk : Nat
  src   : Nat
  data  : List Byte
  flags : BitVec 6
  fill  : Nat
  off   : Nat
deriving DecidableEq, Repr

/-- The sequencer's own record of a wick's long instruction (09 R240, R241, R251; 10 R273, R277; 12 R313): the place of its issue, the
descriptor block and the lists it read, the captured guards, the footprint, the next step whose operands it fetches and what is
fetched, whether step DONE has been tried and the lowest address that faulted then, the lowest that faulted in the copies for the step
after a running one (`ahead`), whether the next run reads the block again, the page whose service XRES asks, the running step, the
carry and the fill that holds it, the copies or sends outstanding, the
contributions and agreements received, and the buffers still to acknowledge. -/
structure Sequencer where
  desc   : List Byte
  list   : List Byte
  aux    : List Byte
  guards : List CapGuard
  reads  : List Range
  writes : List Range
  issue  : Nat
  asked  : Nat
  bufs   : List FetchBuf
  tried  : Bool
  faulted : Option (Nat × Bool)
  ahead  : Option (Nat × Bool)
  fresh  : Bool
  service : Option (Nat × Bool)
  faultWr : Bool
  run    : Option StepOut
  stop   : SeqStop
  carry  : List Triple
  carryTag : Option Nat
  topk   : List (Nat × List (Nat × Nat))
  copies : List SeqCopy
  nextNum : Nat
  got    : List Contribution
  agreed : List Nat
  acks   : List Nat
  acked  : Nat
  dropped : Nat
  /-- The model's own: since when an array kind's step has lacked only its panes (08 R222). -/
  readyAt : Option Nat
deriving DecidableEq, Repr

/-- A wick: its architected fields (09 Table 9.6; the array kinds' captured MCFG fields as written there) and its
sequencer's record. -/
structure Wick where
  desc   : Nat
  kind   : Nat
  total  : Nat
  done   : Nat
  cseq   : Nat
  cout   : Nat
  ncol   : Nat
  arows  : Nat
  arbase : Nat
  apane  : Nat
  kcnt   : Nat
  psplit : Nat
  fz     : Bool
  live   : Bool
  oob    : Bool
  status : Nat
  ecode  : Nat
  fva    : Nat
  lidx   : List Nat
  seq    : Option Sequencer
deriving DecidableEq, Repr

/-- A wick at group start: IDLE, every field zero (02 Table 2.3, 09 Table 9.6). -/
def Wick.idle : Wick := ⟨0, 0, 0, 0, 0, 0, 0, 0, 0, 0, 0, 0, false, false, false, 0, 0, 0, [0, 0, 0, 0, 0, 0], none⟩

/-- A group's identity: its task and its leaf index (13 R323). -/
structure GId where
  task : Nat
  leaf : Nat
deriving DecidableEq, Repr

/-- The record of a trap entry a handler returns through (14 R364): the header-queue place besides TRAP.PC and
TRAP.SKEW (log 22). -/
structure TrapRegs where
  pc    : Nat
  skew  : Word
  hskip : Nat
  pOld  : Option Before
  cause : Word
  addr  : Word
  vec   : Word
  inh   : Bool
  save  : List Word
  dataErr  : Option PendTrap
  rangeErr : Option PendTrap
deriving DecidableEq, Repr

/-- Memory as a MONW at .g entered its queue: the MONW's place in order, its bundle and its stream (17 R418; log 92). -/
structure PastMem where
  ord    : Nat
  seq    : Nat
  stream : Nat
  mem    : Mem
deriving DecidableEq, Repr

/-- Everything a group owns (02 Table 2.3, 04, 05, 08, 09, 13 Table 13.3, 14); `longs` counts its long instructions, the model's own (01 R27). -/
structure Group where
  gid   : GId
  cls   : Nat
  win   : Nat
  asid  : Nat
  n     : List Word
  e     : List Ember
  p     : List Bool
  pOld  : Option Before
  a     : List Word
  f     : List Word
  vregs : SMap VReg
  lat   : List Latch
  held  : List Latch
  c     : List Scales
  cbuf  : List ScaleWrite
  cheld : List ScaleWrite
  toks  : List Prod
  guards : List Guard
  wicks : List Wick
  mcfg  : Word
  lm    : BitVec 4
  gm    : BitVec 4
  budget : Nat
  granted : Nat
  wb    : Nat
  wc    : Nat
  pc    : Nat
  fetchHold : Bool
  loops : List LoopEntry
  spill : List Byte
  spillLim : Nat
  fpflags : BitVec 6
  seq   : Nat
  ids   : Nat
  qs    : List Part
  qa    : List Part
  qv    : List Part
  qm    : List Part
  qc    : List Part
  qk    : List Part
  qh    : List HdrEntry
  skip  : List Nat
  hskip : Nat
  fly   : List InFlight
  ord   : Nat
  loads  : List Access
  stores : List Access
  ldata  : List (List DataEnt)
  sdata  : List (List Row)
  fences : List Fence
  trap  : TrapRegs
  stop  : Option StopRec
  yielded : Option Nat
  waiters : List Nat
  readySince : Option Nat
  promoted : Bool
  ended : Bool
  tailed : Bool
  preempt : Bool
  landed : Bool
  snuffed : Bool
  hostUnacked : List Nat
  started : Bool
  lost   : Bool
  longs  : Nat
  /-- The model's own: what a load after a MONW at .g may still be served from (17 R418; log 92). -/
  past   : Option PastMem
deriving DecidableEq, Repr

/-- A stage of a matrix step on the array (08 R224). -/
inductive StepStage where
  | waiting | running
deriving DecidableEq, Repr

/-- Which matrix instruction a step is (08 R232, R233). -/
inductive StepKind where
  | step | zero | transposed | clear
deriving DecidableEq, Repr

/-- An issued matrix step with what it captured (08 R217, R220, R224), and the error that its feed read met (08 R226). -/
structure MatStep where
  id    : Nat
  gid   : GId
  slot  : Nat
  kind  : StepKind
  cfg   : Word
  fa    : Nat
  fb    : Nat
  scA   : List Nat
  scB   : List Nat
  prod  : Option Nat
  waits : List Nat
  stage : StepStage
  tiles : List (List Byte × List Byte)
  err   : Option Poison
  /-- The model's own: since when the step has lacked only its panes (08 R222). -/
  readyAt : Option Nat
deriving DecidableEq, Repr

/-- A request for panes (08 R222): a group's lease, or a tile-step run of one of its wicks; whether arbitration has chosen it, and the
slots granted since it came first of its own slot. -/
structure PaneReq where
  slot  : Nat
  wick  : Option Nat
  panes : BitVec 4
  since : Nat
  chosen : Bool
  passed : List Nat
deriving DecidableEq, Repr

/-- What an entry of a copy channel is (11 R285). -/
inductive CopyKind where
  | copy | chain | stamp
deriving DecidableEq, Repr

/-- The end a stopped copy reached (11 R290): STATUS, ECODE, BDONE. -/
structure CopyEnd where
  status : Nat
  ecode  : Nat
  bdone  : Nat
deriving DecidableEq, Repr

/-- A write piece of a chunk still to be performed: the granule's place and address, and the bytes with their addresses in sequence
order; the accumulator and scratchpad windows go by address (11 R288, R289). -/
structure CopyPut where
  space : PSpace
  pa    : Nat
  va    : Nat
  bytes : List (Nat × Byte)
deriving DecidableEq, Repr

/-- A copy, chain or STAMP entry (11 R285 to R301): `got` holds what the chunk in work has read, `puts` its writes still to be
performed; `faulted` says that the chunk met a page that it must begin again for (R294), `seen` is a parked record's first granule as it
was read (R299). -/
structure CopyJob where
  id    : Nat
  owner : Option GId
  node  : Option (Nat × Nat)
  asid  : Nat
  ch    : Nat
  kind  : CopyKind
  recAddr : Nat
  record  : List Byte
  start : Nat
  next  : Nat
  prod  : Option Nat
  waits : List Nat
  oob   : Bool
  parked : Bool
  loaded : Bool
  ended : Option CopyEnd
  keepOwn : Bool
  noStamp : Bool
  cut   : Option Nat
  got   : List (Nat × Byte)
  puts  : List CopyPut
  faulted : Bool
  seen  : List Byte
deriving DecidableEq, Repr

/-- A held address of CPYQ selection 1 (11 R302). -/
structure CopyHeld where
  gid  : GId
  ch   : Nat
  addr : Nat
deriving DecidableEq, Repr

/-- A copy engine: a core's, or a die's front-end channels (11 R285, 15 R401). -/
structure CopyEngine where
  queue : List CopyJob
  runs  : List CopyJob
  held  : List CopyHeld
deriving DecidableEq, Repr

/-- A translation-cache entry (14 R371): its page's base, size as a power of two, frame, and rights. -/
structure TransEnt where
  asid : Nat
  va   : Nat
  bits : Nat
  pa   : Nat
  w    : Bool
  rdup : Bool
  host : Bool
deriving DecidableEq, Repr

/-- A walk of a die that has not ended in a translation, in order of arrival, with the units whose misses are merged into it, and whether
reads and writes are among them (14 R373, R374). -/
structure DemandFault where
  units : List XUnit
  asid : Nat
  va   : Nat
  wr   : Bool
  rd   : Bool
deriving DecidableEq, Repr

/-- A line of an entry buffer: bytes 0 to 15 of a block-table entry under its key (10 R271). -/
structure EntryLine where
  asid : Nat
  sq   : Nat
  b    : Nat
  val  : BitVec 128
deriving DecidableEq, Repr

/-- An overlay resident in a core's instruction store: its tag, its bytes, when it was last fetched from, whether the fetch it was
loaded for is served (13 R339), and whether an uncorrectable error lies in it (14 R383). -/
structure Overlay where
  image : Nat
  asid  : Nat
  index : Nat
  base  : Nat
  bytes : List Byte
  used  : Nat
  served : Bool
  bad   : Bool
deriving DecidableEq, Repr

/-- An image whose header and table a core has checked, and its TRAP.VEC (13 R337, R338, 14 R364). -/
structure ImageTag where
  image : Nat
  asid  : Nat
  vec   : Nat
deriving DecidableEq, Repr

/-- Hamper bytes as a sequencer left them: a fetch, a carry area or a contribution received, which any later write ends (09 R243,
R250). -/
structure PadFill where
  id  : Nat
  off : Nat
  len : Nat
deriving DecidableEq, Repr

/-- A pre-empted task's saved scratchpad on a core (13 R334): its bytes from offset 0 of the hamper, its lit granules, its error
marks and its sequencers' fills. -/
structure PadImage where
  task   : Nat
  bytes  : Mem
  lit    : List Nat
  poison : List Nat
  fills  : List PadFill
deriving DecidableEq, Repr

/-- A core (01 Table 1.1); `rows` holds the first rows of the accumulator windows reserved for its task's groups (13 R325), `paneBad` the
panes in error at their next step (14 R381). -/
structure Core where
  slots  : List (Option Group)
  task   : Option Nat
  taken  : Bool
  bnd0   : Nat
  bnd1   : Nat
  bnd2   : Nat
  rows   : List Nat
  hamper : Mem
  padPoison : List Nat
  lit    : List Nat
  fills  : List PadFill
  l1     : SMap (BitVec 256)
  acc    : SMap Word
  accPoison : List Nat
  paneBad : List Nat
  steps  : List MatStep
  reqs   : List PaneReq
  runPanes : List PaneReq
  leaseRR : Nat
  copy   : CopyEngine
  tcAccess : List TransEnt
  tcCopy : List TransEnt
  tcSeq  : List TransEnt
  tc     : List TransEnt
  entries : List EntryLine
  store  : List Overlay
  images : List ImageTag
  tracker : List Group
  saved  : List Group
  savedPad : List PadImage
  lastSlot : Nat
  lastClk : Option Nat
  tagRR  : Nat
deriving DecidableEq, Repr

/-- A slice's lantern: its translation cache, its entry buffer, and an error that the next block it serves meets (10 R271, R278, 14
R371, R381). -/
structure Lantern where
  tc      : List TransEnt
  entries : List EntryLine
  bad     : Bool
deriving DecidableEq, Repr

/-- A lantern with nothing held. -/
def Lantern.idle : Lantern := ⟨[], [], false⟩

/-- A page-table root of a die for an address space (14 R372). -/
structure Root where
  asid : Nat
  pa   : Nat
deriving DecidableEq, Repr

/-- A die: its translation cache, roots, demand faults, refusals, walks that await the host's ATS translation or its answer to a page
request (14 R375), the host's translations that it has got and that no invalidation took back, its front-end copy channels, and its
junction temperature in °C (22 R438). -/
structure Die where
  tc     : List TransEnt
  roots  : List Root
  faults : List DemandFault
  refused : List DemandFault
  ats    : List DemandFault
  pri    : List DemandFault
  granted : List TransEnt
  copy   : CopyEngine
  temp   : Nat
deriving DecidableEq, Repr

/-- One level of a launch record (13 Table 13.1). -/
structure Level where
  count  : Nat
  domain : Nat
  mscope : Nat
deriving DecidableEq, Repr

/-- A declared range of a launch record (13 Table 13.1). -/
structure DeclRange where
  base : Nat
  size : Nat
  mode : Nat
deriving DecidableEq, Repr

/-- An entry of a captured guard block (13 R447). -/
structure GuardInit where
  lower : Word
  upper : Word
  mode  : BitVec 8
  set   : Bool
deriving DecidableEq, Repr

/-- A launch record as a task captured it (13 Table 13.1). -/
structure Launch where
  image  : Nat
  arows  : Nat
  win    : Nat
  cls    : Nat
  ser    : Bool
  reload : Bool
  entry  : Nat
  bnd0   : Nat
  bnd1   : Nat
  bnd2   : Nat
  scope  : Nat
  deadline : Nat
  donea  : Nat
  levels : List Level
  ranges : List DeclRange
  args   : List Word
  guards : List GuardInit
deriving DecidableEq, Repr

/-- The queue a task was enqueued on (13 R324): its spawning group, or a command queue. -/
inductive TaskQueue where
  | group (g : GId)
  | command (q : Nat)
deriving DecidableEq, Repr

/-- Where a task stands (13 R324, R332, R342). -/
inductive TaskState where
  | queued | running | preempted | ended
deriving DecidableEq, Repr

/-- An error-log entry (14 Table 14.9). -/
structure ErrEntry where
  addr  : Nat
  slice : Nat
  core  : Nat
  cls   : Nat
  kind  : Nat
  unit  : Nat
deriving DecidableEq, Repr

/-- A task from its enqueueing to its end (13); `victims` are the tasks whose cores are taken for it (13 R332). -/
structure Task where
  id     : Nat
  launch : Launch
  asid   : Nat
  queue  : TaskQueue
  rootQ  : Nat
  node   : Option (Nat × Nat)
  home   : Nat
  dies   : Nat
  outing : Bool
  order  : Nat
  state  : TaskState
  wasPreempted : Bool
  deadline : Option Nat
  scope  : Nat
  cores  : List Nat
  admitted : Nat
  todo   : List (Nat × Nat)
  left   : Nat
  log    : List ErrEntry
  errCnt : Nat
  endCode : Nat
  acked  : Bool
  victims : List Nat
deriving DecidableEq, Repr

/-- The states of a cancel scope (13 R344). -/
inductive ScopeState where
  | opened | closed | snuffed
deriving DecidableEq, Repr

/-- A live cancel scope (13 R343, R349): its parent and the task that created it, 0 for none, and its tied barriers by
physical address. -/
structure Scope where
  id     : Nat
  parent : Nat
  maker  : Nat
  state  : ScopeState
  barriers : List Nat
deriving DecidableEq, Repr

/-- A SNUFF in progress (13 R345, R346): its scopes, the sites it has reached, the groups, copies and tasks it must still see
to their ends, its counts, later acks that wait for it, and barriers of its scopes that ceased to be live. -/
structure Snuff where
  id     : Nat
  scope  : Nat
  scopes : List Nat
  ack    : Nat
  asid   : Nat
  rootQ  : Nat
  reached : List SnuffSite
  tasks  : List Nat
  removed : Nat
  stopped : Nat
  cut    : Nat
  refused : Nat
  performed : Nat
  dropped : Nat
  followers : List (Nat × Nat)
  barriers : List Nat
deriving DecidableEq, Repr

/-- A node's outcome (15 R399). -/
inductive NodeOutcome where
  | done | failed | skipped
deriving DecidableEq, Repr

/-- A fetched node of a command queue (15 R398 to R403); `result` is what its work came to, `outcome` its final outcome. -/
structure Node where
  slot   : Nat
  record : List Byte
  succ   : List Nat
  ran    : Nat
  skips  : Nat
  pending : Nat
  fired  : Bool
  result : Option NodeOutcome
  outcome : Option NodeOutcome
  task   : Nat
  iter   : Nat
  owned  : Bool
deriving DecidableEq, Repr

/-- The state of a queue (15 Table 15.1). -/
inductive QueueState where
  | run | stalled | aborted
deriving DecidableEq, Repr

/-- A queue event awaiting its answer (15 R405). -/
structure QueueEvent where
  code   : Nat
  slot   : Nat
  addr   : Nat
  serial : Nat
  word   : List Byte
deriving DecidableEq, Repr

/-- A record waiting for room in an exception ring (15 R405). -/
structure Posting where
  serial : Nat
  quads  : List Word
deriving DecidableEq, Repr

/-- A registered command queue (15 R396). -/
structure CmdQueue where
  q      : Nat
  ctx    : Nat
  ring   : Nat
  rs     : Nat
  ering  : Nat
  ers    : Nat
  pasid  : Nat
  cmin   : Nat
  home   : Nat
  pmask  : Nat
  root   : Nat
  state  : QueueState
  /-- The model's own: STATE stands still to be written into the context. -/
  stateDue : Bool
  fetched : Nat
  cons   : Nat
  prod   : Nat
  eqp    : Nat
  serial : Nat
  events : List QueueEvent
  posts  : List Posting
  nodes  : List Node
  early  : List (Nat × NodeOutcome)
deriving DecidableEq, Repr

/-- A firmware slot of the non-volatile store: an image, its VERSION and FLOOR, and whether its signature verifies (22 R440, R441,
R443). -/
structure FwSlot where
  image   : List Byte
  version : Nat
  floor   : Nat
  signed  : Bool
deriving DecidableEq, Repr

/-- An attestation report (22 R445); its fields in their order. -/
structure Report where
  nonce   : BitVec 256
  booted  : BitVec 256
  other   : BitVec 256
  slot    : Nat
  version : Nat
  floor   : Nat
  rank    : Nat
  part    : Word
  cap     : Word
  index   : Nat
  signature : Nat
deriving DecidableEq, Repr

/-- The device's own store, registers and boot state (22). `slot` to `ptm` are lost at a reset; `nvFloor` to `idPub` are the
non-volatile store and what is fixed at manufacture: the stepping and the identity key that the host reads at ID.PUB (R444); `throt` says
that the last sample of power exceeded the rating (R437). -/
structure Platform where
  phase  : Nat
  slot   : Nat
  fail0  : Bool
  fail1  : Bool
  throt  : Bool
  trip   : Bool
  perr   : Bool
  deny   : Nat
  part   : Word
  rank   : Nat
  pth    : List Nat
  qcmd   : Word
  qarg0  : Word
  qarg1  : Word
  mboxCmd : Word
  mboxBusy : Bool
  mboxRes : Nat
  staging : Mem
  nonce  : BitVec 256
  attCmd : Word
  attStat : Nat
  attRun : Bool
  report : Option Report
  ptm    : Option (Nat × Nat)
  nvFloor : Nat
  nvKey  : Nat
  nvRank : Nat
  nvPart : Word
  slots  : List FwSlot
  stepping : Nat
  idPub  : BitVec 512
deriving DecidableEq, Repr

/-- A lamp test still to run: the unit, and the task and the log entry that it classes (14 R385). -/
structure LampJob where
  unit : LampUnit
  task : Nat
  entry : ErrEntry
deriving DecidableEq, Repr

/-- Where an uncorrectable error arises (14 R380, R381): a part of an HBM stripe, part 11 the parity, a granule of a home slice, of a
hamper, an accumulator entry, a pane at the steps that run on it, a lantern at what it serves next, a vector register, an overlay of a
core's instruction store, or the saved state of a pre-empted group (14 R383). -/
inductive Upset where
  | pane (core p : Nat)
  | lantern (slice : Nat)
  | part (stripe n : Nat)
  | granule (k unit : Nat)
  | pad (core k : Nat)
  | acc (core k : Nat)
  | vreg (g : GRef) (code : Nat)
  | store (core k : Nat)
  | saved (core : Nat) (id : GId)
deriving DecidableEq, Repr

/-- Which agent acts in a turn: a group's slot issuing its oldest part, an event of another agent, the host writing host memory or
device memory over PCIe, the memory-management processor setting a die's page-table root (14 R372), an error of a memory cell, an LLC
slice evicting a line (05 R146), or a die's temperature as measured (22 R438) (log 1). -/
inductive Act where
  | part (g : GRef) (unit : Slot)
  | event (i : Instr)
  | hostWrite (dev : Bool) (addr : Nat) (bytes : List Byte)
  | root (die asid : Nat) (pa : Option Nat)
  | upset (u : Upset)
  | evict (line : Nat)
  | temperature (die celsius : Nat)
deriving DecidableEq, Repr

/-- One entry of the agenda: the clocks that pass before it, and what acts (log 1, log 7). -/
structure Turn where
  clk : Nat
  act : Act
deriving DecidableEq, Repr

/-- The state of the whole device. `poison` holds the granules in error at their home slices with their unit codes (14 R382); `hbmBad`
the parts of HBM stripes that fail SEC-DED, `healed` the granules written whole since (14 R380); `llc` the lines of the LLC slices by
line number, bits [3:0] the sectors held and [7:4] those dirty (05 R146, R147). `agenda` and `cur` are the model's own: which agent
moves next (log 1); `gone` are freed scopes that were snuffed, until their index is taken again (13 R343, 21 R435; log 10); `fetchRR` is the
queue that the fetcher served last (15 R405). `free` counts the free values taken (log 23). `joint`, none between steps, is the bundle whose
parts a sync issues in this clk, judged together (02 R35; log 64). -/
structure State where
  clk    : Nat
  cores  : List Core
  dies   : List Die
  lanterns : List Lantern
  mem    : Mem
  host   : Mem
  poison : SMap Nat
  hbmBad : List (Nat × Nat)
  healed : List Nat
  llc    : SMap Nat
  lamps  : List LampJob
  withdrawn : List LampUnit
  tasks  : List Task
  scopes : List Scope
  scopeGen : List (Nat × Nat)
  gone   : List Nat
  snuffs : List Snuff
  queues : List CmdQueue
  fetchRR : Nat
  ids    : Nat
  order  : Nat
  plat   : Platform
  cur    : GRef
  agenda : List Turn
  free   : Nat
  joint  : Option Nat
deriving DecidableEq, Repr

/-- Why a step stops. -/
inductive Fault where
  /-- A translation names a physical address at or above 1,056 GiB, which does not exist (01 R18): raised by the
  page walk that finds it. Safe: the model stops where the spec gives no memory. -/
  | absentPhysical
deriving DecidableEq, Repr

/-- Why an instruction has no meaning in this model. -/
inductive Refusal where
  /-- Not modelled yet, by mnemonic: raised by exec's arm alone. Safe: nothing is claimed of it. -/
  | notModelled (mnemonic : String)
deriving DecidableEq, Repr

/-- A copy engine with nothing queued (11 R285). -/
def CopyEngine.idle : CopyEngine := ⟨[], [], []⟩

/-- A core right after reset: no group seated, the hamper unread (log 3), no lease, all caches empty. -/
def Core.reset : Core where
  slots := List.replicate 8 none
  task := none
  taken := false
  bnd0 := 0
  bnd1 := 0
  bnd2 := 0
  rows := []
  hamper := []
  padPoison := []
  lit := []
  fills := []
  l1 := []
  acc := []
  accPoison := []
  paneBad := []
  steps := []
  reqs := []
  runPanes := []
  leaseRR := 7
  copy := CopyEngine.idle
  tcAccess := []
  tcCopy := []
  tcSeq := []
  tc := []
  entries := []
  store := []
  images := []
  tracker := []
  saved := []
  savedPad := []
  lastSlot := 7
  lastClk := none
  tagRR := 127

/-- A die right after reset. -/
def Die.reset : Die where
  tc := []
  roots := []
  faults := []
  refused := []
  ats := []
  pri := []
  granted := []
  copy := CopyEngine.idle
  temp := 0

/-- The platform right after reset (22 Tables 22.3, 22.4): phase RESET, no slot booted, PTH all ones; what the spec
gives no value for is named in log 20. -/
def Platform.reset : Platform where
  phase := 0
  slot := 3
  fail0 := false
  fail1 := false
  throt := false
  trip := false
  perr := false
  deny := 0
  part := 0x8421#64
  rank := 0
  pth := [0xFFFFFFFF, 0xFFFFFFFF, 0xFFFFFFFF, 0xFFFFFFFF]
  qcmd := 0#64
  qarg0 := 0#64
  qarg1 := 0#64
  mboxCmd := 0#64
  mboxBusy := false
  mboxRes := 0
  staging := []
  nonce := 0#256
  attCmd := 0#64
  attStat := 0
  attRun := false
  report := none
  ptm := none
  nvFloor := 0
  nvKey := 0
  nvRank := 0
  nvPart := 0x8421#64
  slots := [⟨[], 0, 0, false⟩, ⟨[], 0, 0, false⟩]
  stepping := 0
  idPub := 0#512

/-- The device right after reset: TIME zero (02 Table 2.4), no task, no group, memory with nothing listed. -/
def State.reset : State where
  clk := 0
  cores := List.replicate 160 Core.reset
  dies := List.replicate 4 Die.reset
  lanterns := List.replicate 64 Lantern.idle
  mem := []
  host := []
  poison := []
  hbmBad := []
  healed := []
  llc := []
  lamps := []
  withdrawn := []
  tasks := []
  scopes := []
  scopeGen := []
  gone := []
  snuffs := []
  queues := []
  fetchRR := 4095
  ids := 1
  order := 0
  plat := Platform.reset
  cur := ⟨0, 0⟩
  agenda := []
  free := 0
  joint := none

end Sys2Proof.Machine
end

