-- ==== Sys2Proof/Machine/Ops.lean ====
section
/-!
DEFINITION. The named operations over the state: sparse maps and memory, the places of cores, groups and registers,
slot queues, results, and TAKING A TRAP and returning from one (14_traps R364 to R368, R388), which every instruction
shares.
-/

namespace Sys2Proof.Machine

/-! ### Sparse maps and memory -/

/-- The value at a key, the default where it is unlisted. -/
def SMap.get {α : Type} (d : α) : SMap α → Nat → α
  | [], _ => d
  | (k, v) :: rest, a => if k = a then v else SMap.get d rest a

/-- Writes a key, keeping the keys rising and no entry equal to the default. -/
def SMap.set {α : Type} [DecidableEq α] (d : α) : SMap α → Nat → α → SMap α
  | [], a, v => if v = d then [] else [(a, v)]
  | (k, w) :: rest, a, v =>
    if a < k then (if v = d then (k, w) :: rest else (a, v) :: (k, w) :: rest)
    else if a = k then (if v = d then rest else (a, v) :: rest)
    else (k, w) :: SMap.set d rest a v

/-- The canonical form: keys strictly rising above a bound, no entry equal to the default. -/
def SMap.wfFrom {α : Type} [DecidableEq α] (d : α) : Option Nat → SMap α → Bool
  | _, [] => true
  | lo, (k, v) :: rest =>
    (match lo with
      | none => true
      | some b => decide (b < k)) && decide (v ≠ d) && SMap.wfFrom d (some k) rest

/-- Memory's canonical form: addresses strictly rising, no byte equal to what an unlisted address reads as, 0 (log 3). -/
def Memory.wf (m : Mem) : Bool := SMap.wfFrom (0#8) none m

/-- A byte of memory; an unlisted one reads as 0 (log 3). -/
def Mem.read (m : Mem) (a : Nat) : Byte := SMap.get (0#8) m a

/-- Writes a byte of memory, keeping its canonical form. -/
def Mem.write (m : Mem) (a : Nat) (b : Byte) : Mem := SMap.set (0#8) m a b

/-- `n` bytes from an address, lowest first. -/
def Mem.readN (m : Mem) (a n : Nat) : List Byte := (List.range n).map (fun i => m.read (a + i))

/-- Writes bytes from an address, lowest first. -/
def Mem.writeN (m : Mem) (a : Nat) : List Byte → Mem
  | [] => m
  | b :: rest => (m.write a b).writeN (a + 1) rest

/-- The number a byte list spells, little-endian (00 R2). -/
def leNat : List Byte → Nat
  | [] => 0
  | b :: rest => b.toNat + 256 * leNat rest

/-- The little-endian bytes of a number (00 R2). -/
def natLE : Nat → Nat → List Byte
  | 0, _ => []
  | n + 1, v => BitVec.ofNat 8 v :: natLE n (v / 256)

/-- The row whose low bytes are the list, the rest zero (05 R136). -/
def rowOfBytes (l : List Byte) : Row := BitVec.ofNat 8192 (leNat l)

/-- `n` bytes of a row from a byte offset. -/
def rowBytes (r : Row) (off n : Nat) : List Byte := natLE n (r.toNat >>> (8 * off))

/-- Bits hi..lo of a word as a number. -/
def bits (w : Word) (lo n : Nat) : Nat := (w.toNat >>> lo) % 2 ^ n

/-- Bits of a number from `lo`, `n` of them. -/
def nbits (w lo n : Nat) : Nat := (w >>> lo) % 2 ^ n

/-! ### Lists -/

/-- Sets a place of a list; a place past its end changes nothing. -/
def setAt {α : Type} (l : List α) (i : Nat) (v : α) : List α := l.set i v

/-- Adds a number to a sorted list without repeats. -/
def insertNat : List Nat → Nat → List Nat
  | [], a => [a]
  | k :: rest, a => if a < k then a :: k :: rest else if a = k then k :: rest else k :: insertNat rest a

/-! ### Places -/

/-- A core of the device; one outside R13 reads as a core after reset. -/
def State.core (s : State) (c : Nat) : Core := s.cores.getD c Core.reset
/-- Replaces a core. -/
def State.setCore (s : State) (c : Nat) (x : Core) : State := { s with cores := s.cores.set c x }
/-- The group seated in a slot (01 R14); a slot number from 8 on names an entry of the retirement tracker (13 R341). -/
def State.group (s : State) (r : GRef) : Option Group :=
  if r.slot < 8 then (s.core r.core).slots.getD r.slot none else (s.core r.core).tracker[r.slot - 8]?
/-- Seats or replaces the group of a slot, or of an entry of the retirement tracker. -/
def State.setGroup (s : State) (r : GRef) (g : Group) : State :=
  if r.slot < 8 then s.setCore r.core { s.core r.core with slots := (s.core r.core).slots.set r.slot (some g) }
  else s.setCore r.core { s.core r.core with tracker := (s.core r.core).tracker.set (r.slot - 8) g }
/-- Frees a group slot. -/
def State.clearSlot (s : State) (r : GRef) : State :=
  s.setCore r.core { s.core r.core with slots := (s.core r.core).slots.set r.slot none }
/-- The die of a core (01 R13). -/
def dieOf (c : Nat) : Nat := c / 40
/-- The cluster of a core on its die (01 R13). -/
def clusterOf (c : Nat) : Nat := c % 40 / 8
/-- A die of the package. -/
def State.die (s : State) (d : Nat) : Die := s.dies.getD d Die.reset
/-- Replaces a die. -/
def State.setDie (s : State) (d : Nat) (x : Die) : State := { s with dies := s.dies.set d x }
/-- The task with an identifier. -/
def State.task (s : State) (t : Nat) : Option Task := s.tasks.find? (fun x => x.id = t)
/-- Replaces a task. -/
def State.setTask (s : State) (t : Task) : State :=
  { s with tasks := s.tasks.map (fun x => if x.id = t.id then t else x) }
/-- The command queue with a number (15 R396). -/
def State.queue (s : State) (q : Nat) : Option CmdQueue := s.queues.find? (fun x => x.q = q)
/-- Replaces a command queue. -/
def State.setQueue (s : State) (q : CmdQueue) : State :=
  { s with queues := s.queues.map (fun x => if x.q = q.q then q else x) }
/-- The slot in which a group is seated. -/
def State.findGroup (s : State) (id : GId) : Option GRef :=
  (List.range s.cores.length).findSome? (fun c =>
    ((List.range 8).find? (fun k => match s.group ⟨c, k⟩ with
      | some g => decide (g.gid = id)
      | none => false)).map (fun k => ⟨c, k⟩))

/-- The phase in which tasks run, READY (22 Table 22.2). -/
def State.serving (s : State) : Bool := s.plat.phase == 5

/-- Takes the next fresh number: identifiers the device assigns (01 R27, log 10). -/
def State.fresh (s : State) : Nat × State := (s.ids, { s with ids := s.ids + 1 })

/-! ### Registers of a group -/

/-- n register k (02 R39). -/
def Group.nreg (g : Group) (k : Nat) : Word := g.n.getD k 0#64
/-- Writes n register k. -/
def Group.setN (g : Group) (k : Nat) (v : Word) : Group := { g with n := g.n.set k v }
/-- a register k (02 R39). -/
def Group.areg (g : Group) (k : Nat) : Word := g.a.getD k 0#64
/-- Writes a register k. -/
def Group.setA (g : Group) (k : Nat) (v : Word) : Group := { g with a := g.a.set k v }
/-- f register k (08 R218). -/
def Group.freg (g : Group) (k : Nat) : Word := g.f.getD k 0#64
/-- Writes f register k. -/
def Group.setF (g : Group) (k : Nat) (v : Word) : Group := { g with f := g.f.set k v }
/-- Predicate k; p0 is always true (02 R39). -/
def Group.preg (g : Group) (k : Nat) : Bool := if k = 0 then true else g.p.getD k false
/-- Writes predicate k; p0 is not written (04 R122). -/
def Group.setP (g : Group) (k : Nat) (b : Bool) : Group := if k = 0 then g else { g with p := g.p.set k b }
/-- An unwritten vector register: zero, not poisoned (02 R39). -/
def VReg.zero : VReg := ⟨0, none⟩
/-- The v or o register with an operand field code (02 Table 2.5). -/
def Group.vreg (g : Group) (code : Nat) : VReg := SMap.get VReg.zero g.vregs code
/-- Writes a v or o register, which clears its poison mark unless the data is poisoned (05 R150). -/
def Group.setV (g : Group) (code : Nat) (r : Row) (p : Option Poison) : Group :=
  { g with vregs := SMap.set VReg.zero g.vregs code ⟨r, p⟩ }
/-- Guard k (03 R86). -/
def Group.guard (g : Group) (k : Nat) : Guard := g.guards.getD k ⟨0#64, 0#64, 0#8, false, 0⟩
/-- Writes guard k. -/
def Group.setGuard (g : Group) (k : Nat) (x : Guard) : Group := { g with guards := g.guards.set k x }
/-- Wick k (09 R245). -/
def Group.wick (g : Group) (k : Nat) : Wick := g.wicks.getD k Wick.idle
/-- Writes wick k. -/
def Group.setWick (g : Group) (k : Nat) (w : Wick) : Group := { g with wicks := g.wicks.set k w }

/-! ### Slot queues -/

/-- The parts of a slot dispatched and not yet issued (02 R32). -/
def Group.slotQ (g : Group) : Slot → List Part
  | .S => g.qs | .A => g.qa | .V => g.qv | .M => g.qm | .C => g.qc | .K => g.qk
/-- Replaces a slot's queue. -/
def Group.setSlotQ (g : Group) (k : Slot) (l : List Part) : Group :=
  match k with
  | .S => { g with qs := l } | .A => { g with qa := l } | .V => { g with qv := l }
  | .M => { g with qm := l } | .C => { g with qc := l } | .K => { g with qk := l }
/-- The oldest unissued part of a slot. -/
def Group.headPart (g : Group) (k : Slot) : Option Part := (g.slotQ k).head?
/-- The instruction of a part; NOP where its word does not decode. -/
def Part.instr (p : Part) : Instr :=
  match decodePart p.word with
  | .ok i => i
  | .error _ => .nop
/-- The bundle whose part in a slot is the next to issue: its queue's head, or the bundles still to be fetched past
those whose parts the slot has issued (04 R109, R112). -/
def Group.nextAddr (g : Group) (k : Slot) : Nat :=
  match g.headPart k with
  | some p => p.addr
  | none => g.pc + 32 * g.skip.getD k.num 0
/-- The base PC: the oldest bundle of which some part has not issued (02 R32, 04 R109). -/
def Group.basePC (g : Group) : Nat := (slots.map g.nextAddr).foldl Nat.min (g.nextAddr .S)
/-- The oldest place in program order still unissued. -/
def Group.oldestSeq (g : Group) : Nat :=
  (slots.filterMap (fun k => (g.headPart k).map (·.seq))).foldl Nat.min g.seq
/-- A slot's offset in bundles from a base PC (04 R109). -/
def Group.offset (g : Group) (base : Nat) (k : Slot) : Nat := (g.nextAddr k - base) / 32
/-- TRAP.SKEW (04 Table 4.3). -/
def skewWord (offs : List Nat) (src : Nat) : Word :=
  word (offs.getD 0 0 + 16 * offs.getD 1 0 + 256 * offs.getD 2 0 + 4096 * offs.getD 3 0 + 65536 * offs.getD 4 0 +
    1048576 * offs.getD 5 0 + 16777216 * src)
/-- The offset of slot k in a TRAP.SKEW value. -/
def skewOff (w : Word) (k : Nat) : Nat := bits w (4 * k) 4
/-- The source in a TRAP.SKEW value. -/
def skewSlot (w : Word) : Nat := bits w 24 3

/-- The part at the head of a slot leaves its queue: it has issued (02 R32). -/
def Group.retire (g : Group) (k : Slot) : Group := g.setSlotQ k (g.slotQ k).tail

/-- The RS bundles at or after a base whose rotation is already made (log 22). -/
def Group.rotatedFrom (g : Group) (base : Nat) : Nat :=
  (g.qh.filter (fun h => h.rs && h.rotated && base ≤ h.addr)).length + g.hskip

/-- Whether an access is a MONW, which is no issued part while it stands in a queue (05 R159). -/
def isMonw (a : Access) : Bool :=
  match a.kind with
  | .monw => true
  | _ => false

/-- Every part not yet issued is discarded, a waiting MONW among them (14 R364, 05 R159). -/
def Group.discard (g : Group) : Group :=
  { g with
    loads := g.loads.filter (fun a => !isMonw a)
    qs := [], qa := [], qv := [], qm := [], qc := [], qk := [], qh := [], skip := [0, 0, 0, 0, 0, 0], hskip := 0, pOld := none }

/-! ### Results of S and V parts -/

/-- An in-flight record with no effect yet. -/
def InFlight.blank (id seq : Nat) : InFlight := ⟨id, seq, none, none, none, [], none, none, 0#6⟩

/-- Pushes an awaited place onto the ember queue (04 R100). -/
def Group.pushEmber (g : Group) (id : Nat) : Group := { g with e := (Ember.awaiting id :: g.e).take 16 }
/-- Pushes an awaited place onto the latches (02 R40). -/
def Group.pushLatch (g : Group) (id : Nat) : Group := { g with lat := (Latch.awaiting id :: g.lat).take 4 }
/-- Empties the latches, as at a switch point (02 R40). -/
def Group.clearLatches (g : Group) : Group := { g with lat := [.empty, .empty, .empty, .empty] }
/-- Fills the ember place of a part; the entry lost or replaced is not filled (04 R100). -/
def fillEmber (id : Nat) (w : Word) (e : Ember) : Ember := if e = .awaiting id then .filled w else e
/-- Fills the latch place of a part; an emptied place stays empty (02 R40). -/
def fillLatch (id : Nat) (r : Row) (l : Latch) : Latch := if l = .awaiting id then .filled r else l

/-- Records a part's result, to be written when it completes (04 R100, 02 R40). -/
def Group.launch (g : Group) (f : InFlight) : Group := { g with fly := g.fly ++ [f], ids := g.ids + 1 }

/-- The result of an S part: it enters e0 at issue and, where a register is named, that register on completion
(04 R100, 02 R43). -/
def Group.resultS (g : Group) (seq : Nat) (dst : Nat) (v : Word) : Group :=
  (g.launch { InFlight.blank g.ids seq with n := if dst < 16 then some (dst, v) else none, ember := some v }).pushEmber g.ids

/-- The result of a compare or of predicate logic: a predicate and e0 (04 R122, R124). -/
def Group.resultP (g : Group) (seq : Nat) (pd : Nat) (b : Bool) (flags : BitVec 6) : Group :=
  (g.launch { InFlight.blank g.ids seq with p := some (pd, b), ember := some (wordOfBool b), flags := flags }).pushEmber g.ids

/-- The result of an M or C part: an n register and no ember (08 R229, 11 R302). -/
def Group.resultN (g : Group) (seq : Nat) (dst : Nat) (v : Word) : Group :=
  g.launch { InFlight.blank g.ids seq with n := some (dst, v) }

/-- Writes a completed part's result (04 R100, 02 R40, 03 R73). -/
def Group.complete (g : Group) (f : InFlight) : Group :=
  let g := match f.n with
    | some (k, v) => g.setN k v
    | none => g
  let g := match f.p with
    | some (k, b) =>
      { g.setP k b with pOld := g.pOld.map (fun (x : Before) => if f.seq < x.seq then { x with p := x.p.set k b } else x) }
    | none => g
  let g := match f.ember with
    | some w => { g with e := g.e.map (fillEmber f.id w) }
    | none => g
  let g := match f.latch with
    | some r => { g with lat := g.lat.map (fillLatch f.id r), held := g.held.map (fillLatch f.id r) }
    | none => g
  let g := f.vecs.foldl (fun g (c, r) => g.setV c r none) g
  let g := match f.push with
    | some (k, r) => { g with sdata := g.sdata.set k (g.sdata.getD k [] ++ [r]) }
    | none => g
  { g with
    fpflags := g.fpflags ||| f.flags
    pOld := g.pOld.map (fun (x : Before) => if f.seq < x.seq then { x with flags := x.flags ||| f.flags } else x)
    fly := g.fly.filter (fun x => x.id ≠ f.id) }

/-! ### Exception rings -/

/-- Appends a record to a queue's postings under the next SERIAL (14 Table 14.3, 15 R405); the quads' SERIAL and TIME
are filled when it is posted. -/
def State.post (s : State) (q : Nat) (quads : List Word) : Nat × State :=
  match s.queue q with
  | none => (0, s)
  | some cq => (cq.serial, s.setQueue { cq with serial := cq.serial + 1, posts := cq.posts ++ [⟨cq.serial, quads⟩] })

/-- Quad 40 of a fault record but for its SERIAL (14 Table 14.3). -/
def faultPlace (held nest : Bool) (slot core : Nat) : Word :=
  word ((if held then 131072 else 0) + (if nest then 65536 else 0) + 256 * slot + core)

/-- TRAP.CAUSE (14 Table 14.2). -/
def causeWord (code info : Nat) (mult : Bool) : Word := word (code + (if mult then 256 else 0) + 65536 * (info % 65536))

/-! ### Taking a trap -/

/-- Whether a latch set holds anything (14 Table 14.3, HELD). -/
def heldAny (l : List Latch) : Bool := l.any (fun x => decide (x ≠ .empty))

/-- The scale writes that the bundle at the base would not yet see, by their distance past base − 4, and those it would,
folded into the registers (03 R82, log 8). -/
def Group.holdScales (g : Group) : Group :=
  let b := g.oldestSeq
  let seen := g.cbuf.filter (fun w => w.seq + 4 ≤ b)
  { g with
    c := seen.foldl (fun c w => c.set w.reg w.val) g.c
    cheld := (g.cbuf.filter (fun w => b < w.seq + 4)).map (fun w => { w with seq := w.seq + 4 - b })
    cbuf := [] }

/-- The held scale writes come back at their distance from the bundle that is fetched next (03 R82, log 8). -/
def Group.restoreScales (g : Group) : Group :=
  { g with
    c := g.cbuf.foldl (fun c w => c.set w.reg w.val) g.c
    cbuf := g.cheld.map (fun w => { w with seq := w.seq + g.seq - 4 })
    cheld := [] }

/-- The scale write buffer as distances past base − 4, for a group that stops or is pre-empted where it stands (03 R82). -/
def Group.relScales (g : Group) : Group :=
  let b := g.oldestSeq
  let seen := g.cbuf.filter (fun w => w.seq + 4 ≤ b)
  { g with
    c := seen.foldl (fun c w => c.set w.reg w.val) g.c
    cbuf := (g.cbuf.filter (fun w => b < w.seq + 4)).map (fun w => { w with seq := w.seq + 4 - b }) }

/-- The buffer's distances counted from the bundle fetched next (03 R82). -/
def Group.unrelScales (g : Group) : Group :=
  { g with cbuf := g.cbuf.map (fun w => { w with seq := w.seq + g.seq - 4 }) }

/-- An access of a bundle at or past place `b` keeps its distance from it over a trap (04 R112). -/
def Access.relTo (nested : Bool) (b : Nat) (a : Access) : Access :=
  if a.rel.isNone && b ≤ a.seq then { a with rel := some (nested, a.seq - b) } else a

/-- An access kept over a trap stands again at its distance from place `b` (04 R112). -/
def Access.unrelTo (nested : Bool) (b : Nat) (a : Access) : Access :=
  match a.rel with
  | some (n, d) => if n == nested then { a with seq := b + d, rel := none } else a
  | none => a

/-- The productions and the accesses of bundles at or past the base keep their distance from it over a trap (04 R112). -/
def Group.relSeqs (g : Group) (nested : Bool) : Group :=
  let b := g.oldestSeq
  { g with
    toks := g.toks.map (fun t => if t.rel.isNone && b ≤ t.seq then { t with rel := some (nested, t.seq - b) } else t)
    loads := g.loads.map (Access.relTo nested b)
    stores := g.stores.map (Access.relTo nested b) }

/-- The productions and accesses kept over a trap stand again at their distance from the bundle fetched next (04 R112). -/
def Group.unrelSeqs (g : Group) (nested : Bool) : Group :=
  { g with
    toks := g.toks.map (fun t => match t.rel with
      | some (b, d) => if b == nested then { t with seq := g.seq + d, rel := none } else t
      | none => t)
    loads := g.loads.map (Access.unrelTo nested g.seq)
    stores := g.stores.map (Access.unrelTo nested g.seq) }

/-- The registers from before a bundle in part issued, by the bundle's distance from the base (02 R34, 04 R112). -/
def Group.relOld (g : Group) : Option Before := g.pOld.map (fun x => { x with seq := x.seq - g.oldestSeq })

/-- Stops a group at a trap and posts its fault record (14 R366): the record holds the trap's cause, base PC, skew and
address; NEST and OUTER where the trap arose in a handler (14 R365). -/
def stopGroup (s : State) (r : GRef) (g : Group) (base : Nat) (skew cause addr : Word) (hskip : Nat)
    (pOld : Option Before) (code : Nat) (nest abortOnly : Bool) : State :=
  let q := match s.task g.gid.task with
    | some t => t.rootQ
    | none => 0
  let outer := if nest then g.trap.cause else 0#64
  let quads := [word (g.gid.task + 4294967296 * g.gid.leaf), cause, word base, skew, addr,
    faultPlace (heldAny g.held) nest r.slot r.core, outer, 0#64]
  let (serial, s) := s.post q quads
  s.setGroup r { g.discard with stop := some ⟨base, skew, hskip, pOld, code, serial, q, abortOnly, none⟩ }

/-- TAKING A TRAP (14 R364 to R366): the state at the trap is `g`, not yet discarded. Outside a handler, with TRAP.VEC
set and for any cause but the breakpoint, the handler is entered; else the group stops and posts its fault record. -/
def enterTrap (s : State) (r : GRef) (g : Group) (code info addr base : Nat) (skew : Word) (hskip : Nat) (mult : Bool) : State :=
  let cause := causeWord code info mult
  let aw := word (addr % 2 ^ 56)
  let old := g.relOld
  if g.trap.inh then stopGroup s r (g.relSeqs true).relScales base skew cause aw hskip old code true false
  else
    let t := { g.trap with pc := base, skew := skew, hskip := hskip, pOld := old, cause := cause, addr := aw }
    let g := { (g.relSeqs false).holdScales with held := g.lat, trap := t }.clearLatches
    if code = 12 ∨ g.trap.vec = 0#64 then stopGroup s r g base skew cause aw hskip none code false false
    else
      s.setGroup r { g.discard with trap := { t with inh := true }, pc := t.vec.toNat, fetchHold := false }

/-- A trap precise at a part of slot `k` (04 R108, R109). -/
def trapPart (s : State) (r : GRef) (g : Group) (k : Slot) (code info addr : Nat) : State :=
  let base := g.basePC
  enterTrap s r g code info addr base (skewWord (slots.map (g.offset base)) k.num) (g.rotatedFrom base) false

/-- A trap precise at a bundle: every offset zero, SLOT = 6 (02 R31). -/
def trapBundle (s : State) (r : GRef) (g : Group) (code info addr base : Nat) : State :=
  enterTrap s r g code info addr base (skewWord [] 6) 0 false

/-- A trap taken asynchronously: SLOT = 7, the skew of that clk (14 R363). -/
def trapAsync (s : State) (r : GRef) (g : Group) (code : Nat) (t : PendTrap) : State :=
  let base := g.basePC
  enterTrap s r g code t.info t.addr base (skewWord (slots.map (g.offset base)) 7) (g.rotatedFrom base) t.mult

/-- The fetch of a group returns to a base PC with each slot at its offset (04 R112, 14 R367, R388). -/
def Group.refetch (g : Group) (base : Nat) (offs : List Nat) (hskip : Nat) : Group :=
  { g.discard with pc := base, skip := offs, hskip := hskip, fetchHold := false }

/-- The six offsets of a skew. -/
def skewOffs (w : Word) : List Nat := (List.range 6).map (skewOff w)

/-- The offsets after a return with or without skip; none where the skip would carry an offset to 16 (14 R388). -/
def returnOffs (skew : Word) (skip : Bool) (issued : Bool) : Option (List Nat) :=
  let src := skewSlot skew
  if skip && src ≤ 5 && !issued then
    if skewOff skew src = 15 then none else some ((skewOffs skew).set src (skewOff skew src + 1))
  else some (skewOffs skew)

/-- RETURNING FROM A HANDLER (14 R388): the held latch set and scale writes come back, INH clears, dispatch resumes from
TRAP.PC with each slot at its offset. -/
def Group.returnFrom (g : Group) (base : Nat) (offs : List Nat) (hskip : Nat) : Group :=
  let old := g.trap.pOld
  let g := { g with lat := g.held, held := [.empty, .empty, .empty, .empty], trap := { g.trap with inh := false, pOld := none } }
  let g := ((g.refetch base offs hskip).restoreScales).unrelSeqs false
  { g with pOld := old.map (fun x => { x with seq := g.seq + x.seq }) }

/-- A group stopped by a nested trap goes on in its handler (14 R365, R367). -/
def Group.returnNested (g : Group) (base : Nat) (offs : List Nat) (hskip : Nat) (old : Option Before) : Group :=
  let g := ((g.refetch base offs hskip).unrelScales).unrelSeqs true
  { g with pOld := old.map (fun x => { x with seq := g.seq + x.seq }) }

/-- Records a pending asynchronous trap; a second of the same cause sets MULT and keeps the first's values (14 R363). -/
def mergePend (old : Option PendTrap) (info addr : Nat) : Option PendTrap :=
  match old with
  | some t => some { t with mult := true }
  | none => some ⟨info, addr, false⟩

end Sys2Proof.Machine
end

