-- ==== Sys2Proof/Machine/Operands.lean ====
section
/-!
DEFINITION. Operand forms (02_bundles R42 to R44) and the order in which slots may read and write registers: the
interlock of 02 R33 and R34, SYNC and full syncs (R35, R36), the holds of DRAIN, TKW and the wait points (06 R173, R180).
-/

namespace Sys2Proof.Machine

/-! ### Operands -/

/-- The value of an ember place; an awaited one is not read (04 R100: the reader waits). -/
def Ember.val : Ember → Word
  | .filled w => w
  | .awaiting _ => 0#64

/-- COUNT + DRAIN − INDEX of the innermost loop, 0 where none is open (04 R106). -/
def Group.lcount (g : Group) : Nat :=
  match g.loops with
  | e :: _ => e.count + e.drain - e.index
  | [] => 0

/-- The loop-stack entry at a depth, 0 the outermost (04 R103). -/
def Group.loopAt (g : Group) (k : Nat) : Option LoopEntry := g.loops.reverse[k]?

/-- The value a scalar operand code reads (02 Table 2.6). -/
def scalarSrc (r : GRef) (g : Group) (c : Nat) : Word :=
  if c < 16 then g.nreg c
  else if c < 32 then ((g.e.getD (c - 16) (.filled 0#64)).val)
  else if c < 38 then
    match g.loopAt (c - 32) with
    | some e => word e.index
    | none => 0#64
  else
    match c with
    | 38 => 0#64
    | 39 => 1#64
    | 40 => 2#64
    | 41 => 0xFFFFFFFFFFFFFFFF#64
    | 42 => 4#64
    | 43 => 8#64
    | 44 => 16#64
    | 45 => 32#64
    | 46 => 64#64
    | 47 => 128#64
    | 48 => 256#64
    | 49 => 1024#64
    | 50 => 0x3FF0000000000000#64
    | 51 => 0xBFF0000000000000#64
    | 52 => 0x000000003F800000#64
    | 53 => 0x7FF0000000000000#64
    | 54 => 0xFFF0000000000000#64
    | 55 => word g.gid.leaf
    | 56 => word r.core
    | 57 => word r.slot
    | 58 => word g.win
    | 59 => word g.lcount
    | _ => 0#64

/-- The predicates a part of the bundle at `seq` reads: those from before its bundle (02 R34). -/
def Group.predAt (g : Group) (seq k : Nat) : Bool :=
  match g.pOld with
  | some x => if x.seq = seq ∧ k ≠ 0 then x.p.getD k false else g.preg k
  | none => g.preg k

/-- A predicate field: its number, negated where bit 4 is set (02 R44). -/
def Group.predField (g : Group) (seq : Nat) (f : BitVec 5) : Bool :=
  (g.predAt seq (f.extractLsb' 0 4).toNat) != f.getLsbD 4

/-- Sign extension of an immediate or an offset (02 R47). -/
def sext {n : Nat} (x : BitVec n) : Word := x.signExtend 64

/-- A bundle address `off` bundles from another, in the 56 bits of the PC (02 R47, Table 2.3). -/
def bundleOff (addr : Nat) (off : BitVec 18) : Nat := (((word addr) + (sext off) * 32#64).toNat) % 2 ^ 56

/-! ### What each part reads and writes -/

/-- The scalar operand codes a part outside the V slot reads (02 R43): its own scalar fields, and the n registers its
entry names. -/
def fieldCodes : Instr → List Nat
  | .add x => [x.sa.toNat, x.sb.toNat]
  | .sub x => [x.sa.toNat, x.sb.toNat]
  | .mul x => [x.sa.toNat, x.sb.toNat]
  | .mulh x => [x.sa.toNat, x.sb.toNat]
  | .mulhu x => [x.sa.toNat, x.sb.toNat]
  | .div x => [x.sa.toNat, x.sb.toNat]
  | .divu x => [x.sa.toNat, x.sb.toNat]
  | .rem x => [x.sa.toNat, x.sb.toNat]
  | .remu x => [x.sa.toNat, x.sb.toNat]
  | .and x => [x.sa.toNat, x.sb.toNat]
  | .or x => [x.sa.toNat, x.sb.toNat]
  | .xor x => [x.sa.toNat, x.sb.toNat]
  | .andn x => [x.sa.toNat, x.sb.toNat]
  | .shl x => [x.sa.toNat, x.sb.toNat]
  | .shr x => [x.sa.toNat, x.sb.toNat]
  | .sar x => [x.sa.toNat, x.sb.toNat]
  | .rotr x => [x.sa.toNat, x.sb.toNat]
  | .min x => [x.sa.toNat, x.sb.toNat]
  | .max x => [x.sa.toNat, x.sb.toNat]
  | .minu x => [x.sa.toNat, x.sb.toNat]
  | .maxu x => [x.sa.toNat, x.sb.toNat]
  | .clz x => [x.sa.toNat]
  | .popc x => [x.sa.toNat]
  | .addi x => [x.sa.toNat]
  | .andi x => [x.sa.toNat]
  | .ori x => [x.sa.toNat]
  | .xori x => [x.sa.toNat]
  | .shli x => [x.sa.toNat]
  | .shri x => [x.sa.toNat]
  | .sari x => [x.sa.toNat]
  | .lui x => [x.sa.toNat]
  | .cmp x => [x.sa.toNat, x.sb.toNat]
  | .cmpi x => [x.sa.toNat]
  | .sel x => [x.sa.toNat, x.sb.toNat]
  | .br x => if x.fn == 0#3 then [] else [x.sa.toNat]
  | .jmp x => [x.sa.toNat]
  | .loop x => [x.sa.toNat]
  | .gset x => [x.sa.toNat, x.sb.toNat]
  | .gclr x => [x.sa.toNat]
  | .xmm x => [x.nd.toNat]
  | .xconv x => [x.nd.toNat]
  | .xgath x => [x.nd.toNat]
  | .xsort x => [x.nd.toNat]
  | .xtopk x => [x.nd.toNat]
  | .xnorm x => [x.nd.toNat]
  | .xattn x => [x.nd.toNat]
  | .kvshoot x => [x.nd.toNat]
  | .kvfreq x => [x.nd.toNat]
  | .kvapp x => [x.nd.toNat]
  | .kvpre x => [x.nd.toNat]
  | .callred x => [x.nd.toNat]
  | .credsc x => [x.nd.toNat]
  | .cgath x => [x.nd.toNat]
  | .cbcast x => [x.nd.toNat]
  | .ca2a x => [x.nd.toNat]
  | .csend x => [x.nd.toNat]
  | .crecv x => [x.nd.toNat]
  | .cring x => [x.nd.toNat]
  | .ctopk x => [x.nd.toNat]
  | .spawn x => [x.sa.toNat]
  | .spawni x => [x.sa.toNat, x.sb.toNat]
  | .sclose x => [x.sa.toNat]
  | .snuff x => [x.sa.toNat, x.sb.toNat]
  | .snuffw x => [x.sa.toNat]
  | .binit x => [x.sa.toNat, x.sb.toNat]
  | .barr x => [x.sa.toNat]
  | .bwait x => [x.sa.toNat, x.sb.toNat]
  | .prio x => [x.sa.toNat]
  | .dline x => [x.sa.toNat]
  | .csrw x => [x.sa.toNat]
  | .csrs x => [x.sa.toNat]
  | .csrc x => [x.sa.toNat]
  | .xlat x => [x.sa.toNat]
  | .tcinv x => if x.all == 1#1 then [] else [x.sa.toNat]
  | .errrd x => [x.sa.toNat]
  | .lamp x => [x.sa.toNat, x.sb.toNat]
  | .st x => if 0x1C0 ≤ x.data.toNat then [x.data.toNat - 0x1C0] else []
  | .stna x => if 0x1C0 ≤ x.data.toNat then [x.data.toNat - 0x1C0] else []
  | .stbp x => if 0x1C0 ≤ x.data.toNat then [x.data.toNat - 0x1C0] else []
  | .sts x => if 0x1C0 ≤ x.data.toNat then [x.data.toNat - 0x1C0] else []
  | .monw x => [x.cmp.toNat, x.val.toNat]
  | .atadd x => [x.val.toNat]
  | .atfadd x => [x.val.toNat]
  | .atmin x => [x.val.toNat]
  | .atmax x => [x.val.toNat]
  | .atminu x => [x.val.toNat]
  | .atmaxu x => [x.val.toNat]
  | .atand x => [x.val.toNat]
  | .ator x => [x.val.toNat]
  | .atxor x => [x.val.toNat]
  | .atswp x => if x.size == 4#3 then [x.val.toNat, x.val.toNat + 1] else [x.val.toNat]
  | .atcas x => if x.size == 4#3 then [x.cmp.toNat, x.cmp.toNat + 1, x.val.toNat, x.val.toNat + 1] else [x.cmp.toNat, x.val.toNat]
  | .lea x => [x.sa.toNat]
  | .leax x => [x.sa.toNat]
  | .amov x => [x.sa.toNat]
  | .ainc x => [x.sa.toNat]
  | .mcfg x => [x.nr.toNat]
  | .mfset x => [x.nr.toNat]
  | .mfadv x => [x.nr.toNat]
  | .cpy x => if x.useR == 1#1 then [x.na.toNat, x.nb.toNat] else [x.na.toNat]
  | .cpy2 x => if x.useR == 1#1 then [x.na.toNat, x.nb.toNat] else [x.na.toNat]
  | .cpyh x => if x.useR == 1#1 then [x.na.toNat, x.nb.toNat] else [x.na.toNat]
  | .cpln x => if x.useR == 1#1 then [x.na.toNat, x.nb.toNat] else [x.na.toNat]
  | .accld x => if x.useR == 1#1 then [x.na.toNat, x.nb.toNat] else [x.na.toNat]
  | .accst x => if x.useR == 1#1 then [x.na.toNat, x.nb.toNat] else [x.na.toNat]
  | .cpyl x => [x.na.toNat]
  | .stamp x => [x.na.toNat, x.nb.toNat]
  | .gstep x => if x.useR == 1#1 then [x.na.toNat, x.nb.toNat] else [x.na.toNat]
  | _ => []

/-- The S parts that produce a result, which takes a place of the ember queue (04 R100). -/
def producesResult : Instr → Bool
  | .add _ => true
  | .sub _ => true
  | .mul _ => true
  | .mulh _ => true
  | .mulhu _ => true
  | .div _ => true
  | .divu _ => true
  | .rem _ => true
  | .remu _ => true
  | .and _ => true
  | .or _ => true
  | .xor _ => true
  | .andn _ => true
  | .shl _ => true
  | .shr _ => true
  | .sar _ => true
  | .rotr _ => true
  | .min _ => true
  | .max _ => true
  | .minu _ => true
  | .maxu _ => true
  | .clz _ => true
  | .popc _ => true
  | .addi _ => true
  | .andi _ => true
  | .ori _ => true
  | .xori _ => true
  | .shli _ => true
  | .shri _ => true
  | .sari _ => true
  | .lui _ => true
  | .cmp _ => true
  | .cmpi _ => true
  | .sel _ => true
  | .plog _ => true
  | .jmp _ => true
  | .gset _ => true
  | .grd _ => true
  | .gclr _ => true
  | .xwait _ => true
  | .xstat _ => true
  | .spawn _ => true
  | .spawni _ => true
  | .scope _ => true
  | .sclose _ => true
  | .snuff _ => true
  | .snuffw _ => true
  | .binit _ => true
  | .barr _ => true
  | .bwait _ => true
  | .prio _ => true
  | .dline _ => true
  | .csrr _ => true
  | .xlat _ => true
  | .errrd _ => true
  | .errclr _ => true
  | .lamp _ => true
  | _ => false

/-- The long instructions and XRES, which a DRAIN holds back (06 R173). -/
def isLong : Instr → Bool
  | .xmm _ => true
  | .xconv _ => true
  | .xgath _ => true
  | .xsort _ => true
  | .xtopk _ => true
  | .xnorm _ => true
  | .xres _ => true
  | .xattn _ => true
  | .kvshoot _ => true
  | .kvfreq _ => true
  | .kvapp _ => true
  | .kvpre _ => true
  | .callred _ => true
  | .credsc _ => true
  | .cgath _ => true
  | .cbcast _ => true
  | .ca2a _ => true
  | .csend _ => true
  | .crecv _ => true
  | .cring _ => true
  | .ctopk _ => true
  | _ => false

/-- The V parts that may raise a flag (03 R73). -/
def mayFlag : Instr → Bool
  | .cmp x => 6 ≤ x.cond.toNat && x.cond.toNat ≤ 9
  | .vadd _ => true
  | .vsub _ => true
  | .vmul _ => true
  | .vdiv _ => true
  | .vsqrt _ => true
  | .vmin _ => true
  | .vmax _ => true
  | .vabs _ => true
  | .vneg _ => true
  | .vfma _ => true
  | .vfms _ => true
  | .vfnma _ => true
  | .vcmp _ => true
  | .vexp2 _ => true
  | .vlog2 _ => true
  | .vrcp _ => true
  | .vrsq _ => true
  | .vsin _ => true
  | .vcos _ => true
  | .vreda _ => true
  | .vredx _ => true
  | .vredn _ => true
  | .vscan _ => true
  | .cvt _ => true
  | .quantApply _ => true
  | .dquant _ => true
  | .pack _ => true
  | .unpack _ => true
  | _ => false

/-- A named resource over which slots of different bundles are ordered (02 R33). -/
inductive Res where
  | n (k : Nat) | ember | p (k : Nat) | a (k : Nat) | vreg (c : Nat) | pop (st : Nat) | tk (k : Nat) | cfg | fp
deriving DecidableEq, Repr

/-- The resource a scalar code names. -/
def codeRes (c : Nat) : List Res := if c < 16 then [.n c] else if c < 32 then [.ember] else []

/-- The predicate a field names; p0 is never written. -/
def predRes (f : BitVec 5) : List Res :=
  let k := (f.extractLsb' 0 4).toNat
  if k = 0 then [] else [.p k]

/-- The tokens a T word consumes (02 R38). -/
def twConsumes (tw : BitVec 16) : List Nat :=
  ([tw.extractLsb' 8 4, tw.extractLsb' 4 4, tw.extractLsb' 0 4].map (·.toNat)).filter (· ≠ 0)
/-- The token a T word produces, 0 for none (02 R38). -/
def twProduces (tw : BitVec 16) : Nat := (tw.extractLsb' 12 4).toNat

/-- The tokens TKW names (06 R172). -/
def tkwTokens (m : BitVec 16) : List Nat := (List.range 16).filter (fun k => k ≠ 0 && m.getLsbD k)

/-- A CSR part naming FP.FLAGS (03 R73). -/
def csrFlags : Instr → Bool
  | .csrr x => x.num == 0x030#12
  | .csrw x => x.num == 0x030#12
  | .csrs x => x.num == 0x030#12
  | .csrc x => x.num == 0x030#12
  | _ => false

/-- A CSRR of FP.FLAGS (03 R73). -/
def readsFlags : Instr → Bool
  | .csrr x => x.num == 0x030#12
  | _ => false

/-- The long instructions that capture MCFG at issue (08 R217, 09 R239). -/
def readsCfg : Instr → Bool
  | .xmm _ => true | .xconv _ => true | .xgath _ => true | .xsort _ => true | .xtopk _ => true | .xnorm _ => true
  | _ => false

/-- The a register an A or K part reads. -/
def aReads : Instr → List Nat
  | .monw x => [x.base.toNat]
  | .atadd x => [x.base.toNat] | .atfadd x => [x.base.toNat] | .atmin x => [x.base.toNat] | .atmax x => [x.base.toNat]
  | .atminu x => [x.base.toNat] | .atmaxu x => [x.base.toNat] | .atand x => [x.base.toNat] | .ator x => [x.base.toNat]
  | .atxor x => [x.base.toNat] | .atswp x => [x.base.toNat] | .atcas x => [x.base.toNat]
  | .lea x => [x.aa.toNat] | .leax x => [x.aa.toNat] | .ainc x => [x.aa.toNat]
  | .kld x => [x.src.toNat]
  | i => match amOf i with
    | some x => [x.base.toNat]
    | none => []

/-- The a register an A part writes. -/
def aWrites : Instr → List Nat
  | .lea x => [x.ad.toNat] | .leax x => [x.ad.toNat] | .amov x => [x.ad.toNat] | .ainc x => [x.ad.toNat]
  | _ => []

/-- What a part reads (02 R33). -/
def reads (i : Instr) (tw : BitVec 16) : List Res :=
  (fieldCodes i ++ vScalarCodes i).flatMap codeRes ++ predRes (predOf i) ++ (aReads i).map .a ++ (vReadRegs i).map .vreg ++
  (if isStore i then (match amOf i with | some x => (regRun x.data.toNat 1).map .vreg | none => []) else []) ++
  (if isAsync i then (twConsumes tw).map .tk else []) ++
  (if csrFlags i then [.fp] else []) ++ (if readsCfg i then [.cfg] else []) ++
  (match i with
    | .sel x => if x.ps = 0#4 then [] else [.p x.ps.toNat]
    | .plog x => [.p x.pa.toNat, .p x.pb.toNat]
    | .tkw x => (tkwTokens x.mask).map .tk
    | .call _ => .ember :: [8, 9, 10, 11, 12, 13, 14, 15].map .n
    | _ => [])

/-- What a part writes (02 R33). -/
def writes (i : Instr) (tw : BitVec 16) : List Res :=
  (match nDest i with | some k => [.n k] | none => []) ++ (if producesResult i then [.ember] else []) ++
  (predDests i).map .p ++ (aWrites i).map .a ++ (vWrites i).map .vreg ++ (loadReg i).map .vreg ++ (popStreams i).map .pop ++
  (if isAsync i && twProduces tw ≠ 0 then [.tk (twProduces tw)] else []) ++ (if mayFlag i then [.fp] else []) ++
  (match i with
    | .mcfg _ => [.cfg]
    | .ret _ => .ember :: [8, 9, 10, 11, 12, 13, 14, 15].map .n
    | _ => [])

/-- Whether two resource lists share a member. -/
def resMeet (a b : List Res) : Bool := a.any (fun x => b.contains x)

/-- Two unordered flag raisers do not conflict (03 R73: flags are ORed). -/
def noFp (l : List Res) : List Res := l.filter (fun x => decide (x ≠ .fp))

/-- A part of an earlier bundle, not yet issued, that this part must let go first: it writes what this part reads or
writes, or reads what this part writes (02 R33). -/
def crossBlocks (i : Instr) (tw : BitVec 16) (old : Part) : Bool :=
  let j := old.instr
  resMeet (reads i tw) (writes j old.tw) || resMeet (noFp (writes i tw)) (noFp (writes j old.tw)) ||
  resMeet (writes i tw) (reads j old.tw)

/-- Resources over which parts of ONE bundle are ordered: a read sees the state from before the bundle (02 R34); tokens
and pops name the bundle's own place. -/
def sameOrdered (l : List Res) : List Res :=
  l.filter (fun x => match x with
    | .tk _ => false
    | .pop _ => false
    | _ => true)

/-- A part of the same bundle in another slot that reads what this part writes and so issues first; an S part's
predicate write waits for no M or C part that in turn writes an n register, and a V part's flags wait for no CSRR of FP.FLAGS whose
result the V part in turn reads (02 R34: both read the state from before). -/
def sameBlocks (k : Slot) (i : Instr) (tw : BitVec 16) (k2 : Slot) (other : Part) : Bool :=
  let j := other.instr
  let w := sameOrdered (writes i tw)
  let w := if k = .S ∧ (k2 = .M ∨ k2 = .C) ∧ (nDest j).isSome then w.filter (fun x => match x with
    | .p _ => false
    | _ => true) else w
  let w := if k = .V ∧ k2 = .S ∧ readsFlags j ∧ resMeet (reads i tw) (writes j other.tw) then noFp w else w
  resMeet w (reads j other.tw)

/-- What a part writes as it issues; the rest it writes when it completes (04 R100, R104, R117, 05 R136). -/
def nowWrites (i : Instr) (tw : BitVec 16) : List Res :=
  let ret := match i with
    | .ret _ => true
    | _ => false
  (sameOrdered (writes i tw)).filter (fun x => match x with
    | .n _ => ret
    | .p _ => isControl i
    | .vreg _ => false
    | .fp => false
    | _ => true)

/-- A part of the same bundle and the same sync that issues first, in the clk in which both issue: it reads what this part writes as it
issues (02 R34, R35). -/
def mateBlocks (i : Instr) (tw : BitVec 16) (other : Part) : Bool := resMeet (nowWrites i tw) (reads other.instr other.tw)

/-- What an in-flight result will write. -/
def flyRes (f : InFlight) : List Res :=
  (match f.n with | some (k, _) => [.n k] | none => []) ++ (match f.p with | some (k, _) => [.p k] | none => []) ++
  f.vecs.map (fun v => .vreg v.1) ++ (if f.latch.isSome || f.flags ≠ 0#6 then [.fp] else [])

/-- The register an unperformed load will write (05 R136). -/
def loadRes (l : Access) : List Res :=
  match l.dst with
  | .reg c => [.vreg c]
  | _ => []

/-- The ember places a part names that are still awaited (04 R100). -/
def embersAwaited (g : Group) (i : Instr) : Bool :=
  let cs := fieldCodes i ++ vScalarCodes i
  let all := match i with
    | .call _ => true
    | .ret _ => true
    | _ => false
  (List.range 16).any (fun k => (all || cs.contains (16 + k)) && (match g.e.getD k (.filled 0#64) with
    | .awaiting _ => true
    | .filled _ => false))

/-- The latch places a V part names, by latch number (02 R40). -/
def latchReads (i : Instr) : List Nat :=
  (vSrcFields i).filterMap (fun p => if 0x140 ≤ p.1.toNat ∧ p.1.toNat < 0x144 then some (p.1.toNat - 0x140) else none)

/-- A latch place a V part names whose fill is outstanding; at a switch point every place is emptied first (02 R40). -/
def latchesAwaited (g : Group) (sw : Bool) (i : Instr) : Bool :=
  !sw && (latchReads i).any (fun k => match g.lat.getD k .empty with
    | .awaiting _ => true
    | _ => false)

/-- The other slots. -/
def otherSlots (k : Slot) : List Slot := slots.filter (fun x => decide (x ≠ k))

/-- Whether a bundle's header names a slot in its sync: all six at a full sync, else SYNC where it names more than one
slot (02 R35, R36, 04 R102). -/
def syncNames (p : Part) (k : Slot) : Bool :=
  p.full || ((p.hdr.getLsbD k.num) && (slots.any (fun x => decide (x ≠ k) && p.hdr.getLsbD x.num)))

/-- A header whose own action is still to come (04 R105, R107). -/
def HdrEntry.pending (h : HdrEntry) : Bool := h.le || (h.rs && !h.rotated)

/-- The header actions still due of bundles before a place: a rotation not yet made (04 R107). -/
def Group.rotatePending (g : Group) (seq : Nat) : Bool := g.qh.any (fun h => h.rs && !h.rotated && h.seq < seq)

/-- A rotation is due once no unissued part up to its bundle reads or writes a stage predicate, and no part of a sync of its bundle is
left to issue (04 R107, 02 R35; log 22). -/
def Group.rotateDue (g : Group) (h : HdrEntry) : Bool :=
  h.rs && !h.rotated && !(slots.any (fun k => (g.slotQ k).any (fun p =>
    (decide (p.seq = h.seq) && syncNames p k) || p.seq ≤ h.seq && ((reads p.instr p.tw ++ writes p.instr p.tw).any (fun x => match x with
      | .p k => 8 ≤ k
      | _ => false))))) && !(g.fly.any (fun f => f.seq ≤ h.seq && (match f.p with
        | some (k, _) => 8 ≤ k
        | none => false)))

/-- A loop end is due once every part of its bundle has issued and its rotation is made (04 R105, R107). -/
def Group.loopEndDue (g : Group) (h : HdrEntry) : Bool :=
  h.le && (!h.rs || h.rotated) && !(slots.any (fun k => (g.slotQ k).any (fun p => p.seq ≤ h.seq)))

/-- Some header action of the group is due; it comes before any further part issues (log 22). -/
def Group.headerDue (g : Group) : Bool := g.qh.any (fun h => g.rotateDue h || g.loopEndDue h)

/-- Whether a part uses a stage predicate. -/
def usesStage (i : Instr) (tw : BitVec 16) : Bool :=
  (reads i tw ++ writes i tw).any (fun x => match x with
    | .p k => 8 ≤ k
    | _ => false)

/-- An unissued wait point (06 R180). -/
def isWaitPoint : Instr → Bool
  | .xwait _ => true | .bwait _ => true | .snuffw _ => true | _ => false
/-- An unissued DRAIN (06 R173). -/
def isDrain : Instr → Bool
  | .drain _ => true | _ => false

/-- An unissued part that is known to be predicated off: no write of its predicate is still to come, and it reads false (02 R33, R37). -/
def Group.knownOff (g : Group) (q : Part) : Bool :=
  let rd := predRes (predOf q.instr)
  !(slots.any (fun k => (g.slotQ k).any (fun o => decide (o.seq < q.seq) && resMeet rd (writes o.instr o.tw)))) &&
  !(g.fly.any (fun f => decide (f.seq < q.seq) && resMeet rd (flyRes f))) &&
  !(g.rotatePending q.seq && rd.any (fun x => match x with
    | .p k => decide (8 ≤ k)
    | _ => false)) &&
  !g.predField q.seq (predOf q.instr)

/-- The registers, places and orders a part must wait for before it issues: the interlock of 02 R33 and R34, the queue
of its sync, the holds of 06 R173 and R180 of parts not known to be predicated off (02 R37), and a header action that is due. With `mate`
the parts that its sync names beside it do not hold it: they issue with it, and each reads the state from before the bundle (02 R34, R35); without it, one that reads what
this part writes at once goes first in that clk. -/
def hazard (g : Group) (k : Slot) (p : Part) (i : Instr) (mate : Bool) : Bool :=
  let rd := reads i p.tw
  let wr := writes i p.tw
  g.headerDue ||
  (otherSlots k).any (fun k2 => (g.slotQ k2).any (fun q =>
    (decide (q.seq < p.seq) && crossBlocks i p.tw q) ||
      (decide (q.seq = p.seq) && (if syncNames p k && syncNames p k2 then !mate && mateBlocks i p.tw q else sameBlocks k i p.tw k2 q)))) ||
  g.fly.any (fun f => decide (f.seq < p.seq) && (resMeet (rd ++ noFp wr) (flyRes f))) ||
  g.loads.any (fun l => decide (l.seq < p.seq) && resMeet (rd ++ wr) (loadRes l)) ||
  embersAwaited g i || latchesAwaited g p.sw i ||
  (syncNames p k && slots.any (fun k2 => syncNames p k2 && (g.slotQ k2).any (fun q => decide (q.seq < p.seq)))) ||
  (p.full && g.qh.any (fun h => h.pending && decide (h.seq < p.seq))) ||
  (usesStage i p.tw && g.rotatePending p.seq) ||
  ((k = .M ∨ k = .C ∨ (k = .S ∧ isLong i)) && g.qa.any (fun q => decide (q.seq < p.seq) && isDrain q.instr && !g.knownOff q)) ||
  ((k = .A ∨ k = .M ∨ k = .C) && g.qs.any (fun q => decide (q.seq < p.seq) && isWaitPoint q.instr && !g.knownOff q)) ||
  (match g.pOld with
    | some x => decide (x.seq < p.seq) && ((decide (k = .S) && !(predDests i).isEmpty) || (decide (k = .V) && mayFlag i))
    | none => false)

end Sys2Proof.Machine
end

