-- ==== Sys2Proof/Machine/Flags.lean ====
section
/-!
DEFINITION. The sticky flags of FP.FLAGS (03_numbers Table 3.3) and every flag rule that does not belong to one format's
rounding: the compare conditions of CMP and VCMP (04 Table 4.7, 07 Table 7.5).
-/

namespace Sys2Proof.Machine

/-- NV: invalid operation (03 Table 3.3). -/
def fNV : BitVec 6 := 0x01#6
/-- DZ: division by zero. -/
def fDZ : BitVec 6 := 0x02#6
/-- OF: overflow. -/
def fOF : BitVec 6 := 0x04#6
/-- UF: underflow. -/
def fUF : BitVec 6 := 0x08#6
/-- NX: inexact. -/
def fNX : BitVec 6 := 0x10#6
/-- SAT: saturated. -/
def fSAT : BitVec 6 := 0x20#6

/-- A flag where a condition holds. -/
def flagIf (b : Bool) (f : BitVec 6) : BitVec 6 := if b then f else 0#6

/-- A floating value as an operand reads: NaN (signalling or not), an infinity, or (−1)^neg × m × 2^e, a zero keeping its
sign (03 R65, R67). -/
inductive FVal where
  | nan (sig : Bool)
  | inf (neg : Bool)
  | fin (neg : Bool) (m : Nat) (e : Int)
deriving DecidableEq, Repr

/-- Whether a value is a NaN. -/
def FVal.isNan : FVal → Bool
  | .nan _ => true
  | _ => false
/-- Whether a value is a signalling NaN. -/
def FVal.isSig : FVal → Bool
  | .nan b => b
  | _ => false

/-- The integer num of num × 2^e for a finite value. -/
def signedM (neg : Bool) (m : Nat) : Int := if neg then -(m : Int) else m

/-- Compares num × 2^e with num' × 2^e' exactly: negative, zero or positive. -/
def cmpDyadic (a : Int) (e : Int) (b : Int) (f : Int) : Int :=
  let lo := min e f
  a * 2 ^ (e - lo).toNat - b * 2 ^ (f - lo).toNat

/-- The exact order of two values that are no NaN, −0 equal to +0: negative, zero or positive (04 R121, 07 R197). -/
def FVal.order : FVal → FVal → Int
  | .inf s, .inf t => if s = t then 0 else if s then -1 else 1
  | .inf s, _ => if s then -1 else 1
  | _, .inf t => if t then 1 else -1
  | .fin s m e, .fin t n f => cmpDyadic (signedM s m) e (signedM t n) f
  | _, _ => 0

/-- The float conditions feq, flt, fle and fun (04 Table 4.7), with NV. -/
def fcond (c : Nat) (a b : FVal) : Bool × BitVec 6 :=
  let nan := a.isNan || b.isNan
  let sig := a.isSig || b.isSig
  match c with
  | 6 => (!nan && a.order b == 0, flagIf sig fNV)
  | 7 => (!nan && a.order b < 0, flagIf nan fNV)
  | 8 => (!nan && a.order b ≤ 0, flagIf nan fNV)
  | _ => (nan, flagIf sig fNV)

/-- The conditions of VCMP on floats (07 Table 7.5), with NV. -/
def vcondF (c : Nat) (a b : FVal) : Bool × BitVec 6 :=
  let nan := a.isNan || b.isNan
  let sig := a.isSig || b.isSig
  match c with
  | 0 => (!nan && a.order b == 0, flagIf sig fNV)
  | 1 => (!(!nan && a.order b == 0), flagIf sig fNV)
  | 2 => (!nan && a.order b < 0, flagIf nan fNV)
  | 3 => (!nan && a.order b ≤ 0, flagIf nan fNV)
  | 4 => (!nan && 0 < a.order b, flagIf nan fNV)
  | 5 => (!nan && 0 ≤ a.order b, flagIf nan fNV)
  | 6 => (nan, flagIf sig fNV)
  | _ => (!nan, flagIf sig fNV)

/-- The conditions of VCMP on integers (07 Table 7.5). -/
def vcondI (c : Nat) (a b : Int) : Bool :=
  match c with
  | 0 => a == b
  | 1 => a != b
  | 2 => decide (a < b)
  | 3 => decide (a ≤ b)
  | 4 => decide (b < a)
  | _ => decide (b ≤ a)

/-- The integer conditions of CMP (04 Table 4.7). -/
def icond (c : Nat) (a b : Word) : Bool :=
  match c with
  | 0 => a == b
  | 1 => a != b
  | 2 => decide (a.toInt < b.toInt)
  | 3 => decide (b.toInt ≤ a.toInt)
  | 4 => decide (a.toNat < b.toNat)
  | 5 => decide (b.toNat ≤ a.toNat)
  | 10 => (a &&& b) != 0#64
  | _ => (a &&& b) == 0#64

end Sys2Proof.Machine
end

