-- ==== Sys2Proof/Machine/Num.lean ====
section
/-!
DEFINITION. The number formats (03_numbers R63 to R71): reading an element, exact arithmetic, one rounding, conversion,
and the correctly rounded functions of the vector unit (07 R201).
-/

namespace Sys2Proof.Machine

/-! ### Formats -/

/-- Mantissa bits of a floating type (03 Table 3.2). -/
def mantBits (t : Nat) : Nat :=
  match t with
  | 10 => 1 | 11 => 3 | 12 => 2 | 13 => 7 | 14 => 10 | 15 => 23 | _ => 52
/-- Exponent bits of a floating type (03 Table 3.2). -/
def expBits (t : Nat) : Nat :=
  match t with
  | 10 => 2 | 11 => 4 | 12 => 5 | 13 => 8 | 14 => 5 | 15 => 8 | _ => 11
/-- The bias of a floating type (03 Table 3.2). -/
def bias (t : Nat) : Int :=
  match t with
  | 10 => 1 | 11 => 7 | 12 => 15 | 13 => 127 | 14 => 15 | 15 => 127 | _ => 1023
/-- The largest finite value of a floating type as m × 2^e (03 Table 3.2). -/
def maxFin (t : Nat) : Nat × Int :=
  match t with
  | 10 => (3, 1) | 11 => (14, 5) | 12 => (7, 13) | 13 => (255, 120) | 14 => (2047, 5) | 15 => (16777215, 104)
  | _ => (9007199254740991, 971)
/-- The code of the largest finite value, sign clear (03 Table 3.2). -/
def maxCode (t : Nat) : Nat :=
  match t with
  | 10 => 0x7 | 11 => 0x7E | 12 => 0x7B | 13 => 0x7F7F | 14 => 0x7BFF | 15 => 0x7F7FFFFF | _ => 0x7FEFFFFFFFFFFFFF
/-- The canonical NaN (03 Table 3.2); .e2m1 has none and takes +0. -/
def nanCode (t : Nat) : Nat :=
  match t with
  | 10 => 0 | 11 => 0x7F | 12 => 0x7E | 13 => 0x7FC0 | 14 => 0x7E00 | 15 => 0x7FC00000 | _ => 0x7FF8000000000000
/-- The code of +∞ in a wide format (03 Table 3.2). -/
def infCode (t : Nat) : Nat :=
  match t with
  | 13 => 0x7F80 | 14 => 0x7C00 | 15 => 0x7F800000 | _ => 0x7FF0000000000000
/-- A floating type (03 R65). -/
def isFloatT (t : Nat) : Bool := 10 ≤ t
/-- A narrow floating type (03 R67). -/
def isNarrow (t : Nat) : Bool := 10 ≤ t && t ≤ 12
/-- A 16-bit floating type, which honours the flush bit (02 R46). -/
def isF16 (t : Nat) : Bool := t == 13 || t == 14
/-- A signed integer type (03 R64). -/
def isSignedT (t : Nat) : Bool := t ≤ 5
/-- The sign bit of a type's codes. -/
def signBit (t : Nat) : Nat := 2 ^ (typeWidth t - 1)

/-- Reads a floating code as an operand (03 R65, R67, R70). -/
def readF (t : Nat) (fz : Bool) (c : Nat) : FVal :=
  let mb := mantBits t
  let neg := decide (signBit t ≤ c % 2 ^ typeWidth t)
  let ex := nbits c mb (expBits t)
  let mt := nbits c 0 mb
  let top := 2 ^ expBits t - 1
  if t = 11 ∧ ex = top ∧ mt = 7 then .nan false
  else if t = 12 ∧ ex = top then (if mt = 0 then .fin neg 7 13 else .nan false)
  else if 13 ≤ t ∧ ex = top then (if mt = 0 then .inf neg else .nan (mt < 2 ^ (mb - 1)))
  else if ex = 0 then (if fz && isF16 t then .fin neg 0 0 else .fin neg mt (1 - bias t - mb))
  else .fin neg (2 ^ mb + mt) (ex - bias t - mb)

/-- A value to be rounded once: NaN (and whether it raises NV), an infinity, or (−1)^neg × (m + δ) × 2^e with δ = 0, or
0 < δ < 1 where sticky is set. -/
inductive Exact where
  | nan (nv : Bool)
  | inf (neg : Bool)
  | fin (neg : Bool) (m : Nat) (e : Int) (sticky : Bool)
deriving DecidableEq, Repr

/-- Whether rounding takes the next magnitude up: `lo` is the part cut off, `half` half a unit (02 R46). -/
def roundUp (rm : Nat) (neg : Bool) (kept lo half : Nat) (sticky : Bool) : Bool :=
  match rm with
  | 0 => half < lo || (lo == half && (sticky || kept % 2 == 1))
  | 1 => false
  | 2 => neg && (lo != 0 || sticky)
  | _ => !neg && (lo != 0 || sticky)

/-- Rounds m × 2^e to a multiple of 2^q in a mode: the multiple, and whether that is inexact. -/
def roundTo (rm : Nat) (neg : Bool) (m : Nat) (e q : Int) (sticky : Bool) : Nat × Bool :=
  if q ≤ e then (m * 2 ^ (e - q).toNat, sticky)
  else
    let sh := (q - e).toNat
    let kept := m >>> sh
    let lo := m % 2 ^ sh
    (kept + (if roundUp rm neg kept lo (2 ^ (sh - 1)) sticky then 1 else 0), lo != 0 || sticky)

/-- The code of m × 2^q in a floating type, where it is representable. -/
def packF (t : Nat) (neg : Bool) (m : Nat) (q : Int) : Nat :=
  let mb := mantBits t
  let s := if neg then signBit t else 0
  if m = 0 then s
  else
    let l := Nat.log2 m
    let ex := (l : Int) + q
    if ex < 1 - bias t then s + m * 2 ^ (q - (1 - bias t - mb)).toNat
    else
      let m' := if l ≤ mb then m * 2 ^ (mb - l) else m / 2 ^ (l - mb)
      s + (ex + bias t).toNat * 2 ^ mb + (m' - 2 ^ mb)

/-- ONE ROUNDING to a floating type (03 R68, R69, R70): the code and the flags. An exact zero raises neither UF nor NX where fz is set
(DEDUCED, log 93). -/
def roundFP (t rm : Nat) (fz : Bool) (x : Exact) : Nat × BitVec 6 :=
  match x with
  | .nan nv => if t = 10 then (0, fNV) else (nanCode t, flagIf nv fNV)
  | .inf neg =>
    let s := if neg then signBit t else 0
    if isNarrow t then (s + maxCode t, fSAT) else (s + infCode t, 0#6)
  | .fin neg m e sticky =>
    let s := if neg then signBit t else 0
    if m = 0 ∧ sticky = false then (s, 0#6)
    else
      let mb := mantBits t
      let emin := 1 - bias t
      let top := if m = 0 then e else (Nat.log2 m : Int) + e
      let q := max (top - mb) (emin - mb)
      let (r, inex) := roundTo rm neg m e q sticky
      let (u, _) := roundTo rm neg m e (top - mb) sticky
      let tiny := decide (cmpDyadic u (top - mb) 1 emin < 0)
      let big := decide (0 < cmpDyadic r q (maxFin t).1 (maxFin t).2)
      if big then
        if isNarrow t then (s + maxCode t, fOF ||| fNX ||| fSAT)
        else
          let toMax := rm == 1 || (rm == 2 && !neg) || (rm == 3 && neg)
          (s + (if toMax then maxCode t else infCode t), fOF ||| fNX)
      else if fz && isF16 t && decide (cmpDyadic r q 1 emin < 0) then (s, fUF ||| fNX)
      else (packF t neg r q, flagIf (tiny && inex) fUF ||| flagIf inex fNX)

/-! ### Exact arithmetic -/

/-- A value read as an operand, unrounded. -/
def FVal.exact : FVal → Exact
  | .nan s => .nan s
  | .inf n => .inf n
  | .fin n m e => .fin n m e false

/-- An exact integer times a power of two. -/
def exactInt (i : Int) (e : Int) : Exact := .fin (decide (i < 0)) i.natAbs e false

/-- The sign of an exact zero sum: of two zeros of one sign that sign, else + (− in RDN) (03 R69, IEEE 754). -/
def zeroSum (rm : Nat) (s t : Bool) : Bool := if s = t then s else rm == 2

/-- The exact sum (07 R194). -/
def addF (rm : Nat) (a b : FVal) : Exact :=
  match a, b with
  | .nan s, y => .nan (s || y.isSig)
  | _, .nan t => .nan t
  | .inf s, .inf t => if s = t then .inf s else .nan true
  | .inf s, _ => .inf s
  | _, .inf t => .inf t
  | .fin s m e, .fin t n f =>
    let lo := min e f
    let sum := signedM s m * 2 ^ (e - lo).toNat + signedM t n * 2 ^ (f - lo).toNat
    if sum = 0 then .fin (zeroSum rm s t) 0 0 false else exactInt sum lo

/-- A value with its sign flipped. -/
def FVal.neg : FVal → FVal
  | .nan s => .nan s
  | .inf n => .inf (!n)
  | .fin n m e => .fin (!n) m e

/-- The exact product as a value, with whether it is invalid (∞ × 0). -/
def mulV (a b : FVal) : FVal × Bool :=
  match a, b with
  | .nan s, y => (.nan (s || y.isSig), false)
  | _, .nan t => (.nan t, false)
  | .inf s, .inf t => (.inf (s != t), false)
  | .inf s, .fin t n _ => if n = 0 then (.nan false, true) else (.inf (s != t), false)
  | .fin s m _, .inf t => if m = 0 then (.nan false, true) else (.inf (s != t), false)
  | .fin s m e, .fin t n f => (.fin (s != t) (m * n) (e + f), false)

/-- The exact product (07 R194). -/
def mulF (a b : FVal) : Exact :=
  match mulV a b with
  | (v, true) => (match v with | _ => .nan true)
  | (v, false) => v.exact

/-- The exact a × b + c (07 R194). Whether ∞ × 0 + a quiet NaN raises NV is left open by IEEE 754: a free value (log 24). -/
def fmaF (rm : Nat) (a b c : FVal) : Exact :=
  let (p, bad) := mulV a b
  if bad then
    (match c with
      | .nan s => .nan (s || Config.freeInvalid)
      | _ => .nan true)
  else addF rm p c

/-- The exact quotient, or its enclosure with a sticky remainder (07 R194), and DZ. -/
def divF (a b : FVal) : Exact × BitVec 6 :=
  match a, b with
  | .nan s, y => (.nan (s || y.isSig), 0#6)
  | _, .nan t => (.nan t, 0#6)
  | .inf _, .inf _ => (.nan true, 0#6)
  | .inf s, .fin t _ _ => (.inf (s != t), 0#6)
  | .fin s _ _, .inf t => (.fin (s != t) 0 0 false, 0#6)
  | .fin s m e, .fin t n f =>
    if n = 0 then (if m = 0 then (.nan true, 0#6) else (.inf (s != t), fDZ))
    else if m = 0 then (.fin (s != t) 0 0 false, 0#6)
    else
      let k := Nat.log2 n + 70
      (.fin (s != t) (m * 2 ^ k / n) (e - f - k) (m * 2 ^ k % n != 0), 0#6)

/-- The integer square root by bits, `k` of them. -/
def isqrtGo (x : Nat) : Nat → Nat → Nat
  | 0, r => r
  | k + 1, r => let c := r + 2 ^ k; isqrtGo x k (if c * c ≤ x then c else r)

/-- The integer square root. -/
def isqrt (x : Nat) : Nat := isqrtGo x (Nat.log2 x / 2 + 1) 0

/-- The square root's enclosure (07 R194). -/
def sqrtF (a : FVal) : Exact :=
  match a with
  | .nan s => .nan s
  | .inf s => if s then .nan true else .inf false
  | .fin s m e =>
    if m = 0 then .fin s 0 0 false
    else if s then .nan true
    else
      let k : Nat := 128 + (if e % 2 = 0 then 0 else 1)
      let x := m * 2 ^ k
      let r := isqrt x
      .fin false r ((e - k) / 2) (r * r != x)

/-! ### Elements and conversion -/

/-- Element i of width w of a row (03 R63). -/
def elem (r : Row) (w i : Nat) : Nat := nbits r.toNat (w * i) w
/-- The elements of width w of a row, as many as it holds. -/
def elems (r : Row) (w : Nat) : List Nat := (List.range (8192 / w)).map (elem r w)
/-- The number whose elements of width w are a list, lowest first. -/
def packElems (w : Nat) : List Nat → Nat
  | [] => 0
  | x :: rest => x % 2 ^ w + 2 ^ w * packElems w rest
/-- The row whose elements are a list, the rest zero. -/
def rowOf (w : Nat) (l : List Nat) : Row := BitVec.ofNat 8192 (packElems w l)

/-- The integer a code of an integer type or of .t2 reads as (03 R64). -/
def readI (t : Nat) (c : Nat) : Int :=
  let w := typeWidth t
  let v := c % 2 ^ w
  if t = 0 then (if v = 1 then 1 else if v = 3 then -1 else 0)
  else if isSignedT t && decide (2 ^ (w - 1) ≤ v) then (v : Int) - 2 ^ w else v

/-- The code of an integer modulo 2^w. -/
def codeI (t : Nat) (i : Int) : Nat := (i % (2 ^ typeWidth t : Int)).toNat

/-- The range of an integer type or of .t2 (03 R71). -/
def rangeI (t : Nat) : Int × Int :=
  let w := typeWidth t
  if t = 0 then (-1, 1) else if isSignedT t then (-(2 ^ (w - 1) : Int), 2 ^ (w - 1) - 1) else (0, 2 ^ w - 1)

/-- Saturation to a type's range, and whether it changed the value. -/
def satI (t : Nat) (i : Int) : Int × Bool :=
  let (lo, hi) := rangeI t
  if i < lo then (lo, true) else if hi < i then (hi, true) else (i, false)

/-- A value rounded to an integer type or .t2 (03 R71); `flt` says the source was floating. -/
def roundI (t rm : Nat) (flt : Bool) (x : Exact) : Nat × BitVec 6 :=
  match x with
  | .nan _ => (0, fNV)
  | .inf neg =>
    let (lo, hi) := rangeI t
    (codeI t (if neg then lo else hi), fSAT ||| fNV)
  | .fin neg m e sticky =>
    let (r, inex) := roundTo rm neg m e 0 sticky
    let (v, sat) := satI t (signedM neg r)
    (codeI t v, flagIf inex fNX ||| flagIf sat fSAT ||| flagIf (sat && flt) fNV)

/-- A value rounded to any element type (03 R68 to R71). -/
def roundAny (t rm : Nat) (fz flt : Bool) (x : Exact) : Nat × BitVec 6 :=
  if isFloatT t then roundFP t rm fz x else roundI t rm flt x

/-- A code of any element type as an exact value; a signalling NaN raises NV (03 R67, R69). -/
def readAny (t : Nat) (fz : Bool) (c : Nat) : Exact :=
  if isFloatT t then (readF t fz c).exact else exactInt (readI t c) 0

/-- Conv: one element converted (03 R92). -/
def convert (dt st rm : Nat) (fz : Bool) (c : Nat) : Nat × BitVec 6 :=
  roundAny dt rm fz (isFloatT st) (readAny st fz c)

/-- The flags of a list of results. -/
def orFlags (l : List (Nat × BitVec 6)) : BitVec 6 := l.foldl (fun f x => f ||| x.2) 0#6

/-- The rank of a code in key order (07 R192): integers by value, floats by totalOrder. -/
def keyRank (t : Nat) (c : Nat) : Int :=
  if isFloatT t then
    let v := c % 2 ^ typeWidth t
    if signBit t ≤ v then -((v - signBit t : Nat) : Int) - 1 else v
  else readI t c

/-- KeyLess (07 R192). -/
def keyLess (t a b : Nat) : Bool := decide (keyRank t a < keyRank t b)

/-- The minimum or maximum of IEEE 754-2019 on codes of a float type (07 R195): NaN gives the canonical NaN, −0 below +0. -/
def minMaxF (t : Nat) (fz isMax : Bool) (a b : Nat) : Nat × BitVec 6 :=
  let x := readF t fz a
  let y := readF t fz b
  if x.isNan || y.isNan then (nanCode t, flagIf (x.isSig || y.isSig) fNV)
  else
    let less := decide (x.order y < 0) || (decide (x.order y = 0) && keyLess t a b)
    let flush (v : FVal) (c : Nat) : Nat := match v with
      | .fin n 0 _ => if n then signBit t else 0
      | _ => c
    if less != isMax then (flush x a, 0#6) else (flush y b, 0#6)

/-! ### Correctly rounded functions (07 R201) -/

/-- ln 2 × 2^320, cut to an integer. -/
def ln2Fix : Nat := 0xb17217f7d1cf79abc9e3b39803f2f6af40f343267298b62d8a0d175b8baafa2be7b876206debac98
/-- π × 2^640, cut to an integer. -/
def piFix : Nat := 0x3243f6a8885a308d313198a2e03707344a4093822299f31d0082efa98ec4e6c89452821e638d01377be5466cf34e90c6cc0ac29b7c97c50dd3f84d5b5b54709179216d5d98979fb1bd1310ba698dfb5ac

/-- Sums a Taylor series with terms term × x / (n × step…): `k` terms of Σ xⁱ/i! in fixed point with P fraction bits, each
cut downward. -/
def expGo (x P : Nat) : Nat → Nat → Nat → Nat → Nat
  | 0, _, _, acc => acc
  | k + 1, n, term, acc =>
    let t := term * x / (n * 2 ^ P)
    expGo x P k (n + 1) t (acc + t)

/-- Σ z^(2i+1)/(2i+1) in fixed point, each term cut downward: atanh z. -/
def atanhGo (z2 P : Nat) : Nat → Nat → Nat → Nat → Nat
  | 0, _, _, acc => acc
  | k + 1, n, pow, acc =>
    atanhGo z2 P k (n + 2) (pow * z2 / 2 ^ P) (acc + pow / n)

/-- The alternating series of sin (start n = 1, term = x) or cos (start n = 0, term = 1): pairs of terms, in fixed point. -/
def trigGo (x2 P : Nat) : Nat → Nat → Int → Int → Int
  | 0, _, _, acc => acc
  | k + 1, n, term, acc =>
    let t := -(term * x2 / (((n + 1) * (n + 2) : Nat) * 2 ^ P : Int))
    trigGo x2 P k (n + 2) t (acc + t)

/-- A positive value known to lie within `err` units of v × 2^−P: rounded at both ends; where they differ the last unit is a
free value (log 11). -/
def roundNear (t rm : Nat) (neg : Bool) (v err P : Nat) : Nat × BitVec 6 :=
  let lo := roundFP t rm false (.fin neg (v - err) (-(P : Int)) true)
  let hi := roundFP t rm false (.fin neg (v + err) (-(P : Int)) true)
  if lo = hi then lo else if Config.freeRound v then lo else hi

/-- 2^a (07 R201, Table 7.7). -/
def exp2F (t rm : Nat) (a : FVal) : Nat × BitVec 6 :=
  match a with
  | .nan s => roundFP t rm false (.nan s)
  | .inf neg => if neg then (0, 0#6) else (infCode t, 0#6)
  | .fin neg m e =>
    if m = 0 then roundFP t rm false (.fin false 1 0 false)
    else if 8 < (Nat.log2 m : Int) + e then
      (if neg then roundFP t rm false (.fin false 1 (-400) true) else roundFP t rm false (.fin false 1 400 true))
    else
      -- a = num / 2^160 exactly, since e ≥ −149
      let num := signedM neg m * 2 ^ (e + 160).toNat
      let n := num / 2 ^ 160
      let f := (num % 2 ^ 160).toNat
      if f = 0 then roundFP t rm false (.fin false 1 n false)
      else
        let y := f * ln2Fix / 2 ^ 160
        let v := expGo y 320 80 1 (2 ^ 320) (2 ^ 320)
        let lo := roundFP t rm false (.fin false (v - 1) (n - 320) true)
        let hi := roundFP t rm false (.fin false (v + 256) (n - 320) true)
        if lo = hi then lo else if Config.freeRound v then lo else hi

/-- ln y × 2^320 for y = m / 2^k in [1, 2), within 512 units. -/
def lnFix (m k : Nat) : Nat :=
  let z := (m - 2 ^ k) * 2 ^ 320 / (m + 2 ^ k)
  2 * atanhGo (z * z / 2 ^ 320) 320 110 1 z 0

/-- log2 a (07 R201, Table 7.7). -/
def log2F (t rm : Nat) (a : FVal) : Nat × BitVec 6 :=
  match a with
  | .nan s => roundFP t rm false (.nan s)
  | .inf neg => if neg then (nanCode t, fNV) else (infCode t, 0#6)
  | .fin neg m e =>
    if m = 0 then (signBit t + infCode t, fDZ)
    else if neg then (nanCode t, fNV)
    else
      let k := Nat.log2 m
      let n := (k : Int) + e
      if m = 2 ^ k then roundFP t rm false (exactInt n 0)
      else
        let v : Int := n * 2 ^ 320 + (lnFix m k * 2 ^ 320 / ln2Fix : Nat)
        roundNear t rm (decide (v < 0)) v.natAbs 4096 320

/-- 1/a (07 R201, Table 7.7). -/
def rcpF (t rm : Nat) (a : FVal) : Nat × BitVec 6 :=
  let (x, f) := divF (.fin false 1 0) a
  let (c, g) := roundFP t rm false x
  (c, f ||| g)

/-- The enclosure of 1/√a for a positive finite a. -/
def rsqExact (m : Nat) (e : Int) : Exact :=
  let m := if e % 2 = 0 then m else m * 2
  let e := if e % 2 = 0 then e else e - 1
  let k := 64 + Nat.log2 m
  let x := 2 ^ (2 * k) / m
  let r := isqrt x
  .fin false r (-(k : Int) - e / 2) (r * r * m != 2 ^ (2 * k))

/-- 1/√a (07 R201, Table 7.7). -/
def rsqF (t rm : Nat) (a : FVal) : Nat × BitVec 6 :=
  match a with
  | .nan s => roundFP t rm false (.nan s)
  | .inf neg => if neg then (nanCode t, fNV) else (0, 0#6)
  | .fin neg m e =>
    if m = 0 then ((if neg then signBit t else 0) + infCode t, fDZ)
    else if neg then (nanCode t, fNV)
    else roundFP t rm false (rsqExact m e)

/-- sin or cos of a positive finite m × 2^e above 2^−21, as a signed fixed-point number with 400 fraction bits, within 4096
units: the argument is reduced by π/2 held to 640 bits (07 R201). -/
def trigFix (cos : Bool) (m : Nat) (e : Int) : Int :=
  let x : Nat := if 0 ≤ e + 640 then m * 2 ^ (e + 640).toNat else m / 2 ^ (-(e + 640)).toNat
  let h : Nat := piFix / 2
  let q : Nat := x / h
  let r : Nat := (x - q * h) / 2 ^ 240
  let x2 : Nat := r * r / 2 ^ 400
  let sn := trigGo x2 400 70 1 (r : Int) (r : Int)
  let cs := trigGo x2 400 70 0 (2 ^ 400) (2 ^ 400)
  match (q + (if cos then 1 else 0)) % 4 with
  | 0 => sn
  | 1 => cs
  | 2 => -sn
  | _ => -cs

/-- sin a (07 R201, Table 7.7). -/
def sinF (t rm : Nat) (a : FVal) : Nat × BitVec 6 :=
  match a with
  | .nan s => roundFP t rm false (.nan s)
  | .inf _ => (nanCode t, fNV)
  | .fin neg m e =>
    if m = 0 then (if neg then signBit t else 0, 0#6)
    else if (Nat.log2 m : Int) + e < -21 then roundFP t rm false (.fin neg (m * 2 ^ 40 - 1) (e - 40) true)
    else
      let v := trigFix false m e
      roundNear t rm (neg != decide (v < 0)) v.natAbs 4096 400

/-- cos a (07 R201, Table 7.7). -/
def cosF (t rm : Nat) (a : FVal) : Nat × BitVec 6 :=
  match a with
  | .nan s => roundFP t rm false (.nan s)
  | .inf _ => (nanCode t, fNV)
  | .fin _ m e =>
    if m = 0 then roundFP t rm false (.fin false 1 0 false)
    else if (Nat.log2 m : Int) + e < -21 then roundFP t rm false (.fin false (2 ^ 41 - 1) (-41) true)
    else
      let v := trigFix true m e
      roundNear t rm (decide (v < 0)) v.natAbs 4096 400

end Sys2Proof.Machine
end

