-- ==== Sys2Proof/Machine/Translate.lean ====
section
/-!
DEFINITION. Address translation (14_traps R371 to R378), the physical home of bytes (01 R16, 14 R379 to R382), and the
engine reads and writes of device memory that the other chapters share (14 R448).
-/

namespace Sys2Proof.Machine

/-! ### Address spaces (05 R130) -/

/-- VA[55:48]. -/
def vaSpace (va : Nat) : Nat := va / 2 ^ 48
/-- A global address: VA[63:56] zero and VA[55:48] at most 0xFD (05 Table 5.1). -/
def isGlobal (va : Nat) : Bool := va < 0xFE * 2 ^ 48
/-- An address with VA[63:56] zero in the accumulator window (05 Table 5.1). -/
def isAccWin (va : Nat) : Bool := vaSpace va == 0xFE
/-- An address with VA[63:56] zero in the scratchpad window (05 Table 5.1). -/
def isPadWin (va : Nat) : Bool := vaSpace va == 0xFF
/-- The hamper offset of a scratchpad address, where VA[47:24] is zero (05 R131). -/
def padOffset (va : Nat) : Option Nat := if isPadWin va ∧ va % 2 ^ 48 < 2 ^ 24 then some (va % 2 ^ 24) else none

/-! ### Translation caches (14 R371) -/

/-- Whether an entry translates an address of an address space. -/
def TransEnt.covers (e : TransEnt) (asid va : Nat) : Bool := e.asid == asid && e.va / 2 ^ e.bits == va / 2 ^ e.bits

/-- The caches a unit looks in, nearest first (14 R371). -/
def State.tcLevels (s : State) (u : XUnit) : List (List TransEnt) :=
  match u with
  | .engine c .access => [(s.core c).tcAccess, (s.core c).tc, (s.die (dieOf c)).tc]
  | .engine c .copy => [(s.core c).tcCopy, (s.core c).tc, (s.die (dieOf c)).tc]
  | .engine c .seq => [(s.core c).tcSeq, (s.core c).tc, (s.die (dieOf c)).tc]
  | .lantern l => [(s.lanterns.getD l Lantern.idle).tc, (s.die (l / 16)).tc]
  | .core c => [(s.core c).tc, (s.die (dieOf c)).tc]
  | .die d => [(s.die d).tc]

/-- The die of a unit. -/
def unitDie : XUnit → Nat
  | .engine c _ => dieOf c
  | .lantern l => l / 16
  | .core c => dieOf c
  | .die d => d

/-- The cached translation of an address. -/
def State.cached (s : State) (u : XUnit) (asid va : Nat) : Option TransEnt :=
  (s.tcLevels u).findSome? (fun l => l.find? (fun e => e.covers asid va))

/-- The answer of the caches to an access (14 R373): a frame, a walk still to make, or a refusal of the processor. -/
inductive Trans where
  | hit (pa : Nat) (host : Bool)
  | miss
  | refused
deriving DecidableEq, Repr

/-- The 64 KiB page of an address. -/
def page (va : Nat) : Nat := va / 65536

/-- A walk is of a page of an address space. -/
def DemandFault.at (f : DemandFault) (asid va : Nat) : Bool := f.asid == asid && page f.va == page va

/-- Whether a walk's answer is one for reads, or for writes. -/
def DemandFault.asks (f : DemandFault) (wr : Bool) : Bool := if wr then f.wr else f.rd

/-- Whether the processor refused a unit's access to a page with the right that it needs (14 R373). -/
def State.wasRefused (s : State) (u : XUnit) (asid va : Nat) (wr : Bool) : Bool :=
  (s.die (unitDie u)).refused.any (fun f => f.units.contains u && f.at asid va && f.asks wr)

/-- Translates one address for a read or a write (14 R371, R373). -/
def State.translate (s : State) (u : XUnit) (asid va : Nat) (wr : Bool) : Trans :=
  match s.cached u asid va with
  | some e => if wr && !e.w then (if s.wasRefused u asid va wr then .refused else .miss) else .hit (e.pa + va % 2 ^ e.bits) e.host
  | none => if s.wasRefused u asid va wr then .refused else .miss

/-- The first addresses of the pages an access touches, lowest first. -/
def pagesOf (va n : Nat) : List Nat :=
  if n = 0 then [] else (List.range (page (va + n - 1) - page va + 1)).map (fun i => if i = 0 then va else (page va + i) * 65536)

/-- The translation of a whole access: every page hits, or the lowest refused address, or some page must be walked. -/
inductive Span where
  | ok
  | miss
  | refused (va : Nat)
deriving DecidableEq, Repr

/-- Whether every page of an access is translated (05 R149: no piece is performed before). -/
def State.span (s : State) (u : XUnit) (asid va n : Nat) (wr : Bool) : Span :=
  let ts := (pagesOf va n).map (fun a => (a, s.translate u asid a wr))
  match ts.find? (fun x => decide (x.2 = .refused)) with
  | some x => .refused x.1
  | none => if ts.any (fun x => decide (x.2 = .miss)) then .miss else .ok

/-- Drops the refusals of a unit's access once they have had their effect; those of other units stand. -/
def State.clearRefused (s : State) (u : XUnit) (asid va n : Nat) : State :=
  let d := s.die (unitDie u)
  let spent (f : DemandFault) : Bool := f.asid == asid && page va ≤ page f.va && decide (page f.va ≤ page (va + n - 1))
  let left := d.refused.map (fun f => if spent f then { f with units := f.units.erase u } else f)
  s.setDie (unitDie u) { d with refused := left.filter (fun f => !f.units.isEmpty) }

/-! ### Page walks (14 R372) -/

/-- How a walk ends: a translation, a host-backed leaf that ATS must translate, no translation, or a physical address
that does not exist, of a table or of a leaf's frame (01 R18, log 12). -/
inductive Walk where
  | leaf (e : TransEnt)
  | host (bits : Nat) (w : Bool)
  | none
  | absent (e : Option TransEnt)
deriving DecidableEq, Repr

/-- The five levels: the lowest index bit, the number of index bits, whether a leaf is allowed (14 R372). -/
def walkLevels : List (Nat × Nat × Bool) := [(48, 8, false), (39, 9, false), (30, 9, true), (21, 9, true), (16, 5, true)]

/-- Walks the levels from a table (14 R372, Table 14.5). -/
def walkFrom (mem : Mem) (asid va : Nat) : Nat → List (Nat × Nat × Bool) → Walk
  | _, [] => .none
  | table, (lo, n, leafOk) :: rest =>
    let at_ := table + 8 * nbits va lo n
    if Config.hbmBytes ≤ at_ then .absent Option.none
    else
      let e := leNat (mem.readN at_ 8)
      let addr := nbits e 12 40 * 4096
      if !e.testBit 0 || nbits e 5 7 != 0 || nbits e 52 12 != 0 then .none
      else if e.testBit 1 then
        if !leafOk then .none
        else if e.testBit 3 then .host lo (e.testBit 2)
        else if nbits e 12 4 != 0 || addr % 2 ^ lo != 0 then .none
        else
          let x : TransEnt := ⟨asid, va / 2 ^ lo * 2 ^ lo, lo, addr, e.testBit 2, e.testBit 4, false⟩
          if Config.hbmBytes < addr + 2 ^ lo then .absent (some x) else .leaf x
      else walkFrom mem asid va addr rest

/-- The walk of a die for an address space (14 R372); one with no root has no translation. -/
def State.walk (s : State) (d asid va : Nat) : Walk :=
  match (s.die d).roots.find? (fun x => x.asid == asid) with
  | some x => walkFrom s.mem asid va x.pa walkLevels
  | Option.none => .none

/-- The first addresses of the leaves below a table that covers addresses from `va`; only entries that memory lists can be valid (14 R372). -/
def leavesFrom (mem : Mem) (va : Nat) : Nat → List (Nat × Nat × Bool) → List Nat
  | _, [] => []
  | table, (lo, n, _) :: rest =>
    let idx := ((mem.filter (fun x => table ≤ x.1 && decide (x.1 < table + 8 * 2 ^ n))).map (fun x => (x.1 - table) / 8)).dedup
    idx.flatMap (fun i =>
      let e := leNat (mem.readN (table + 8 * i) 8)
      if !e.testBit 0 then []
      else if e.testBit 1 then [va + i * 2 ^ lo]
      else leavesFrom mem (va + i * 2 ^ lo) (nbits e 12 40 * 4096) rest)

/-- The places that the page tables of the package map: a die, an address space, a first address. -/
def State.leaves (s : State) : List (Nat × Nat × Nat) :=
  (List.range 4).flatMap (fun d => (s.die d).roots.flatMap (fun x => (leavesFrom s.mem 0 x.pa walkLevels).map (fun v => (d, x.asid, v))))

/-- The physical address of a device-memory page by the caches or a walk, for a prefetch that does not wait (05 R156). -/
def State.peekPhysical (s : State) (u : XUnit) (asid va : Nat) : Option Nat :=
  match s.cached u asid va with
  | some e => if e.host then Option.none else some (e.pa + va % 2 ^ e.bits)
  | Option.none => match s.walk (unitDie u) asid va with
    | .leaf e => some (e.pa + va % 2 ^ e.bits)
    | _ => Option.none

/-! ### Physical homes (01 R16, 14 R379) -/

/-- XOR of two numbers below 64. -/
def xor6 (a b : Nat) : Nat := Nat.xor a b

/-- The home slice of a physical address (01 R16). -/
def homeSlice (pa : Nat) : Nat :=
  let f (lo : Nat) : Nat := nbits pa lo 6
  xor6 (f 7) (xor6 (f 13) (xor6 (f 19) (xor6 (f 25) (xor6 (f 31) (xor6 (f 37) (xor6 (f 43) (nbits pa 49 3)))))))

/-- The stripe and the data part of a physical address (14 R379). -/
def stripeOf (pa : Nat) : Nat × Nat := (pa / 2816, pa / 256 % 11)
/-- The stack and channel that hold a data part (14 R379). -/
def partHome (pa : Nat) : Nat × Nat :=
  let (st, part) := stripeOf pa
  ((st % 12 + 1 + part) % 12, st / 12 % 32)

/-- The stack and channel that hold the parity part of a stripe (14 R379). -/
def parityHome (stripe : Nat) : Nat × Nat := (stripe % 12, stripe / 12 % 32)

/-- A byte of the parity part of a stripe: the XOR of the 11 data parts (14 R379). -/
def State.parityByte (s : State) (stripe i : Nat) : Byte :=
  (List.range 11).foldl (fun (x : Byte) p => x ^^^ s.mem.read (2816 * stripe + 256 * p + i)) 0#8

/-- A unit under a lamp test, or withdrawn (14 R385, 01 R25). -/
def State.outOf (s : State) (u : LampUnit) : Bool := s.withdrawn.contains u || s.lamps.any (fun j => decide (j.unit = u))

/-- Part n of a stripe cannot be read directly: it fails SEC-DED, or its channel is withdrawn or under test; part 11 is the parity (14
R380, R385). -/
def State.partLost (s : State) (stripe n : Nat) : Bool :=
  s.hbmBad.contains (stripe, n) ||
  (let home := if n = 11 then parityHome stripe else partHome (2816 * stripe + 256 * n)
   s.outOf (.channel home.1 home.2))

/-- Whether the data part of an address cannot be read directly (14 R380). -/
def State.partBad (s : State) (pa : Nat) : Bool := s.partLost (stripeOf pa).1 (stripeOf pa).2

/-- How many parts of an address's stripe, the parity among them, cannot be read directly (14 R380). -/
def State.stripeBad (s : State) (pa : Nat) : Nat := ((List.range 12).filter (s.partLost (pa / 2816))).length

/-- The LLC slice holds the sector of a physical address (05 R146). -/
def State.llcHas (s : State) (pa : Nat) : Bool := (SMap.get 0 s.llc (pa / 128)).testBit (pa / 32 % 4)

/-- The error a read of a byte meets: none, corrected by parity, or uncorrectable with its unit code (14 R380 to R382). -/
inductive ReadErr where
  | none
  | corrected
  | bad (unit : Nat)
deriving DecidableEq, Repr

/-- The channel of a physical address's data part. -/
def partUnit (pa : Nat) : LampUnit := .channel (partHome pa).1 (partHome pa).2

/-- The error of one physical granule: a line of the LLC is served by its slice, and a granule written whole since its part failed is
sound; every read of a channel that is withdrawn is rebuilt, as one of a channel under test is (05 R147, 14 R380, R382, R385). -/
def State.readErr (s : State) (pa : Nat) : ReadErr :=
  let u := SMap.get 0 s.poison (pa / 16)
  if u ≠ 0 then .bad u
  else if s.llcHas pa || !s.partBad pa then .none
  else if s.healed.contains (pa / 16) && (s.withdrawn.contains (partUnit pa) || !s.outOf (partUnit pa)) then
    (if s.withdrawn.contains (partUnit pa) then .corrected else .none)
  else if s.stripeBad pa ≤ 1 then .corrected
  else .bad 1

/-- Enters an event into a task's error log and asks for a lamp test of the unit (14 R384, R385). -/
def State.logError (s : State) (task : Nat) (e : ErrEntry) (u : LampUnit) : State :=
  match s.task task with
  | some t =>
    { s.setTask { t with log := (e :: t.log).take 16, errCnt := Nat.min (t.errCnt + 1) 0xFFFF } with
      lamps := s.lamps ++ [⟨u, task, e⟩] }
  | none => { s with lamps := s.lamps ++ [⟨u, task, e⟩] }

/-- The hamper bank of an offset (log 55). -/
def bankAt (core off : Nat) : LampUnit := .hamperBank core (Config.hamperBank off)

/-- The lamp unit that held a physical byte. -/
def memUnit (pa unit : Nat) : LampUnit :=
  if unit = 2 then .llcBank (homeSlice pa) else if unit = 6 then .lantern (homeSlice pa) else .channel (partHome pa).1 (partHome pa).2

/-- Logs what a read of physical bytes met: the worst event of its granules (14 R380, R384). -/
def State.logRead (s : State) (task pa va : Nat) : State :=
  match s.readErr pa with
  | .none => s
  | .corrected => s.logError task ⟨va, homeSlice pa, 0xFF, 0, 0, 1⟩ (memUnit pa 1)
  | .bad u => s.logError task ⟨va, homeSlice pa, 0xFF, 0, 1, u⟩ (memUnit pa u)

/-! ### Device accesses by virtual address (14 R448) -/

/-- The physical byte of a virtual one, and whether it is host memory; none where it is not translated. -/
def State.physical (s : State) (u : XUnit) (asid va : Nat) : Option (Nat × Bool) :=
  match s.translate u asid va false with
  | .hit pa host => some (pa, host)
  | _ => none

/-- A byte of device or host memory. -/
def State.byteAt (s : State) (x : Nat × Bool) : Byte := if x.2 then s.host.read x.1 else s.mem.read x.1

/-- Bytes read by an engine at a virtual address; an untranslated byte reads as 0 (the caller checks the span first). -/
def State.vread (s : State) (u : XUnit) (asid va n : Nat) : List Byte :=
  (List.range n).map (fun i => match s.physical u asid (va + i) with
    | some x => s.byteAt x
    | none => 0#8)

/-- The uncorrectable error that a read of virtual bytes meets, if any (14 R380, R381). -/
def State.vreadErr (s : State) (u : XUnit) (asid va n : Nat) : Option Poison :=
  (List.range n).findSome? (fun i => match s.physical u asid (va + i) with
    | some (pa, false) => (match s.readErr pa with
      | .bad k => some ⟨k, va + i⟩
      | _ => none)
    | _ => none)

/-- A 4-byte or 8-byte number read at a virtual address. -/
def State.vnat (s : State) (u : XUnit) (asid va n : Nat) : Nat := leNat (s.vread u asid va n)

/-- Removes the L1 copies that a store of the core updates or an engine write leaves: the sector of a physical address. -/
def sectorOf (pa : Nat) : Nat := pa / 32

/-- Replaces one byte of a sector. -/
def sectorSet (x : BitVec 256) (i : Nat) (b : Byte) : BitVec 256 :=
  let sh := 8 * (i % 32)
  (x &&& ~~~((0xFF#256) <<< sh)) ||| ((b.setWidth 256) <<< sh)

/-- Writes a byte at its home (05 R146); the caller clears poison where a whole granule is covered (14 R382). -/
def State.putByte (s : State) (x : Nat × Bool) (b : Byte) : State :=
  if x.2 then { s with host := s.host.write x.1 b } else { s with mem := s.mem.write x.1 b }

/-- Whether bytes off..off+len−1 of a granule cover it whole. -/
def coversGranule (pa len : Nat) : Bool := pa % 16 == 0 && len == 16

/-- Whether a write of a whole granule is read back sound though its part failed: its words are written anew, or, on a channel that takes
no write, the parity holds what two failed parts would have lost (14 R380, R382). -/
def State.heals (s : State) (k : Nat) : Bool :=
  if s.outOf (partUnit (16 * k)) then decide (1 < s.stripeBad (16 * k)) else s.hbmBad.contains (stripeOf (16 * k))

/-- A granule written whole at its home: its poison goes, and a failed part no longer shows there (14 R380, R382). -/
def State.soundGranule (s : State) (k : Nat) : State :=
  { s with poison := SMap.set 0 s.poison k 0, healed := if s.heals k then insertNat s.healed k else s.healed }

/-- The uncorrectable error of a granule that a write would merge into without covering it (14 R382). -/
def State.mergeUnit (s : State) (pa len : Nat) : Option Nat :=
  if coversGranule pa len then none
  else match s.readErr pa with
    | .bad u => some u
    | _ => none

/-! ### The lines of the LLC slices (05 R146, R147, Table 5.3) -/

/-- The lines that a slice may hold: 8 MiB (01 R17). -/
def llcCap : Nat := 65536

/-- A line leaves its slice: its dirty sectors are written back, and their parts hold sound words again (05 R146). -/
def State.llcEvict (s : State) (line : Nat) : State :=
  let v := SMap.get 0 s.llc line
  let back := ((List.range 4).filter (fun i => v.testBit (4 + i))).flatMap (fun i => [8 * line + 2 * i, 8 * line + 2 * i + 1])
  let fix (h : List Nat) (k : Nat) : List Nat := if s.heals k then insertNat h k else h
  { s with llc := SMap.set 0 s.llc line 0, healed := back.foldl fix s.healed }

/-- Room for a line in its slice: where the slice is full the line that goes is a free choice (log 82). -/
def State.llcRoom (s : State) (line : Nat) : State :=
  let mine := (s.llc.filter (fun x => homeSlice (128 * x.1) == homeSlice (128 * line))).map (·.1)
  if mine.contains line || decide (mine.length < llcCap) then s
  else { s.llcEvict (mine.getD (Config.freeNat s.free % mine.length) line) with free := s.free + 1 }

/-- What a fill from HBM brings in error stays in error at the slice (14 R380, R382). -/
def State.llcSoak (s : State) (sector : Nat) : State :=
  [2 * sector, 2 * sector + 1].foldl (fun (s : State) k => match s.readErr (16 * k) with
    | .bad u => { s with poison := SMap.set 0 s.poison k u }
    | _ => s) s

/-- An access that allocates: the sector of a physical address is held by its slice, dirty where it is written (05 Table 5.3). -/
def State.llcFill (s : State) (pa : Nat) (dirty : Bool) : State :=
  let s := if s.llcHas pa then s else (s.llcRoom (pa / 128)).llcSoak (pa / 32)
  let bit := 2 ^ (pa / 32 % 4)
  { s with llc := SMap.set 0 s.llc (pa / 128) (Nat.lor (SMap.get 0 s.llc (pa / 128)) (bit + if dirty then 16 * bit else 0)) }

/-- What a fill of a sector from HBM meets in the granules that it reads is logged, at the granule that met the worst; a sector that its
slice holds is not filled (05 R146, 14 R380, R384). -/
def State.logFill (s : State) (task pa va : Nat) (reads : List Nat) : State :=
  let bad (a : Nat) : Bool := match s.readErr a with
    | .bad _ => true
    | _ => false
  if s.llcHas pa then s
  else
    match reads.find? bad <|> reads.find? (fun a => decide (s.readErr a = .corrected)) with
    | some a => s.logRead task a (va / 32 * 32 + a % 32)
    | none => s

/-- The granules of its sector that a fill reads: a granule to be written whole is not read (05 R146). -/
def fillReads (pa : Nat) (whole : Bool) : List Nat :=
  [pa / 32 * 32, pa / 32 * 32 + 16].filter (fun a => !whole || decide (a ≠ pa / 16 * 16))

/-- A fill from HBM that a task's work makes. -/
def State.fillRead (s : State) (task pa va : Nat) (dirty : Bool) : State := (s.logFill task pa va (fillReads pa false)).llcFill pa dirty

/-- A write that allocates nothing: a line that is present takes it and is dirty (05 R147). -/
def State.llcMerge (s : State) (pa : Nat) : State := if s.llcHas pa then s.llcFill pa true else s

/-- Writes bytes that lie in one granule, in one event: a covering write clears the granule's poison (14 R382), and a line that the slice
holds takes the write (05 R147). -/
def State.putGranule (s : State) (pa : Nat) (host : Bool) (bs : List Byte) : State :=
  if host then { s with host := s.host.writeN pa bs }
  else
    let s := { s with mem := s.mem.writeN pa bs }
    (if coversGranule pa bs.length then s.soundGranule (pa / 16) else s).llcMerge pa

/-- The granules of a virtual range: start and length of the part in each 16-byte granule, lowest first. -/
def granules (va n : Nat) : List (Nat × Nat) :=
  if n = 0 then []
  else (List.range ((va + n - 1) / 16 - va / 16 + 1)).map (fun i =>
    let lo := Nat.max va ((va / 16 + i) * 16)
    let hi := Nat.min (va + n) ((va / 16 + i + 1) * 16)
    (lo, hi - lo))

/-- Writes bytes at a virtual address as an engine does, granule by granule; untranslated bytes are not written. -/
def State.vwrite (s : State) (u : XUnit) (asid va : Nat) (bs : List Byte) : State :=
  (granules va bs.length).foldl (fun st x =>
    match s.physical u asid x.1 with
    | some (pa, host) => st.putGranule pa host ((bs.drop (x.1 - va)).take x.2)
    | none => st) s

/-- A granule of a virtual write that is poisoned and not covered, so the write may not merge into it (14 R382). -/
def State.mergeErr (s : State) (u : XUnit) (asid va n : Nat) : Option Nat :=
  ((granules va n).find? (fun x => match s.physical u asid x.1 with
    | some (pa, false) => (s.mergeUnit pa x.2).isSome
    | _ => false)).map (·.1)

/-! ### The scratchpad (05 R132, R142) -/

/-- Whether bytes lie in the group's scratchpad (05 R131). -/
def Core.padHas (c : Core) (off n : Nat) : Bool := c.bnd0 * 1024 ≤ off && off + n ≤ c.bnd1 * 1024

/-- Lights the granules of a hamper range (05 R142). -/
def Core.light (c : Core) (off n : Nat) : Core :=
  { c with lit := (granules off n).foldl (fun l x => insertNat l (x.1 / 16)) c.lit }
/-- Darkens the granules of a hamper range (05 R142). -/
def Core.darken (c : Core) (off n : Nat) : Core :=
  { c with lit := c.lit.filter (fun k => !((granules off n).any (fun x => x.1 / 16 == k))) }
/-- Whether every granule of a hamper range is lit (05 R143). -/
def Core.allLit (c : Core) (off n : Nat) : Bool := (granules off n).all (fun x => c.lit.contains (x.1 / 16))

/-- A write of hamper bytes ends the fills that it meets (09 R243, R250). -/
def Core.endFills (c : Core) (off n : Nat) : Core :=
  { c with fills := c.fills.filter (fun f => f.off + f.len ≤ off || decide (off + n ≤ f.off)) }

/-- Writes hamper bytes; a granule written whole loses its poison (14 R382). -/
def Core.padWrite (c : Core) (off : Nat) (bs : List Byte) : Core :=
  { c.endFills off bs.length with
    hamper := c.hamper.writeN off bs
    padPoison := c.padPoison.filter (fun k => !((granules off bs.length).any (fun x => x.1 / 16 == k && x.2 == 16))) }

/-- An uncorrectable error in hamper bytes (14 R381). -/
def Core.padErr (c : Core) (off n : Nat) : Option Nat := ((granules off n).find? (fun x => c.padPoison.contains (x.1 / 16))).map (·.1)

/-! ### The address space of a task (14 R370, 15 R396) -/

/-- Whether an access lies in a declared range of a task whose MODE covers it (13 Table 13.1). -/
def Launch.declares (l : Launch) (va n : Nat) (wr : Bool) : Bool :=
  l.ranges.any (fun x => x.base ≤ va && va + n ≤ x.base + x.size && (if wr then x.mode.testBit 1 else x.mode.testBit 0))

/-- A task under a residency lease whose declared ranges and MODE cover an access to a page (13 R325, 14 R373). -/
def Task.leases (t : Task) (asid va : Nat) (wr : Bool) : Bool :=
  t.asid == asid && (t.state == .running || t.state == .preempted) && t.launch.ranges.any (fun x =>
    page x.base ≤ page va && decide (page va ≤ page (x.base + x.size - 1)) && x.size != 0 &&
    (if wr then x.mode.testBit 1 else x.mode.testBit 0))

/-- A page is under a lease that covers reads, or writes: such an access never faults for residency (14 R373). -/
def State.leased (s : State) (asid va : Nat) (wr : Bool) : Bool := s.tasks.any (fun t => t.leases asid va wr)

/-- What a refusal of a walk refuses: no access that a lease covers (14 R373). -/
def State.unleased (s : State) (f : DemandFault) : DemandFault :=
  { f with wr := f.wr && !s.leased f.asid f.va true, rd := f.rd && !s.leased f.asid f.va false }

/-- Refusals with their walks, those that refuse nothing left out. -/
def State.refusals (s : State) (l : List DemandFault) : List DemandFault := (l.map s.unleased).filter (fun f => f.wr || f.rd)

/-- Whether an address lies in a declared range of a task (14 Table 14.11, DECL). -/
def Launch.declared (l : Launch) (va : Nat) : Bool := l.ranges.any (fun x => x.base ≤ va && decide (va < x.base + x.size))

end Sys2Proof.Machine
end

