-- ==== Sys2Proof/Machine/Streams.lean ====
section
/-!
DEFINITION. The streams of a group (05_access, 06_ordering): the checks of an access, entering the queues, the fences in
force, tags, and the performing of load, store and atomic pieces.
-/

namespace Sys2Proof.Machine

/-- What a part may do at a moment: wait unissued, raise a trap of the given CODE, INFO and ADDR precise at the part or
precise at its bundle, or issue (04 R108, 02 R31, R35). -/
inductive Verdict where
  | wait
  | go
  | trap (code info addr : Nat)
  | atBundle (code info : Nat)
deriving DecidableEq, Repr

/-- The first verdict that is not `go`. -/
def Verdict.then (a b : Verdict) : Verdict := if a = .go then b else a

/-- Wait where a condition holds. -/
def waitIf (b : Bool) : Verdict := if b then .wait else .go
/-- Trap where a condition holds. -/
def trapIf (b : Bool) (code info addr : Nat) : Verdict := if b then .trap code info addr else .go

/-- The access trap (14 Table 14.1, CODE 3). -/
def accessTrap (ea : Nat) : Verdict := .trap 3 0 ea
/-- The operand trap (14 Table 14.1, CODE 2). -/
def operandTrap : Verdict := .trap 2 0 0
/-- The data-error trap of a poison mark (14 Table 14.1, CODE 8). -/
def poisonTrap (x : Poison) : Verdict := .trap 8 x.unit x.addr

/-! ### Addresses and checks (05 R130, R131, R141, R148, R149) -/

/-- The effective address of a load, store or prefetch (05 R153). -/
def Group.eaAM (g : Group) (x : AM) : Nat :=
  (g.areg x.base.toNat + sext x.off * word (accessBytes x.size)).toNat

/-- What kind of access is checked: an ordinary one, one that must be aligned to its size, and one of a write. -/
structure AccCheck where
  ea : Nat
  size : Nat
  strict : Bool
  wr : Bool
  lit : Bool
  sts : Bool
deriving DecidableEq, Repr

/-- The unit that translates for an A part. -/
def accessUnit (r : GRef) : XUnit := .engine r.core .access

/-- Whether the alignment rules of 05 R141 hold. -/
def AccCheck.aligned (c : AccCheck) (pad : Bool) : Bool :=
  if c.strict then c.ea % c.size == 0
  else if c.size = 1024 then c.ea % 16 == 0
  else !pad || c.ea % c.size == 0

/-- A page that an access may only reach as a write does: read-duplicated pages refuse a MONW too (14 R378). -/
def State.asWrite (s : State) (r : GRef) (g : Group) (c : AccCheck) : Bool :=
  c.wr || (c.strict && (match s.cached (accessUnit r) g.asid c.ea with
    | some e => e.rdup
    | none => false))

/-- Every check of an access that its entry names, before it enters a queue (05 R131, R135, R141, R143, R148, R149). -/
def State.checkAccess (s : State) (r : GRef) (g : Group) (c : AccCheck) : Verdict :=
  let bad := accessTrap c.ea
  if isPadWin c.ea then
    if !(s.core r.core).padHas (c.ea % 2 ^ 48) c.size || !c.aligned true then bad else .go
  else if !isGlobal c.ea || !isGlobal (c.ea + c.size - 1) || !c.aligned false || c.lit || c.sts then bad
  else
    match s.span (accessUnit r) g.asid c.ea c.size (s.asWrite r g c) with
    | .refused va => .trap 7 0 va
    | .miss => .wait
    | .ok =>
      match s.physical (accessUnit r) g.asid c.ea with
      | some (_, true) => if c.strict then bad else .go
      | _ => .go

/-- The pieces of an access, one for each 16-byte granule (05 R141), with their places. -/
def State.pieces (s : State) (r : GRef) (g : Group) (ea n : Nat) : List Piece :=
  (granules ea n).map (fun x =>
    if isPadWin ea then ⟨x.1 - ea, x.2, .pad, x.1 % 2 ^ 24, x.1, false⟩
    else match s.physical (accessUnit r) g.asid x.1 with
      | some (pa, true) => ⟨x.1 - ea, x.2, .host, pa, x.1, false⟩
      | some (pa, false) => ⟨x.1 - ea, x.2, .dev, pa, x.1, false⟩
      | none => ⟨x.1 - ea, x.2, .dev, 0, x.1, false⟩)

/-! ### Accesses in the queues -/

/-- Whether an access reads (06 R173: loads, MONW, atomics with return). -/
def Access.isRead (a : Access) : Bool :=
  match a.kind with
  | .load | .loadNA | .loadBP | .loadG | .monw => true
  | .atomic _ ret => ret
  | _ => false

/-- Whether an access stands among the stores of its stream. -/
def Access.isWrite (a : Access) : Bool :=
  match a.kind with
  | .store | .storeNA | .storeBP | .storeS | .atomic _ _ => true
  | _ => false

/-- Whether an access is an atomic. -/
def Access.isAtomic (a : Access) : Bool :=
  match a.kind with
  | .atomic _ _ => true
  | _ => false

/-- Whether every piece of an access is performed (06 R165). -/
def Access.performed (a : Access) : Bool := a.pieces.all (·.done)

/-- The 128-byte lines an access touches, each taking one tag; none in the scratchpad (05 R132, R140). -/
def Access.tags (a : Access) : Nat :=
  if isPadWin a.ea then 0
  else if a.isAtomic then 1
  else (a.ea + a.size - 1) / 128 - a.ea / 128 + 1

/-- The MARKs that occupy an entry of a stream's queues (06 R173). -/
def Group.marksOn (g : Group) (st : Nat) : Nat := (g.fences.filter (fun f => f.mark && f.hold.getLsbD st)).length

/-- The entries of a stream's load-address queue (05 R134, R161). -/
def Group.loadQ (g : Group) (st : Nat) : Nat :=
  (g.loads.filter (fun a => a.stream == st)).length +
  (g.stores.filter (fun a => a.stream == st && a.isRead && !a.performed)).length + g.marksOn st
/-- The entries of a stream's store-address queue (05 R134). -/
def Group.storeQ (g : Group) (st : Nat) : Nat :=
  (g.stores.filter (fun a => a.stream == st && !a.performed)).length + g.marksOn st

/-- Room in a stream's load-address queue. -/
def Group.loadRoom (g : Group) (st : Nat) : Bool := decide (g.loadQ st < Config.addrDepth)
/-- Room in a stream's store-address queue. -/
def Group.storeRoom (g : Group) (st : Nat) : Bool := decide (g.storeQ st < Config.addrDepth)

/-- The load-data queue of a stream. -/
def Group.ldataOf (g : Group) (st : Nat) : List DataEnt := g.ldata.getD st []
/-- The store-data queue of a stream. -/
def Group.sdataOf (g : Group) (st : Nat) : List Row := g.sdata.getD st []
/-- The pushes of a stream's store-data queue still in flight. -/
def Group.pushesInFlight (g : Group) (st : Nat) : Nat :=
  (g.fly.filter (fun f => match f.push with
    | some (k, _) => k == st
    | none => false)).length
/-- Room in a stream's store-data queue (05 R135). -/
def Group.pushRoom (g : Group) (st : Nat) : Bool :=
  decide ((g.sdataOf st).length + g.pushesInFlight st < Config.dataDepth)

/-- Pops the oldest entry of a stream's load-data queue (05 R137, 02 R34). -/
def Group.pop (g : Group) (st : Nat) : Group := { g with ldata := g.ldata.set st (g.ldataOf st).tail }

/-- Matches the oldest store of a stream that waits for its data with the oldest store-data entry (05 R138). -/
def Group.matchStore (g : Group) (st : Nat) : Group :=
  match g.sdataOf st with
  | [] => g
  | row :: rest =>
    match g.stores.find? (fun a => a.stream == st && a.data.isNone && !a.isAtomic) with
    | none => g
    | some a =>
      { g with
        stores := g.stores.map (fun b => if b.ord = a.ord then { b with data := some row } else b)
        sdata := g.sdata.set st rest }

/-- A stream with a store or a store-data entry unmatched; an entry that an issued V part is still to push counts as there (05 R138,
R139). -/
def Group.unbalanced (g : Group) (st : Nat) : Bool :=
  (g.stores.filter (fun a => a.stream == st && a.data.isNone && !a.isAtomic)).length != (g.sdataOf st).length + g.pushesInFlight st

/-- The lowest unbalanced stream (14 Table 14.1, CODE 11). -/
def Group.imbalance (g : Group) : Option Nat := (List.range Config.streams).find? g.unbalanced

/-! ### Fences in force (06 R170, R173, R174, R177) -/

/-- Every stream. -/
def allStreams : BitVec 16 := 0xFFFF#16

/-- Whether a fence selects an access before it. -/
def Fence.selects (f : Fence) (a : Access) : Bool := decide (a.ord < f.ord) && f.select.getLsbD a.stream

/-- Whether what a fence waits for has come (06 R173). -/
def Group.fenceOpen (g : Group) (f : Fence) : Bool :=
  let noLoad := !(g.loads.any f.selects)
  let noReadAtomic := !(g.stores.any (fun a => f.selects a && a.isRead && !a.performed))
  let alsoDone := match f.also with
    | some o => !(g.stores.any (fun a => decide (a.ord = o) && !a.performed))
    | none => true
  match f.need with
  | .reads => noLoad && noReadAtomic && alsoDone
  | .performed => noLoad && !(g.stores.any (fun a => f.selects a && !a.performed))
  | .released =>
    noLoad && !(g.stores.any f.selects) &&
    (!f.host || (g.hostUnacked.isEmpty &&
      !(g.stores.any (fun a => decide (a.ord < f.ord) && a.pieces.any (fun y => y.space == .host)))))

/-- Whether an access is held unperformed by a fence in force (06 R173). -/
def Group.fenced (g : Group) (a : Access) : Bool :=
  g.fences.any (fun f => decide (f.ord < a.ord) && f.hold.getLsbD a.stream && (f.holdLoads || a.isWrite))

/-- Whether a scope's acquire invalidates the L1 (06 Table 6.2). -/
def scopeInval (sc : Nat) : Bool := 1 ≤ sc

/-- The L1 invalidation of a core (06 R170). -/
def State.inval (s : State) (c : Nat) : State := s.setCore c { s.core c with l1 := [] }

/-- Drops the fences of a group whose condition has come, with the invalidation of each (06 R173). -/
def State.settle (s : State) (r : GRef) : State :=
  match s.group r with
  | none => s
  | some g =>
    let opened := g.fences.filter g.fenceOpen
    let s := if opened.any (·.inval) then s.inval r.core else s
    s.setGroup r { g with fences := g.fences.filter (fun f => !g.fenceOpen f) }

/-- An ordering instruction enters into force at the group's next place in the order of its accesses. -/
def Group.addFence (g : Group) (f : Nat → Fence) : Group := { g with fences := g.fences ++ [f g.ord], ord := g.ord + 1 }

/-- ACQ σ M (06 R173); `also` an atomic whose performance it waits for besides (06 R177). -/
def acqFence (sc : Nat) (sel : BitVec 16) (also : Option Nat) (ord : Nat) : Fence :=
  ⟨ord, .reads, sel, also, false, allStreams, true, false, scopeInval sc⟩
/-- REL σ M (06 R173). -/
def relFence (sc : Nat) (sel : BitVec 16) (ord : Nat) : Fence :=
  ⟨ord, .released, sel, none, sc == 5, allStreams, false, false, false⟩
/-- ACQREL σ M (06 R173). -/
def acqrelFence (sc : Nat) (sel : BitVec 16) (ord : Nat) : Fence :=
  ⟨ord, .released, sel, none, sc == 5, allStreams, true, false, scopeInval sc⟩
/-- FENCE.X σ M (06 R173). -/
def crossFence (sc : Nat) (sel : BitVec 16) (ord : Nat) : Fence :=
  ⟨ord, .released, sel, none, sc == 5, sel, true, false, scopeInval sc⟩
/-- MARK for one stream (06 R173). -/
def markFence (st : Nat) (ord : Nat) : Fence :=
  ⟨ord, .performed, 1#16 <<< st, none, false, 1#16 <<< st, true, true, false⟩

/-- The streams of a mask. -/
def maskStreams (m : BitVec 16) : List Nat := (List.range 16).filter (fun k => m.getLsbD k)

/-! ### Entering the queues -/

/-- A fresh access at the group's next place in order (05 R153, R155, R161). -/
def Group.newAccess (g : Group) (seq st : Nat) (kind : AccKind) (ea size : Nat) (ps : List Piece) : Access :=
  ⟨g.ord, seq, st, kind, ea, size, ps, .discard, false, false, none, 0, 0, 0, false, isPadWin ea, 0, none, false, none⟩

/-- The destination of a load by its data field (05 R136). -/
def loadDst (x : AM) : LoadDst :=
  if x.data.toNat < 0x110 then .reg x.data.toNat else if x.data = 0x1FF#9 then .discard else .queue

/-- A load enters the load-address queue of its stream (05 R153). -/
def Group.pushLoad (g : Group) (a : Access) : Group := { g with loads := g.loads ++ [a], ord := g.ord + 1 }
/-- A store or atomic enters the store-address queue of its stream (05 R155, R161). -/
def Group.pushStore (g : Group) (a : Access) : Group := { g with stores := g.stores ++ [a], ord := g.ord + 1 }

/-- The data a store reads at issue; none for a stream's own queue (05 R138, R155). -/
def storeData (r : GRef) (g : Group) (x : AM) : Option Row :=
  let c := x.data.toNat
  if c < 0x110 then some (g.vreg c).val
  else if 0x1C0 ≤ c then some (rowOf 64 (List.replicate 128 (scalarSrc r g (c - 0x1C0)).toNat))
  else none

/-- The sectors of an L1 line that holds a physical address are dropped (05 Table 5.3). -/
def Core.dropLine (c : Core) (pa : Nat) : Core := { c with l1 := c.l1.filter (fun x => decide (x.1 / 4 ≠ pa / 128)) }

/-! ### Tags (05 R140) -/

/-- The tags of a kind that a core's groups hold: granted reads, or writes not yet acknowledged. -/
def Core.tagsHeld (c : Core) (wr : Bool) : Nat :=
  ((c.slots.filterMap id ++ c.tracker).map (fun g =>
    (((if wr then g.stores else g.loads).filter (·.granted)).map Access.tags).foldl (· + ·) 0)).foldl (· + ·) 0

/-- Whether a load's delivery has room: entries queued and granted before it (05 R134, R136). -/
def Group.queueRoom (g : Group) (a : Access) : Bool :=
  match a.dst with
  | .queue =>
    decide ((g.ldataOf a.stream).length +
      (g.loads.filter (fun b => b.stream == a.stream && b.granted && b.dst == .queue && decide (b.ord < a.ord))).length < Config.dataDepth)
  | _ => true

/-- The access of a stream that waits at the head of a queue for its tags (05 R140): its oldest load not granted, else
its oldest store not granted whose data is matched; neither is held by a fence. DESIGN CHOICE (log 28): a load competes once its load-data
queue has room for it, a store once its data is matched, an atomic at once; of a load and a store the older goes first. -/
def Group.waitingTag (g : Group) (st : Nat) : Option Access :=
  let ok (a : Access) : Bool := !g.fenced a && (a.isWrite && (a.data.isSome || a.isAtomic) || !a.isWrite && g.queueRoom a)
  let l := g.loads.find? (fun a => a.stream == st && !a.granted)
  let w := g.stores.find? (fun a => a.stream == st && !a.granted)
  match l.filter ok, w.filter ok with
  | some a, some b => if a.ord < b.ord then some a else some b
  | some a, none => some a
  | none, b => b

/-- The next (slot, stream) pair with a waiting access after the pair granted last (05 R140); the groups of the retirement
tracker, which have left their slots, come after them (log 28). -/
def Core.nextGrant (c : Core) : Option (Nat × Nat × Access) :=
  ((List.range 128).findSome? (fun i =>
    let k := (c.tagRR + 1 + i) % 128
    match c.slots.getD (k / 16) none with
    | some g => (g.waitingTag (k % 16)).map (fun a => (k / 16, k % 16, a))
    | none => none)) <|>
  ((List.range (16 * c.tracker.length)).findSome? (fun k =>
    match c.tracker[k / 16]? with
    | some g => (g.waitingTag (k % 16)).map (fun a => (8 + k / 16, k % 16, a))
    | none => none))

/-- Marks an access of a list by its place in order. -/
def markOrd (f : Access → Access) (ord : Nat) (l : List Access) : List Access := l.map (fun a => if a.ord = ord then f a else a)

/-! ### Performing loads (05 R136, R143, R145 to R150, 06 R167, R168) -/

/-- Whether an access form looks in the L1 (05 Table 5.3). -/
def AccKind.l1Lookup : AccKind → Bool
  | .load | .loadNA => true
  | _ => false

/-- Whether an access form allocates in the LLC on a miss (05 Table 5.3). -/
def AccKind.allocates : AccKind → Bool
  | .loadNA | .loadBP | .storeNA | .storeBP => false
  | _ => true

/-- The L1's lines, by line number. -/
def Core.l1Lines (c : Core) : List Nat := (c.l1.map (fun x => x.1 / 4)).dedup

/-- The lines the L1 holds at most: its region of the hamper (05 R145). -/
def Core.l1Cap (c : Core) : Nat := (c.bnd2 - c.bnd1) * 8

/-- Fills a sector of the L1 after the chosen lines are evicted; where no line is free, the line that goes is the one that `pick` names
among those held (log 13). -/
def Core.l1Fill (c : Core) (sector : Nat) (v : BitVec 256) (evict : List Nat) (pick : Nat) : Core :=
  let c := { c with l1 := c.l1.filter (fun x => !evict.contains (x.1 / 4)) }
  let lines := c.l1Lines
  if lines.contains (sector / 4) || lines.length < c.l1Cap then { c with l1 := insertSector c.l1 sector v }
  else match lines[pick % lines.length]? with
    | some gone => { c with l1 := insertSector (c.l1.filter (fun x => decide (x.1 / 4 ≠ gone))) sector v }
    | none => c
where
  /-- Inserts or replaces a sector, keeping the sectors in rising order. -/
  insertSector : SMap (BitVec 256) → Nat → BitVec 256 → SMap (BitVec 256)
    | [], a, v => [(a, v)]
    | (k, w) :: rest, a, v =>
      if a < k then (a, v) :: (k, w) :: rest else if a = k then (a, v) :: rest else (k, w) :: insertSector rest a v

/-- The L1's copy of a sector. -/
def Core.l1Get (c : Core) (sector : Nat) : Option (BitVec 256) := (c.l1.find? (fun x => x.1 == sector)).map (·.2)

/-- The 32 bytes of a sector as device memory holds them. -/
def State.sectorVal (s : State) (sector : Nat) : BitVec 256 := BitVec.ofNat 256 (leNat (s.mem.readN (sector * 32) 32))

/-- A sector with no uncorrectable error comes into a core's L1 (05 R145, Table 5.3). -/
def State.l1Bring (s : State) (core sector : Nat) (evict : List Nat) : State :=
  match s.readErr (32 * sector), s.readErr (32 * sector + 16) with
  | .bad _, _ => s
  | _, .bad _ => s
  | _, _ => { s.setCore core ((s.core core).l1Fill sector (s.sectorVal sector) evict (Config.freeNat s.free)) with free := s.free + 1 }

/-- Puts bytes into a row at a byte offset. -/
def rowPut (r : Row) (off : Nat) (bs : List Byte) : Row :=
  let m := ((2 ^ (8 * bs.length) - 1) <<< (8 * off))
  (r &&& ~~~(BitVec.ofNat 8192 m)) ||| BitVec.ofNat 8192 (leNat bs <<< (8 * off))

/-- The oldest load of a stream, whose pieces may be performed (06 Table 6.1: load order), with the loads of the stream
among the atomics with return before it. -/
def Group.headLoad (g : Group) (st : Nat) : Option Access :=
  match g.loads.find? (fun a => a.stream == st) with
  | some a =>
    if g.stores.any (fun b => b.stream == st && b.isRead && !b.performed && decide (b.ord < a.ord)) then none else some a
  | none => none

/-- Which pieces are performed in one event with piece `i`: those of one sector where the form may be served by the L1,
else the piece alone (06 R168, 05 R141). -/
def Access.together (a : Access) (i : Nat) : List Piece :=
  match a.pieces[i]? with
  | none => []
  | some x =>
    if a.kind.l1Lookup && x.space == .dev then a.pieces.filter (fun y => y.pa / 32 == x.pa / 32 && !y.done) else [x]

/-- The bytes a load piece reads, and the error it meets. -/
def State.readPiece (s : State) (r : GRef) (a : Access) (x : Piece) : List Byte × Option Poison :=
  match x.space with
  | .pad =>
    let c := s.core r.core
    (c.hamper.readN x.pa x.len, (c.padErr x.pa x.len).map (fun _ => ⟨3, x.va⟩))
  | .host => (s.host.readN x.pa x.len, none)
  | .dev =>
    match (if a.kind.l1Lookup then (s.core r.core).l1Get (x.pa / 32) else none) with
    | some v => (natLE x.len (v.toNat >>> (8 * (x.pa % 32))), none)
    | none =>
      (s.mem.readN x.pa x.len, match s.readErr x.pa with
        | .bad u => some ⟨u, x.va⟩
        | _ => none)

/-- Marks pieces of an access performed. -/
def Access.doPieces (a : Access) (l : List Piece) : Access :=
  { a with pieces := a.pieces.map (fun y => if l.any (fun x => x.off == y.off) then { y with done := true } else y) }

/-- A load joins the bytes of pieces into its data. -/
def Access.take (a : Access) (x : Piece) (d : List Byte × Option Poison) : Access :=
  { a with got := rowPut a.got x.off d.1, poison := a.poison <|> d.2 }

/-- Delivers a performed load (05 R136). -/
def Group.deliver (g : Group) (a : Access) : Group :=
  let g := { g with loads := g.loads.filter (fun b => decide (b.ord ≠ a.ord)) }
  match a.dst with
  | .reg c => g.setV c a.got a.poison
  | .queue => { g with ldata := g.ldata.set a.stream (g.ldataOf a.stream ++ [⟨a.got, a.poison⟩]) }
  | .discard => g

/-! ### Performing stores and atomics (05 R155, R161, 14 R382) -/

/-- The oldest store or atomic of a stream not yet performed (06 Table 6.1: store order). -/
def Group.headStore (g : Group) (st : Nat) : Option Access := g.stores.find? (fun a => a.stream == st && !a.performed)

/-- Records a pending asynchronous data-error trap (14 R363, R382). -/
def Group.pendDataErr (g : Group) (unit addr : Nat) : Group :=
  { g with trap := { g.trap with dataErr := mergePend g.trap.dataErr unit addr } }

/-- The core's own copy of the bytes a store writes: updated, or dropped by STBP (05 Table 5.3). -/
def Core.ownStore (c : Core) (kind : AccKind) (pa : Nat) (bs : List Byte) : Core :=
  if kind = .storeBP then { c with l1 := c.l1.filter (fun x => decide (x.1 ≠ pa / 32)) }
  else
    { c with l1 := c.l1.map (fun x =>
      if x.1 = pa / 32 then (x.1, (List.range bs.length).foldl (fun v i => sectorSet v (pa + i) (bs.getD i 0)) x.2) else x) }

/-- A store writes the whole of the sector that a piece lies in; of another, HBM fills the rest (05 R146). -/
def Access.wholeSector (a : Access) (x : Piece) : Bool := a.ea ≤ x.va / 32 * 32 && decide (x.va / 32 * 32 + 32 ≤ a.ea + a.size)

/-- Performs one store piece (05 R155): a piece that would merge into a poisoned granule writes nothing and leaves an
asynchronous data-error trap (14 R382); the sector is filled from HBM before the piece is merged (05 R146). -/
def State.storePiece (s : State) (r : GRef) (g : Group) (a : Access) (x : Piece) : State × Group :=
  let bs := rowBytes (a.data.getD 0) x.off x.len
  match x.space with
  | .pad =>
    let c := (s.core r.core).padWrite x.pa bs
    let c := if a.kind = .storeS then c.light x.pa x.len else c
    (s.setCore r.core c, g)
  | .host => ({ s with host := s.host.writeN x.pa bs }, g)
  | .dev =>
    match s.mergeUnit x.pa x.len with
    | some u => (s, g.pendDataErr u (x.va / 16 * 16))
    | none =>
      let t := if a.wholeSector x then s else s.logFill g.gid.task x.pa x.va (fillReads x.pa (coversGranule x.pa x.len))
      let s := (if a.kind.allocates then t.llcFill x.pa true else s).putGranule x.pa false bs
      (s.setCore r.core ((s.core r.core).ownStore a.kind x.pa bs), g)

/-- The value an atomic leaves (05 Table 5.5). -/
def atomicOp (op z : Nat) (m v cmp : Nat) : Nat :=
  let n := 2 ^ (8 * z)
  let sg (x : Nat) : Int := if 2 * x < n then (x : Int) else (x : Int) - n
  match op with
  | 0x10 => (m + v) % n
  | 0x11 => let t := if z = 4 then 15 else 16
            (roundFP t 0 false (addF 0 (readF t false m) (readF t false v))).1
  | 0x12 => if sg m ≤ sg v then m else v
  | 0x13 => if sg m ≤ sg v then v else m
  | 0x14 => Nat.min m v
  | 0x15 => Nat.max m v
  | 0x16 => Nat.land m v
  | 0x17 => Nat.lor m v
  | 0x18 => Nat.xor m v
  | 0x19 => v
  | _ => if m = cmp then v else m

end Sys2Proof.Machine
end

