-- ==== Sys2Proof/Machine/VecOps.lean ====
section
/-!
DEFINITION. The V slot's shared operations (07_vector, 03_numbers R92 to R99): how operands are delivered, what a part's
result is as a function of its operands, and the checks at its issue.
-/

namespace Sys2Proof

/-- The sat keyword: fn[57] (07 Table 7.4). -/
def VR.sat (x : VR) : Bool := x.fn.getLsbD 0
/-- The element width of a V part. -/
def VR.w (x : VR) : Nat := typeWidth x.ty.toNat

end Sys2Proof

namespace Sys2Proof.Machine

/-! ### Operands (02 Table 2.5, R34, R40, R42) -/

/-- The low `w` bits of a value in every element (02 R42). -/
def broadcast (w v : Nat) : Row := rowOf w (List.replicate (8192 / w) (v % 2 ^ w))

/-- The latch places a part sees: emptied at a switch point (02 R40). -/
def Group.latchAt (g : Group) (k : Nat) : Latch := g.lat.getD k .empty

/-- A vector source operand as a register, a latch, the head of a load-data queue or a broadcast scalar, and the group
after the pop (02 R42). -/
def fetchV (r : GRef) (g : Group) (w : Nat) (f : BitVec 9) : Row × Group :=
  let c := f.toNat
  if c < 0x140 then ((g.vreg c).val, g)
  else if c < 0x180 then
    (match g.latchAt (c - 0x140) with
      | .filled x => x
      | _ => 0, g)
  else if c < 0x1C0 then
    let st := c - 0x180
    (match g.ldataOf st with
      | d :: _ => d.row
      | [] => 0, g.pop st)
  else (broadcast w (scalarSrc r g (c - 0x1C0)).toNat, g)

/-- A scalar-value field's value (07 R190). -/
def scalarField (r : GRef) (g : Group) (f : BitVec 9) : Word := scalarSrc r g (f.toNat - 0x1C0)

/-- The rows of a register group (07 R191). -/
def groupRows (g : Group) (f : BitVec 9) (n : Nat) : List Row := (List.range n).map (fun i => (g.vreg (f.toNat + i)).val)

/-- A group field as rows: G registers, or the one operand of any form where G = 1 (07 R191). -/
def fetchGroup (r : GRef) (g : Group) (w n : Nat) (f : BitVec 9) : List Row × Group :=
  if n = 1 then let (x, g) := fetchV r g w f; ([x], g) else (groupRows g f n, g)

/-- The result of a V part: the registers it writes, one row each, its first also to b0, and its flags. -/
structure VRes where
  rows : List Row
  flags : BitVec 6
deriving DecidableEq, Repr

/-- A result of one row with no flag. -/
def VRes.bits (x : Row) : VRes := ⟨[x], 0#6⟩
/-- A result of one row given by its elements. -/
def VRes.ofElems (w : Nat) (l : List (Nat × BitVec 6)) : VRes := ⟨[rowOf w (l.map (·.1))], orFlags l⟩

/-- Writes a V part's result: into b0, its registers or its stream's store-data queue when it completes (02 R40, 07 R189). -/
def Group.resultV (g : Group) (seq : Nat) (vd : BitVec 9) (x : VRes) : Group :=
  let c := vd.toNat
  (g.launch { InFlight.blank g.ids seq with
    vecs := if c < 0x110 then (List.range x.rows.length).map (fun i => (c + i, x.rows.getD i 0)) else []
    latch := x.rows.head?
    push := if 0x180 ≤ c ∧ c < 0x190 then some (c - 0x180, x.rows.headD 0) else none
    flags := x.flags }).pushLatch g.ids

/-! ### Elementwise arithmetic (07 R194, R195) -/

/-- The exact real result of a float form. -/
inductive Arith where
  | add | sub | mul | fma | fms | fnma | div | sqrt
deriving DecidableEq, Repr

/-- One float element: the exact value rounded once (07 R194). -/
def arithF (op : Arith) (t rm : Nat) (fz : Bool) (a b c : Nat) : Nat × BitVec 6 :=
  let x := readF t fz a
  let y := readF t fz b
  let z := readF t fz c
  match op with
  | .add => roundFP t rm fz (addF rm x y)
  | .sub => roundFP t rm fz (addF rm x y.neg)
  | .mul => roundFP t rm fz (mulF x y)
  | .fma => roundFP t rm fz (fmaF rm x y z)
  | .fms => roundFP t rm fz (fmaF rm x y z.neg)
  | .fnma => roundFP t rm fz (fmaF rm x.neg y z)
  | .div =>
    let (q, f) := divF x y
    let res := roundFP t rm fz q
    (res.1, res.2 ||| f)
  | .sqrt => roundFP t rm fz (sqrtF x)

/-- The exact integer of an integer form. -/
def arithI (op : Arith) (a b c : Int) : Int :=
  match op with
  | .add => a + b
  | .sub => a - b
  | .mul => a * b
  | .fma => a * b + c
  | .fms => a * b - c
  | .fnma => c - a * b
  | _ => 0

/-- One integer element, wrapped or saturated (07 R194). -/
def resI (t : Nat) (sat : Bool) (i : Int) : Nat × BitVec 6 :=
  if sat then let (v, ch) := satI t i; (codeI t v, flagIf ch fSAT) else (codeI t i, 0#6)

/-- One element of an arithmetic form (07 R194). -/
def arithElem (op : Arith) (t rm : Nat) (fz sat : Bool) (a b c : Nat) : Nat × BitVec 6 :=
  if isFloatT t then arithF op t rm fz a b c else resI t sat (arithI op (readI t a) (readI t b) (readI t c))

/-- Elementwise over three rows. -/
def elementwise (w : Nat) (f : Nat → Nat → Nat → Nat × BitVec 6) (a b c : Row) : VRes :=
  VRes.ofElems w ((List.range (8192 / w)).map (fun i => f (elem a w i) (elem b w i) (elem c w i)))

/-- VADD to VFNMA. -/
def vArith (op : Arith) (sat : Bool) (x : VR) (a b c : Row) : VRes :=
  elementwise x.w (arithElem op x.ty.toNat x.rm.toNat (x.fz == 1#1) sat) a b c

/-- VMULH: the high half of the product (07 R194). -/
def vMulh (x : VR) (a b : Row) : VRes :=
  let t := x.ty.toNat
  elementwise x.w (fun p q _ => (codeI t (readI t p * readI t q / 2 ^ x.w), 0#6)) a b 0

/-- VMIN and VMAX (07 R195). -/
def minMaxElem (t : Nat) (fz isMax : Bool) (a b : Nat) : Nat × BitVec 6 :=
  if isFloatT t then minMaxF t fz isMax a b
  else (if (readI t a ≤ readI t b) != isMax then a else b, 0#6)

/-- VMIN and VMAX. -/
def vMinMax (isMax : Bool) (x : VR) (a b : Row) : VRes :=
  elementwise x.w (fun p q _ => minMaxElem x.ty.toNat (x.fz == 1#1) isMax p q) a b 0

/-- VABS and VNEG on one element (07 R195). -/
def absNegElem (isNeg : Bool) (t : Nat) (fz sat : Bool) (a : Nat) : Nat × BitVec 6 :=
  if isFloatT t then
    let v := readF t fz a
    if v.isNan then (nanCode t, flagIf v.isSig fNV)
    else
      let c := (roundFP t 0 false v.exact).1
      let m := c % signBit t
      (if isNeg then (if c < signBit t then m + signBit t else m) else m, 0#6)
  else
    let v := readI t a
    resI t sat (if isNeg then -v else if isSignedT t then (v.natAbs : Int) else v)

/-- VABS and VNEG. -/
def vAbsNeg (isNeg : Bool) (x : VR) (a : Row) : VRes :=
  elementwise x.w (fun p _ _ => absNegElem isNeg x.ty.toNat (x.fz == 1#1) x.sat p) a 0 0

/-! ### Bits (07 R196) -/

/-- Leading zero bits of a value of width w. -/
def clzN (w v : Nat) : Nat := if v = 0 then w else w - 1 - Nat.log2 v
/-- One bits of a value of width w. -/
def popN (w v : Nat) : Nat := ((List.range w).filter (fun i => v.testBit i)).length

/-- The bit forms. -/
inductive BitOp where
  | and | or | xor | not | shl | shr | sar | clz | popc
deriving DecidableEq, Repr

/-- One element of a bit form. -/
def bitElem (op : BitOp) (w a s : Nat) : Nat :=
  match op with
  | .and => Nat.land a s
  | .or => Nat.lor a s
  | .xor => Nat.xor a s
  | .not => 2 ^ w - 1 - a
  | .shl => if s < w then a * 2 ^ s % 2 ^ w else 0
  | .shr => if s < w then a >>> s else 0
  | .sar =>
    let neg := decide (2 ^ (w - 1) ≤ a)
    if s < w then a >>> s + (if neg then 2 ^ w - 2 ^ (w - s) else 0) else if neg then 2 ^ w - 1 else 0
  | .clz => clzN w a
  | .popc => popN w a

/-- VAND to VPOPC. -/
def vBit (op : BitOp) (x : VR) (a b : Row) : VRes := elementwise x.w (fun p q _ => (bitElem op x.w p q, 0#6)) a b 0

/-! ### Compare, select and movement (07 R197 to R200) -/

/-- VCMP. -/
def vCmp (x : VR) (a b : Row) : VRes :=
  let t := x.ty.toNat
  let c := (x.fn.extractLsb' 0 3).toNat
  let fz := x.fz == 1#1
  elementwise x.w (fun p q _ =>
    let (h, f) := if isFloatT t then vcondF c (readF t fz p) (readF t fz q) else (vcondI c (readI t p) (readI t q), 0#6)
    (if h then 2 ^ x.w - 1 else 0, f)) a b 0

/-- VSEL. -/
def vSel (x : VR) (a b c : Row) : VRes := elementwise x.w (fun p q m => (if m ≠ 0 then p else q, 0#6)) a b c

/-- A row given by its elements, with no flag. -/
def rowFn (w : Nat) (f : Nat → Nat) : VRes := VRes.bits (rowOf w ((List.range (8192 / w)).map f))

/-- VBCAST. -/
def vBcast (x : VR) (a : Row) (idx : Word) : VRes := rowFn x.w (fun _ => elem a x.w (idx.toNat % (8192 / x.w)))
/-- VROT. -/
def vRot (x : VR) (a : Row) (amt : Word) : VRes :=
  rowFn x.w (fun i => elem a x.w ((i + amt.toNat) % (8192 / x.w)))
/-- VIOTA. -/
def vIota (x : VR) (start step : Word) : VRes :=
  rowFn x.w (fun i => ((start.toInt + i * step.toInt) % 2 ^ x.w).toNat)
/-- VPERM over a table of rows. -/
def vPerm (x : VR) (tab : List Row) (b : Row) : VRes :=
  let n := 8192 / x.w
  rowFn x.w (fun i =>
    let k := elem b x.w i
    if k < tab.length * n then elem (tab.getD (k / n) 0) x.w (k % n) else 0)
/-- VSHUF (07 Table 7.6). -/
def vShuf (x : VR) (a b : Row) : VRes :=
  let n := 8192 / x.w
  let h := n / 2
  let ea := elem a x.w
  let eb := elem b x.w
  rowFn x.w (fun i => match (x.fn.extractLsb' 0 3).toNat with
    | 0 => if i % 2 = 0 then ea (i / 2) else eb (i / 2)
    | 1 => if i % 2 = 0 then ea (h + i / 2) else eb (h + i / 2)
    | 2 => if i < h then ea (2 * i) else eb (2 * (i - h))
    | 3 => if i < h then ea (2 * i + 1) else eb (2 * (i - h) + 1)
    | _ => ea (n - 1 - i))

/-- One transcendental over a register (07 R201). -/
def vFunc (f : Nat → Nat → FVal → Nat × BitVec 6) (x : VR) (a : Row) : VRes :=
  elementwise 32 (fun p _ _ => f 15 x.rm.toNat (readF 15 false p)) a 0 0

/-! ### Reductions and scans (07 R202, R203, 03 R78) -/

/-- The operations of a reduction or a scan. -/
inductive RedOp where
  | add | max | min
deriving DecidableEq, Repr

/-- One combination, rounded once. -/
def redElem (op : RedOp) (t rm : Nat) (fz : Bool) (a b : Nat) : Nat × BitVec 6 :=
  match op with
  | .add => arithElem .add t rm fz false a b 0
  | .max => minMaxElem t fz true a b
  | .min => minMaxElem t fz false a b

/-- The identity of a reduction (07 R202). -/
def redIdent (op : RedOp) (t : Nat) : Nat :=
  match op with
  | .add => 0
  | .max => if isFloatT t then signBit t + infCode t else codeI t (rangeI t).1
  | .min => if isFloatT t then infCode t else codeI t (rangeI t).2

/-- One level of the pairwise tree; a missing partner neither rounds nor raises a flag (07 R202). -/
def treeLevel (op : RedOp) (t rm : Nat) (fz : Bool) : List (Option Nat) → List (Option Nat) × BitVec 6
  | a :: b :: rest =>
    let (l, f) := treeLevel op t rm fz rest
    match a, b with
    | some x, some y => let (v, g) := redElem op t rm fz x y; (some v :: l, f ||| g)
    | some x, none => (some x :: l, f)
    | none, y => (y :: l, f)
  | l => (l, 0#6)

/-- The whole tree over 2^k places. -/
def treeReduce (op : RedOp) (t rm : Nat) (fz : Bool) : Nat → List (Option Nat) → Option Nat × BitVec 6
  | 0, l => (l.headD none, 0#6)
  | k + 1, l =>
    let (l', f) := treeLevel op t rm fz l
    let (v, g) := treeReduce op t rm fz k l'
    (v, f ||| g)

/-- VREDA, VREDX, VREDN. DESIGN CHOICE (log 98): an element that meets no other is written with its own bits, whatever FZ says. -/
def vReduce (op : RedOp) (x : VR) (a : Row) (count : Word) : VRes :=
  let t := x.ty.toNat
  let n := 8192 / x.w
  let c := Nat.min count.toNat n
  let (v, f) := treeReduce op t x.rm.toNat (x.fz == 1#1) (Nat.log2 n)
    ((List.range n).map (fun i => if i < c then some (elem a x.w i) else none))
  ⟨[rowOf x.w [v.getD (redIdent op t)]], f⟩

/-- One level of the scan tree: element i joins element i − 2^k (07 R203). -/
def scanLevel (f : Nat → Nat → Nat × BitVec 6) (k : Nat) (y : List Nat) : List (Nat × BitVec 6) :=
  let sh := List.replicate (2 ^ k) none ++ y.map some
  List.zipWith (fun o v => match o with
    | some u => f u v
    | none => (v, 0#6)) sh y

/-- The levels 0 to k − 1 of the scan tree. -/
def scanTree (f : Nat → Nat → Nat × BitVec 6) (k : Nat) (y : List Nat) : List Nat × BitVec 6 :=
  (List.range k).foldl (fun s i =>
    let l := scanLevel f i s.1
    (l.map (·.1), s.2 ||| orFlags l)) (y, 0#6)

/-- VSCAN. DESIGN CHOICE (log 98): the carry-in that an exclusive scan writes to element 0 keeps its bits, whatever FZ says. -/
def vScan (x : VR) (a b : Row) : VRes :=
  let t := x.ty.toNat
  let n := 8192 / x.w
  let op : RedOp := match (x.fn.extractLsb' 0 2).toNat with
    | 0 => .add
    | 1 => .max
    | _ => .min
  let f := redElem op t x.rm.toNat (x.fz == 1#1)
  let (y, fl) := scanTree f (Nat.log2 n) (elems a x.w)
  let cin := elem b x.w 0
  let out := if x.fn.getLsbD 2 then (cin, 0#6) :: (y.take (n - 1)).map (f cin) else y.map (f cin)
  ⟨[rowOf x.w (out.map (·.1))], fl ||| orFlags out⟩

/-! ### Sorting and insertion (07 R204, R205) -/

/-- The exchanges of one bitonic stage, decided on keys and applied to a list of the same length (07 R204). -/
def cxStage {α : Type} [Inhabited α] (less : Nat → Nat → Bool) (j k : Nat) (desc : Bool) (keys : List Nat) (e : List α) : List α :=
  (List.range e.length).map (fun i =>
    let lo := if i.testBit j then i - 2 ^ j else i
    let hi := lo + 2 ^ j
    let up := (!lo.testBit k) != desc
    let sw := if up then less (keys.getD hi 0) (keys.getD lo 0) else less (keys.getD lo 0) (keys.getD hi 0)
    e.getD (if sw then (if i = lo then hi else lo) else i) default)

/-- All the elements of a register group. -/
def groupElems (w : Nat) (l : List Row) : List Nat := l.flatMap (fun r => elems r w)
/-- Rows cut from a list of elements. -/
def rowsOf (w : Nat) (g : Nat) (l : List Nat) : List Row :=
  (List.range g).map (fun i => rowOf w ((l.drop (i * (8192 / w))).take (8192 / w)))

/-- VCX and VCXS (07 R204). -/
def vCx (x : VR) (g : Nat) (keys pay : List Row) : VRes :=
  let ks := groupElems x.w keys
  let j := (x.fn.extractLsb' 3 4).toNat
  let k := (x.vc.extractLsb' 0 5).toNat
  ⟨rowsOf x.w g (cxStage (keyLess x.ty.toNat) j k (x.vc.getLsbD 5) ks (groupElems x.w pay)), 0#6⟩

/-- VINS and VINSM (07 R205): the list `s` after inserting `new` at the place of key `x0` in the keys `ks`. -/
def vInsert (x : VR) (ks s : Row) (x0 new : Nat) : VRes :=
  let t := x.ty.toNat
  let l := 2 ^ (x.fn.extractLsb' 0 4).toNat
  let asc := x.fn.getLsbD 4
  let pos := ((List.range l).filter (fun i =>
    let e := elem ks x.w i
    if asc then !keyLess t x0 e else !keyLess t e x0)).length
  rowFn x.w (fun i => if i = pos ∧ pos < l then new else if pos < i ∧ i < l then elem s x.w (i - 1) else elem s x.w i)

/-! ### Conversions (03 R92 to R98) -/

/-- The old contents that a conversion keeps where it writes only a part of vd; zero for `_` and streams (03 R92). -/
def keptDest (g : Group) (vd : BitVec 9) : Row := if vd.toNat < 0x110 then (g.vreg vd.toNat).val else 0

/-- Elements n·p onward of a row replaced by a list. -/
def putPart (w n p : Nat) (old : Row) (l : List Nat) : Row :=
  rowOf w ((List.range (8192 / w)).map (fun i => if n * p ≤ i ∧ i < n * p + n then l.getD (i - n * p) 0 else elem old w i))

/-- CVT (03 R93). -/
def vCvt (x : VR) (a old : Row) : VRes :=
  let ws := typeWidth x.st
  let n := 8192 / Nat.max ws x.w
  let conv (c : Nat) := convert x.ty.toNat x.st x.rm.toNat (x.fz == 1#1) c
  let l := (List.range n).map (fun i => conv (elem a ws (if x.w < ws then i else n * x.part + i)))
  if x.w < ws then ⟨[putPart x.w n x.part old (l.map (·.1))], orFlags l⟩ else VRes.ofElems x.w l

/-- The scale code of a block's largest magnitude (03 R94): the least e with amax × 2^−e at most the largest finite value. -/
def scaleCode (dt : Nat) (amax : FVal) : Nat :=
  match amax with
  | .fin _ m e =>
    if m = 0 then 127
    else
      let (mm, me) := maxFin dt
      let e0 : Int := (Nat.log2 m : Int) + e - (Nat.log2 mm : Int) - me
      let least := if cmpDyadic m (e - e0) mm me ≤ 0 then e0 else e0 + 1
      (min 254 (max 0 (least + 127))).toNat
  | _ => 254

/-- The larger magnitude of two values, NaNs left out (03 R94). -/
def maxMag (a : Option FVal) (b : FVal) : Option FVal :=
  match a, b with
  | a, .nan _ => a
  | none, b => some b
  | some (.inf s), _ => some (.inf s)
  | some _, .inf s => some (.inf s)
  | some (.fin _ m e), .fin _ n f => if cmpDyadic m e n f < 0 then some (.fin false n f) else some (.fin false m e)
  | some a, _ => some a

/-- QUANT derive (03 R94). -/
def vDerive (x : VR) (a : Row) : VRes :=
  let ws := typeWidth x.st
  let nb := 8192 / ws / 32
  VRes.bits (rowOf 8 ((List.range nb).map (fun k =>
    let amax := (List.range 32).foldl (fun m i => maxMag m (readF x.st (x.fz == 1#1) (elem a ws (32 * k + i)))) none
    match amax with
    | none => 127
    | some v => scaleCode x.ty.toNat v)))

/-- A value times a power of two, or NaN for the scale 255 (03 R95, R96). -/
def scaled (v : Exact) (sc : Nat) (e : Int) : Exact :=
  if sc = 255 then .nan false
  else match v with
    | .fin n m f s => .fin n m (f + e) s
    | y => y

/-- QUANT apply (03 R95). -/
def vQuant (x : VR) (a b old : Row) : VRes :=
  let ws := typeWidth x.st
  let n := 8192 / ws
  let l := (List.range n).map (fun i =>
    let sc := elem b 8 (i / 32)
    roundAny x.ty.toNat x.rm.toNat (x.fz == 1#1) true
      (scaled (readAny x.st (x.fz == 1#1) (elem a ws i)) sc (127 - (sc : Int))))
  ⟨[putPart x.w n x.part old (l.map (·.1))], orFlags l⟩

/-- DQUANT (03 R96). -/
def vDquant (x : VR) (a b : Row) : VRes :=
  let ws := typeWidth x.st
  let n := 8192 / x.w
  VRes.ofElems x.w ((List.range n).map (fun i =>
    let sc := elem b 8 (i / 32)
    roundAny x.ty.toNat x.rm.toNat (x.fz == 1#1) true
      (scaled (readAny x.st (x.fz == 1#1) (elem a ws (n * x.part + i))) sc ((sc : Int) - 127))))

/-- PACK (03 R97). -/
def vPack (x : VR) (a b : Row) : VRes :=
  let ws := typeWidth x.st
  VRes.ofElems x.w ((List.range (8192 / x.w)).map (fun i =>
    convert x.ty.toNat x.st x.rm.toNat (x.fz == 1#1) (elem (if i % 2 = 0 then a else b) ws (i / 2))))

/-- UNPACK (03 R98). -/
def vUnpack (x : VR) (a : Row) : VRes :=
  let ws := typeWidth x.st
  VRes.ofElems x.w ((List.range (8192 / x.w)).map (fun i =>
    convert x.ty.toNat x.st x.rm.toNat (x.fz == 1#1) (elem a ws (2 * i + x.part % 2))))

/-! ### Checks at issue (07 R206, 04 R113, 05 R150) -/

/-- Whether a register group runs past its file or window (04 R113). -/
def groupPast (win : Nat) (c n : Nat) : Bool :=
  if c < 0x100 then decide (win < c + n) else if c < 0x110 then decide (0x110 < c + n) else false

/-- Whether two groups share a register but are not the same group (04 R113). -/
def groupPartly (c n d m : Nat) : Bool := c < 0x110 && d < 0x110 && decide (c < d + m ∧ d < c + n) && !(c == d && n == m)

/-- The group faults of a part: past the end, or a destination that overlaps a source partly. -/
def groupBad (g : Group) (i : Instr) : Bool :=
  match vrOf i with
  | none => false
  | some x =>
    let (ga, gb, gd) := vGroup i
    let srcs := (vSrcFields i).map (fun p => (p.1.toNat, p.2))
    ((x.vd.toNat, gd) :: srcs).any (fun p => decide (1 < p.2) && groupPast g.win p.1 p.2) ||
    (decide (1 < ga) || decide (1 < gb) || decide (1 < gd)) && srcs.any (fun p => groupPartly x.vd.toNat gd p.1 p.2)

/-- The latch places a V part reads that are empty (02 R40). -/
def readsEmptyLatch (g : Group) (sw : Bool) (i : Instr) : Bool :=
  (latchReads i).any (fun k => sw || g.lat.getD k .empty == .empty)

/-- The poison that a part meets in the registers it reads (05 R150). -/
def regPoison (g : Group) (codes : List Nat) : Option Poison := codes.findSome? (fun c => (g.vreg c).poison)

/-- Whether the streams a part pops hold enough entries (05 R135). -/
def popsReady (g : Group) (l : List Nat) : Bool := l.all (fun st => decide (l.count st ≤ (g.ldataOf st).length))

/-- The poison that a part meets in the entries it pops (05 R150). -/
def popPoison (g : Group) (l : List Nat) : Option Poison :=
  l.dedup.findSome? (fun st => ((g.ldataOf st).take (l.count st)).findSome? (·.poison))

/-- The verdict on a V part at its issue (07 R206): the operand trap, then the wait on its streams, then the poison of its registers, then
that of the entries it pops (DESIGN CHOICE, log 91). -/
def ownV (g : Group) (sw : Bool) (i : Instr) : Verdict :=
  (trapIf (groupBad g i || readsEmptyLatch g sw i) 2 0 0).then
  ((waitIf (!popsReady g (popStreams i) || (match pushStream i with
    | some st => !g.pushRoom st
    | none => false))).then
  (match regPoison g (vReadRegs i) <|> popPoison g (popStreams i) with
    | some x => poisonTrap x
    | none => .go))

end Sys2Proof.Machine
end

