-- ==== Sys2Proof/Machine/MatOps.lean ====
section
/-!
DEFINITION. Tokens (02 R38, 11 R291), scale reads (03 R81), and the matrix array's shared operations (08_matrix): the
configuration, tiles, the sums of 03 R74 to R76, feed registers and leases.
-/

namespace Sys2Proof.Machine

/-! ### Groups wherever they stand -/

/-- Whether a group is the one with an identity. -/
def Group.has (id : GId) (g : Group) : Bool := g.gid == id

/-- Changes a group of a core wherever it stands: seated, in the retirement tracker, or saved (13 R334, R341). -/
def Core.mapGroup (c : Core) (id : GId) (f : Group → Group) : Core :=
  let u (g : Group) : Group := if g.has id then f g else g
  { c with slots := c.slots.map (·.map u), tracker := c.tracker.map u, saved := c.saved.map u }

/-- Changes a group of the device wherever it stands. -/
def State.mapGroup (s : State) (id : GId) (f : Group → Group) : State := { s with cores := s.cores.map (·.mapGroup id f) }

/-- The groups of a core wherever they stand. -/
def Core.groups (c : Core) : List Group := c.slots.filterMap id ++ c.tracker ++ c.saved

/-- A group of the device wherever it stands. -/
def State.anyGroup (s : State) (id : GId) : Option Group := s.cores.findSome? (fun c => c.groups.find? (·.has id))

/-! ### Tokens (02 R38, 11 R291) -/

/-- The latest production of a token that stands before a place in program order (02 R38). -/
def Group.latestProd (g : Group) (tk seq : Nat) : Option Prod :=
  (g.toks.filter (fun t => t.tk == tk && (decide (t.seq < seq) || t.rel.isSome))).getLast?

/-- The productions that a part's T word consumes (02 R38). -/
def Group.consumed (g : Group) (tw : BitVec 16) (seq : Nat) : List Nat :=
  (twConsumes tw).filterMap (fun tk => (g.latestProd tk seq).map (·.id))

/-- Whether a production has completed; one no longer listed has (06 R173). -/
def Group.prodDone (g : Group) (id : Nat) : Bool :=
  match g.toks.find? (fun t => t.id == id) with
  | some t => t.left == 0
  | none => true

/-- Whether a completed production failed (08 R226, 11 R291). -/
def Group.prodFailed (g : Group) (id : Nat) : Bool := g.toks.any (fun t => t.id == id && t.failed)

/-- How many parts of a bundle take its produced token: its asynchronous M and C parts still unissued (02 R38). -/
def Group.asyncLeft (g : Group) (seq : Nat) : Nat :=
  ((g.qm ++ g.qc).filter (fun p => p.seq == seq && isAsync p.instr)).length

/-- The production of a bundle's token, made by the first of its parts to issue, which has left its queue; none where the T
word names none; older completed productions of the token that did not fail are forgotten (02 R38). -/
def Group.produce (g : Group) (tw : BitVec 16) (seq : Nat) : Option Nat × Group :=
  let tk := twProduces tw
  if tk = 0 then (none, g)
  else
    match g.toks.find? (fun t => t.tk == tk && t.seq == seq && t.rel.isNone) with
    | some t => (some t.id, g)
    | none =>
      let keep := g.toks.filter (fun t => !(t.tk == tk && t.left == 0 && !t.failed && t.rel.isNone && decide (t.seq < seq)))
      (some g.ids, { g with toks := keep ++ [⟨g.ids, tk, seq, 1 + g.asyncLeft seq, false, none⟩], ids := g.ids + 1 })

/-- One share of a production completes, or fails (11 R291). -/
def Group.completeProd (g : Group) (id : Option Nat) (fails : Bool) : Group :=
  match id with
  | none => g
  | some k => { g with toks := g.toks.map (fun t => if t.id = k then { t with left := t.left - 1, failed := t.failed || fails } else t) }

/-! ### Scale registers (03 R80 to R82) -/

/-- The contents of a scale register that a part at a place in program order reads: the latest write at distance 4 or
more, else what the register held before (03 R81). -/
def Group.scaleAt (g : Group) (seq k : Nat) : Scales :=
  match (g.cbuf.filter (fun w => w.reg == k && decide (w.seq + 4 ≤ seq))).getLast? with
  | some w => w.val
  | none => g.c.getD k 0

/-- Writes a scale register by a K part, visible at distance 4 (03 R81); writes every unissued part sees are folded in. -/
def Group.writeScale (g : Group) (seq k : Nat) (v : Scales) : Group :=
  let old := g.oldestSeq
  let seen := g.cbuf.filter (fun w => decide (w.seq + 4 ≤ old))
  { g with
    c := seen.foldl (fun c w => c.set w.reg w.val) g.c
    cbuf := g.cbuf.filter (fun w => !decide (w.seq + 4 ≤ old)) ++ [⟨seq, k, v⟩] }

/-- A K part at distance 4 or more before a reader has not yet issued, so the reader waits (03 R81). -/
def Group.scaleWait (g : Group) (seq : Nat) : Bool := g.qk.any (fun q => decide (q.seq + 4 ≤ seq))

/-- Byte j of a scale register. -/
def scaleByte (c : Scales) (j : Nat) : Nat := nbits c.toNat (8 * (j % 64)) 8

/-! ### MCFG (08 Table 8.2) -/

/-- TA. -/
def cfgTA (w : Word) : Nat := bits w 0 5
/-- TB. -/
def cfgTB (w : Word) : Nat := bits w 5 5
/-- PMASK. -/
def cfgPMASK (w : Word) : Nat := bits w 10 4
/-- RBASE. -/
def cfgRBASE (w : Word) : Nat := bits w 14 8
/-- ROWS, as a count. -/
def cfgROWS (w : Word) : Nat := bits w 22 8 + 1
/-- NCOL, as a count. -/
def cfgNCOL (w : Word) : Nat := bits w 30 8 + 1
/-- KCNT, as a count. -/
def cfgKCNT (w : Word) : Nat := bits w 38 6 + 1
/-- PSPLIT. -/
def cfgPSPLIT (w : Word) : Nat := bits w 44 2
/-- SCA. -/
def cfgSCA (w : Word) : Bool := w.getLsbD 46
/-- SCB. -/
def cfgSCB (w : Word) : Bool := w.getLsbD 47
/-- CA. -/
def cfgCA (w : Word) : Nat := bits w 48 4
/-- CB. -/
def cfgCB (w : Word) : Nat := bits w 52 4
/-- FZ. -/
def cfgFZ (w : Word) : Bool := w.getLsbD 56

/-- Whether (TB, TA) is an operand pair (08 Table 8.1). -/
def pairOk (tb ta : Nat) : Bool :=
  match tb with
  | 0 | 1 | 2 => ta == 2 || ta == 6
  | 10 | 11 | 12 => ta == 11 || ta == 12
  | 13 => ta == 13
  | 14 => ta == 14
  | 15 => ta == 15
  | 16 => ta == 16
  | _ => false

/-- The panes of a mask, lowest first. -/
def panesOf (m : Nat) : List Nat := (List.range 4).filter (fun p => m.testBit p)

/-- The panes of a core in service (01 R25, 08 R223). -/
def State.panesIn (s : State) (core : Nat) : List Nat := (List.range 4).filter (fun p => !s.withdrawn.contains (.pane core p))

/-- Rows within 256 and within the group's window (08 R208, R216). -/
def rowsOk (wb wc base n : Nat) : Bool := base + n ≤ 256 && wb ≤ base && base + n ≤ wb + wc

/-- The configuration checks of a step, or of MZERO where `step` is false (08 R216). -/
def stepCfgBad (g : Group) (step : Bool) : Bool :=
  let w := g.mcfg
  let pm := cfgPMASK w
  pm == 0 || Nat.land pm g.lm.toNat != pm || !rowsOk g.wb g.wc (cfgRBASE w) (cfgROWS w) ||
  (step && (!pairOk (cfgTB w) (cfgTA w) || cfgPSPLIT w == 3 || (cfgSCA w && !isNarrow (cfgTA w)) ||
    (cfgSCB w && !isNarrow (cfgTB w))))

/-! ### Tiles (08 R212, R213) -/

/-- SA: bytes of an A tile. -/
def tileA (transposed : Bool) (rows wA : Nat) : Nat := if transposed then 2048 * wA else rows * 8 * wA
/-- SB: bytes of a B tile. -/
def tileB (wB : Nat) : Nat := 2048 * wB

/-- The A and B tiles of each enabled pane: their hamper offsets (08 R213). -/
def tilesOf (w : Word) (transposed : Bool) (fa fb : Nat) : List (Nat × Nat) :=
  let sa := tileA transposed (cfgROWS w) (typeWidth (cfgTA w))
  let sb := tileB (typeWidth (cfgTB w))
  (List.range (panesOf (cfgPMASK w)).length).map (fun i =>
    (fa + (if cfgPSPLIT w = 0 then 0 else i * sa), fb + (if cfgPSPLIT w = 1 then 0 else i * sb)))

/-- OFFSET of a feed register (08 Table 8.3). -/
def feedOffset (f : Word) : Nat := bits f 40 24
/-- STEP of a feed register, in units of 16 bytes. -/
def feedStep (f : Word) : Nat := bits f 24 16
/-- WRAP of a feed register. -/
def feedWrap (f : Word) : Nat := bits f 0 24

/-- Replaces OFFSET. -/
def feedSet (f : Word) (off : Nat) : Word := word (f.toNat % 2 ^ 40 + off % 2 ^ 24 * 2 ^ 40)

/-- Adv (08 R219). -/
def feedAdv (f : Word) (d : Int) : Word :=
  let o := feedOffset f
  let w := feedWrap f
  let n := ((o + d) % (2 ^ 24 : Int)).toNat
  if w = 0 then feedSet f n else feedSet f (o / w * w + n % w)

/-- The advance of a scale cursor (08 R219). -/
def feedCursor (f : Word) : Word := let o := feedOffset f; feedSet f (o / 64 * 64 + (o % 64 + 2) % 64)

/-- A feed value that MFSET accepts: WRAP zero or a power of two from 16 (08 R230). -/
def feedOk (v : Word) : Bool := let w := feedWrap v; w == 0 || (16 ≤ w && w == 2 ^ Nat.log2 w)

/-- The first byte of the first tile of a step that is misaligned or leaves the scratchpad, as a hamper offset: panes ascending, A before B
(08 R232; DESIGN CHOICE, log 27). -/
def tileBad (c : Core) (w : Word) (transposed : Bool) (fa fb : Nat) : Option Nat :=
  let sa := tileA transposed (cfgROWS w) (typeWidth (cfgTA w))
  let sb := tileB (typeWidth (cfgTB w))
  let bad (o n : Nat) : Bool := o % 16 != 0 || !c.padHas o n
  (tilesOf w transposed fa fb).findSome? (fun x =>
    if bad x.1 sa then some x.1 else if bad x.2 sb then some x.2 else none)

/-! ### The sums (03 R74 to R76) -/

/-- The 64-bit entry an integer pair leaves: the exact sum modulo 2^64 (03 R74). -/
def accInt (ta tb : Nat) (x : Word) (as bs : List Nat) : Word :=
  let s := (List.zipWith (fun a b => readI ta a * readI tb b) as bs).foldl (· + ·) 0
  BitVec.ofInt 64 (x.toInt + s)

/-- Whether an operand is a NaN. -/
def anyNan (l : List FVal) : Bool := l.any FVal.isNan

/-- The exact product of two finite values as num × 2^e. -/
def finProd : FVal → FVal → Dyad
  | .fin s m e, .fin t n f => ⟨signedM (s != t) (m * n), e + f⟩
  | _, _ => ⟨0, 0⟩

/-- The exact sum of two dyadic numbers. -/
def Dyad.add (a b : Dyad) : Dyad :=
  if a.num = 0 then b else if b.num = 0 then a
  else
    let lo := min a.exp b.exp
    ⟨a.num * 2 ^ (a.exp - lo).toNat + b.num * 2 ^ (b.exp - lo).toNat, lo⟩

/-- One K-group of 32 or fewer products, summed exactly and scaled (03 R75): none is NaN. `sc` holds the scale codes of the
scaled operands. -/
def groupSum (ta tb : Nat) (as bs sc : List Nat) : Option Dyad :=
  let xs := as.map (readF ta false)
  let ys := bs.map (readF tb false)
  if anyNan xs || anyNan ys || sc.contains 255 then none
  else
    let s := (List.zipWith finProd xs ys).foldl Dyad.add ⟨0, 0⟩
    some ⟨s.num, s.exp + (sc.map (fun (c : Nat) => (c : Int) - 127)).foldl (· + ·) 0⟩

/-- A dyadic sum as a value to round; an exactly zero one is +0 (03 R75). -/
def Dyad.exact (d : Dyad) : Exact := if d.num = 0 then .fin false 0 0 false else exactInt d.num d.exp

/-- The low 32 bits of an entry. -/
def low32 (x : Word) : Nat := x.toNat % 2 ^ 32

/-- One rounded FP32 step of an entry: the group sum rounded, then added (03 R75). -/
def accGroup (x : Nat) (s : Option Dyad) : Nat × BitVec 6 :=
  let (t, f) := roundFP 15 0 false (match s with
    | some d => d.exact
    | none => .nan false)
  let (v, g) := roundFP 15 0 false (addF 0 (readF 15 false x) (readF 15 false t))
  (v, f ||| g)

/-- The K-groups of a list of codes. -/
def kGroups : Nat → List Nat → List (List Nat)
  | 0, _ => []
  | n + 1, l => if l.isEmpty then [] else l.take 32 :: kGroups n (l.drop 32)

/-- Narrow-float products summed in K-groups of 32 (03 R75); `sc g` gives the scale codes of group g. -/
def accNarrow (ta tb : Nat) (sc : Nat → List Nat) (x : Word) (as bs : List Nat) : Word × BitVec 6 :=
  let ga := kGroups as.length as
  let gb := kGroups bs.length bs
  let (v, f) := (List.range ga.length).foldl (fun (s : Nat × BitVec 6) i =>
    let (v, f) := accGroup s.1 (groupSum ta tb (ga.getD i []) (gb.getD i []) (sc i))
    (v, s.2 ||| f)) (low32 x, 0#6)
  (word v, f)

/-- Wide-float products added one at a time by fused multiply-add (03 R76). -/
def accWide (ta tb : Nat) (fz : Bool) (x : Word) (as bs : List Nat) : Word × BitVec 6 :=
  let t := if ta = 16 then 16 else 15
  let x0 := if t = 16 then x.toNat else low32 x
  let (v, f) := (List.zipWith (fun a b => (a, b)) as bs).foldl (fun (s : Nat × BitVec 6) p =>
    let (v, f) := roundFP t 0 false (fmaF 0 (readF ta fz p.1) (readF tb fz p.2) (readF t false s.1))
    (v, s.2 ||| f)) (x0, 0#6)
  (word v, f)

/-- Acc: an entry after products in ascending k (08 R232), by the pair of Table 8.1. -/
def accumulate (ta tb : Nat) (fz : Bool) (sc : Nat → List Nat) (x : Word) (as bs : List Nat) : Word × BitVec 6 :=
  if isFloatT ta then (if isNarrow ta then accNarrow ta tb sc x as bs else accWide ta tb fz x as bs)
  else (accInt ta tb x as bs, 0#6)

/-! ### The accumulator store (05 R133, 08 R207) -/

/-- The number of an accumulator entry. -/
def accIx (pane row col : Nat) : Nat := pane * 65536 + row * 256 + col

/-- An entry of the accumulator store. -/
def Core.accGet (c : Core) (k : Nat) : Word := SMap.get 0 c.acc k
/-- Writes an entry, which clears its error mark. -/
def Core.accSet (c : Core) (k : Nat) (v : Word) : Core :=
  { c with acc := SMap.set 0 c.acc k v, accPoison := c.accPoison.filter (fun x => decide (x ≠ k)) }

/-- The pending error of a pane of a mask: unit 5, with the address of its first entry (14 Table 14.8; log 27). -/
def Core.paneError (c : Core) (m : Nat) : Option Poison :=
  ((panesOf m).find? (fun p => c.paneBad.contains p)).map (fun p => ⟨5, 0xFE * 2 ^ 48 + 524288 * p⟩)

/-- Logs an uncorrectable error of a core's own store: a hamper bank, the accumulators of a pane, or a pane, whose error is met once (14
R384, R385). -/
def State.logCore (s : State) (task core : Nat) (p : Poison) : State :=
  let e : ErrEntry := ⟨p.addr, 0xFF, core, 0, 1, p.unit⟩
  if p.unit = 3 then s.logError task e (bankAt core (p.addr % 2 ^ 24))
  else
    let k := p.addr % 2 ^ 21 / 524288
    let c := s.core core
    (if p.unit = 5 then s.setCore core { c with paneBad := c.paneBad.filter (· != k) } else s).logError task e (.pane core k)

/-- Element A[m, k] of a tile, as a code (08 R212). -/
def codeA (transposed : Bool) (w : Nat) (tile m k : Nat) : Nat :=
  nbits tile (if transposed then (k * 256 + m) * w else (m * 64 + k) * w) w
/-- Element B[k, n] of a bit-plane tile (08 R212). -/
def codeB (w : Nat) (tile k n : Nat) : Nat :=
  ((List.range w).map (fun q => if tile.testBit ((k * w + q) * 256 + n) then 2 ^ q else 0)).foldl (· + ·) 0

/-- The entries one pane of a step computes: index, value and flags (08 R232). -/
def paneOut (c : Core) (cfg : Word) (kind : StepKind) (scA scB : List Nat) (pane : Nat) (ta tb : Nat) : List (Nat × Word × BitVec 6) :=
  let a := cfgTA cfg
  let b := cfgTB cfg
  let ks := List.range (cfgKCNT cfg)
  let sc (g : Nat) : List Nat :=
    (if cfgSCA cfg then [scA.getD g 0] else []) ++ (if cfgSCB cfg then [scB.getD g 0] else [])
  (List.range (cfgROWS cfg)).flatMap (fun m => (List.range (cfgNCOL cfg)).map (fun n =>
    let ix := accIx pane (cfgRBASE cfg + m) n
    let x := if kind = .zero then 0#64 else c.accGet ix
    let (v, f) := accumulate a b (cfgFZ cfg) sc x
      (ks.map (fun k => codeA (kind == .transposed) (typeWidth a) ta m k)) (ks.map (fun k => codeB (typeWidth b) tb k n))
    (ix, v, f)))

/-- Every entry a step writes (08 R232, R233). -/
def MatStep.out (c : Core) (m : MatStep) : List (Nat × Word × BitVec 6) :=
  let ps := panesOf (cfgPMASK m.cfg)
  if m.kind = .clear then
    ps.flatMap (fun p => (List.range (cfgROWS m.cfg)).flatMap (fun i => (List.range (cfgNCOL m.cfg)).map (fun n =>
      (accIx p (cfgRBASE m.cfg + i) n, 0#64, 0#6))))
  else
    (List.range ps.length).flatMap (fun i =>
      let t := m.tiles.getD i ([], [])
      paneOut c m.cfg m.kind m.scA m.scB (ps.getD i 0) (leNat t.1) (leNat t.2))

/-! ### Leases (08 R221, R222) -/

/-- A grant lapses (08 R221). -/
def Group.lapse (g : Group) : Group := { g with gm := 0, budget := 0 }

/-- The group's lease request, made where none is pending (08 R221). -/
def Core.request (c : Core) (slot : Nat) (panes : BitVec 4) (now : Nat) : Core :=
  if c.reqs.any (fun q => q.slot == slot && q.wick.isNone) then c
  else { c with reqs := c.reqs ++ [⟨slot, none, panes, now, false, []⟩] }

/-- The group's lease request is withdrawn. -/
def Core.unrequest (c : Core) (slot : Nat) : Core :=
  { c with reqs := c.reqs.filter (fun q => !(q.slot == slot && q.wick.isNone)) }

/-- Whether the granted mask covers a mask of panes. -/
def Group.covers (g : Group) (m : Nat) : Bool := Nat.land m g.gm.toNat == m

/-- The steps of a core that wait, or run, on a pane. -/
def Core.paneSteps (c : Core) (pane : Nat) (st : StepStage) : List MatStep :=
  c.steps.filter (fun x => x.stage == st && (cfgPMASK x.cfg).testBit pane)

/-- Whether each pane of a mask has a free waiting place (08 R224). -/
def Core.placeFree (c : Core) (m : Nat) : Bool := (panesOf m).all (fun p => (c.paneSteps p .waiting).isEmpty)

/-- A step in flight of a group. -/
def Core.stepsOf (c : Core) (id : GId) : List MatStep := c.steps.filter (fun x => x.gid == id)

/-! ### Checks at issue -/

/-- Captured offset, with `useS` and the scale cursor of a step. -/
def stepCursor (g : Group) (x : MS) : Nat := if x.useS == 1#1 then feedOffset (g.freg x.fs.toNat) % 64 else 0

/-- The verdict on a step or an MZERO (08 R216, R224, R232). -/
def ownStep (s : State) (r : GRef) (g : Group) (seq : Nat) (x : Option (MS × Bool)) : Verdict :=
  let pm := cfgPMASK g.mcfg
  (trapIf (stepCfgBad g x.isSome) 2 0 0).then
  (Verdict.then (match x with
    | none => .go
    | some (m, tr) =>
      match tileBad (s.core r.core) g.mcfg tr (feedOffset (g.freg m.fa.toNat)) (feedOffset (g.freg m.fb.toNat)) with
      | some o => accessTrap (0xFF * 2 ^ 48 + o)
      | none => waitIf ((cfgSCA g.mcfg || cfgSCB g.mcfg) && g.scaleWait seq))
  (waitIf (!g.covers pm || !(s.core r.core).placeFree pm)))

/-- 16,384 clk have passed since the grant, so the lease has lapsed (08 R221). -/
def leaseExpired (now : Nat) (g : Group) : Bool := g.gm != 0#4 && decide (g.granted + Config.leaseClk ≤ now)

/-- The verdict on an M part (08 R227 to R233); the lapse of a grant whose time has passed comes first (08 R221). -/
def ownM (s : State) (r : GRef) (g : Group) (seq : Nat) (i : Instr) : Verdict :=
  (waitIf (leaseExpired s.clk g && i != .mnop)).then <|
  match i with
  | .mlease x => trapIf ((panesOf x.mask.toNat).any (fun p => !(s.panesIn r.core).contains p)) 2 0 0
  | .mcfg x => trapIf (bits (g.nreg x.nr.toNat) 57 7 != 0) 2 0 0
  | .mfset x => trapIf (!feedOk (g.nreg x.nr.toNat)) 2 0 0
  | .mwaitSteps _ => waitIf (!((s.core r.core).stepsOf g.gid).isEmpty)
  | .mwaitLease _ => waitIf (!g.covers g.lm.toNat)
  | .mstep x => ownStep s r g seq (some (x, false))
  | .mstepz x => ownStep s r g seq (some (x, false))
  | .mstept x => ownStep s r g seq (some (x, true))
  | .mzero _ => ownStep s r g seq none
  | _ => .go

/-- Issues a step: captures what it uses, takes one unit of budget, advances its feed registers (08 R217, R219, R221). -/
def issueStep (s : State) (r : GRef) (g : Group) (seq : Nat) (tw : BitVec 16) (kind : StepKind) (x : Option MS) : State :=
  let w := g.mcfg
  let waits := g.consumed tw seq
  let (prod, g) := g.produce tw seq
  let sc (k : Nat) (on : Bool) : List Nat :=
    match x with
    | some m => if on then let j := stepCursor g m; [scaleByte (g.scaleAt seq k) j, scaleByte (g.scaleAt seq k) (j + 1)] else []
    | none => []
  let fa := match x with
    | some m => feedOffset (g.freg m.fa.toNat)
    | none => 0
  let fb := match x with
    | some m => feedOffset (g.freg m.fb.toNat)
    | none => 0
  let st : MatStep := ⟨s.ids, g.gid, r.slot, kind, w, fa, fb, sc (cfgCA w) (cfgSCA w), sc (cfgCB w) (cfgSCB w), prod, waits,
    .waiting, [], none, none⟩
  let adv (g : Group) (k : Nat) : Group := g.setF k (feedAdv (g.freg k) (16 * (feedStep (g.freg k) : Int)))
  let g := match x with
    | some m =>
      let g := adv g m.fa.toNat
      let g := if m.fb = m.fa then g else adv g m.fb.toNat
      if m.useS == 1#1 then g.setF m.fs.toNat (feedCursor (g.freg m.fs.toNat)) else g
    | none => g
  let g := if g.budget ≤ 1 then g.lapse else { g with budget := g.budget - 1 }
  let c := s.core r.core
  ({ (s.setCore r.core { c with steps := c.steps ++ [st] }) with ids := s.ids + 1 }).setGroup r g

/-- MCFGR's value (08 Table 8.6). -/
def mcfgrValue (s : State) (r : GRef) (g : Group) (sel : Nat) : Word :=
  match sel with
  | 0 => g.mcfg
  | 1 => word (g.lm.toNat + 16 * g.gm.toNat + 256 * g.budget + 65536 * ((s.panesIn r.core).map (2 ^ ·)).foldl (· + ·) 0)
  | 2 => word (g.wb + 256 * g.wc)
  | _ => g.freg (sel - 8)

end Sys2Proof.Machine
end

