-- ==== Sys2Proof/Machine/LongOps.lean ====
section
/-!
DEFINITION. What the long instructions share (09_tensor): the descriptor block, its checks, footprints and the range
check, the numbering of tile steps, guards, and the six tensor kinds' steps as functions of the memory they read.
-/

namespace Sys2Proof.Machine

/-! ### Descriptor blocks (09 R236, R237) -/

/-- Quad i of a byte list. -/
def quadOf (d : List Byte) (i : Nat) : Nat := leNat ((d.drop (8 * i)).take 8)

/-- A tensor descriptor (09 Table 9.3). -/
structure Tensor where
  base : Nat
  ty   : Nat
  sc   : Bool
  gen  : Bool
  guard : Nat
  top  : Bool
  str  : List Int
  zero : Bool
deriving DecidableEq, Repr

/-- A 32-bit field read as signed. -/
def int32 (v : Nat) : Int := if v < 2 ^ 31 then (v : Int) else (v : Int) - 2 ^ 32

/-- Tensor descriptor i of a block. -/
def tensorOf (d : List Byte) (i : Nat) : Tensor :=
  let q (k : Nat) : Nat := quadOf d (4 + 4 * i + k)
  { base := nbits (q 0) 0 52 * 16
    ty := nbits (q 0) 52 5
    sc := (q 0).testBit 57
    gen := (q 0).testBit 58
    guard := nbits (q 0) 59 4
    top := (q 0).testBit 63
    str := [int32 (nbits (q 1) 0 32), int32 (nbits (q 1) 32 32), int32 (nbits (q 2) 0 32), int32 (nbits (q 2) 32 32),
      int32 (nbits (q 3) 0 32), int32 (nbits (q 3) 32 32)]
    zero := q 0 == 0 && q 1 == 0 && q 2 == 0 && q 3 == 0 }

/-- The element width of a tensor. -/
def Tensor.w (t : Tensor) : Nat := typeWidth t.ty
/-- A stride. -/
def Tensor.s (t : Tensor) (l : Nat) : Int := t.str.getD l 0

/-- A descriptor header (09 Table 9.2), extents counted. -/
structure Desc where
  kind : Nat
  man  : Bool
  acc  : Bool
  rm   : Nat
  dir  : Bool
  order : List Nat
  zero : Bool
  ext  : List Nat
  ping : Nat
  plen : Nat
  param : Nat
  t0   : Tensor
  t1   : Tensor
  t2   : Tensor
deriving DecidableEq, Repr

/-- A descriptor block of the tensor kinds, read. -/
def descOf (d : List Byte) : Desc :=
  let q := quadOf d
  { kind := nbits (q 0) 0 8
    man := (q 0).testBit 8
    acc := (q 0).testBit 9
    rm := nbits (q 0) 10 2
    dir := (q 0).testBit 12
    order := (List.range 6).map (fun i => nbits (q 0) (16 + 3 * i) 3)
    zero := nbits (q 0) 13 3 == 0 && nbits (q 0) 34 30 == 0
    ext := [nbits (q 1) 0 16 + 1, nbits (q 1) 16 16 + 1, nbits (q 1) 32 16 + 1, nbits (q 1) 48 16 + 1,
      nbits (q 2) 0 16 + 1, nbits (q 2) 16 16 + 1]
    ping := nbits (q 2) 32 18 * 64
    plen := nbits (q 2) 50 14 * 1024
    param := q 3
    t0 := tensorOf d 0
    t1 := tensorOf d 1
    t2 := tensorOf d 2 }

/-- An extent, one more than its field. -/
def Desc.e (d : Desc) (l : Nat) : Nat := d.ext.getD l 1

/-- The MCFG fields a long instruction captures at issue (09 R239), as its wick holds them. -/
structure Capt where
  apane : Nat
  arbase : Nat
  rows : Nat
  ncol : Nat
  kcnt : Nat
  psplit : Nat
  fz : Bool
deriving DecidableEq, Repr

/-- The captured fields of MCFG (09 R239, R240); the kinds that are not array kinds use ROWS alone. -/
def captOf (array : Bool) (w : Word) : Capt :=
  if array then ⟨cfgPMASK w, cfgRBASE w, cfgROWS w, cfgNCOL w, cfgKCNT w, cfgPSPLIT w, cfgFZ w⟩
  else ⟨0, 0, cfgROWS w, 1, 1, 0, false⟩

/-- The captured fields that a wick holds (09 R239). -/
def Wick.capt (w : Wick) : Capt := ⟨w.apane, w.arbase, w.arows + 1, w.ncol + 1, w.kcnt + 1, w.psplit, w.fz⟩

/-- P: the number of panes. -/
def Capt.p (c : Capt) : Nat := (panesOf c.apane).length

/-- The opcodes of the issuing kinds. -/
def opXMM : Nat := 0x40
def opXCONV : Nat := 0x41
def opXGATH : Nat := 0x42
def opXSORT : Nat := 0x43
def opXTOPK : Nat := 0x44
def opXNORM : Nat := 0x45

/-- The array kinds (09 R239). -/
def isArrayKind (k : Nat) : Bool := k == opXMM || k == opXCONV

/-! ### Elements (09 R237) -/

/-- The bit address of an element; DESIGN CHOICE (log 86): one that comes out negative is address 0. -/
def Tensor.bitAt (t : Tensor) (x : List Int) : Nat :=
  ((8 * t.base : Int) + t.w * ((List.zipWith (· * ·) t.str x).foldl (· + ·) 0)).toNat

/-- Reads an element of width w at a bit address through a byte reader. -/
def rdBits (rd : Nat → Byte) (bit w : Nat) : Nat :=
  if w < 8 then nbits (rd (bit / 8)).toNat (bit % 8) w else leNat ((List.range (w / 8)).map (fun i => rd (bit / 8 + i)))

/-- The bytes an element occupies. -/
def elemBytes (bit w : Nat) : Nat × Nat := (bit / 8, if w < 8 then 1 else w / 8)

/-- Index vectors. -/
def ix (a b c d e f : Int) : List Int := [a, b, c, d, e, f]

/-- A rounded-up quotient. -/
def ceilDiv (a b : Nat) : Nat := (a + b - 1) / b

/-! ### Steps and rows (09 R238) -/

/-- The digits of a number over loop counts, the loop at nest position 0 varying fastest: one digit for each loop. -/
def orderDigits (order : List Nat) (count : Nat → Nat) (s : Nat) : List Nat :=
  (order.foldl (fun (st : Nat × List Nat) l =>
    let n := Nat.max 1 (count l)
    (st.1 / n, st.2.set l (st.1 % n))) (s, [0, 0, 0, 0, 0, 0])).2

/-- Row number ρ of the kinds whose loops 1 to 5 enumerate rows: its loop indices, in nest order (09 R256 to R258). -/
def rowDigits (d : Desc) (k : Nat) : List Nat := orderDigits d.order (fun l => if l = 0 then 1 else d.e l) k

/-- How many rows the loops 1 to 5 enumerate. -/
def Desc.nrows (d : Desc) : Nat := d.e 1 * d.e 2 * d.e 3 * d.e 4 * d.e 5

/-- Index vector of element i of a row. -/
def rowIx (row : List Nat) (i : Nat) : List Int := ((row.set 0 i).map (fun (n : Nat) => (n : Int)))

/-- XMM's tile sizes (09 R252). -/
def Capt.tm (c : Capt) : Nat := c.rows * (if c.psplit = 1 then c.p else 1)
def Capt.tn (c : Capt) : Nat := c.ncol * (if c.psplit = 0 then c.p else 1)

/-- The matrix sizes that the array kinds flatten to: M, N, K and the batch (09 R252, R254). -/
def mnk (d : Desc) : Nat × Nat × Nat × Nat :=
  if d.kind = opXCONV then (d.e 0 * d.e 1, d.e 2, d.e 3 * d.e 4 * d.e 5, 1) else (d.e 0, d.e 1, d.e 2, d.e 3)

/-- The K chunks of a tile (09 R252). -/
def kChunks (d : Desc) (c : Capt) : Nat :=
  let n := ceilDiv (mnk d).2.2.1 c.kcnt
  if c.psplit = 2 then ceilDiv n c.p else n

/-- CH of XTOPK (09 R257). -/
def topkCH (d : Desc) : Nat := nbits d.param 32 16 + 1
/-- k of XTOPK (09 R257). -/
def topkK (d : Desc) : Nat := nbits d.param 0 16 + 1

/-- StepCount: TOTAL of a tensor kind (09 R238). -/
def stepCount (d : Desc) (c : Capt) : Nat :=
  if isArrayKind d.kind then
    let (m, n, _, b) := mnk d
    ceilDiv m c.tm * ceilDiv n c.tn * kChunks d c * b
  else if d.kind = opXGATH then ceilDiv (d.e 0) c.rows
  else if d.kind = opXTOPK then d.nrows * ceilDiv (d.e 0) (topkCH d)
  else ceilDiv d.nrows c.rows

/-- Where a step of an array kind stands: batch, M tile, N tile, K chunk (09 R252, R254). -/
def arrayStep (d : Desc) (c : Capt) (s : Nat) : Nat × Nat × Nat × Nat :=
  let (m, n, _, b) := mnk d
  let nm := ceilDiv m c.tm
  let nn := ceilDiv n c.tn
  let nk := kChunks d c
  if d.kind = opXCONV then (0, s / (nk * nn), s / nk % nn, s % nk)
  else
    let g := orderDigits d.order (fun l => if l = 0 then nm else if l = 1 then nn else if l = 2 then nk else if l = 3 then b else 1) s
    (g.getD 3 0, g.getD 0 0, g.getD 1 0, g.getD 2 0)

/-- The loop indices of a step: those of its first element (09 R238, R254). -/
def stepIndices (d : Desc) (c : Capt) (s : Nat) : List Nat :=
  if isArrayKind d.kind then
    let (b, mt, nt, kc) := arrayStep d c s
    let m := mt * c.tm
    let k := kc * c.kcnt
    if d.kind = opXCONV then
      [m % d.e 0, m / d.e 0, nt * c.tn, k % d.e 3, k / d.e 3 % d.e 4, k / d.e 3 / d.e 4]
    else [m, nt * c.tn, k, b, 0, 0]
  else if d.kind = opXGATH then [s * c.rows, 0, 0, 0, 0, 0]
  else if d.kind = opXTOPK then
    let g := orderDigits d.order (fun l => if l = 0 then ceilDiv (d.e 0) (topkCH d) else d.e l) s
    g.set 0 (g.getD 0 0 * topkCH d)
  else rowDigits d (s * c.rows)

/-! ### Checks (09 Table 9.5) -/

/-- Whether a list is a permutation of 0 to 5. -/
def isPerm6 (l : List Nat) : Bool := (List.range 6).all (fun k => l.contains k)

/-- SA and SB of the array kinds (08 R212), and what each buffer must hold (09 R253). -/
def arrayNeed (d : Desc) (c : Capt) : Nat :=
  let na := if c.psplit = 0 then 1 else c.p
  let nb := if c.psplit = 1 then 1 else c.p
  na * (c.rows * 8 * d.t0.w) + nb * (2048 * d.t1.w) + 1024

/-- The least power of two at or above n. -/
def pow2Ceil (n : Nat) : Nat := if n ≤ 1 then 1 else 2 ^ (Nat.log2 (n - 1) + 1)

/-- The width of XNORM's working format (09 R258). -/
def normF (d : Desc) : Nat := if d.t0.ty = 16 then 64 else 32

/-- The bytes each buffer must hold (09 R253, R255 to R258). -/
def bufNeed (d : Desc) (c : Capt) : Nat :=
  if isArrayKind d.kind then arrayNeed d c
  else if d.kind = opXGATH then c.rows * (ceilDiv (d.e 1 * d.t0.w) 8 + 8)
  else if d.kind = opXSORT then ceilDiv (c.rows * pow2Ceil (d.e 0) * (d.t0.w + (if d.t1.zero then 0 else d.t1.w))) 8
  else if d.kind = opXTOPK then ceilDiv (topkCH d * d.t0.w) 8 + ceilDiv (topkK d * (d.t0.w + 64)) 8
  else ceilDiv (c.rows * d.e 0 * (d.t0.w + d.t2.w)) 8 + (if d.t1.zero then 0 else ceilDiv (d.e 0 * d.t1.w) 8)

/-- The clocks of one step of the kinds whose step time is checked (09 Table 9.9). -/
def stepClk (d : Desc) (c : Capt) : Nat :=
  if d.kind = opXGATH then 40 + c.rows * ceilDiv (ceilDiv (d.e 1 * d.t0.w) 8) 512
  else if d.kind = opXSORT then
    let np := pow2Ceil (d.e 0)
    let l := Nat.log2 np
    c.rows * (l * (l + 1) / 2 * ceilDiv (np * (d.t0.w + (if d.t1.zero then 0 else d.t1.w))) 8192 + 16)
  else if d.kind = opXTOPK then 4 * ceilDiv (topkCH d * d.t0.w) 8192 + ceilDiv (topkK d) 16 + 32
  else if d.kind = opXNORM then c.rows * (6 * ceilDiv (d.e 0 * normF d) 8192 + 60)
  else 0

/-- Which tensors a kind writes (09 Table 9.4). -/
def kindWrites (k : Nat) (i : Nat) : Bool :=
  if k = opXSORT then i ≤ 1 else if k = opXTOPK then i = 1 || i = 2 else i = 2

/-- A tensor's own checks (09 Table 9.5). -/
def tensorBad (k i : Nat) (t : Tensor) (unused : Bool) (scOk tyOk : Bool) : Bool :=
  if unused then !t.zero
  else t.top || 17 ≤ t.ty || !tyOk || 0xFE * 2 ^ 48 ≤ t.base || (t.sc && !scOk) || (t.gen && !kindWrites k i)

/-- The strides of a tensor along some loops are zero. -/
def zeroStr (t : Tensor) (l : List Nat) : Bool := l.all (fun i => t.s i == 0)

/-- Whether a floating type of 16 bits or more. -/
def wideFloat (t : Nat) : Bool := 13 ≤ t && t ≤ 16

/-- The checks of each kind's entry: types, strides, extents and PARAM (09 R253 to R258). DESIGN CHOICE (log 99): the loops that XSORT's T0
and T1 do not share with the row, where their strides are zero, are the loops 1 to 5 of extent 1. -/
def kindBad (d : Desc) (c : Capt) : Bool :=
  let k := d.kind
  if k = opXMM then
    tensorBad k 0 d.t0 false (isNarrow d.t0.ty) true || tensorBad k 1 d.t1 false (isNarrow d.t1.ty) true ||
    tensorBad k 2 d.t2 false false true || !pairOk d.t1.ty d.t0.ty ||
    (isNarrow d.t0.ty && c.kcnt != 32 && c.kcnt != 64) || d.e 4 != 1 || d.e 5 != 1 ||
    d.t0.s 1 != 0 || d.t1.s 0 != 0 || d.t2.s 2 != 0 || (!d.t0.sc && !d.t1.sc && d.param != 0) || d.order.getD 0 0 != 2
  else if k = opXCONV then
    tensorBad k 0 d.t0 false false true || tensorBad k 1 d.t1 false false true || tensorBad k 2 d.t2 false false true ||
    !pairOk d.t1.ty d.t0.ty || (isNarrow d.t0.ty && c.kcnt != 32 && c.kcnt != 64) ||
    !zeroStr d.t0 [2, 4, 5] || !zeroStr d.t1 [0, 1] || !zeroStr d.t2 [3, 4, 5] || nbits d.param 48 16 != 0
  else if k = opXGATH then
    tensorBad k 0 d.t0 false false true || tensorBad k 1 d.t1 false false ([4, 8, 5, 9].contains d.t1.ty) ||
    tensorBad k 2 d.t2 false false true || d.t2.ty != d.t0.ty || d.e 2 != 1 || d.e 3 != 1 || d.e 4 != 1 || d.e 5 != 1 ||
    !zeroStr d.t0 [2, 3, 4, 5] || !zeroStr d.t1 [1, 2, 3, 4, 5] || !zeroStr d.t2 [2, 3, 4, 5] ||
    nbits d.param 0 32 == 0 || nbits d.param 32 32 != 0
  else if k = opXSORT then
    let lone := (List.range 6).filter (fun l => l != 0 && d.e l == 1)
    tensorBad k 0 d.t0 false false (classIF d.t0.ty) || (!d.t1.zero && tensorBad k 1 d.t1 false false true) ||
    tensorBad k 2 d.t2 true false true || d.param != 0 || !zeroStr d.t0 lone || !zeroStr d.t1 lone
  else if k = opXTOPK then
    tensorBad k 0 d.t0 false false true || tensorBad k 1 d.t1 false false true ||
    tensorBad k 2 d.t2 false false ([4, 8, 5].contains d.t2.ty) || d.t1.ty != d.t0.ty || topkK d > d.e 0 ||
    topkK d > 1024 || nbits d.param 16 16 != 0 || nbits d.param 48 16 != 0
  else
    tensorBad k 0 d.t0 false false (wideFloat d.t0.ty) || (!d.t1.zero && tensorBad k 1 d.t1 false false (wideFloat d.t1.ty)) ||
    tensorBad k 2 d.t2 false false (isFloatT d.t2.ty) || nbits d.param 33 31 != 0

/-- The whole of Table 9.5 for a tensor kind. -/
def descBad (op : Nat) (d : Desc) (c : Capt) (bnd0 bnd1 : Nat) (inService : List Nat) (wb wc : Nat) : Bool :=
  let array := isArrayKind d.kind
  d.kind != op || !d.zero ||
  (if d.kind = opXCONV then d.order.any (· != 0) else !isPerm6 d.order) ||
  (d.dir && d.kind != opXSORT && d.kind != opXTOPK) || (d.acc && !array) ||
  kindBad d c ||
  decide (d.ping < bnd0 * 1024) || decide (bnd1 * 1024 < d.ping + 2 * d.plen) || d.plen == 0 || decide (d.plen < bufNeed d c) ||
  (array && (c.apane == 0 || (panesOf c.apane).any (fun p => !inService.contains p) || c.psplit == 3 ||
    !rowsOk wb wc c.arbase c.rows)) ||
  decide (16384 < stepClk d c) || decide (0xFFFFFFFF < stepCount d c)

/-! ### Footprints (09 R241, R242) -/

/-- The byte range of a tensor over an index range for each loop. -/
def Tensor.range (t : Tensor) (n : List Nat) : Range :=
  let span (f : Int → Int) : Int := (List.zipWith (fun s (n : Nat) => f (s * ((n : Int) - 1))) t.str n).foldl (· + ·) 0
  let lo := ((8 * t.base : Int) + t.w * span (fun x => min x 0)).toNat / 8
  let hi := (((8 * t.base : Int) + t.w * span (fun x => max x 0)).toNat + t.w - 1) / 8
  ⟨0, lo, hi - lo + 1⟩

/-- The scale arrays of XMM: A's base and length, B's base and length (09 R252). -/
def xmmScales (d : Desc) : (Nat × Nat) × (Nat × Nat) :=
  let g := ceilDiv (d.e 2) 32
  let la := d.e 3 * d.e 0 * g
  let lb := d.e 3 * d.e 1 * g
  if d.t0.sc then ((d.param, la), (ceilDiv (d.param + la) 64 * 64, lb)) else ((d.param, 0), (d.param, lb))

/-- The buffers as a scratchpad range. -/
def bufRange (d : Desc) : Range := ⟨1, d.ping, 2 * d.plen⟩
/-- Accumulator rows of panes as ranges. -/
def accRanges (apane base rows : Nat) : List Range := (panesOf apane).map (fun p => ⟨2, p * 256 + base, rows⟩)

/-- The read set and the write set of a tensor kind (09 R241). -/
def footprint (d : Desc) (c : Capt) : List Range × List Range :=
  let full := d.ext
  let k := d.kind
  if k = opXMM then
    let (a, b) := xmmScales d
    let cr := d.t2.range full
    ([d.t0.range full, d.t1.range full] ++ (if d.t0.sc then [⟨0, a.1, a.2⟩] else []) ++ (if d.t1.sc then [⟨0, b.1, b.2⟩] else []) ++
      (if d.acc then [cr] else []), [cr, bufRange d] ++ accRanges c.apane c.arbase c.rows)
  else if k = opXCONV then
    let iw := nbits d.param 16 16 + 1
    let ih := nbits d.param 32 16 + 1
    let o := d.t2.range [d.e 0, d.e 1, d.e 2, 1, 1, 1]
    ([d.t0.range [iw, ih, 1, d.e 3, 1, 1], d.t1.range [1, 1, d.e 2, d.e 3, d.e 4, d.e 5]] ++ (if d.acc then [o] else []),
      [o, bufRange d] ++ accRanges c.apane c.arbase c.rows)
  else if k = opXGATH then
    ([d.t0.range [nbits d.param 0 32, d.e 1, 1, 1, 1, 1], d.t1.range [d.e 0, 1, 1, 1, 1, 1]],
      [d.t2.range [d.e 0, d.e 1, 1, 1, 1, 1], bufRange d])
  else if k = opXSORT then
    let l := d.t0.range full :: (if d.t1.zero then [] else [d.t1.range full])
    (l, l ++ [bufRange d])
  else if k = opXTOPK then
    ([d.t0.range full], [d.t1.range (full.set 0 (topkK d)), d.t2.range (full.set 0 (topkK d)), bufRange d])
  else
    (d.t0.range full :: (if d.t1.zero then [] else [d.t1.range [d.e 0, 1, 1, 1, 1, 1]]), [d.t2.range full, bufRange d])

/-- Whether two ranges overlap (09 R242). -/
def Range.meets (a b : Range) : Bool :=
  a.space == b.space && decide (a.lo < b.lo + b.len ∧ b.lo < a.lo + a.len)

/-- Whether two lists of ranges overlap. -/
def rangesMeet (a b : List Range) : Bool := a.any (fun x => b.any (fun y => x.meets y))

/-- Whether a new instruction's footprint conflicts with a wick's (09 R242). -/
def conflictsWith (reads writes : List Range) (q : Sequencer) : Bool :=
  rangesMeet writes q.reads || rangesMeet writes q.writes || rangesMeet reads q.writes

/-- The stopped and busy statuses (09 Table 9.7). -/
def stBUSY : Nat := 1
def stDONE : Nat := 2
def stFAULT : Nat := 3
def stERROR : Nat := 4
def stGUARD : Nat := 5
def stCANCELLED : Nat := 6
def stDROPPED : Nat := 7

/-- STATUS is BUSY, FAULT, ERROR or GUARD. -/
def Wick.held (w : Wick) : Bool :=
  w.status == stBUSY || w.status == stFAULT || w.status == stERROR || w.status == stGUARD

/-- STATUS is FAULT, ERROR or GUARD (09 R246). -/
def Wick.isStopped (w : Wick) : Bool := w.status == stFAULT || w.status == stERROR || w.status == stGUARD

/-- RangeCheck against the other wicks: the trap where a stopped one conflicts, else the wait where a busy one does. -/
def Group.rangeCheck (g : Group) (wk : Nat) (reads writes : List Range) : Verdict :=
  let hits (p : Wick → Bool) : Option Nat := (List.range 4).find? (fun k =>
    k != wk && (let w := g.wick k
      p w && (match w.seq with
        | some q => conflictsWith reads writes q
        | none => false)))
  match hits Wick.isStopped with
  | some k => .trap 10 k 0
  | none => waitIf (hits (fun w => w.status == stBUSY)).isSome

/-! ### Guards (03 R87, R88) -/

/-- A code of any element type as an exact value to compare; none is NaN. -/
def watched (t : Nat) (c : Nat) : FVal :=
  if isFloatT t then readF t false c
  else let i := readI t c; .fin (decide (i < 0)) i.natAbs 0

/-- How a value stands to a guard: below or NaN (counted), above, or within (03 R88). -/
def guardSide (g : CapGuard) (t c : Nat) : Nat :=
  let v := watched t c
  if v.isNan then (if g.mode.getLsbD 2 then 1 else 0)
  else
    let lo := readF 16 false g.lower.toNat
    let hi := readF 16 false g.upper.toNat
    if !lo.isNan && v.order lo < 0 then 1 else if !hi.isNan && 0 < v.order hi then 2 else 0

/-- ACT of a captured guard. -/
def CapGuard.act (g : CapGuard) : Nat := (g.mode.extractLsb' 0 2).toNat

/-- The code a guard lets through, and whether it counts (03 R88). -/
def guardElem (g : CapGuard) (t c : Nat) : Nat × Bool :=
  let side := guardSide g t c
  if g.act = 0 ∨ side = 0 then (c, false)
  else if g.act = 2 then
    ((if side = 1 then roundAny t 3 false true (readF 16 false g.lower.toNat).exact
      else roundAny t 2 false true (readF 16 false g.upper.toNat).exact).1, true)
  else (c, true)

/-- Output elements of a tensor pass its guard: bit address, code; then the count (03 R88). -/
def guardOut (gs : List CapGuard) (t : Tensor) (l : List (Nat × Nat)) : List (Nat × Nat × Nat) × Option (CapGuard × Nat) :=
  match (if t.gen then gs.find? (fun g => g.g == t.guard) else none) with
  | none => (l.map (fun x => (x.1, t.w, x.2)), none)
  | some g =>
    let r := l.map (fun x => (x.1, guardElem g t.ty x.2))
    (r.map (fun x => (x.1, t.w, x.2.1)), some (g, (r.filter (fun x => x.2.2)).length))

/-- The guards a block names by GEN bits, as captured (03 R87, 09 R240). -/
def captureGuards (g : Group) (l : List Tensor) : List CapGuard :=
  (l.filter (·.gen)).map (fun t => let x := g.guard t.guard; ⟨t.guard, x.lower, x.upper, x.mode⟩)

/-- A step's outputs before they commit: elements, accumulator entries, flags and the rest (09 R244). -/
def StepOut.blank (step : Nat) : StepOut := ⟨step, [], [], [], none, 0#6, false, false, [], []⟩

/-- Joins the outputs of a tensor, through its guard, to a step (03 R88). -/
def StepOut.write (o : StepOut) (gs : List CapGuard) (t : Tensor) (l : List (Nat × Nat)) : StepOut :=
  let (m, gc) := guardOut gs t l
  let o := { o with mem := o.mem ++ m }
  match gc with
  | some (g, n) =>
    if n = 0 then o
    else { o with guards := o.guards ++ [(g.g, n)], trapGuard := if g.act = 3 then o.trapGuard <|> some g.g else o.trapGuard }
  | none => o

/-- Joins the outputs of two tensors, element by element in one loop-nest order (09 R244). -/
def StepOut.writeBoth (o : StepOut) (gs : List CapGuard) (t u : Tensor) (l m : List (Nat × Nat)) : StepOut :=
  let a := o.write gs t l
  let b := a.write gs u m
  let both := List.zipWith (fun x y => [x, y]) (a.mem.drop o.mem.length) (b.mem.drop a.mem.length)
  { b with mem := o.mem ++ both.flatten }

/-! ### XMM and XCONV (09 R252, R254) -/

/-- The entry format of a pair, as a type code (08 Table 8.1). -/
def entryType (ta : Nat) : Nat := if ta = 16 then 16 else if isFloatT ta then 15 else 5

/-- A's element by flattened row and k; none is the padding of a convolution (09 R254). -/
def aAt (d : Desc) (b m k : Nat) : Option Nat :=
  if d.kind = opXCONV then
    let ox := m % d.e 0
    let oy := m / d.e 0
    let c := k % d.e 3
    let kx := k / d.e 3 % d.e 4
    let ky := k / d.e 3 / d.e 4
    let iy : Int := (oy * (nbits d.param 4 4 + 1) + ky : Nat) - (nbits d.param 12 4 : Nat)
    let x : Int := (ox * (nbits d.param 0 4 + 1) + kx : Nat) - (nbits d.param 8 4 : Nat)
    if 0 ≤ x ∧ x < (nbits d.param 16 16 + 1 : Nat) ∧ 0 ≤ iy ∧ iy < (nbits d.param 32 16 + 1 : Nat) then
      some (d.t0.bitAt (ix x iy 0 c 0 0))
    else none
  else some (d.t0.bitAt (ix m 0 k b 0 0))

/-- B's element by k and column. -/
def bAt (d : Desc) (b k n : Nat) : Nat :=
  if d.kind = opXCONV then d.t1.bitAt (ix 0 0 n (k % d.e 3 : Nat) (k / d.e 3 % d.e 4 : Nat) (k / d.e 3 / d.e 4 : Nat))
  else d.t1.bitAt (ix 0 n k b 0 0)

/-- C's element by row and column. -/
def cAt (d : Desc) (b m n : Nat) : Nat :=
  if d.kind = opXCONV then d.t2.bitAt (ix (m % d.e 0 : Nat) (m / d.e 0 : Nat) n 0 0 0) else d.t2.bitAt (ix m n 0 b 0 0)

/-- An output position of a step: pane rank, row and column in the tile, and its matrix row and column. -/
structure Cell where
  rank : Nat
  row  : Nat
  col  : Nat
  m    : Nat
  n    : Nat
deriving DecidableEq, Repr

/-- The cells of a step inside the edges, by PSPLIT (08 R213, 09 R252). -/
def stepCells (d : Desc) (c : Capt) (mt nt : Nat) : List Cell :=
  let (mm, nn, _, _) := mnk d
  ((List.range c.p).flatMap (fun r => (List.range c.rows).flatMap (fun i => (List.range c.ncol).map (fun j =>
    (⟨r, i, j, mt * c.tm + i + (if c.psplit = 1 then r * c.rows else 0),
      nt * c.tn + j + (if c.psplit = 0 then r * c.ncol else 0)⟩ : Cell))))).filter (fun x => x.m < mm && x.n < nn)

/-- The k values of a step for a pane rank (09 R252). -/
def stepKs (d : Desc) (c : Capt) (kc rank : Nat) : List Nat :=
  let kk := (mnk d).2.2.1
  let lo := (if c.psplit = 2 then rank * kChunks d c + kc else kc) * c.kcnt
  (List.range c.kcnt).filterMap (fun i => if lo + i < kk then some (lo + i) else none)

/-- The scale byte address of row m of A in group g, where A has scales (09 R252). -/
def scaleA (d : Desc) (b m g : Nat) : List Nat := if d.t0.sc then [(xmmScales d).1.1 + (b * d.e 0 + m) * ceilDiv (d.e 2) 32 + g] else []

/-- The scale byte address of column n of B in group g, where B has scales (09 R252). -/
def scaleB (d : Desc) (b n g : Nat) : List Nat := if d.t1.sc then [(xmmScales d).2.1 + (b * d.e 1 + n) * ceilDiv (d.e 2) 32 + g] else []

/-- The byte ranges that an array step fetches: of A, and of B, each with its scales (09 R243, R253). -/
def arrayFetch (d : Desc) (c : Capt) (s : Nat) : List (List (Nat × Nat)) :=
  let (b, mt, nt, kc) := arrayStep d c s
  let cells := stepCells d c mt nt
  let all (f : Cell → Nat → List (Nat × Nat)) : List (Nat × Nat) := cells.flatMap (fun x => (stepKs d c kc x.rank).flatMap (f x))
  [all (fun x k => (aAt d b x.m k).toList.map (fun a => elemBytes a d.t0.w) ++ (scaleA d b x.m (k / 32)).map (fun a => (a, 1))),
   all (fun x k => elemBytes (bAt d b k x.n) d.t1.w :: (scaleB d b x.n (k / 32)).map (fun a => (a, 1)))]

/-- The byte ranges of C that an array step reads: under ACC, by the first step of a tile (09 R252). -/
def arrayReadsC (d : Desc) (c : Capt) (s : Nat) : List (Nat × Nat) :=
  let (b, mt, nt, kc) := arrayStep d c s
  if d.acc && kc == 0 then (stepCells d c mt nt).map (fun x => elemBytes (cAt d b x.m x.n) d.t2.w) else []

/-- The value an entry has before a step: the start of its tile, or what the rows hold (09 R252). -/
def startEntry (d : Desc) (c : Capt) (rd : Nat → Byte) (acc : Nat → Word) (b kc : Nat) (x : Cell) : Word × BitVec 6 :=
  if kc ≠ 0 then (acc (accIx ((panesOf c.apane).getD x.rank 0) (c.arbase + x.row) x.col), 0#6)
  else if d.acc ∧ (c.psplit ≠ 2 ∨ x.rank = 0) then
    let (v, f) := convert (entryType d.t0.ty) d.t2.ty 0 c.fz (rdBits rd (cAt d b x.m x.n) d.t2.w)
    (word v, f)
  else (0#64, 0#6)

/-- A cell's entry after a step. -/
def stepCell (d : Desc) (c : Capt) (rd : Nat → Byte) (acc : Nat → Word) (b kc : Nat) (x : Cell) : Word × BitVec 6 :=
  let ks := stepKs d c kc x.rank
  let (v0, f0) := startEntry d c rd acc b kc x
  let g0 := ks.headD 0 / 32
  let (v, f) := accumulate d.t0.ty d.t1.ty c.fz (fun g => (scaleA d b x.m (g0 + g) ++ scaleB d b x.n (g0 + g)).map (fun a => (rd a).toNat)) v0
    (ks.map (fun k => match aAt d b x.m k with
      | some a => rdBits rd a d.t0.w
      | none => 0))
    (ks.map (fun k => rdBits rd (bAt d b k x.n) d.t1.w))
  (v, f0 ||| f)

/-- Two entries added in the accumulator's format, one RNE rounding (03 R77). -/
def foldEntry (t : Nat) (a b : Word) : Word × BitVec 6 :=
  if t = 5 then (a + b, 0#6)
  else let (v, f) := roundFP t 0 false (addF 0 (readF t false a.toNat) (readF t false b.toNat)); (word v, f)

/-- Joins the outputs of the places of a step in loop-nest order, the loop at nest position 0 varying fastest, so that of two with one
address the later is left (09 R244). -/
def nestSort (order : List Nat) (l : List (List Nat × Nat × Nat × BitVec 6)) : List (Nat × Nat × BitVec 6) :=
  let key (x : List Nat) : Nat := order.foldr (fun p k => k * 2 ^ 32 + x.getD p 0) 0
  let rec put (x : Nat × Nat × Nat × BitVec 6) : List (Nat × Nat × Nat × BitVec 6) → List (Nat × Nat × Nat × BitVec 6)
    | [] => [x]
    | y :: rest => if x.1 < y.1 then x :: y :: rest else y :: put x rest
  (l.foldl (fun s x => put (key x.1, x.2) s) []).map (·.2)

/-- The loop indices of an output of an array step (09 R252, R254). -/
def cellIx (d : Desc) (b m n : Nat) : List Nat :=
  if d.kind = opXCONV then [m % d.e 0, m / d.e 0, n, 0, 0, 0] else [m, n, 0, b, 0, 0]

/-- The loop order within a step, innermost first; XCONV's follows its tiles, M outside N (09 R254; DEDUCED, log 88). -/
def Desc.nest (d : Desc) : List Nat := if d.kind = opXCONV then [2, 0, 1, 3, 4, 5] else d.order

/-- An array step (09 R252, R254): the rows it adds to, and on a tile's last chunk its outputs. -/
def arrayOut (d : Desc) (c : Capt) (gs : List CapGuard) (rd : Nat → Byte) (acc : Nat → Word) (s : Nat) : StepOut :=
  let (b, mt, nt, kc) := arrayStep d c s
  let t := entryType d.t0.ty
  let cells := (stepCells d c mt nt).map (fun x => (x, stepCell d c rd acc b kc x))
  let last := kc + 1 == kChunks d c
  let o := { StepOut.blank s with
    acc := cells.map (fun x => (accIx ((panesOf c.apane).getD x.1.rank 0) (c.arbase + x.1.row) x.1.col, x.2.1))
    flags := cells.foldl (fun f x => f ||| x.2.2) 0#6
    live := !last }
  if !last then o
  else
    let heads := cells.filter (fun x => c.psplit != 2 || x.1.rank == 0)
    let outs := nestSort d.nest (heads.map (fun x =>
      let parts := if c.psplit = 2 then
          (cells.filter (fun y => y.1.rank != 0 && y.1.row == x.1.row && y.1.col == x.1.col)).map (·.2.1) else []
      let (v, f) := parts.foldl (fun (s : Word × BitVec 6) p => let (v, f) := foldEntry t s.1 p; (v, s.2 ||| f)) (x.2.1, 0#6)
      let (cd, f2) := convert d.t2.ty t d.rm c.fz (v.toNat % 2 ^ typeWidth t)
      (cellIx d b x.1.m x.1.n, cAt d b x.1.m x.1.n, cd, f ||| f2)))
    let fl := outs.foldl (fun (f : BitVec 6) (x : Nat × Nat × BitVec 6) => f ||| x.2.2) o.flags
    ({ o with flags := fl } : StepOut).write gs d.t2 (outs.map (fun (x : Nat × Nat × BitVec 6) => (x.1, x.2.1)))

/-! ### XGATH, XSORT, XTOPK, XNORM (09 R255 to R258) -/

/-- The output rows of an XGATH step. -/
def gatherRows (d : Desc) (c : Capt) (s : Nat) : List Nat :=
  (List.range c.rows).filterMap (fun i => if s * c.rows + i < d.e 0 then some (s * c.rows + i) else none)

/-- The index that XGATH reads for a row, where it is in range. -/
def gatherIndex (d : Desc) (rd : Nat → Byte) (i : Nat) : Option Nat :=
  let r := readI d.t1.ty (rdBits rd (d.t1.bitAt (ix i 0 0 0 0 0)) d.t1.w)
  if 0 ≤ r ∧ r < (nbits d.param 0 32 : Nat) then some r.toNat else none

/-- XGATH's step (09 R255). -/
def gatherOut (d : Desc) (c : Capt) (gs : List CapGuard) (rd : Nat → Byte) (oob : Bool) (s : Nat) : StepOut :=
  let rows := gatherRows d c s
  let outs := nestSort d.nest (rows.flatMap (fun (i : Nat) => (List.range (d.e 1)).map (fun (j : Nat) =>
    ([i, j, 0, 0, 0, 0], d.t2.bitAt (ix i j 0 0 0 0), (match gatherIndex d rd i with
      | some r => rdBits rd (d.t0.bitAt (ix r j 0 0 0 0)) d.t0.w
      | none => 0), 0#6))))
  ({ StepOut.blank s with oob := oob || rows.any (fun i => (gatherIndex d rd i).isNone) }).write gs d.t2 (outs.map (fun (x : Nat × Nat × BitVec 6) => (x.1, x.2.1)))

/-- The rows of a step of XSORT or XNORM. -/
def stepRows (d : Desc) (c : Capt) (s : Nat) : List (List Nat) :=
  (List.range c.rows).filterMap (fun i => if s * c.rows + i < d.nrows then some (rowDigits d (s * c.rows + i)) else none)

/-- Sorts keys with payloads by the bitonic network (09 R256): `none` is PAD, after every key in the sorted direction. -/
def bitonic (less : Nat → Nat → Bool) (desc : Bool) (l : List (Option Nat × Nat)) : List (Option Nat × Nat) :=
  let n := Nat.log2 l.length
  let before (a b : Option Nat) : Bool :=
    match a, b with
    | some x, some y => less x y
    | some _, none => !desc
    | none, some _ => desc
    | none, none => false
  let stage (l : List (Option Nat × Nat)) (j k : Nat) : List (Option Nat × Nat) :=
    (List.range l.length).map (fun i =>
      let lo := if i.testBit j then i - 2 ^ j else i
      let hi := lo + 2 ^ j
      let kl := (l.getD lo (none, 0)).1
      let kh := (l.getD hi (none, 0)).1
      let up := (!lo.testBit k) != desc
      let sw := if up then before kh kl else before kl kh
      l.getD (if sw then (if i = lo then hi else lo) else i) (none, 0))
  (List.range n).foldl (fun l kk => (List.range (kk + 1)).foldl (fun l jj => stage l (kk - jj) (kk + 1)) l) l

/-- XSORT's step (09 R256). -/
def sortOut (d : Desc) (c : Capt) (gs : List CapGuard) (rd : Nat → Byte) (s : Nat) : StepOut :=
  let n := d.e 0
  let rows := (stepRows d c s).map (fun row =>
    let l := (List.range (pow2Ceil n)).map (fun i =>
      if i < n then (some (rdBits rd (d.t0.bitAt (rowIx row i)) d.t0.w),
        if d.t1.zero then 0 else rdBits rd (d.t1.bitAt (rowIx row i)) d.t1.w)
      else (none, 0))
    (row, (bitonic (keyLess d.t0.ty) d.dir l).take n))
  let el (t : Tensor) (f : Option Nat × Nat → Nat) : List (Nat × Nat) :=
    (nestSort d.nest (rows.flatMap (fun r => (List.range n).map (fun i =>
      (r.1.set 0 i, t.bitAt (rowIx r.1 i), f (r.2.getD i (none, 0)), 0#6))))).map (fun x => (x.1, x.2.1))
  let keys := el d.t0 (fun x => x.1.getD 0)
  if d.t1.zero then (StepOut.blank s).write gs d.t0 keys
  else (StepOut.blank s).writeBoth gs d.t0 d.t1 keys (el d.t1 (·.2))

/-- Whether one candidate ranks before another: key, then position (09 R257). -/
def ranksFirst (t : Nat) (dir : Bool) (a b : Nat × Nat) : Bool :=
  let less := if dir then keyLess t b.1 a.1 else keyLess t a.1 b.1
  let more := if dir then keyLess t a.1 b.1 else keyLess t b.1 a.1
  less || (!more && decide (a.2 < b.2))

/-- Inserts a candidate into a ranked list. -/
def rankInsert (t : Nat) (dir : Bool) (x : Nat × Nat) : List (Nat × Nat) → List (Nat × Nat)
  | [] => [x]
  | y :: rest => if ranksFirst t dir x y then x :: y :: rest else y :: rankInsert t dir x rest

/-- The positions of an XTOPK step's chunk. -/
def topkChunk (d : Desc) (row : List Nat) : List Nat :=
  (List.range (topkCH d)).filterMap (fun i => if row.getD 0 0 + i < d.e 0 then some (row.getD 0 0 + i) else none)

/-- XTOPK's step (09 R257): the row's list goes on from the chunks committed before. -/
def topkOut (d : Desc) (c : Capt) (gs : List CapGuard) (rd : Nat → Byte) (lists : List (Nat × List (Nat × Nat))) (s : Nat) : StepOut :=
  let row := stepIndices d c s
  let key := (row.set 0 0).foldl (fun a x => a * 65536 + x) 0
  let old := if row.getD 0 0 = 0 then [] else ((lists.find? (fun x => x.1 == key)).map (·.2)).getD []
  let k := topkK d
  let new := ((topkChunk d row).foldl (fun l i =>
    (rankInsert d.t0.ty d.dir (rdBits rd (d.t0.bitAt (rowIx row i)) d.t0.w, i) l).take k) old)
  let v (q : Nat) : Nat := ((new[q]?).map (·.1)).getD 0
  let p (q : Nat) : Nat := ((new[q]?).map (·.2)).getD (2 ^ d.t2.w - 1)
  { (StepOut.blank s).writeBoth gs d.t1 d.t2 ((List.range k).map (fun q => (d.t1.bitAt (rowIx row q), v q)))
      ((List.range k).map (fun q => (d.t2.bitAt (rowIx row q), p q))) with
    topk := (key, new) :: lists.filter (fun x => x.1 != key) }

/-- One operation of XNORM, rounded once to the working format. -/
def normOp (t : Nat) (x : Exact × BitVec 6) : Nat × BitVec 6 := let (v, f) := roundFP t 0 false x.1; (v, f ||| x.2)

/-- TreeSum over n places (09 R258, 07 R202). -/
def treeSum (t : Nat) (l : List Nat) : Nat × BitVec 6 :=
  let n := pow2Ceil l.length
  let (v, f) := treeReduce .add t 0 false (Nat.log2 n) ((List.range n).map (fun i => l[i]?))
  (v.getD 0, f)

/-- One row of XNORM: the working values before conversion (09 R258). -/
def normRow (d : Desc) (rd : Nat → Byte) (row : List Nat) : List Nat × BitVec 6 :=
  let t := if d.t0.ty = 16 then 16 else 15
  let n := d.e 0
  let rF (v : Nat) : FVal := readF t false v
  let nF : FVal := .fin false n 0
  let x := (List.range n).map (fun i => convert t d.t0.ty 0 false (rdBits rd (d.t0.bitAt (rowIx row i)) d.t0.w))
  let xs := x.map (·.1)
  let rms := d.param.testBit 32
  let (sm, f1) := if rms then (0, 0#6) else treeSum t xs
  let (mean, f2) := if rms then (0, 0#6) else normOp t (divF (rF sm) nF)
  let dl := xs.map (fun v => roundFP t 0 false (addF 0 (rF v) (rF mean).neg))
  let q := dl.map (fun v => roundFP t 0 false (mulF (rF v.1) (rF v.1)))
  let (sq, f3) := treeSum t (q.map (·.1))
  let (mq, f4) := normOp t (divF (rF sq) nF)
  let (tv, f5) := roundFP t 0 false (addF 0 (rF mq) (readF 15 false (nbits d.param 0 32)))
  let (r, f6) := rsqF t 0 (rF tv)
  let y := dl.map (fun v => roundFP t 0 false (mulF (rF v.1) (rF r)))
  let z := if d.t1.zero then y else (List.range n).map (fun (i : Nat) =>
    let g := rdBits rd (d.t1.bitAt (ix i 0 0 0 0 0)) d.t1.w
    let (v, f) := roundFP t 0 false (mulF (rF (y.getD i (0, 0#6)).1) (readF d.t1.ty false g))
    (v, f ||| (y.getD i (0, 0#6)).2))
  (z.map (·.1), f1 ||| f2 ||| f3 ||| f4 ||| f5 ||| f6 ||| orFlags x ||| orFlags dl ||| orFlags q ||| orFlags z)

/-- XNORM's step (09 R258). -/
def normOut (d : Desc) (c : Capt) (gs : List CapGuard) (rd : Nat → Byte) (s : Nat) : StepOut :=
  let t := if d.t0.ty = 16 then 16 else 15
  let rows := (stepRows d c s).map (fun row => (row, normRow d rd row))
  let outs := nestSort d.nest (rows.flatMap (fun r => (List.range (d.e 0)).map (fun (i : Nat) =>
    let (v, f) := convert d.t2.ty t d.rm false (r.2.1.getD i 0)
    (r.1.set 0 i, d.t2.bitAt (rowIx r.1 i), v, f))))
  let fl := (rows.map (fun r => r.2.2)).foldl (· ||| ·) 0#6 ||| (outs.map (fun x => x.2.2)).foldl (· ||| ·) 0#6
  ({ StepOut.blank s with flags := fl } : StepOut).write gs d.t2 (outs.map (fun (x : Nat × Nat × BitVec 6) => (x.1, x.2.1)))

/-- The byte ranges that each copy of a step fetches (09 R243), the index reader `rd` giving XGATH's table rows: one copy for each tensor
that the step reads, as the programs of chapters 09, 18 and 19 count them. -/
def stepFetch (d : Desc) (c : Capt) (rd : Nat → Byte) (s : Nat) : List (List (Nat × Nat)) :=
  let k := d.kind
  let row (t : Tensor) (r : List Nat) (n : Nat) : List (Nat × Nat) := (List.range n).map (fun i => elemBytes (t.bitAt (rowIx r i)) t.w)
  if isArrayKind k then arrayFetch d c s
  else if k = opXGATH then
    [(gatherRows d c s).map (fun (i : Nat) => elemBytes (d.t1.bitAt (ix i 0 0 0 0 0)) d.t1.w),
     (gatherRows d c s).flatMap (fun (i : Nat) => match gatherIndex d rd i with
      | some r => (List.range (d.e 1)).map (fun (j : Nat) => elemBytes (d.t0.bitAt (ix r j 0 0 0 0)) d.t0.w)
      | none => [])]
  else if k = opXTOPK then
    let r := stepIndices d c s
    [(topkChunk d r).map (fun i => elemBytes (d.t0.bitAt (rowIx r i)) d.t0.w)]
  else
    (stepRows d c s).flatMap (fun r => row d.t0 r (d.e 0)) ::
    (if d.t1.zero then []
     else if k = opXNORM then [row d.t1 [0, 0, 0, 0, 0, 0] (d.e 0)]
     else [(stepRows d c s).flatMap (fun r => row d.t1 r (d.e 0))])

/-- What a step of a tensor kind commits, read through `rd` and the accumulator `acc`. -/
def stepOut (d : Desc) (c : Capt) (gs : List CapGuard) (rd : Nat → Byte) (acc : Nat → Word) (oob : Bool)
    (lists : List (Nat × List (Nat × Nat))) (s : Nat) : StepOut :=
  let k := d.kind
  if isArrayKind k then arrayOut d c gs rd acc s
  else if k = opXGATH then gatherOut d c gs rd oob s
  else if k = opXSORT then sortOut d c gs rd s
  else if k = opXTOPK then topkOut d c gs rd lists s
  else normOut d c gs rd s

end Sys2Proof.Machine
end

