-- ==== Sys2Proof/Machine/AttnOps.lean ====
section
/-!
DEFINITION. Attention and key-value cache instructions (10_attention): the paged cache, rotation, the lanterns' exact
arithmetic, entry buffers, and the descriptors, checks, footprints and steps of XATTN, KVSHOOT, KVAPP, KVPRE and KVFREQ.
-/

namespace Sys2Proof.Machine

/-- The opcodes of this chapter (10 Table 10.3). -/
def opXATTN : Nat := 0x50
def opKVSHOOT : Nat := 0x51
def opKVFREQ : Nat := 0x52
def opKVAPP : Nat := 0x53
def opKVPRE : Nat := 0x54

/-- An address field of 56 bits. -/
def addr56 (q : Nat) : Nat := nbits q 0 56

/-- Whether all the quads of a block from `i` on are zero (10 R274). -/
def zeroQuads (d : List Byte) (i : Nat) : Bool := (List.range (16 - i)).all (fun k => quadOf d (i + k) == 0)

/-- A block table's address: 32-byte aligned and global (10 R262). -/
def tableOk (a : Nat) : Bool := a % 32 == 0 && a < 0xFE * 2 ^ 48

/-! ### Block-table entries (10 R262, R263) -/

/-- A block-table entry's first 16 bytes, read. -/
structure KvEntry where
  block : Nat
  v     : Bool
  posbase : Nat
  validn : Nat
  malformed : Bool
deriving DecidableEq, Repr

/-- Reads an entry (10 Table 10.1, R263). -/
def kvEntry (x : BitVec 128) : KvEntry :=
  let w := x.toNat
  let b := nbits w 0 56
  let n := nbits w 96 16
  { block := b
    v := w.testBit 56
    posbase := nbits w 64 32
    validn := n
    malformed := decide (16 < n) || nbits w 57 7 != 0 || nbits w 112 16 != 0 || b % 128 != 0 || decide (0xFE * 2 ^ 48 ≤ b) }

/-! ### Entry buffers (10 R271) -/

/-- Whether a line is the one of a key. -/
def EntryLine.keyed (x : EntryLine) (asid sq b : Nat) : Bool := x.asid == asid && x.sq == sq && x.b == b

/-- Fills a line; a full buffer drops its oldest line (log 13). -/
def fillLine (cap : Nat) (l : List EntryLine) (x : EntryLine) : List EntryLine :=
  let l := l.filter (fun y => !y.keyed x.asid x.sq x.b) ++ [x]
  if cap < l.length then l.drop (l.length - cap) else l

/-- Every value of an entry that some buffer of the package holds (10 R271). -/
def State.heldEntries (s : State) (asid sq b : Nat) : List (BitVec 128) :=
  ((s.cores.flatMap (·.entries) ++ s.lanterns.flatMap (·.entries)).filter (·.keyed asid sq b)).map (·.val)

/-- The value a use of an entry takes: one of the permitted ones, a free choice where they differ (10 R271). -/
def State.pickEntry (s : State) (asid sq b : Nat) (memory : BitVec 128) : BitVec 128 :=
  let l := (memory :: s.heldEntries asid sq b).dedup
  if l.length ≤ 1 then memory else l.getD (Config.freeNat (s.free + b) % l.length) memory

/-- The lantern that serves a slice's blocks: its own, or the next in ascending order still in service (10 R270). -/
def State.lanternFor (s : State) (slice : Nat) : Nat :=
  ((List.range 64).find? (fun i => !s.outOf (.lantern ((slice + i) % 64)))).elim slice (fun i => (slice + i) % 64)

/-- Fills an entry's line in a core's buffer and, where its block is translated, in the home lantern's (10 R271, R282). -/
def State.fillEntry (s : State) (core : Nat) (x : EntryLine) (blockPa : Option Nat) : State :=
  let s := s.setCore core { s.core core with entries := fillLine 256 (s.core core).entries x }
  match blockPa with
  | none => s
  | some pa =>
    let l := s.lanternFor (homeSlice pa)
    let y := s.lanterns.getD l Lantern.idle
    { s with lanterns := s.lanterns.set l { y with entries := fillLine 1024 y.entries x } }

/-- The lines of a buffer that a KVSHOOT or a KVAPP covers: every line of the address space, or a range of one sequence. -/
def covered (asid : Nat) (span : Option (Nat × Nat × Nat)) (x : EntryLine) : Bool :=
  x.asid == asid && (match span with
    | none => true
    | some (sq, first, n) => x.sq == sq && first ≤ x.b && decide (x.b < first + n))

/-- Drops the covered lines of one buffer of the package: 0 to 159 the cores', 160 to 223 the lanterns'; and how many. -/
def State.dropLines (s : State) (buf asid : Nat) (span : Option (Nat × Nat × Nat)) : Nat × State :=
  if buf < 160 then
    let c := s.core buf
    ((c.entries.filter (covered asid span)).length,
      s.setCore buf { c with entries := c.entries.filter (fun x => !covered asid span x) })
  else
    let y := s.lanterns.getD (buf - 160) Lantern.idle
    ((y.entries.filter (covered asid span)).length,
      { s with lanterns := s.lanterns.set (buf - 160) { y with entries := y.entries.filter (fun x => !covered asid span x) } })

/-- The buffers that must acknowledge: those of the units in service (10 R273). DESIGN CHOICE (log 101): the buffer of a core out of service
acknowledges too; that of a withdrawn lantern does not. -/
def State.buffersIn (s : State) : List Nat :=
  (List.range 224).filter (fun b => !(decide (160 ≤ b) && s.withdrawn.contains (.lantern (b - 160))))

/-! ### Rotation (10 R264) -/

/-- A value read as an operand, exact. -/
def EVal.ofF : FVal → EVal
  | .nan _ => .nan
  | .inf s => .inf s
  | .fin s m e => .fin ⟨signedM s m, e⟩

/-- The exact product; an infinity times zero is NaN. -/
def EVal.mul : EVal → EVal → EVal
  | .nan, _ => .nan
  | _, .nan => .nan
  | .inf s, .inf t => .inf (s != t)
  | .inf s, .fin d => if d.num = 0 then .nan else .inf (s != decide (d.num < 0))
  | .fin d, .inf s => if d.num = 0 then .nan else .inf (s != decide (d.num < 0))
  | .fin a, .fin b => .fin ⟨a.num * b.num, a.exp + b.exp⟩

/-- The exact sum; opposite infinities give NaN. -/
def EVal.add : EVal → EVal → EVal
  | .nan, _ => .nan
  | _, .nan => .nan
  | .inf s, .inf t => if s = t then .inf s else .nan
  | .inf s, _ => .inf s
  | _, .inf t => .inf t
  | .fin a, .fin b => .fin (a.add b)

/-- The negative. -/
def EVal.neg : EVal → EVal
  | .nan => .nan
  | .inf s => .inf (!s)
  | .fin d => .fin ⟨-d.num, d.exp⟩

/-- A value times a power of two. -/
def EVal.scale (k : Int) : EVal → EVal
  | .fin d => .fin ⟨d.num, d.exp + k⟩
  | v => v

/-- A value to be rounded once; a zero is +0 (03 R75). -/
def EVal.exact : EVal → Exact
  | .nan => .nan false
  | .inf s => .inf s
  | .fin d => d.exact

/-- A code read as an exact value. -/
def eread (t c : Nat) : EVal := EVal.ofF (readF t false c)

/-- A value rounded to a format in RNE, no flag kept. -/
def EVal.round (t : Nat) (v : EVal) : Nat := (roundFP t 0 false v.exact).1

/-- The cosine and the sine of pos × θ, as binary32 codes (10 R264). -/
def rotCS (pos theta : Nat) : Nat × Nat :=
  let ang := (roundFP 15 0 false (mulF (.fin false pos 0) (readF 15 false theta))).1
  ((cosF 15 0 (readF 15 false ang)).1, (sinF 15 0 (readF 15 false ang)).1)

/-- The partner of an element in its rotary pair, the pair's number, and whether the element is its first. -/
def rotPartner (pair : Bool) (half i : Nat) : Option (Nat × Nat × Bool) :=
  if pair then (if i < half then some (i + half, i, true) else if i < 2 * half then some (i - half, i - half, false) else none)
  else if i < 2 * half then (if i % 2 = 0 then some (i + 1, i / 2, true) else some (i - 1, i / 2, false)) else none

/-- A row of codes rotated at a position, as .bf16 codes (10 R264). -/
def rotate (pair : Bool) (half : Nat) (theta : List Nat) (t pos : Nat) (row : List Nat) : List Nat :=
  let cs := (List.range half).map (fun i => rotCS pos (theta.getD i 0))
  let x := row.map (eread t)
  (List.range row.length).map (fun i =>
    let a := x.getD i (.fin ⟨0, 0⟩)
    match rotPartner pair half i with
    | none => (roundFP 13 0 false (readF t false (row.getD i 0)).exact).1
    | some (j, k, first) =>
      let b := x.getD j (.fin ⟨0, 0⟩)
      let c := eread 15 (cs.getD k (0, 0)).1
      let s := eread 15 (cs.getD k (0, 0)).2
      if first then EVal.round 13 ((a.mul c).add (b.mul s).neg) else EVal.round 13 ((b.mul s).add (a.mul c)))

/-! ### Scores and triples (10 R265 to R269) -/

/-- The score of a query row and a key row, as a binary32 code (10 R265). -/
def attnScore (scale : Nat) (q k : List Nat) : Nat :=
  let gs := List.zipWith (fun a b => (List.zipWith (fun x y => (eread 13 x).mul (eread 13 y)) a b).foldl EVal.add (.fin ⟨0, 0⟩))
    (kGroups q.length q) (kGroups k.length k)
  let dot := gs.foldl (fun acc g => (roundFP 15 0 false (addF 0 (readF 15 false acc) (readF 15 false (EVal.round 15 g)))).1) 0
  (roundFP 15 0 false (mulF (readF 15 false dot) (readF 15 false scale))).1

/-- The floor of a dyadic number. -/
def Dyad.floor (d : Dyad) : Int := if 0 ≤ d.exp then d.num * 2 ^ d.exp.toNat else d.num / (2 ^ (-d.exp).toNat : Int)

/-- Whether one dyadic number is below another. -/
def Dyad.lt (a b : Dyad) : Bool := decide (cmpDyadic a.num a.exp b.num b.exp < 0)

/-- p: 2^x rounded to 24 significant bits, with no exponent limit (10 R266); where the enclosure of log 11 does not
separate two neighbours the last bit is a free value. -/
def pow2Sig (x : Dyad) : Dyad :=
  let n := x.floor
  let f : Nat := ((⟨x.num, x.exp + 320⟩ : Dyad).floor - n * 2 ^ 320).toNat
  if f = 0 then ⟨1, n⟩
  else
    let v := expGo (f * ln2Fix / 2 ^ 320) 320 80 1 (2 ^ 320) (2 ^ 320)
    let lo := (roundTo 0 false (v - 1) (-320) (-23) true).1
    let hi := (roundTo 0 false (v + 256) (-320) (-23) true).1
    ⟨if lo = hi then lo else if Config.freeRound v then lo else hi, n - 23⟩

/-- The neutral triple (10 R266). -/
def Triple.neutral (dh : Nat) : Triple := ⟨none, ⟨0, 0⟩, List.replicate dh (.fin ⟨0, 0⟩), false⟩

/-- The triple of used tokens: their scores and value rows (10 R266). -/
def tripleOf (dh : Nat) (l : List (Dyad × List EVal)) : Triple :=
  match l with
  | [] => Triple.neutral dh
  | (t0, _) :: rest =>
    let m := rest.foldl (fun m x => if m.lt x.1 then x.1 else m) t0
    let mf := m.floor
    l.foldl (fun t x =>
      let p := pow2Sig (x.1.add ⟨-mf, 0⟩)
      { t with l := t.l.add p, o := List.zipWith (fun o v => o.add (v.mul (.fin p))) t.o x.2 }) { Triple.neutral dh with m := some m }

/-- Two triples merge exactly (10 R267). -/
def Triple.merge (a b : Triple) : Triple :=
  match a.m, b.m with
  | none, _ => { b with bad := a.bad || b.bad }
  | _, none => { a with bad := a.bad || b.bad }
  | some x, some y =>
    let m := if x.lt y then y else x
    let ka := x.floor - m.floor
    let kb := y.floor - m.floor
    ⟨some m, (⟨a.l.num, a.l.exp + ka⟩ : Dyad).add ⟨b.l.num, b.l.exp + kb⟩,
      List.zipWith (fun p q => (p.scale ka).add (q.scale kb)) a.o b.o, a.bad || b.bad⟩

/-- One output element from a final triple (10 R268, R269). -/
def outElem (ot rm : Nat) (t : Triple) (o : EVal) : Nat × BitVec 6 :=
  if t.bad then (nanCode ot, 0#6)
  else if t.l.num = 0 then (0, 0#6)
  else
    match o with
    | .nan => (nanCode ot, 0#6)
    | .inf s => roundFP ot rm false (.inf s)
    | .fin d => roundFP ot rm false (divF (.fin (decide (d.num < 0)) d.num.natAbs d.exp) (.fin (decide (t.l.num < 0)) t.l.num.natAbs t.l.exp)).1

/-- The first two words of a statistics record (10 R268, R269); DESIGN CHOICE (log 100): a zero m is +0, whatever the signs of the scores. -/
def statWords (t : Triple) : (Nat × Nat) × BitVec 6 :=
  if t.bad then ((nanCode 15, nanCode 15), 0#6)
  else
    let (l, f) := roundFP 15 0 false t.l.exact
    match t.m with
    | none => ((0xFF800000, l), f)
    | some m => (((roundFP 15 0 false m.exact).1, l), f)

/-! ### XATTN (10 R275 to R278) -/

/-- An XATTN descriptor (10 Table 10.4). -/
structure Attn where
  man : Bool
  causal : Bool
  rm : Nat
  pair : Bool
  stats : Bool
  qr : Nat
  g : Nat
  dh : Nat
  half : Nat
  kt : Nat
  qt : Nat
  ot : Nat
  slist : Nat
  ns : Nat
  scale : Nat
  freq : Nat
  q : Nat
  o : Nat
  gen : Bool
  guard : Nat
  statsAt : Nat
  ping : Nat
  plen : Nat
  zero : Bool
deriving DecidableEq, Repr

/-- The bits of a descriptor's quad outside its fields are zero. -/
def onlyBits (q mask : Nat) : Bool := Nat.land q mask == q

/-- The mask of an address field of 56 bits. -/
def mask56 : Nat := 2 ^ 56 - 1
/-- The mask of the buffer word (10 Table 10.4). -/
def maskBuf : Nat := 0x3FFF * 2 ^ 32 + 0x3FFFF

/-- Reads an XATTN descriptor. -/
def attnOf (d : List Byte) : Attn :=
  let q := quadOf d
  { man := (q 0).testBit 8
    causal := (q 0).testBit 9
    rm := nbits (q 0) 10 2
    pair := (q 0).testBit 12
    stats := (q 0).testBit 13
    qr := nbits (q 0) 16 4 + 1
    g := nbits (q 0) 20 4 + 1
    dh := 64 * (nbits (q 0) 24 2 + 1)
    half := nbits (q 0) 32 8 + 1
    kt := nbits (q 0) 40 5
    qt := nbits (q 0) 45 5
    ot := nbits (q 0) 50 5
    slist := addr56 (q 1)
    ns := nbits (q 2) 0 32 + 1
    scale := nbits (q 2) 32 32
    freq := addr56 (q 3)
    q := addr56 (q 4)
    o := addr56 (q 5)
    gen := (q 5).testBit 60
    guard := nbits (q 5) 56 4
    statsAt := addr56 (q 6)
    ping := nbits (q 7) 0 18 * 64
    plen := nbits (q 7) 32 14 * 1024
    zero := nbits (q 0) 55 9 == 0 && nbits (q 0) 26 6 == 0 && nbits (q 0) 14 2 == 0 && onlyBits (q 1) mask56 &&
      onlyBits (q 3) mask56 && onlyBits (q 4) mask56 && nbits (q 5) 61 3 == 0 && onlyBits (q 6) mask56 &&
      onlyBits (q 7) maskBuf && zeroQuads d 8 }

/-- Block types (10 R261). -/
def kvTypeOk (t : Nat) : Bool := t == 11 || t == 12 || t == 13

/-- Bytes of a row of Dh elements. -/
def rowLen (dh t : Nat) : Nat := dh * typeWidth t / 8

/-- The buffer rule of 09 Table 9.5. -/
def bufBad (ping plen need bnd0 bnd1 : Nat) : Bool :=
  decide (ping < bnd0 * 1024) || decide (bnd1 * 1024 < ping + 2 * plen) || plen == 0 || decide (plen < need)

/-- A sequence-list entry (10 R276). -/
structure SeqEnt where
  table : Nat
  nblk  : Nat
  sq    : Nat
  qpos  : Nat
  ok    : Bool
deriving DecidableEq, Repr

/-- Reads sequence-list entry s. -/
def seqEnt (l : List Byte) (s : Nat) : SeqEnt :=
  let q (k : Nat) : Nat := quadOf l (4 * s + k)
  { table := addr56 (q 0)
    nblk := nbits (q 1) 0 32
    sq := nbits (q 1) 32 24
    qpos := nbits (q 2) 0 32
    ok := onlyBits (q 0) mask56 && tableOk (addr56 (q 0)) && nbits (q 1) 56 8 == 0 && nbits (q 2) 32 32 == 0 && q 3 == 0 }

/-- The whole sequence list. -/
def seqEnts (l : List Byte) (ns : Nat) : List SeqEnt := (List.range ns).map (seqEnt l)

/-- The runs of a sequence (10 R277). -/
def SeqEnt.runs (e : SeqEnt) : Nat := Nat.max 1 (ceilDiv e.nblk 256)

/-- TOTAL of XATTN. -/
def attnTotal (es : List SeqEnt) : Nat := (es.map SeqEnt.runs).foldl (· + ·) 0

/-- Where a step stands: its sequence, its first entry, and whether it ends the sequence (10 R277). -/
def attnAt : List SeqEnt → Nat → Nat → Nat × Nat × Bool
  | [], s, _ => (s, 0, true)
  | e :: rest, s, k => if k < e.runs then (s, 256 * k, k + 1 == e.runs) else attnAt rest (s + 1) (k - e.runs)

/-- The checks of R275 and R276. -/
def attnBad (d : List Byte) (es : List SeqEnt) (bnd0 bnd1 : Nat) : Bool :=
  let a := attnOf d
  nbits (quadOf d 0) 0 8 != opXATTN || !a.zero || a.qr % a.g != 0 || !kvTypeOk a.kt || !kvTypeOk a.qt ||
  !(a.ot == 13 || a.ot == 14 || a.ot == 15) || decide (a.dh / 2 < a.half) || (!a.stats && a.statsAt != 0) ||
  a.slist % 32 != 0 || a.freq % 4 != 0 || a.statsAt % 16 != 0 ||
  bufBad a.ping a.plen (a.qr * a.dh * (typeWidth a.qt + typeWidth a.ot) / 8 + a.qr * (a.dh + 2) * 32) bnd0 bnd1 ||
  es.any (fun e => !e.ok) || decide (0xFFFFFFFF < attnTotal es)

/-- XATTN's footprint (10 R276). -/
def attnFoot (desc : Nat) (a : Attn) (es : List SeqEnt) : List Range × List Range :=
  let rows := a.ns * a.qr
  ([⟨0, desc, 128⟩, ⟨0, a.slist, 32 * a.ns⟩, ⟨0, a.freq, 4 * a.half⟩, ⟨0, a.q, rows * rowLen a.dh a.qt⟩] ++
    (es.filter (fun e => e.nblk != 0)).map (fun e => ⟨0, e.table, 32 * e.nblk⟩),
   [⟨0, a.o, rows * rowLen a.dh a.ot⟩, ⟨1, a.ping, 2 * a.plen⟩] ++ (if a.stats then [⟨0, a.statsAt, 16 * rows⟩] else []))

/-- The entries of a step: their indices in the sequence's table. -/
def attnEntries (es : List SeqEnt) (k : Nat) : List Nat :=
  let (s, first, _) := attnAt es 0 k
  let n := (es.getD s ⟨0, 0, 0, 0, true⟩).nblk
  (List.range (Nat.min 256 (n - first))).map (first + ·)

/-- The query rows of sequence s, which one copy fetches (19). -/
def attnQuery (a : Attn) (s : Nat) : Nat × Nat := (a.q + s * a.qr * rowLen a.dh a.qt, a.qr * rowLen a.dh a.qt)

/-- What a step reads besides in its first round, and what it will write (10 R276, R278). DESIGN CHOICE (log 101): the table is translated and
read for every entry, also for one that a buffer holds. -/
def attnRound1 (a : Attn) (es : List SeqEnt) (k : Nat) : List (Nat × Nat) × List (Nat × Nat) :=
  let (s, _, last) := attnAt es 0 k
  let e := es.getD s ⟨0, 0, 0, 0, true⟩
  ((a.freq, 4 * a.half) :: (attnEntries es k).map (fun b => (e.table + 32 * b, 16)),
   if last then (a.o + s * a.qr * rowLen a.dh a.ot, a.qr * rowLen a.dh a.ot) ::
     (if a.stats then [(a.statsAt + 16 * s * a.qr, 16 * a.qr)] else []) else [])

/-- The block bytes a step reads: the key and value rows of the tokens present (10 R261, R278). -/
def blockReads (dh kt : Nat) (e : KvEntry) : List (Nat × Nat) :=
  if !e.v || e.validn == 0 then []
  else [(e.block, e.validn * rowLen dh kt), (e.block + 16 * rowLen dh kt, e.validn * rowLen dh kt)]

/-- The elements of a row read from memory. -/
def readRow (rd : Nat → Byte) (at_ dh t : Nat) : List Nat :=
  (List.range dh).map (fun i => rdBits rd (8 * at_ + i * typeWidth t) (typeWidth t))

/-- The output tensor as the guard watches it (10 R268). -/
def attnTensor (a : Attn) : Tensor := ⟨a.o, a.ot, false, a.gen, a.guard, false, [], false⟩

/-- The triple of one row over the entries of a step (10 R265, R266). -/
def attnRow (a : Attn) (rd : Nat → Byte) (theta : List Nat) (ents : List KvEntry) (qpos : Nat) (q : List Nat) : Triple :=
  let toks := ents.flatMap (fun e => if !e.v then [] else
    ((List.range e.validn).filter (fun j => !a.causal || decide (e.posbase + j ≤ qpos))).map (fun j => (e, j)))
  let sc := toks.map (fun (x : KvEntry × Nat) =>
    (attnScore a.scale q (rotate a.pair a.half theta a.kt (x.1.posbase + x.2)
      (readRow rd (x.1.block + x.2 * rowLen a.dh a.kt) a.dh a.kt)), x))
  let bad := sc.any (fun x => match readF 15 false x.1 with
    | .nan _ => true
    | .inf s => !s
    | _ => false)
  let used := sc.filterMap (fun x => match readF 15 false x.1 with
    | .fin s m e => some ((⟨signedM s m, e⟩ : Dyad),
        (readRow rd (x.2.1.block + (16 + x.2.2) * rowLen a.dh a.kt) a.dh a.kt).map (eread a.kt))
    | _ => none)
  { tripleOf a.dh used with bad := bad }

/-- A carry whose area a program wrote, which the spec gives no value: free, by its key (10 R277). -/
def freeTriple (key : List Nat) (dh i : Nat) : Triple :=
  let v (k : Nat) : Dyad := ⟨(Config.freeOf (key ++ [i, k, 0]) : Int), -(Config.freeOf (key ++ [i, k, 1]) : Int)⟩
  ⟨some (v 0), v 1, (List.range dh).map (fun k => .fin (v (2 + k))), false⟩

/-- The outputs and records of sequence s from its rows' final triples (10 R268, R269). -/
def attnFinish (a : Attn) (gs : List CapGuard) (o : StepOut) (s : Nat) (rows : List Triple) : StepOut :=
  let outs : List (Nat × Nat × BitVec 6) := (List.range a.qr).flatMap (fun r =>
    let t := rows.getD r (Triple.neutral a.dh)
    (List.range a.dh).map (fun i =>
      let (c, f) := outElem a.ot a.rm t (t.o.getD i (.fin ⟨0, 0⟩))
      (8 * (a.o + (s * a.qr + r) * rowLen a.dh a.ot) + i * typeWidth a.ot, c, f)))
  let st := if a.stats then rows.map statWords else []
  let recs := (List.range st.length).flatMap (fun r =>
    let x := st.getD r ((0, 0), 0#6)
    let b := 8 * (a.statsAt + 16 * (s * a.qr + r))
    [(b, 32, x.1.1), (b + 32, 32, x.1.2), (b + 64, 32, 0), (b + 96, 32, 0)])
  let fl := (outs.map (fun x => x.2.2)).foldl (· ||| ·) 0#6 ||| (st.map (·.2)).foldl (· ||| ·) 0#6
  let o := ({ o with flags := fl } : StepOut).write gs (attnTensor a) (outs.map (fun (x : Nat × Nat × BitVec 6) => (x.1, x.2.1)))
  { o with mem := o.mem ++ recs }

/-- XATTN's step (10 R277): `rd` reads the query rows and the frequency table, `rdB` the blocks; `ents` are the entries' values, `carry`
the sequence's triples so far. -/
def attnOut (a : Attn) (gs : List CapGuard) (es : List SeqEnt) (rd rdB : Nat → Byte) (ents : List KvEntry) (carry : List Triple)
    (k : Nat) : StepOut :=
  let (s, first, last) := attnAt es 0 k
  let e := es.getD s ⟨0, 0, 0, 0, true⟩
  let theta := (List.range a.half).map (fun i => rdBits rd (8 * (a.freq + 4 * i)) 32)
  let rows := (List.range a.qr).map (fun r =>
    let pos := e.qpos + r / a.g
    let q := rotate a.pair a.half theta a.qt pos (readRow rd (a.q + (s * a.qr + r) * rowLen a.dh a.qt) a.dh a.qt)
    let t := attnRow a rdB theta ents pos q
    if first = 0 then t else (carry.getD r (Triple.neutral a.dh)).merge t)
  let o := { StepOut.blank k with live := !last, carry := if last then [] else rows }
  if last then attnFinish a gs o s rows else o

/-! ### KVSHOOT and KVPRE (10 R280, R282) -/

/-- A KVSHOOT or KVPRE descriptor. -/
structure Shoot where
  all : Bool
  sq  : Nat
  first : Nat
  count : Nat
  ack : Nat
  table : Nat
  zero : Bool
deriving DecidableEq, Repr

/-- Reads a KVSHOOT or KVPRE descriptor. -/
def shootOf (d : List Byte) : Shoot :=
  let q := quadOf d
  { all := (q 0).testBit 8
    sq := nbits (q 1) 0 24
    first := nbits (q 2) 0 32
    count := nbits (q 2) 32 32
    ack := addr56 (q 3)
    table := addr56 (q 4)
    zero := onlyBits (q 0) 0x1FF && onlyBits (q 1) 0xFFFFFF && onlyBits (q 3) mask56 && onlyBits (q 4) mask56 && zeroQuads d 5 }

/-- The entries covered: none is every entry of the address space. -/
def Shoot.span (x : Shoot) : Option (Nat × Nat × Nat) := if x.all then none else some (x.sq, x.first, x.count)

/-- The checks of KVSHOOT, or of KVPRE. -/
def shootBad (op : Nat) (d : List Byte) : Bool :=
  let x := shootOf d
  nbits (quadOf d 0) 0 8 != op || !x.zero || !tableOk x.table ||
  (if op = opKVPRE then x.all || x.ack != 0
   else x.ack % 8 != 0 || decide (0xFE * 2 ^ 48 ≤ x.ack) || (x.all && (x.sq != 0 || x.first != 0 || x.count != 0 || x.table != 0)))

/-- Their footprint; KVSHOOT's read set is its descriptor (19). -/
def shootFoot (op desc : Nat) (x : Shoot) : List Range × List Range :=
  let es : List Range := if x.count = 0 then [] else [⟨0, x.table + 32 * x.first, 32 * x.count⟩]
  if op = opKVPRE then (es, [])
  else ([⟨0, desc, 128⟩], if x.all then [⟨0, 0, 0xFE * 2 ^ 48⟩] else es ++ [⟨0, x.ack, 8⟩])

/-- The entries of a KVPRE step. -/
def preEntries (x : Shoot) (k : Nat) : List Nat := (List.range (Nat.min 64 (x.count - 64 * k))).map (x.first + 64 * k + ·)

/-- The ack word of a completed KVSHOOT (10 Table 10.2). -/
def ackWord (dropped acked : Nat) : Nat := 2 ^ 63 + Nat.min dropped 0xFFFFFFFF * 65536 + acked % 65536

/-! ### KVAPP (10 R281) -/

/-- A KVAPP descriptor. -/
structure KvApp where
  dh : Nat
  kt : Nat
  table : Nat
  sq : Nat
  t0 : Nat
  n  : Nat
  ksrc : Nat
  vsrc : Nat
  ping : Nat
  plen : Nat
  zero : Bool
deriving DecidableEq, Repr

/-- Reads a KVAPP descriptor. -/
def kvAppOf (d : List Byte) : KvApp :=
  let q := quadOf d
  { dh := 64 * (nbits (q 0) 24 2 + 1)
    kt := nbits (q 0) 40 5
    table := addr56 (q 1)
    sq := nbits (q 2) 0 24
    t0 := nbits (q 2) 32 32
    n := nbits (q 3) 0 32
    ksrc := addr56 (q 4)
    vsrc := addr56 (q 5)
    ping := nbits (q 7) 0 18 * 64
    plen := nbits (q 7) 32 14 * 1024
    zero := onlyBits (q 0) (0x1F * 2 ^ 40 + 3 * 2 ^ 24 + 0xFF) && onlyBits (q 1) mask56 && nbits (q 2) 24 8 == 0 &&
      nbits (q 3) 32 32 == 0 && onlyBits (q 4) mask56 && onlyBits (q 5) mask56 && q 6 == 0 && onlyBits (q 7) maskBuf && zeroQuads d 8 }

/-- The checks of KVAPP. -/
def kvAppBad (d : List Byte) (bnd0 bnd1 : Nat) : Bool :=
  let x := kvAppOf d
  nbits (quadOf d 0) 0 8 != opKVAPP || !x.zero || !kvTypeOk x.kt || x.n == 0 || !tableOk x.table ||
  bufBad x.ping x.plen (32 * rowLen x.dh x.kt) bnd0 bnd1

/-- The first entry and the number of entries of a KVAPP. -/
def KvApp.e0 (x : KvApp) : Nat := x.t0 / 16
def KvApp.total (x : KvApp) : Nat := (x.t0 + x.n - 1) / 16 - x.t0 / 16 + 1

/-- Its footprint. -/
def kvAppFoot (desc : Nat) (x : KvApp) : List Range × List Range :=
  let n := x.n * rowLen x.dh x.kt
  ([⟨0, desc, 128⟩, ⟨0, x.ksrc, n⟩, ⟨0, x.vsrc, n⟩],
   [⟨0, x.table + 32 * x.e0, 32 * x.total⟩, ⟨1, x.ping, 2 * x.plen⟩])

/-- The tokens of a step, as indices from T0. -/
def KvApp.toks (x : KvApp) (k : Nat) : List Nat :=
  (List.range 16).filterMap (fun j =>
    let t := 16 * (x.e0 + k) + j
    if x.t0 ≤ t ∧ t < x.t0 + x.n then some (t - x.t0) else none)

/-- The rows that a KVAPP step's two copies fetch. -/
def kvAppFetch (x : KvApp) (k : Nat) : List (List (Nat × Nat)) :=
  let r := rowLen x.dh x.kt
  [(x.toks k).map (fun i => (x.ksrc + i * r, r)), (x.toks k).map (fun i => (x.vsrc + i * r, r))]

/-- What a KVAPP step reads besides, and the entry word it writes. -/
def kvAppRound1 (x : KvApp) (k : Nat) : List (Nat × Nat) × List (Nat × Nat) :=
  let e := x.table + 32 * (x.e0 + k)
  ([(e, 16)], [(e + 12, 2)])

/-- What a KVAPP step commits: rows and VALIDN (10 R281). -/
def kvAppOut (x : KvApp) (rd : Nat → Byte) (e : KvEntry) (k : Nat) : StepOut :=
  let r := rowLen x.dh x.kt
  let rows := (x.toks k).flatMap (fun i =>
    let j := (x.t0 + i) % 16
    (List.range r).flatMap (fun b => [(8 * (e.block + j * r + b), 8, (rd (x.ksrc + i * r + b)).toNat),
      (8 * (e.block + (16 + j) * r + b), 8, (rd (x.vsrc + i * r + b)).toNat)]))
  let top := (x.toks k).foldl (fun m i => Nat.max m ((x.t0 + i) % 16 + 1)) e.validn
  { StepOut.blank k with mem := rows ++ [(8 * (x.table + 32 * (x.e0 + k) + 12), 16, top)] }

/-! ### KVFREQ (10 R283) -/

/-- The checks of KVFREQ. -/
def kvFreqBad (d : List Byte) : Bool :=
  let q := quadOf d
  nbits (q 0) 0 8 != opKVFREQ || !onlyBits (q 0) 0xFF || !onlyBits (q 1) mask56 || q 1 % 4 != 0 || !onlyBits (q 2) 0x7F ||
  !zeroQuads d 4 ||
  (match readF 16 false (q 3) with
    | .fin s m e => decide (cmpDyadic (signedM s m) e 1 0 ≤ 0)
    | _ => true)

/-- The largest x below 2^k with base^i × x^N ≤ 2^(−kN) … in integers: bm^i × x^N ≤ 2^sh, by bits from the highest. -/
def rootGo (p n lim : Nat) : Nat → Nat → Nat
  | 0, r => r
  | k + 1, r => let c := r + 2 ^ k; rootGo p n lim k (if p * c ^ n ≤ lim then c else r)

/-- BASE^(−i/N) for BASE = m × 2^e above 1, rounded once to binary32 (10 R283). -/
def freqCode (m : Nat) (e : Int) (i n : Nat) : Nat :=
  if i = 0 then 0x3F800000
  else
    -- x = 2^E × r with r of 64 to 66 bits: m^i × 2^(ei) × x^N = 1
    let p := m ^ i
    let big : Int := Nat.log2 p + e * i          -- floor log2 of BASE^i
    let ex : Int := -(big / n) - 66
    -- r^N × p × 2^(e·i + ex·N) ≤ 1
    let sh : Int := -(e * i + ex * n)
    let lim := 2 ^ sh.toNat
    let r := rootGo p n lim 68 0
    (roundFP 15 0 false (.fin false r ex (p * r ^ n != lim))).1

/-- What KVFREQ commits. -/
def kvFreqOut (d : List Byte) : StepOut :=
  let q := quadOf d
  let n := nbits (q 2) 0 8 + 1
  match readF 16 false (q 3) with
  | .fin _ m e => { StepOut.blank 0 with
      mem := (List.range n).map (fun i => (8 * (addr56 (q 1) + 4 * i), 32, freqCode m e i n)) }
  | _ => StepOut.blank 0

end Sys2Proof.Machine
end

