-- ==== Sys2Proof/Machine/CopyOps.lean ====
section
/-!
DEFINITION. The copy engine (11_copy): transfer records and their checks, the byte sequences of Table 11.2, chunks, the
completion stamp, and chains.
-/

namespace Sys2Proof.Machine

/-! ### Transfer records (11 R286) -/

/-- Opcodes of the copy forms (11 Table 11.3). -/
def cpCPY : Nat := 1
def cpCPY2 : Nat := 2
def cpCPYH : Nat := 3
def cpCPLN : Nat := 4
def cpACCLD : Nat := 5
def cpACCST : Nat := 6
def cpGSTEP : Nat := 9

/-- A transfer record, read (11 Table 11.1). -/
structure Rec where
  kind : Nat
  own  : Bool
  skip : Bool
  na   : Bool
  seq  : Nat
  kpar : Nat
  src  : Nat
  dst  : Nat
  shape : Nat
  sstr : Int
  dstr : Int
  param : Nat
  stampa : Nat
  next : Nat
  zero : Bool
deriving DecidableEq, Repr

/-- Reads a transfer record. -/
def recOf (d : List Byte) : Rec :=
  let q := quadOf d
  { kind := nbits (q 0) 0 8
    own := (q 0).testBit 8
    skip := (q 0).testBit 9
    na := (q 0).testBit 10
    seq := nbits (q 0) 16 16
    kpar := nbits (q 0) 32 32
    src := addr56 (q 1)
    dst := addr56 (q 2)
    shape := q 3
    sstr := int32 (nbits (q 4) 0 32)
    dstr := int32 (nbits (q 4) 32 32)
    param := q 5
    stampa := addr56 (q 6)
    next := addr56 (q 7)
    zero := nbits (q 0) 11 5 == 0 && onlyBits (q 1) mask56 && onlyBits (q 2) mask56 && onlyBits (q 6) mask56 && onlyBits (q 7) mask56 }

/-- ROWB and NROW. -/
def Rec.rowb (x : Rec) : Nat := nbits x.shape 0 24
def Rec.nrow (x : Rec) : Nat := nbits x.shape 24 24
/-- TW, TH and E of CPYH. -/
def Rec.tw (x : Rec) : Nat := nbits x.shape 0 16
def Rec.th (x : Rec) : Nat := nbits x.shape 16 16
def Rec.eb (x : Rec) : Nat := 2 ^ nbits x.shape 32 2
/-- IW, IH, X0 and Y0 of CPYH. -/
def Rec.iw (x : Rec) : Nat := nbits x.param 0 16
def Rec.ih (x : Rec) : Nat := nbits x.param 16 16
def int16 (v : Nat) : Int := if v < 2 ^ 15 then (v : Int) else (v : Int) - 2 ^ 16
def Rec.x0 (x : Rec) : Int := int16 (nbits x.param 32 16)
def Rec.y0 (x : Rec) : Int := int16 (nbits x.param 48 16)
/-- KR and the plane type of CPLN. -/
def Rec.kr (x : Rec) : Nat := nbits x.shape 0 16
def Rec.planeT (x : Rec) : Nat := nbits x.kpar 0 5

/-- Whether the fields a kind does not use are zero (11 R286). -/
def Rec.unusedZero (x : Rec) : Bool :=
  let shapeBits : Nat := if x.kind = cpCPY then 40 else if x.kind = cpCPYH then 34 else if x.kind = cpCPLN then 16 else 48
  let paramBits : Nat := if x.kind = cpCPYH then 64 else if x.kind = cpGSTEP then 56 else 0
  let kparBits : Nat := if x.kind = cpCPLN then 5 else if x.kind = cpGSTEP then 32 else 0
  decide (x.shape < 2 ^ shapeBits) && decide (x.param < 2 ^ paramBits) && decide (x.kpar < 2 ^ kparBits) &&
  (x.kind != cpCPY || x.sstr == 0) && (!(x.kind == cpCPY || x.kind == cpCPLN) || x.dstr == 0)

/-- L: the length of the byte sequence (11 Table 11.2). -/
def Rec.len (x : Rec) : Nat :=
  if x.kind = cpCPY then nbits x.shape 0 40
  else if x.kind = cpCPYH then x.tw * x.th * x.eb
  else if x.kind = cpCPLN then x.kr * typeWidth x.planeT * 32
  else x.rowb * x.nrow

/-- Where a sequence byte comes from (11 Table 11.2): nothing, a byte, or one bit of each of eight elements. -/
inductive SrcByte where
  | zero
  | byte (va : Nat)
  | plane (bits : List Nat)
deriving DecidableEq, Repr

/-- The index word that sequence byte i of a GSTEP reads. -/
def Rec.idxAt (x : Rec) (i : Nat) : Nat := nbits x.param 0 56 + 4 * (i / x.rowb)

/-- The source of sequence byte i, `idx` giving a GSTEP's index words, and the address it is written to (11 Table 11.2). -/
def Rec.at (x : Rec) (idx : Nat → Nat) (i : Nat) : SrcByte × Nat :=
  if x.kind = cpCPY then (.byte (x.src + i), x.dst + i)
  else if x.kind = cpCPYH then
    let w := x.tw * x.eb
    let r := i / w
    let c := i % w / x.eb
    let ix := x.x0 + c
    let iy := x.y0 + r
    (if 0 ≤ ix ∧ ix < x.iw ∧ 0 ≤ iy ∧ iy < x.ih then .byte ((x.src : Int) + iy * x.sstr + ix * x.eb + (i % x.eb : Nat)).toNat else .zero,
      ((x.dst : Int) + r * x.dstr + (c * x.eb + i % x.eb : Nat)).toNat)
  else if x.kind = cpCPLN then
    let w := typeWidth x.planeT
    let pr := i / 32
    let row := ((x.src : Int) + (pr / w : Nat) * x.sstr).toNat
    (.plane ((List.range 8).map (fun t => 8 * row + (8 * (i % 32) + t) * w + pr % w)), x.dst + i)
  else
    let r := i / x.rowb
    let c := i % x.rowb
    let d := ((x.dst : Int) + r * x.dstr + c).toNat
    if x.kind = cpGSTEP then
      let j := idx (x.idxAt i)
      (if j < x.kpar then .byte ((x.src : Int) + j * x.sstr + c).toNat else .zero, d)
    else (.byte ((x.src : Int) + r * x.sstr + c).toNat, d)

/-- The addresses a sequence byte is read from. -/
def SrcByte.vas : SrcByte → List Nat
  | .zero => []
  | .byte a => [a]
  | .plane l => l.map (· / 8)

/-- The value of a sequence byte. -/
def SrcByte.val (rd : Nat → Byte) : SrcByte → Byte
  | .zero => 0#8
  | .byte a => rd a
  | .plane l => BitVec.ofNat 8 ((List.range 8).map (fun t => if (rd (l.getD t 0 / 8)).getLsbD (l.getD t 0 % 8) then 2 ^ t else 0)).sum

/-! ### Footprints and checks (11 R298, Table 11.5) -/

/-- The span of n rows of `len` bytes at a stride; none where no byte is addressed. -/
def rowSpan (base : Int) (n : Nat) (stride : Int) (len : Nat) : Option (Int × Int) :=
  if n = 0 ∨ len = 0 then none
  else
    let d := (n - 1 : Nat) * stride
    some (base + min 0 d, base + max 0 d + len - 1)

/-- The destination footprint. -/
def Rec.dstSpan (x : Rec) : Option (Int × Int) :=
  if x.kind = cpCPYH then rowSpan x.dst x.th x.dstr (x.tw * x.eb)
  else if x.kind = cpCPY ∨ x.kind = cpCPLN then rowSpan x.dst 1 0 x.len
  else rowSpan x.dst x.nrow x.dstr x.rowb

/-- The source footprint. -/
def Rec.srcSpan (x : Rec) : Option (Int × Int) :=
  if x.kind = cpCPY then rowSpan x.src 1 0 x.len
  else if x.kind = cpCPYH then
    let c0 := max 0 x.x0
    let c1 := min (x.iw : Int) (x.x0 + x.tw)
    let r0 := max 0 x.y0
    let r1 := min (x.ih : Int) (x.y0 + x.th)
    rowSpan ((x.src : Int) + r0 * x.sstr + c0 * x.eb) (r1 - r0).toNat x.sstr ((c1 - c0).toNat * x.eb)
  else if x.kind = cpCPLN then rowSpan x.src x.kr x.sstr (32 * typeWidth x.planeT)
  else if x.kind = cpGSTEP then (if x.len = 0 then none else rowSpan x.src x.kpar x.sstr x.rowb)
  else rowSpan x.src x.nrow x.sstr x.rowb

/-- The indices' footprint of a GSTEP. -/
def Rec.idxSpan (x : Rec) : Option (Int × Int) :=
  if x.kind = cpGSTEP ∧ x.len ≠ 0 then rowSpan (nbits x.param 0 56) 1 0 (4 * x.nrow) else none

/-- The space of an address of 56 bits: 0 global, 1 accumulator window, 2 scratchpad window (05 Table 5.1). -/
def spaceOf (va : Nat) : Nat := if isAccWin va then 1 else if isPadWin va then 2 else 0

/-- The scratchpad a copy may touch: BND0 and BND1 of its core; none for the front end. -/
abbrev PadBnd := Option (Nat × Nat)

/-- A footprint that leaves 0 to 2^56 − 1, holds two spaces, or leaves the scratchpad (11 R298). -/
def spanBad (b : PadBnd) : Option (Int × Int) → Option Nat
  | none => none
  | some (lo, hi) =>
    let bad := some (lo % (2 ^ 56 : Int)).toNat
    if lo < 0 ∨ (2 ^ 56 : Int) ≤ hi then bad
    else
      let l := lo.toNat
      let h := hi.toNat
      if spaceOf l ≠ spaceOf h then bad
      else if spaceOf l = 2 then
        match b with
        | none => bad
        | some (b0, b1) => if b0 * 1024 ≤ l % 2 ^ 48 ∧ h % 2 ^ 48 < b1 * 1024 then none else bad
      else if spaceOf l = 1 ∧ b.isNone then bad
      else none

/-- Whether an accumulator footprint row lies in the window's rows: bytes o to o + n − 1 of the window (05 R133, 08 R208). -/
def accRowsOk (wb wc : Nat) (o : Int) (n : Nat) : Bool :=
  if n = 0 then true
  else
    decide (0 ≤ o) && decide (o + n ≤ 2 ^ 21) &&
    (List.range ((o.toNat + n - 1) / 2048 - o.toNat / 2048 + 1)).all (fun k =>
      let row := (o.toNat / 2048 + k) % 256
      wb ≤ row && decide (row < wb + wc))

/-- The accumulator side of ACCLD or ACCST (11 Table 11.5). -/
def accSideBad (x : Rec) (wb wc : Nat) : Bool :=
  let ld := x.kind = cpACCLD
  let base := if ld then x.dst else x.src
  let other := if ld then x.src else x.dst
  let st := if ld then x.dstr else x.sstr
  !isAccWin base || isAccWin other || base % 8 != 0 || x.rowb % 8 != 0 || st % 8 != 0 ||
  (x.rowb != 0 && (List.range x.nrow).any (fun r => !accRowsOk wb wc ((base : Int) - 0xFE * 2 ^ 48 + r * st) x.rowb))

/-- Table 11.5 but for NEXT and OWN: whether a record of a kind fails it. -/
def recBad (x : Rec) (wb wc : Nat) : Bool :=
  let k := x.kind
  !x.zero || !x.unusedZero || x.stampa % 8 != 0 || isAccWin x.stampa ||
  (match x.dstSpan with
    | some (lo, hi) => decide (lo ≤ (x.stampa : Int) ∧ (x.stampa : Int) + 7 ≤ hi)
    | none => false) ||
  ((k == cpCPY || k == cpCPY2 || k == cpCPYH || k == cpGSTEP) && (isAccWin x.src || isAccWin x.dst)) ||
  (k == cpCPYH && ((x.tw == 0) != (x.th == 0) || x.iw == 0 || x.ih == 0)) ||
  (k == cpCPLN && (!isPadWin x.dst || x.dst % 16 != 0 || !(x.planeT ≤ 2 || (10 ≤ x.planeT && x.planeT ≤ 16)) || isAccWin x.src)) ||
  ((k == cpACCLD || k == cpACCST) && accSideBad x wb wc) ||
  (k == cpGSTEP && (x.kpar == 0 || nbits x.param 0 56 % 4 != 0))

/-- The first footprint address that R298 refuses. -/
def recSpanBad (x : Rec) (b : PadBnd) : Option Nat :=
  (spanBad b x.srcSpan <|> spanBad b x.idxSpan <|> spanBad b x.dstSpan) <|> spanBad b (some (x.stampa, (x.stampa : Int) + 7))

/-- The verdict on a record at issue (11 R298, Table 11.5); DESIGN CHOICE (log 102): OWN = 1 outside a chain is the operand trap. -/
def recVerdict (op : Nat) (x : Rec) (b : PadBnd) (wb wc : Nat) : Verdict :=
  if x.kind ≠ op ∨ x.next ≠ 0 ∨ x.own = true ∨ recBad x wb wc = true then operandTrap
  else
    match recSpanBad x b with
    | some a => accessTrap a
    | none => .go

/-- Whether a kind is one of the seven copy forms. -/
def isCopyKind (k : Nat) : Bool := (1 ≤ k && k ≤ 6) || k == 9

/-- Whether a chained record fails its checks (11 R299). -/
def chainBad (x : Rec) (b : PadBnd) (wb wc : Nat) : Bool := !isCopyKind x.kind || recBad x wb wc || (recSpanBad x b).isSome

/-- The stamp address rules of a STAMP, with the access trap (11 R301). -/
def stampVerdict (va : Nat) (b : PadBnd) : Verdict :=
  trapIf (decide (2 ^ 56 ≤ va) || va % 8 != 0 || isAccWin va || (spanBad b (some (va, (va : Int) + 7))).isSome) 3 0 va

/-! ### The engine's place: its core or die, its unit, its address space -/

/-- The core of an engine: engines 0 to 159 are the cores', 160 to 163 the front ends' of the dies (15 R401). -/
def engCore (e : Nat) : Option Nat := if e < 160 then some e else none
/-- The unit that translates for an engine. -/
def engUnit (e : Nat) : XUnit := if e < 160 then .engine e .copy else .die (e - 160)
/-- An engine. -/
def State.engine (s : State) (e : Nat) : CopyEngine := if e < 160 then (s.core e).copy else (s.die (e - 160)).copy
/-- Replaces an engine. -/
def State.setEngine (s : State) (e : Nat) (x : CopyEngine) : State :=
  if e < 160 then s.setCore e { s.core e with copy := x } else s.setDie (e - 160) { s.die (e - 160) with copy := x }
/-- Whom an engine works for: its number, the address space, the task whose scratchpad it sees, and the unit that translates. -/
structure EngFor where
  eng  : Nat
  asid : Nat
  task : Nat
  unit : XUnit
deriving DecidableEq, Repr

/-- The core whose L1 an engine's payload goes through: a copy engine's (11 R289). -/
def EngFor.l1Core (w : EngFor) : Option Nat := match w.unit with
  | .engine c .copy => some c
  | _ => none

/-- The task of a job's group (14 R384). -/
def CopyJob.taskOf (j : CopyJob) : Nat := match j.owner with
  | some id => id.task
  | none => 0

/-- A job on an engine. -/
def CopyJob.on (j : CopyJob) (e : Nat) : EngFor := ⟨e, j.asid, j.taskOf, engUnit e⟩

/-- A core's copy engine at work for a group. -/
def copyFor (c : Nat) (g : Group) : EngFor := ⟨c, g.asid, g.gid.task, engUnit c⟩

/-- The scratchpad bounds that a task's copies keep to: the core's, or while the task is pre-empted those of its launch; none on a front
end's channel (11 R298, 13 R334). -/
def State.engBnd (s : State) (w : EngFor) : PadBnd :=
  (engCore w.eng).map (fun c => match (if (s.core c).savedPad.any (fun p => p.task == w.task) then s.task w.task else none) with
    | some t => (t.launch.bnd0, t.launch.bnd1)
    | none => ((s.core c).bnd0, (s.core c).bnd1))

/-- A core as the copies of a task see its scratchpad: the hamper, or the saved image while the task is pre-empted (11 R296, 13
R336). -/
def Core.padFor (c : Core) (task : Nat) : Core :=
  match c.savedPad.find? (fun p => p.task == task) with
  | some p => { c with hamper := p.bytes, lit := p.lit, padPoison := p.poison, fills := p.fills }
  | none => c

/-- A change of the scratchpad that the copies of a task see; none where another task has the core and no image is kept. -/
def Core.onPad (c : Core) (task : Nat) (f : Core → Core) : Core :=
  if c.savedPad.any (fun p => p.task == task) then
    let d := f (c.padFor task)
    { c with savedPad := c.savedPad.map (fun p => if p.task = task then ⟨task, d.hamper, d.lit, d.padPoison, d.fills⟩ else p) }
  else if c.task.any (fun t => decide (t ≠ task)) then c
  else f c

/-- The accumulator window of a copy's group (08 R208). -/
def State.jobWin (s : State) (j : CopyJob) : Nat × Nat :=
  match j.owner.bind s.anyGroup with
  | some g => (g.wb, g.wc)
  | none => (0, 0)

/-! ### Reading and writing (11 R288, R289) -/

/-- The translation of a list of byte addresses, those of the windows apart: the lowest refused, or some still to be walked. -/
def State.spanOf (s : State) (u : XUnit) (asid : Nat) (wr : Bool) (l : List Nat) : Span :=
  let ts := (l.filter isGlobal).map (fun a => (a, s.translate u asid a wr))
  let no := (ts.filter (fun x => decide (x.2 = .refused))).map (·.1)
  match no with
  | a :: rest => .refused (rest.foldl Nat.min a)
  | [] => if ts.any (fun x => decide (x.2 = .miss)) then .miss else .ok

/-- The address of the granule or, in global memory that an L1 serves, the sector of an address: what is read at one instant (06 R165,
R168). -/
def EngFor.pieceOf (w : EngFor) (va : Nat) : Nat := if isGlobal va && (engCore w.eng).isSome then va / 32 * 32 else va / 16 * 16

/-- A byte that an engine reads: the scratchpad, the accumulator window, or global memory, a payload byte through the L1 of its core
(11 R289, 05 Table 5.3), any other at its home. -/
def State.engByte (s : State) (l1 : Bool) (w : EngFor) (va : Nat) : Byte :=
  match engCore w.eng with
  | none => (s.vread w.unit w.asid va 1).headD 0#8
  | some c =>
    let co := s.core c
    if isPadWin va then (co.padFor w.task).hamper.read (va % 2 ^ 48)
    else if isAccWin va then
      let o := va % 2 ^ 21
      BitVec.ofNat 8 (nbits (co.accGet (o / 8)).toNat (8 * (o % 8)) 8)
    else
      match s.physical w.unit w.asid va with
      | some (pa, false) =>
        (match (if l1 then co.l1Get (pa / 32) else none) with
          | some v => BitVec.ofNat 8 (nbits v.toNat (8 * (pa % 32)) 8)
          | none => s.mem.read pa)
      | some x => s.byteAt x
      | none => 0#8

/-- The error an engine's read of a byte meets (11 R293, 14 R381). -/
def State.engErr (s : State) (l1 : Bool) (w : EngFor) (va : Nat) : Option Poison :=
  if isPadWin va then
    (match engCore w.eng with
      | some c => if ((s.core c).padFor w.task).padPoison.contains (va % 2 ^ 48 / 16) then some ⟨3, va⟩ else none
      | none => none)
  else if isAccWin va then
    (match engCore w.eng with
      | some c => if (s.core c).accPoison.contains (va % 2 ^ 21 / 8) then some ⟨4, va⟩ else none
      | none => none)
  else
    match s.physical w.unit w.asid va with
    | some (pa, false) =>
      (match (if l1 then (engCore w.eng).bind (fun c => (s.core c).l1Get (pa / 32)) else none) with
        | some _ => none
        | none => match s.readErr pa with
          | .bad k => some ⟨k, va⟩
          | _ => none)
    | _ => none

/-- What payload reads of global bytes bring into the caches: the LD row allocates in the LLC and fills the L1 of a core; the LDNA row
does neither (05 Table 5.3). -/
def State.engFill (s : State) (w : EngFor) (na : Bool) (vas : List Nat) : State :=
  if na then s
  else
    ((vas.filter isGlobal).filterMap (fun a => match s.physical w.unit w.asid a with
      | some (pa, false) => some (pa / 32)
      | _ => none)).dedup.foldl (fun s k =>
        match engCore w.eng with
        | none => s.llcFill (32 * k) false
        | some c => if ((s.core c).l1Get k).isSome then s else (s.llcFill (32 * k) false).l1Bring c k []) s

/-- One byte into an accumulator entry (08 R210). -/
def Core.accPut (c : Core) (va : Nat) (b : Byte) : Core :=
  let o := va % 2 ^ 21
  let sh := 8 * (o % 8)
  c.accSet (o / 8) ((c.accGet (o / 8) &&& ~~~((0xFF#64) <<< sh)) ||| ((b.setWidth 64) <<< sh))

/-- The pieces of a list of writes, one for each granule, at their places (11 R289, 06 R165). -/
def State.putsOf (s : State) (w : EngFor) (l : List (Nat × Byte)) : List CopyPut :=
  (l.map (fun x => x.1 / 16)).dedup.filterMap (fun k =>
    let bs := l.filter (fun x => x.1 / 16 == k)
    if !isGlobal (16 * k) then some ⟨.pad, 0, 16 * k, bs⟩
    else match s.physical w.unit w.asid (16 * k) with
      | some (pa, host) => some ⟨if host then .host else .dev, pa, 16 * k, bs⟩
      | none => none)

/-- A piece writes its granule whole. -/
def CopyPut.whole (p : CopyPut) : Bool := (List.range 16).all (fun i => p.bytes.any (fun x => x.1 == p.va + i))

/-- The error of the granule that a piece would merge into, by its unit code (11 R293, 14 R382). -/
def State.putErr (s : State) (w : EngFor) (p : CopyPut) : Option Nat :=
  if p.whole then none
  else match p.space with
    | .dev => s.mergeUnit p.pa 1
    | .host => none
    | .pad =>
      if !isPadWin p.va then none
      else (engCore w.eng).bind (fun c => if ((s.core c).padFor w.task).padPoison.contains (p.va % 2 ^ 48 / 16) then some 3 else none)

/-- Performs one piece in one event (11 R289): a scratchpad granule is lit, the core's own L1 copy updated, a granule written whole is
sound again (14 R382); `fill` allocates in the LLC (05 Table 5.3). -/
def State.putPiece (s : State) (w : EngFor) (fill : Bool) (p : CopyPut) : State :=
  let into (m : Mem) (base : Nat) : Mem := p.bytes.foldl (fun m x => m.write (base + x.1 % 16) x.2) m
  match p.space with
  | .host => { s with host := into s.host p.pa }
  | .dev =>
    let s := if fill then s.llcFill p.pa true else s.llcMerge p.pa
    let s := { s with mem := into s.mem p.pa }
    let s := if p.whole then s.soundGranule (p.pa / 16) else s
    (match w.l1Core with
      | none => s
      | some c => s.setCore c (p.bytes.foldl (fun co x => co.ownStore .store (p.pa + x.1 % 16) [x.2]) (s.core c)))
  | .pad =>
    match engCore w.eng with
    | none => s
    | some c =>
      if isAccWin p.va then s.setCore c (p.bytes.foldl (fun co x => co.accPut x.1 x.2) (s.core c))
      else s.setCore c ((s.core c).onPad w.task (fun co =>
        let o := p.va % 2 ^ 48
        { p.bytes.foldl (fun (co : Core) x => co.endFills (x.1 % 2 ^ 48) 1) co with
          hamper := into co.hamper o
          lit := insertNat co.lit (o / 16)
          padPoison := if p.whole then co.padPoison.filter (fun k => decide (k ≠ o / 16)) else co.padPoison }))

/-- The granule of a list of writes that would merge into an error, with the unit code (11 R293, 14 R382). -/
def State.engMergeErr (s : State) (w : EngFor) (l : List (Nat × Byte)) : Option Poison :=
  (s.putsOf w l).findSome? (fun p => (s.putErr w p).map (fun u => ⟨u, p.va⟩))

/-- Performs a few writes of an engine, as a stamp or an OWN bit, at their homes. -/
def State.engWrite (s : State) (w : EngFor) (l : List (Nat × Byte)) : State := (s.putsOf w l).foldl (fun s p => s.putPiece w false p) s

/-! ### Jobs (11 R285, R290 to R302) -/

/-- Changes a started job of an engine. -/
def State.mapRun (s : State) (e run : Nat) (f : CopyJob → CopyJob) : State :=
  let x := s.engine e
  match x.runs[run]? with
  | some j => s.setEngine e { x with runs := x.runs.set run (f j) }
  | none => s

/-- Removes a started job of an engine. -/
def State.dropRun (s : State) (e run : Nat) : State :=
  let x := s.engine e
  s.setEngine e { x with runs := x.runs.eraseIdx run }

/-- Holds an address for CPYQ sel 1 (11 R302). -/
def State.hold (s : State) (e : Nat) (j : CopyJob) (addr : Nat) : State :=
  match j.owner with
  | none => s
  | some id =>
    let x := s.engine e
    s.setEngine e { x with held := x.held.filter (fun h => !(h.gid == id && h.ch == j.ch)) ++ [⟨id, j.ch, addr⟩] }

/-- Logs an uncorrectable error that a job met and asks for the lamp test (11 R293, 14 R384). -/
def State.logJob (s : State) (e : Nat) (j : CopyJob) (p : Poison) : State :=
  let c := (engCore e).getD 0xFF
  if p.unit = 3 then s.logError j.taskOf ⟨p.addr, 0xFF, c, 0, 1, 3⟩ (bankAt c (p.addr % 2 ^ 24))
  else if p.unit = 4 then s.logError j.taskOf ⟨p.addr, 0xFF, c, 0, 1, 4⟩ (.pane c (p.addr % 2 ^ 21 / 524288))
  else
    match s.physical (engUnit e) j.asid p.addr with
    | some (pa, _) => s.logError j.taskOf ⟨p.addr, homeSlice pa, 0xFF, 0, 1, p.unit⟩ (memUnit pa p.unit)
    | none => s

/-- Logs the reads of a job that parity corrected (14 R380, R384). -/
def State.logCorrected (s : State) (e : Nat) (j : CopyJob) (vas : List Nat) : State :=
  ((vas.filter isGlobal).filterMap (fun a => match s.physical (engUnit e) j.asid a with
    | some (pa, false) => (match s.readErr pa with
      | .corrected => some (pa / 256, pa, a)
      | _ => none)
    | _ => none)).foldl (fun (st : List Nat × State) x =>
      if st.1.contains x.1 then st
      else (x.1 :: st.1, st.2.logError j.taskOf ⟨x.2.2, homeSlice x.2.1, 0xFF, 0, 0, 1⟩ (memUnit x.2.1 1))) ([], s) |>.2

/-- The end of a job's share of its production (11 R291), or of its node (15 R401). -/
def State.finishJob (s : State) (j : CopyJob) (ok : Bool) : State :=
  let s := match j.owner with
    | some id => s.mapGroup id (fun g => g.completeProd j.prod (!ok))
    | none => s
  match j.node with
  | none => s
  | some (q, slot) =>
    match s.queue q with
    | none => s
    | some cq => s.setQueue { cq with nodes := cq.nodes.map (fun n =>
        if n.slot = slot then { n with result := some (if ok then .done else .failed) } else n) }

/-- The completion stamp's word (11 Table 11.4). -/
def stampWord (status seq ecode bdone : Nat) (oob : Bool) : Nat :=
  2 ^ 63 + status * 2 ^ 60 + seq % 65536 * 2 ^ 44 + (if oob then 2 ^ 43 else 0) + ecode * 2 ^ 40 + bdone % 2 ^ 40

/-- The record that a job works on. -/
def CopyJob.xrec (j : CopyJob) : Rec := recOf j.record

/-- Where a STAMP or a copy writes its stamp, and the SEQ of it. -/
def CopyJob.stampAt (j : CopyJob) : Nat × Nat := if j.kind = .stamp then (j.recAddr, j.start) else (j.xrec.stampa, j.xrec.seq)

/-- A fresh job. -/
def CopyJob.fresh (id : Nat) (owner : Option GId) (node : Option (Nat × Nat)) (asid ch : Nat) (kind : CopyKind) : CopyJob :=
  ⟨id, owner, node, asid, ch, kind, 0, [], 0, 0, none, [], false, false, false, none, false, false, none, [], [], false, []⟩

/-- Enters a job into its channel's queue (11 R285). -/
def State.enqueueCopy (s : State) (e : Nat) (j : CopyJob) : State :=
  let x := s.engine e
  { s.setEngine e { x with queue := x.queue ++ [{ j with id := s.ids }] } with ids := s.ids + 1 }

/-- The entries in a channel's queue. -/
def CopyEngine.depth (x : CopyEngine) (ch : Nat) : Nat := (x.queue.filter (fun j => j.ch == ch)).length

/-- Whether the productions a job consumes have completed (11 R285). -/
def State.waitsDone (s : State) (owner : Option GId) (l : List Nat) : Bool :=
  match owner.bind s.anyGroup with
  | some g => l.all g.prodDone
  | none => true

/-- Whether one of them failed (11 R292). -/
def State.waitsFailed (s : State) (owner : Option GId) (l : List Nat) : Bool :=
  match owner.bind s.anyGroup with
  | some g => l.any g.prodFailed
  | none => false

/-- A chain that is started occupies its channel (11 R299). -/
def CopyEngine.chained (x : CopyEngine) (ch : Nat) : Bool := x.runs.any (fun j => j.ch == ch && j.kind == .chain)

/-- A job as it starts: SKIPPED after a failed production, complete at once where no byte is left to move (11 R285, R290,
R292, R301). -/
def CopyJob.begin (j : CopyJob) (failed : Bool) : CopyJob :=
  match j.kind with
  | .stamp => { j with ended := some (if failed then ⟨4, 0, 0⟩ else ⟨0, 0, 0⟩) }
  | .copy =>
    if failed then { j with ended := some ⟨4, 0, j.start⟩ }
    else { j with loaded := true, next := j.start, ended := if j.start = j.xrec.len then some ⟨0, 0, j.xrec.len⟩ else none }
  | .chain => j

/-- The read of an engine at a record's 64 bytes: a wait for translation, a refusal or an error, or the bytes (11 R298). -/
inductive RecRead where
  | miss
  | refused (va : Nat)
  | bad (p : Poison)
  | ok (l : List Byte)
deriving DecidableEq, Repr

/-- Reads n bytes of an engine's structure. -/
def State.engRead (s : State) (w : EngFor) (va n : Nat) : RecRead :=
  let l := (List.range n).map (va + ·)
  match s.spanOf w.unit w.asid false l with
  | .miss => .miss
  | .refused a => .refused a
  | .ok =>
    match l.findSome? (s.engErr false w) with
    | some p => .bad p
    | none => .ok (l.map (s.engByte false w))

end Sys2Proof.Machine
end

