-- ==== Sys2Proof/Machine/CollOps.lean ====
section
/-!
DEFINITION. Collective instructions (12_collective): descriptors, checks, footprints, chunks, the folds of R316, ring
attention and the top-k merge, as functions of the contributions of the members.
-/

namespace Sys2Proof.Machine

/-- The opcodes of 12 Table 12.1. -/
def opCALLRED : Nat := 0x58
def opCREDSC : Nat := 0x59
def opCGATH : Nat := 0x5A
def opCBCAST : Nat := 0x5B
def opCA2A : Nat := 0x5C
def opCSEND : Nat := 0x5D
def opCRECV : Nat := 0x5E
def opCRING : Nat := 0x5F
def opCTOPK : Nat := 0x60

/-- Whether an opcode is a collective's. -/
def isColl (k : Nat) : Bool := 0x58 ≤ k && k ≤ 0x60
/-- The reductions. -/
def isRed (k : Nat) : Bool := k == opCALLRED || k == opCREDSC
/-- The kinds of two members. -/
def isPair (k : Nat) : Bool := k == opCSEND || k == opCRECV

/-- A collective descriptor (12 Table 12.2). -/
structure Coll where
  kind : Nat
  man : Bool
  rm : Nat
  dir : Bool
  op : Nat
  ty : Nat
  lane : Nat
  guard : Nat
  gen : Bool
  nmf : Nat
  me : Nat
  mlist : Nat
  src : Nat
  dst : Nat
  count : Nat
  root : Nat
  tag : Nat
  ping : Nat
  plen : Nat
  x1 : Nat
  x2 : Nat
  x3 : Nat
  zero : Bool
deriving DecidableEq, Repr

/-- Reads a collective descriptor. -/
def collOf (d : List Byte) : Coll :=
  let q := quadOf d
  { kind := nbits (q 0) 0 8
    man := (q 0).testBit 8
    rm := nbits (q 0) 10 2
    dir := (q 0).testBit 12
    op := nbits (q 0) 13 2
    ty := nbits (q 0) 16 5
    lane := nbits (q 0) 21 3
    guard := nbits (q 0) 24 4
    gen := (q 0).testBit 28
    nmf := nbits (q 1) 0 18
    me := nbits (q 1) 32 18
    mlist := addr56 (q 2)
    src := addr56 (q 3)
    dst := addr56 (q 4)
    count := nbits (q 5) 0 40
    root := nbits (q 6) 0 18
    tag := nbits (q 6) 32 32
    ping := nbits (q 7) 0 18 * 64
    plen := nbits (q 7) 32 14 * 1024
    x1 := addr56 (q 8)
    x2 := addr56 (q 9)
    x3 := nbits (q 10) 0 40
    zero := onlyBits (q 0) 0x1FFF7DFF && onlyBits (q 1) (0x3FFFF * 2 ^ 32 + 0x3FFFF) && onlyBits (q 2) mask56 &&
      onlyBits (q 3) mask56 && onlyBits (q 4) mask56 && onlyBits (q 5) (2 ^ 40 - 1) &&
      onlyBits (q 6) (0xFFFFFFFF * 2 ^ 32 + 0x3FFFF) && onlyBits (q 7) maskBuf && onlyBits (q 8) mask56 && onlyBits (q 9) mask56 &&
      onlyBits (q 10) (2 ^ 40 - 1) && zeroQuads d 11 }

/-- NM: the members; two for CSEND and CRECV. -/
def Coll.nm (x : Coll) : Nat := if isPair x.kind then 2 else x.nmf + 1

/-- The member list. -/
def memberRanks (l : List Byte) (n : Nat) : List Nat := (List.range n).map (fun i => nbits (leNat ((l.drop (4 * i)).take 4)) 0 18)

/-- Bytes of the member list. -/
def Coll.listLen (x : Coll) : Nat := if isPair x.kind then 0 else 4 * x.nm

/-- Strictly rising. -/
def rising : List Nat → Bool
  | [] => true
  | [_] => true
  | a :: b :: rest => decide (a < b) && rising (b :: rest)

/-- The fields a kind does not use are zero (12 R308). -/
def Coll.unusedZero (x : Coll) : Bool :=
  let k := x.kind
  let ring := k == opCRING
  let topk := k == opCTOPK
  (isRed k || (x.op == 0 && x.rm == 0)) && (k == opCBCAST || x.root == 0) && (ring || topk || (x.x1 == 0 && x.x2 == 0 && x.x3 == 0)) &&
  (!ring || (x.ty == 0 && x.src == 0 && x.dst == 0 && x.count == 0)) && (k != opCSEND || x.dst == 0) && (k != opCRECV || x.src == 0) &&
  (!(ring || k == opCSEND) || x.guard == 0)

/-- Element types of a reduction (12 Table 12.3). -/
def redTypeOk (t : Nat) : Bool := [4, 5, 8, 9, 13, 14, 15, 16].contains t

/-- The bytes of a shard: for each entry bytes 0 to 15 and its block (12 R318). -/
def shardLen (a : Attn) (n : Nat) : Nat := n * (16 + 32 * rowLen a.dh a.kt)

/-- The checks of Table 12.3 on the block alone. -/
def collPreBad (op : Nat) (d : List Byte) (rank bnd0 bnd1 : Nat) : Bool :=
  let x := collOf d
  x.kind != op || !x.zero || !x.unusedZero || x.op == 3 || decide (5 < x.lane) || (x.dir && op != opCTOPK) ||
  (x.gen && (op == opCSEND || op == opCRING)) || decide (16 < x.ty) ||
  (if isPair op then x.me != 0 || x.mlist != 0 || x.nmf == rank else decide (x.nm ≤ x.me)) ||
  (isRed op && !redTypeOk x.ty) || (op == opCTOPK && !classIF x.ty) || (op == opCBCAST && decide (x.nm ≤ x.root)) ||
  (op == opCTOPK && (x.count == 0 || decide (1024 < x.count) || x.x3 == 0)) ||
  bufBad x.ping x.plen ((if isRed op then 9 else 2) * 16384) bnd0 bnd1 ||
  (op == opCRING && (x.x1 % 128 != 0 || x.x2 % 128 != 0))

/-! ### Chunks (12 R313, R317) -/

/-- Elements of 16 KiB. -/
def Coll.per (x : Coll) : Nat := 131072 / typeWidth x.ty
/-- The blocks of DST. -/
def Coll.blocks (x : Coll) : Nat := if x.kind = opCGATH ∨ x.kind = opCA2A then x.nm else 1
/-- The elements of one block of DST, or of SRC for CSEND. -/
def Coll.len (x : Coll) : Nat := if x.kind = opCTOPK then x.count * x.x3 else x.count
/-- The chunks of one block. -/
def Coll.cpb (x : Coll) : Nat := ceilDiv x.len x.per
/-- TOTAL (12 R314). -/
def Coll.total (x : Coll) : Nat := if x.kind = opCRING then x.nm else x.blocks * x.cpb

/-- The checks of Table 12.3, with the member list and, for CRING, its XATTN descriptor and list entry (`aux`); TOTAL has 32 bits (09 Table
9.5). -/
def collBad (op : Nat) (d list aux : List Byte) (rank bnd0 bnd1 : Nat) : Bool :=
  let x := collOf d
  let ms := memberRanks list x.nm
  collPreBad op d rank bnd0 bnd1 || (!isPair op && (!rising ms || ms.getD x.me 0 != rank)) ||
  (op == opCRING &&
    (let a := attnOf (aux.take 128)
     let es := seqEnts (aux.drop 128) 1
     a.ns != 1 || attnBad (aux.take 128) es bnd0 bnd1 || decide (x.x3 < 2 * shardLen a (es.headD ⟨0, 0, 0, 0, true⟩).nblk))) ||
  decide (0xFFFFFFFF < x.total)

/-- The block, the first element and the end of chunk s. -/
def Coll.chunk (x : Coll) (s : Nat) : Nat × Nat × Nat :=
  let b := s / Nat.max 1 x.cpb
  let r := s % Nat.max 1 x.cpb
  (b, r * x.per, Nat.min x.len ((r + 1) * x.per))

/-- The member that forms a chunk of CALLRED (12 R317). -/
def Coll.former (x : Coll) (s : Nat) : Nat := s % Nat.max 1 x.nm

/-- Whether what this member takes of a chunk is the chunk itself, formed elsewhere (12 R313, R317). -/
def Coll.taken (x : Coll) (s : Nat) : Bool := x.kind == opCALLRED && x.former s != x.me

/-- The members whose contributions a chunk needs, the member that formed it where it is taken formed; of CRING's round the member whose
shard comes in it, none in the last (12 R317, R318). -/
def Coll.needs (x : Coll) (s : Nat) : List Nat :=
  let k := x.kind
  if k = opCALLRED then (if x.former s = x.me then List.range x.nm else [x.former s])
  else if isRed k ∨ k = opCTOPK then List.range x.nm
  else if k = opCGATH ∨ k = opCA2A then [(x.chunk s).1]
  else if k = opCBCAST then [x.root]
  else if k = opCRECV then [x.nmf]
  else if k = opCRING then (if s + 1 < x.nm then [(x.me + x.nm - 1) % x.nm] else [])
  else [x.me]

/-- Whether this member's contribution to a chunk is one it sends on request, as CSEND's; it reads the others from SRC at the step (12
R317). -/
def Coll.ownSent (x : Coll) (_s : Nat) : Bool := x.kind == opCSEND

/-- The first element of the block of SRC that a member takes (12 R317). -/
def Coll.srcBase (x : Coll) (forMember : Nat) : Nat :=
  if x.kind = opCREDSC ∨ x.kind = opCA2A then forMember * x.count else 0

/-- The rows of CTOPK that a chunk's slots lie in. -/
def Coll.rows (x : Coll) (s : Nat) : List Nat :=
  let (_, lo, hi) := x.chunk s
  if hi ≤ lo then [] else (List.range ((hi - 1) / x.count - lo / x.count + 1)).map (lo / x.count + ·)

/-- Codes read from memory: n elements of width w from element i of a region. -/
def readCodes (rd : Nat → Byte) (base w i n : Nat) : List Nat := (List.range n).map (fun j => rdBits rd (8 * base + (i + j) * w) w)

/-- The bytes that codes pack to (03 R63). -/
def packBytes (w : Nat) (l : List Nat) : List Byte := natLE ((l.length * w + 7) / 8) (packElems w l)

/-- Codes from packed bytes. -/
def unpackCodes (w n : Nat) (d : List Byte) : List Nat := let v := leNat d; (List.range n).map (fun i => nbits v (i * w) w)

/-- The bytes of a member's contribution to a chunk. -/
def Coll.contribLen (x : Coll) (s : Nat) : Nat :=
  let (_, lo, hi) := x.chunk s
  if x.kind = opCTOPK then
    let n := (x.rows s).length * x.count
    (n * typeWidth x.ty + 7) / 8 + 8 * n
  else ((hi - lo) * typeWidth x.ty + 7) / 8

/-- The byte ranges of this member's own contribution to a chunk for a member. -/
def Coll.ownReads (x : Coll) (s forMember : Nat) : List (Nat × Nat) :=
  let w := typeWidth x.ty
  let rg (base i n : Nat) : List (Nat × Nat) :=
    if n = 0 then [] else [(base + i * w / 8, ((i + n) * w + 7) / 8 - i * w / 8)]
  let (_, lo, hi) := x.chunk s
  if x.kind = opCTOPK then
    let r0 := (x.rows s).headD 0 * x.count
    let n := (x.rows s).length * x.count
    rg x.src r0 n ++ [(x.x1 + 8 * r0, 8 * n)]
  else rg x.src (x.srcBase forMember + lo) (hi - lo)

/-- This member's own contribution to a chunk for a member, read from memory. -/
def Coll.ownData (x : Coll) (rd : Nat → Byte) (s forMember : Nat) : List Byte :=
  let w := typeWidth x.ty
  let (_, lo, hi) := x.chunk s
  if x.kind = opCTOPK then
    let r0 := (x.rows s).headD 0 * x.count
    let n := (x.rows s).length * x.count
    packBytes w (readCodes rd x.src w r0 n) ++ (List.range (8 * n)).map (fun i => rd (x.x1 + 8 * r0 + i))
  else packBytes w (readCodes rd x.src w (x.srcBase forMember + lo) (hi - lo))

/-- What a step writes to memory: its chunk of DST, with the indices of CTOPK. -/
def Coll.stepWrites (x : Coll) (s : Nat) : List (Nat × Nat) :=
  let w := typeWidth x.ty
  let (b, lo, hi) := x.chunk s
  let e := b * x.len + lo
  if x.kind = opCSEND ∨ hi ≤ lo then []
  else (x.dst + e * w / 8, ((e + (hi - lo)) * w + 7) / 8 - e * w / 8) ::
    (if x.kind = opCTOPK then [(x.x2 + 8 * lo, 8 * (hi - lo))] else [])

/-- The footprint (12 R310). -/
def collFoot (desc : Nat) (d aux : List Byte) : List Range × List Range :=
  let x := collOf d
  let w := typeWidth x.ty
  let rg (base n : Nat) : List Range := if n = 0 then [] else [⟨0, base, (n * w + 7) / 8⟩]
  let ns := if x.kind = opCRECV ∨ x.kind = opCRING then 0 else if x.kind = opCREDSC ∨ x.kind = opCA2A then x.nm * x.count else x.len
  let nd := if x.kind = opCSEND ∨ x.kind = opCRING then 0 else x.blocks * x.len
  let (ar, aw) := if x.kind = opCRING then attnFoot x.x1 (attnOf (aux.take 128)) (seqEnts (aux.drop 128) 1) else ([], [])
  ([⟨0, desc, 128⟩] ++ (if x.listLen = 0 then [] else [⟨0, x.mlist, x.listLen⟩]) ++ rg x.src ns ++
     (if x.kind = opCTOPK then [⟨0, x.x1, 8 * x.len⟩] else []) ++ ar,
   rg x.dst nd ++ [⟨1, x.ping, 2 * x.plen⟩] ++ (if x.kind = opCTOPK then [⟨0, x.x2, 8 * x.len⟩] else []) ++
     (if x.kind = opCRING then (if x.x3 = 0 then [] else [⟨0, x.x2, x.x3⟩]) else []) ++ aw)

/-- What the members must agree on (12 R311): KIND (paired for CSEND and CRECV), TYPE, OP, RM, COUNT, NM, ROOT, RBLEN or NR,
then the member list. -/
def collParams (d list : List Byte) : List Nat :=
  let x := collOf d
  (if isPair x.kind then opCSEND else x.kind) :: x.ty :: x.op :: x.rm :: x.count :: x.nm :: x.root :: x.x3 :: memberRanks list x.nm

/-- The members other than this one: their indices, or the peer's rank for CSEND and CRECV. -/
def Coll.others (x : Coll) : List Nat := if isPair x.kind then [x.nmf] else (List.range x.nm).filter (fun i => i != x.me)

/-- The match key (12 R311): the tag and the member list, or the two ranks in order. -/
def collKey (d list : List Byte) (rank : Nat) : List Nat :=
  let x := collOf d
  if isPair x.kind then [0, x.tag] ++ (if x.kind = opCSEND then [rank, x.nmf] else [x.nmf, rank])
  else [1, x.tag] ++ memberRanks list x.nm

/-! ### The folds and the outputs (12 R316 to R319) -/

/-- One application of Op (12 R316). -/
def foldOp (x : Coll) (a b : Nat) : Nat × BitVec 6 :=
  if x.op = 0 then
    (if isFloatT x.ty then roundFP x.ty x.rm false (addF x.rm (readF x.ty false a) (readF x.ty false b))
     else ((a + b) % 2 ^ typeWidth x.ty, 0#6))
  else minMaxElem x.ty false (decide (x.op = 1)) a b

/-- The left fold of contributions in ascending member order, element by element. -/
def foldCodes (x : Coll) : List (List Nat) → List Nat × BitVec 6
  | [] => ([], 0#6)
  | a :: rest => rest.foldl (fun (s : List Nat × BitVec 6) b =>
      let r := List.zipWith (foldOp x) s.1 b
      (r.map (·.1), s.2 ||| orFlags r)) (a, 0#6)

/-- DST as the guard watches it (12 R316). -/
def collTensor (x : Coll) : Tensor := ⟨x.dst, x.ty, false, x.gen, x.guard, false, [], false⟩

/-- A slot of CTOPK: key, index, member. -/
structure Slot3 where
  key : Nat
  idx : Nat
  mem : Nat
deriving DecidableEq, Repr

/-- Whether a slot stands before another in the rank order of R319. -/
def slotBefore (x : Coll) (a b : Slot3) : Bool :=
  let less := if x.dir then keyLess x.ty b.key a.key else keyLess x.ty a.key b.key
  let more := if x.dir then keyLess x.ty a.key b.key else keyLess x.ty b.key a.key
  let ia := readI 5 a.idx
  let ib := readI 5 b.idx
  less || (!more && (decide (ia < ib) || (decide (ia = ib) && decide (a.mem < b.mem))))

/-- Inserts a slot in rank order. -/
def slotInsert (x : Coll) (a : Slot3) : List Slot3 → List Slot3
  | [] => [a]
  | b :: rest => if slotBefore x a b then a :: b :: rest else b :: slotInsert x a rest

/-- The merged slots of row number i among the rows of a chunk, from the members' data in ascending member order. -/
def topkMerge (x : Coll) (n i : Nat) (l : List (Nat × List Byte)) : List Slot3 :=
  let w := typeWidth x.ty
  let slots := l.flatMap (fun m =>
    let keys := unpackCodes w n m.2
    let idx := unpackCodes 64 n (m.2.drop ((n * w + 7) / 8))
    (List.range x.count).map (fun j => (⟨keys.getD (i * x.count + j) 0, idx.getD (i * x.count + j) 0, m.1⟩ : Slot3)))
  ((slots.filter (fun a => a.idx != 2 ^ 64 - 1)).foldl (fun acc a => slotInsert x a acc) []).take x.count

/-- What a step of the kinds but CRING commits, from the members' contributions in ascending member order, or from a chunk formed
elsewhere with the flags `formed` of its forming (12 R313, R316, R317, R319). -/
def collOut (x : Coll) (gs : List CapGuard) (l : List (Nat × List Byte)) (formed : BitVec 6) (s : Nat) : StepOut :=
  let w := typeWidth x.ty
  let (b, lo, hi) := x.chunk s
  let at_ (i : Nat) : Nat := 8 * x.dst + (b * x.len + lo + i) * w
  if x.kind = opCSEND then StepOut.blank s
  else if x.kind = opCTOPK then
    let rows := x.rows s
    let n := rows.length * x.count
    let merged := (List.range rows.length).map (fun i => topkMerge x n i l)
    let out := (List.range (hi - lo)).map (fun i =>
      let e := lo + i
      (i, ((merged.getD (e / x.count - rows.headD 0) [])[e % x.count]?)))
    let o := (StepOut.blank s).write gs (collTensor x) (out.map (fun p => (at_ p.1, (p.2.map (·.key)).getD 0)))
    { o with mem := o.mem ++ out.map (fun p => (8 * (x.x2 + 8 * (lo + p.1)), 64, (p.2.map (·.idx)).getD (2 ^ 64 - 1))) }
  else
    let codes := l.map (fun m => unpackCodes w (hi - lo) m.2)
    let (r, f) := foldCodes x codes
    ({ StepOut.blank s with flags := f ||| formed } : StepOut).write gs (collTensor x) ((List.range r.length).map (fun i => (at_ i, r.getD i 0)))

/-! ### Ring attention (12 R318) -/

/-- A shard's entries, and a byte reader of its blocks placed one after another from address 0. -/
def shardEntry (d : List Byte) (k : Nat) : BitVec 128 := BitVec.ofNat 128 (leNat ((d.drop (16 * k)).take 16))

/-- A received shard as entries whose BLOCK points into its block bytes. -/
def shardEntries (a : Attn) (d : List Byte) : List KvEntry :=
  let n := d.length / (16 + 32 * rowLen a.dh a.kt)
  (List.range n).map (fun k => { kvEntry (shardEntry d k) with block := k * (32 * rowLen a.dh a.kt) })

/-- The byte reader of a received shard's blocks. -/
def shardRd (a : Attn) (d : List Byte) (i : Nat) : Byte :=
  d.getD (16 * (d.length / (16 + 32 * rowLen a.dh a.kt)) + i) 0#8

/-- Where the shard of a round enters RBUF: the half of its parity, since RBLEN holds two shards; its layout there is open (12 Table 12.3,
R318; DEDUCED, log 52). -/
def Coll.shardAt (x : Coll) (t : Nat) : Nat := x.x2 + t % 2 * (x.x3 / 2)

/-- A round of CRING (12 R318): `ents` and `rdB` are the held shard and its blocks, `rd` the device's memory for the query
rows and the frequency table. -/
def ringOut (x : Coll) (a : Attn) (e : SeqEnt) (gs : List CapGuard) (rd rdB : Nat → Byte) (ents : List KvEntry)
    (carry : List Triple) (t : Nat) : StepOut :=
  let theta := (List.range a.half).map (fun i => rdBits rd (8 * (a.freq + 4 * i)) 32)
  let rows := (List.range a.qr).map (fun r =>
    let pos := e.qpos + r / a.g
    let q := rotate a.pair a.half theta a.qt pos (readRow rd (a.q + r * rowLen a.dh a.qt) a.dh a.qt)
    let tr := attnRow a rdB theta ents pos q
    if t = 0 then tr else (carry.getD r (Triple.neutral a.dh)).merge tr)
  let last := t + 1 == x.nm
  let o := { StepOut.blank t with live := !last, carry := if last then [] else rows }
  if last then attnFinish a gs o 0 rows else o

/-- LIDX1: the lowest member whose contribution to the chunk has not arrived (12 R314). -/
def Coll.awaited (x : Coll) (got : List Contribution) (s : Nat) : Nat :=
  let l := ((x.needs s).filter (fun m => m != x.me || isPair x.kind)).filter (fun m => !got.any (fun c => c.chunk == s && c.src == m))
  match (if x.kind = opCSEND then [] else l) with
  | [] => 0xFFFFFFFF
  | m :: rest => rest.foldl Nat.min m

/-- The first element of a chunk, or the round (12 R314). -/
def Coll.lidx0 (x : Coll) (s : Nat) : Nat :=
  if x.kind = opCRING then s else (let (b, lo, _) := x.chunk s; b * x.len + lo)

end Sys2Proof.Machine
end

