-- ==== Sys2Proof/Machine/LongRun.lean ====
section
/-!
DEFINITION. How a long instruction issues, runs its steps and stops (09_tensor R240 to R251, R259), for every kind: the
tensor kinds, attention and key-value instructions (10), and collectives (12).
-/

namespace Sys2Proof.Machine

/-! ### Reads of the sequencers (06 R179, 14 R448) -/

/-- The unit that translates for the sequencers of a core. -/
def seqUnit (c : Nat) : XUnit := .engine c .seq

/-- An engine read of a structure at its home. -/
def State.homeRead (s : State) (u : XUnit) (asid va n : Nat) : RecRead :=
  match s.span u asid va n false with
  | .miss => .miss
  | .refused a => .refused a
  | .ok => match s.vreadErr u asid va n with
    | some p => .bad p
    | none => .ok (s.vread u asid va n)

/-- A sequencer's engine: it works for a group on its core (06 R179). -/
def seqFor (c : Nat) (g : Group) : EngFor := ⟨c, g.asid, g.gid.task, seqUnit c⟩

/-- Whether a walk would give a right; a host-backed leaf is left to ATS (14 R375). -/
def State.walkGives (s : State) (u : XUnit) (asid va : Nat) (wr : Bool) : Bool :=
  match s.walk (unitDie u) asid va with
  | .leaf e => !wr || e.w
  | .host _ w => !wr || w
  | .absent _ => true
  | .none => false

/-- A byte range that a step reads, and the unit that translates it. -/
structure ReadAt where
  unit : XUnit
  va   : Nat
  n    : Nat
deriving DecidableEq, Repr

/-- A page that a step needs, by the lowest address it needs there. -/
structure Need where
  unit : XUnit
  va   : Nat
  wr   : Bool
deriving DecidableEq, Repr

/-- One round of a step's pages (09 R247): what it reads itself, what its copies fetched, what it writes. -/
structure Round where
  reads   : List ReadAt
  fetched : List ReadAt
  writes  : List ReadAt
deriving DecidableEq, Repr

/-- The pages of a range in the global space. -/
def ReadAt.needs (wr : Bool) (x : ReadAt) : List Need :=
  if isGlobal x.va then (pagesOf x.va x.n).map (fun a => ⟨x.unit, a, wr⟩) else []

/-- The pages of a round. -/
def Round.needs (x : Round) : List Need :=
  ((x.reads ++ x.fetched).flatMap (ReadAt.needs false) ++ x.writes.flatMap (ReadAt.needs true)).dedup

/-- The pages a step needs (09 R244, R247): all translated; some still to be walked, with the lowest address that faults; or a stop
with its ECODE, address and right. -/
inductive PageRes where
  | ok
  | miss (low : Option (Nat × Bool))
  | fault (ecode va : Nat) (wr : Bool)
deriving DecidableEq, Repr

/-- The lowest of some addresses. -/
def lowest : List (Nat × Bool) → Option (Nat × Bool)
  | [] => none
  | x :: rest => some (rest.foldl (fun m y => if y.1 < m.1 then y else m) x)

/-- Translates the pages of one round of a step (09 R247): with MAN no service is asked; else a refusal stops the step, at the lowest
address that faulted in the round, those of the pages served since (`old`) among them. -/
def State.pageRound (s : State) (asid : Nat) (man : Bool) (old : Option (Nat × Bool)) (needs : List Need) : PageRes :=
  let t := needs.map (fun x => (x, s.translate x.unit asid x.va x.wr))
  let faulting := (t.filter (fun x => decide (x.2 = .refused) ||
    (decide (x.2 = .miss) && !s.walkGives x.1.unit asid x.1.va x.1.wr))).map (fun x => (x.1.va, x.1.wr))
  let low := lowest (old.toList ++ faulting)
  match (if man then lowest faulting else if t.any (fun x => decide (x.2 = .refused)) then low else none) with
  | some (va, wr) => .fault (if man then 1 else 2) va wr
  | none => if t.any (fun x => decide (x.2 = .miss)) then .miss low else .ok

/-! ### Issue (09 R240, 10 R274, 12 R307) -/

/-- What an issue, or a run, reads: a verdict where it cannot go on, or the block, the list and CRING's XATTN block with its
list entry. -/
inductive LongRead where
  | stop (v : Verdict)
  | ok (d list aux : List Byte)
deriving DecidableEq, Repr

/-- Goes on with what a read gave (05 R149). -/
def RecRead.orStop (x : RecRead) (k : List Byte → LongRead) : LongRead :=
  match x with
  | .miss => .stop .wait
  | .refused a => .stop (.trap 7 0 a)
  | .bad p => .stop (poisonTrap p)
  | .ok l => k l

/-- Reads the block at an address with the lists it names; a block that fails its own checks reads no list. -/
def State.longBlocks (s : State) (w : EngFor) (op ea : Nat) : LongRead :=
  let rd (va n : Nat) : RecRead := s.engRead w va n
  let b0 := (s.core w.eng).bnd0
  let b1 := (s.core w.eng).bnd1
  (rd ea 128).orStop (fun d =>
    if op = opXATTN then
      if attnBad d [] b0 b1 then .stop operandTrap
      else (rd (attnOf d).slist (32 * (attnOf d).ns)).orStop (fun l => .ok d l [])
    else if isColl op then
      if collPreBad op d s.plat.rank b0 b1 then .stop operandTrap
      else
        let x := collOf d
        (rd x.mlist x.listLen).orStop (fun l =>
          if op = opCRING then
            (rd x.x1 128).orStop (fun a =>
              if (attnOf a).ns != 1 || attnBad a [] b0 b1 then .stop operandTrap
              else (rd (attnOf a).slist 32).orStop (fun e => .ok d l (a ++ e)))
          else .ok d l [])
    else .ok d [] [])

/-- Whether what was read fails the checks of the kind's entry (09 Table 9.5, 10 R275 to R283, 12 Table 12.3). -/
def State.longBad (s : State) (c : Nat) (g : Group) (op : Nat) (cap : Capt) (d list aux : List Byte) : Bool :=
  let b0 := (s.core c).bnd0
  let b1 := (s.core c).bnd1
  if op = opXATTN then attnBad d (seqEnts list (attnOf d).ns) b0 b1
  else if op = opKVSHOOT ∨ op = opKVPRE then shootBad op d
  else if op = opKVFREQ then kvFreqBad d
  else if op = opKVAPP then kvAppBad d b0 b1
  else if isColl op then collBad op d list aux s.plat.rank b0 b1
  else descBad op (descOf d) cap b0 b1 (s.panesIn c) g.wb g.wc

/-- TOTAL (09 R238). -/
def longTotal (op : Nat) (cap : Capt) (d list : List Byte) : Nat :=
  if op = opXATTN then attnTotal (seqEnts list (attnOf d).ns)
  else if op = opKVSHOOT ∨ op = opKVFREQ then 1
  else if op = opKVPRE then ceilDiv (shootOf d).count 64
  else if op = opKVAPP then (kvAppOf d).total
  else if isColl op then (collOf d).total
  else stepCount (descOf d) cap

/-- The footprint as the descriptor addresses it (09 R241, with the descriptor as 18 has it, 10 R276 to R283, 12 R310). -/
def longSpans (op : Nat) (cap : Capt) (desc : Nat) (d list aux : List Byte) : List Range × List Range :=
  if op = opXATTN then attnFoot desc (attnOf d) (seqEnts list (attnOf d).ns)
  else if op = opKVSHOOT ∨ op = opKVPRE then shootFoot op desc (shootOf d)
  else if op = opKVFREQ then ([], [⟨0, addr56 (quadOf d 1), 4 * (nbits (quadOf d 2) 0 8 + 1)⟩])
  else if op = opKVAPP then kvAppFoot desc (kvAppOf d)
  else if isColl op then collFoot desc d aux
  else
    let f := footprint (descOf d) cap
    (⟨0, desc, 128⟩ :: f.1, f.2)

/-- A range by its space: one in the scratchpad window is a scratchpad range (09 R242). -/
def Range.placed (r : Range) : Range := if r.space = 0 ∧ isPadWin r.lo = true then ⟨1, r.lo % 2 ^ 48, r.len⟩ else r

/-- The footprint. -/
def longFoot (op : Nat) (cap : Capt) (desc : Nat) (d list aux : List Byte) : List Range × List Range :=
  let f := longSpans op cap desc d list aux
  (f.1.map Range.placed, f.2.map Range.placed)

/-- A range of addresses that lies neither in the global space nor in the task's scratchpad (log 86). -/
def Range.astray (b0 b1 : Nat) (r : Range) : Bool :=
  r.space == 0 && r.len != 0 && !(decide (r.lo + r.len ≤ 0xFE * 2 ^ 48)) &&
  !(isPadWin r.lo && decide (b0 * 1024 ≤ r.lo % 2 ^ 48) && decide (r.lo % 2 ^ 48 + r.len ≤ b1 * 1024))

/-- The first address of a footprint's range that no space holds: the access trap at issue (log 86). -/
def State.longAstray (s : State) (c op : Nat) (cap : Capt) (desc : Nat) (d list aux : List Byte) : Option Nat :=
  let f := longSpans op cap desc d list aux
  ((f.1 ++ f.2).find? (Range.astray (s.core c).bnd0 (s.core c).bnd1)).map (·.lo % 2 ^ 56)

/-- The tensors whose GEN bits name guards (03 R87). -/
def longTensors (op : Nat) (d aux : List Byte) : List Tensor :=
  if op = opXATTN then [attnTensor (attnOf d)]
  else if op = opCRING then [attnTensor (attnOf (aux.take 128))]
  else if isColl op then [collTensor (collOf d)]
  else if 0x40 ≤ op ∧ op ≤ 0x45 then [(descOf d).t0, (descOf d).t1, (descOf d).t2]
  else []

/-- MAN (09 R247); the KV forms but XATTN have no such bit. -/
def longMan (op : Nat) (d : List Byte) : Bool := (op ≤ 0x45 || op == opXATTN || isColl op) && (quadOf d 0).testBit 8

/-- What is captured of MCFG: by the tensor kinds alone (09 R239, 10 R274, 12 R307). -/
def longCapt (op : Nat) (w : Word) : Capt := if op ≤ 0x45 then captOf (isArrayKind op) w else ⟨0, 0, 1, 1, 1, 0, false⟩

/-- Whether a wick's instruction is a non-final collective with a match key (12 R311). -/
def Wick.hasKey (w : Wick) (rank : Nat) (key : List Nat) : Bool :=
  w.held && isColl w.kind && (match w.seq with
    | some q => collKey q.desc q.list rank == key
    | none => false)

/-- A collective with the key is in flight on the device, from any group (12 R311). -/
def State.keyInFlight (s : State) (key : List Nat) : Bool :=
  s.cores.any (fun c => c.groups.any (fun g => g.wicks.any (·.hasKey s.plat.rank key)))

/-- The verdict on an issuing S part (09 R240). -/
def ownLong (s : State) (r : GRef) (g : Group) (op wk nd : Nat) : Verdict :=
  let ea := (g.nreg nd).toNat
  (trapIf (g.wick wk).held 2 0 0).then
  ((trapIf (ea % 128 != 0 || !isGlobal ea) 3 0 ea).then
  (match s.longBlocks (seqFor r.core g) op ea with
    | .stop v => v
    | .ok d list aux =>
      let cap := longCapt op g.mcfg
      if s.longBad r.core g op cap d list aux then operandTrap
      else
        match s.longAstray r.core op cap ea d list aux with
        | some a => accessTrap a
        | none =>
          let f := longFoot op cap ea d list aux
          (g.rangeCheck wk f.1 f.2).then (waitIf (isColl op && s.keyInFlight (collKey d list s.plat.rank)))))

/-- The sequencer's record at an issue, the `issue`-th of its group's. -/
def Sequencer.start (d list aux : List Byte) (gs : List CapGuard) (f : List Range × List Range) (issue : Nat) : Sequencer where
  desc := d
  list := list
  aux := aux
  guards := gs
  reads := f.1
  writes := f.2
  issue := issue
  asked := 0
  bufs := []
  tried := false
  faulted := none
  ahead := none
  fresh := false
  service := none
  faultWr := false
  run := none
  stop := .none
  carry := []
  carryTag := none
  topk := []
  copies := []
  nextNum := 0
  got := []
  agreed := []
  acks := []
  acked := 0
  dropped := 0
  readyAt := none

/-- The key of a value that the spec leaves open about a wick's instruction: the same in every run of the program (01 R27). -/
def freeKey (what : Nat) (g : Group) (wk : Nat) (q : Sequencer) (k : Nat) : List Nat := [what, g.gid.leaf, wk, q.issue, k]

/-- The loop indices a wick shows (09 R244, 10 R277, 12 R314): those of step DONE. Of the step past the last the spec states
XCONV's (18 R422), XATTN's (19) and the collectives'; the other kinds' are free values, by their key. -/
def lidxOf (op : Nat) (cap : Capt) (q : Sequencer) (total done : Nat) (key : List Nat) : List Nat :=
  let pad (l : List Nat) : List Nat := (l ++ List.replicate 6 0).take 6
  if op = opXATTN then
    let (s, first, _) := attnAt (seqEnts q.list (attnOf q.desc).ns) 0 done
    [s, first, 0, 0, 0, 0]
  else if isColl op then
    let x := collOf q.desc
    [x.lidx0 done % 2 ^ 32, if done < total then x.awaited q.got done else 0xFFFFFFFF, 0, 0, 0, 0]
  else if op ≤ 0x45 then
    if done < total ∨ op = opXCONV ∨ op = opXGATH then pad ((stepIndices (descOf q.desc) cap done).map (· % 2 ^ 32))
    else (List.range 6).map (fun i => Config.freeOf (key ++ [i]) % 2 ^ 32)
  else [0, 0, 0, 0, 0, 0]

/-- Numbers copies or sends: COUT counts those outstanding, CSEQ is the oldest's number, or the next (09 R243, 12 R314). -/
def Wick.withCopies (w : Wick) (q : Sequencer) : Wick :=
  { w with cout := q.copies.length % 2 ^ 16, cseq := ((q.copies.head?).elim q.nextNum (·.num)) % 2 ^ 32, seq := some q }

/-- Copies of a step's operands, or sends of a chunk to some members, join the outstanding ones. -/
def Sequencer.send (q : Sequencer) (chunk : Nat) (ms : List Nat) : Sequencer :=
  ms.foldl (fun q m => { q with copies := q.copies ++ [⟨q.nextNum, m, chunk, true⟩], nextNum := q.nextNum + 1 }) q

/-- How many copies fetch a step's operands: one for each tensor that it reads (09 R243; log 40). -/
def copyCount (op : Nat) (q : Sequencer) : Nat :=
  if op = opXATTN then 1
  else if op = opKVAPP then 2
  else if 0x45 < op then 0
  else (stepFetch (descOf q.desc) (captOf false 0#64) (fun _ => 0#8) 0).length

/-- Issues the copies of a step's operands, where the instruction has such a step and they are not issued yet (09 R243). -/
def Wick.fetch (w : Wick) (q : Sequencer) (k : Nat) : Wick :=
  if w.total ≤ k ∨ k < q.asked ∨ isColl w.kind then { w with seq := some q }
  else w.withCopies { q.send k (List.range (copyCount w.kind q)) with asked := k + 1 }

/-- The wick and its sequencer after an issue (09 R240), which is counted, with the copies of step 0 issued; a TOTAL of 0 is DONE at once but for a
collective (09 R238). -/
def issueLong (s : State) (r : GRef) (g : Group) (op wk nd : Nat) : State :=
  let ea := (g.nreg nd).toNat
  match s.longBlocks (seqFor r.core g) op ea with
  | .stop _ => s.setGroup r g
  | .ok d list aux =>
    let cap := longCapt op g.mcfg
    let total := longTotal op cap d list
    let q := Sequencer.start d list aux (captureGuards g (longTensors op d aux)) (longFoot op cap ea d list aux) g.longs
    let arr := isArrayKind op
    let f (n : Nat) : Nat := if arr then n - 1 else 0
    let w : Wick := { Wick.idle with
      desc := ea
      kind := op
      total := total
      apane := cap.apane
      arbase := cap.arbase
      arows := if op ≤ 0x45 then cap.rows - 1 else 0
      ncol := f cap.ncol
      kcnt := f cap.kcnt
      psplit := cap.psplit
      fz := cap.fz
      status := if total = 0 ∧ !isColl op then stDONE else stBUSY
      lidx := if total = 0 ∧ !isColl op then [0, 0, 0, 0, 0, 0] else lidxOf op cap q total 0 [] }
    s.setGroup r { g.setWick wk (w.fetch q 0) with longs := g.longs + 1 }

/-! ### A step's operands and its needs -/

/-- A step's place: its group, its wick and the sequencer's record. -/
structure StepAt where
  core : Nat
  g : Group
  wk : Nat
  w : Wick
  q : Sequencer
deriving DecidableEq, Repr

/-- Its step number. -/
def StepAt.k (x : StepAt) : Nat := x.w.done

/-- Its engine. -/
def StepAt.eng (x : StepAt) : EngFor := seqFor x.core x.g

/-- The key of an open value of its step. -/
def StepAt.key (x : StepAt) (what : Nat) : List Nat := freeKey what x.g x.wk x.q x.k

/-- The XATTN block and its list: a wick's own, or CRING's. -/
def StepAt.attn (x : StepAt) : Attn × List SeqEnt :=
  if x.w.kind = opCRING then (attnOf (x.q.aux.take 128), seqEnts (x.q.aux.drop 128) 1)
  else (attnOf x.q.desc, seqEnts x.q.list (attnOf x.q.desc).ns)

/-- The one sequence of CRING. -/
def StepAt.ring (x : StepAt) : SeqEnt := x.attn.2.headD ⟨0, 0, 0, 0, true⟩

/-- The buffers of an instruction: PING and PLEN in bytes, none where it has none. -/
def StepAt.buffers (x : StepAt) : Option (Nat × Nat) :=
  let op := x.w.kind
  if op = opXATTN then some (x.attn.1.ping, x.attn.1.plen)
  else if op = opKVAPP then some ((kvAppOf x.q.desc).ping, (kvAppOf x.q.desc).plen)
  else if isColl op then some ((collOf x.q.desc).ping, (collOf x.q.desc).plen)
  else if op ≤ 0x45 then some ((descOf x.q.desc).ping, (descOf x.q.desc).plen)
  else none

/-- Where the buffer of a step's parity starts, and its end (09 R243). -/
def StepAt.bufferOf (x : StepAt) (k : Nat) : Nat × Nat :=
  match x.buffers with
  | some (ping, plen) => if k % 2 = 0 then (ping, ping + plen) else (ping + plen, ping + 2 * plen)
  | none => (0, 0)

/-- Whether the hamper bytes of a fill are still as the sequencer left them. -/
def Core.intact (c : Core) (fill : Nat) : Bool := c.fills.any (fun f => f.id == fill)

/-- A byte that a completed copy fetched; where a program wrote the bytes that hold it, a free value by what they hold (09 R243). -/
def State.bufByte (s : State) (x : StepAt) (b : FetchBuf) (a : Nat) : Option Byte :=
  (b.data.find? (fun y => y.1 == a)).map (fun y =>
    if (s.core x.core).intact b.fill then y.2
    else BitVec.ofNat 8 (Config.freeOf (x.key 1 ++ [b.copy, a, leNat ((s.core x.core).hamper.readN b.off b.len)])))

/-- An operand byte of step k: as its copies fetched it, or as it stands at its home. -/
def State.stepByte (s : State) (x : StepAt) (k a : Nat) : Byte :=
  ((x.q.bufs.filter (fun b => b.step == k)).findSome? (fun b => s.bufByte x b a)).getD (s.engByte false x.eng a)

/-- The byte ranges that each copy of step k fetches (09 R243). -/
def State.copyReads (s : State) (x : StepAt) (k : Nat) : List (List (Nat × Nat)) :=
  let op := x.w.kind
  if op = opXATTN then [[attnQuery x.attn.1 (attnAt x.attn.2 0 k).1]]
  else if op = opKVAPP then kvAppFetch (kvAppOf x.q.desc) k
  else if 0x45 < op then []
  else stepFetch (descOf x.q.desc) x.w.capt (s.stepByte x k) k

/-- The shard that a round of CRING after the first holds, as it was received in the round before (12 R318). -/
def StepAt.shard (x : StepAt) : List Byte := ((x.q.got.find? (fun y => y.chunk + 1 == x.k)).map (·.data)).getD []

/-- Ranges read by the core's sequencer. -/
def StepAt.at (x : StepAt) (l : List (Nat × Nat)) : List ReadAt := l.map (fun y => ⟨seqUnit x.core, y.1, y.2⟩)

/-- The first round (09 R247): the reads besides the fetched operands, and the writes, whose addresses follow from the block alone. -/
def StepAt.own1 (x : StepAt) : List (Nat × Nat) × List (Nat × Nat) :=
  let op := x.w.kind
  let k := x.k
  if op = opXATTN then attnRound1 x.attn.1 x.attn.2 k
  else if op = opKVSHOOT then ([], [((shootOf x.q.desc).ack, 8)])
  else if op = opKVPRE then
    let t := shootOf x.q.desc
    ((preEntries t k).map (fun b => (t.table + 32 * b, 16)), [])
  else if op = opKVFREQ then ([], [(addr56 (quadOf x.q.desc 1), 4 * (nbits (quadOf x.q.desc 2) 0 8 + 1))])
  else if op = opKVAPP then kvAppRound1 (kvAppOf x.q.desc) k
  else if op = opCRING then
    let a := x.attn.1
    let e := x.ring
    let c := collOf x.q.desc
    ([(a.freq, 4 * a.half), (a.q, a.qr * rowLen a.dh a.qt)] ++
      (if k = 0 then (List.range e.nblk).map (fun b => (e.table + 32 * b, 16)) else [(c.shardAt (k - 1), x.shard.length)]),
     if k + 1 = x.w.total then (a.o, a.qr * rowLen a.dh a.ot) :: (if a.stats then [(a.statsAt, 16 * a.qr)] else [])
     else [(c.shardAt k, c.x3 / 2)])
  else if isColl op then
    let c := collOf x.q.desc
    (if (c.needs k).contains c.me && !isPair op && !c.ownSent k then c.ownReads k c.me else [], c.stepWrites k)
  else
    let d := descOf x.q.desc
    (if isArrayKind op then arrayReadsC d x.w.capt k else [],
      (stepOut d x.w.capt [] (fun _ => 0#8) (fun _ => 0#64) false [] k).mem.map (fun (o : Nat × Nat × Nat) => elemBytes o.1 o.2.1))

/-- The first round of a step; XGATH's table rows are of the second. -/
def State.round1 (s : State) (x : StepAt) : Round :=
  let f := s.copyReads x x.k
  ⟨x.at x.own1.1, x.at (if x.w.kind = opXGATH then f.take 1 else f).flatten, x.at x.own1.2⟩

/-- The table entries a step uses, as (SEQ, entry, address). -/
def StepAt.entries (x : StepAt) : List (Nat × Nat × Nat) :=
  let op := x.w.kind
  if op = opXATTN then
    let (s, _, _) := attnAt x.attn.2 0 x.k
    let e := x.attn.2.getD s ⟨0, 0, 0, 0, true⟩
    (attnEntries x.attn.2 x.k).map (fun b => (e.sq, b, e.table + 32 * b))
  else if op = opCRING ∧ x.k = 0 then (List.range x.ring.nblk).map (fun b => (x.ring.sq, b, x.ring.table + 32 * b))
  else if op = opKVAPP then
    let a := kvAppOf x.q.desc
    [(a.sq, a.e0 + x.k, a.table + 32 * (a.e0 + x.k))]
  else []

/-- The values those entries take (10 R271). -/
def State.stepEntries (s : State) (x : StepAt) : List (BitVec 128) :=
  x.entries.map (fun e => s.pickEntry x.g.asid e.1 e.2.1 (BitVec.ofNat 128 (s.vnat (seqUnit x.core) x.g.asid e.2.2 16)))

/-- The unit that translates a key-value block: the lantern that serves it, or the core's sequencer where its page is not mapped to
device memory (10 R270, R278, 14 R371; log 47). -/
def State.blockUnit (s : State) (c asid va : Nat) : XUnit :=
  match s.walk (dieOf c) asid va with
  | .leaf e => .lantern (s.lanternFor (homeSlice (e.pa + va % 2 ^ e.bits)))
  | _ => seqUnit c

/-- The block bytes that a step's lanterns read. -/
def State.blocksAt (s : State) (x : StepAt) (ents : List KvEntry) : List ReadAt :=
  ents.flatMap (fun e => (blockReads x.attn.1.dh x.attn.1.kt e).map (fun y => ⟨s.blockUnit x.core x.g.asid e.block, y.1, y.2⟩))

/-- The second round, whose addresses depend on data read (09 R247, 10 R278). -/
def State.round2 (s : State) (x : StepAt) (ents : List (BitVec 128)) : Round :=
  let op := x.w.kind
  if op = opXGATH then ⟨[], x.at ((s.copyReads x x.k).drop 1).flatten, []⟩
  else if op = opXATTN ∨ op = opCRING then ⟨s.blocksAt x (ents.map kvEntry), [], []⟩
  else if op = opKVAPP then
    let a := kvAppOf x.q.desc
    let e := kvEntry (ents.headD 0)
    let r := rowLen a.dh a.kt
    ⟨[], [], x.at ((a.toks x.k).flatMap (fun i =>
      let j := (a.t0 + i) % 16
      [(e.block + j * r, r), (e.block + (16 + j) * r, r)]))⟩
  else ⟨[], [], []⟩

/-- The pages that a live copy of a step fetches from. -/
def State.copyNeeds (s : State) (x : StepAt) (y : SeqCopy) : List Need :=
  (x.at ((s.copyReads x y.chunk).getD y.peer [])).flatMap (ReadAt.needs false)

/-- A copy of the second round: that of XGATH's table rows, whose addresses its indices give (09 R247). -/
def StepAt.second (x : StepAt) (y : SeqCopy) : Bool := x.w.kind == opXGATH && y.peer == 1

/-- The needs that are not translated. -/
def State.lacks (s : State) (asid : Nat) (l : List Need) : List Need :=
  l.filter (fun y => decide (s.translate y.unit asid y.va y.wr = .miss))

/-- Every page that the live copies still lack; one of the second round needs none before its indices have come. -/
def State.copyLacks (s : State) (x : StepAt) : List Need :=
  if isColl x.w.kind then []
  else s.lacks x.g.asid ((x.q.copies.filter (fun y => y.live &&
    (!x.second y || x.q.bufs.any (fun b => b.step == y.chunk && b.copy == 0)))).flatMap (s.copyNeeds x))

/-- Every page that a step or a copy still lacks, for the service that it waits for (09 R247, R251): of a step that runs, the copies for
the next one alone. -/
def State.stepLacks (s : State) (x : StepAt) : List Need :=
  s.copyLacks x ++ (if x.q.run.isSome then []
    else match s.lacks x.g.asid (s.round1 x).needs with
      | [] => s.lacks x.g.asid (s.round2 x (s.stepEntries x)).needs
      | l => l)

/-- Whether the copies of step DONE are issued, and none of them is outstanding (09 R243). -/
def StepAt.fetchDone (x : StepAt) : Bool :=
  isColl x.w.kind || (decide (x.k < x.q.asked) && !x.q.copies.any (fun y => y.live && y.chunk == x.k))

/-- Whether a copy of the step ended without its data. -/
def StepAt.unfetched (x : StepAt) : Bool :=
  !isColl x.w.kind && (List.range (copyCount x.w.kind x.q)).any (fun j => !x.q.bufs.any (fun b => b.step == x.k && b.copy == j))

/-! ### What a step commits -/

/-- Whether what a step of a collective needs from other members has arrived. -/
def StepAt.received (x : StepAt) : Bool :=
  let c := collOf x.q.desc
  ((c.needs x.k).filter (fun m => m != c.me || isPair x.w.kind || c.ownSent x.k)).all (fun m =>
    x.q.got.any (fun y => decide (y.chunk = x.k) && decide (y.src = m)))

/-- Whether a step may start for its members: they agree, and every contribution has arrived, which a round of CRING awaits before its
Commit alone (12 R311, R313, R318). -/
def StepAt.contributed (x : StepAt) : Bool :=
  !isColl x.w.kind || ((collOf x.q.desc).others.all (fun m => x.q.agreed.contains m) && (x.w.kind == opCRING || x.received))

/-- The contribution of a member to the step's chunk. -/
def StepAt.contribution (x : StepAt) (m : Nat) : Option Contribution :=
  x.q.got.find? (fun y => decide (y.chunk = x.k) && decide (y.src = m))

/-- What a contribution holds: as it was received, or, where a program wrote the buffer that holds it, free values by what it holds
(09 R243, 12 R315). -/
def State.contribData (s : State) (x : StepAt) (y : Contribution) : List Byte :=
  let c := s.core x.core
  if y.fill = 0 ∨ c.intact y.fill = true then y.data
  else (List.range y.data.length).map (fun i =>
    BitVec.ofNat 8 (Config.freeOf (x.key 2 ++ [y.src, i, leNat (c.hamper.readN y.off y.data.length)])))

/-- The contributions of a step's members in ascending order; this member's own read from SRC where it was not sent. -/
def State.contribs (s : State) (x : StepAt) : List (Nat × List Byte) :=
  let c := collOf x.q.desc
  (c.needs x.k).map (fun m =>
    match x.contribution m with
    | some y => (m, s.contribData x y)
    | none => (m, c.ownData (s.engByte false x.eng) x.k c.me))

/-- The flags of a chunk formed elsewhere (12 R313). -/
def StepAt.formedFlags (x : StepAt) : BitVec 6 :=
  let c := collOf x.q.desc
  if c.taken x.k then ((x.contribution (c.former x.k)).map (·.flags)).getD 0#6 else 0#6

/-- The accumulator entries an array step reads: those of its rows where its chunk is not the tile's first (09 R252). -/
def StepAt.accReads (x : StepAt) : List Nat :=
  if isArrayKind x.w.kind then
    let d := descOf x.q.desc
    let c := x.w.capt
    let (_, mt, nt, kc) := arrayStep d c x.k
    if kc = 0 then [] else (stepCells d c mt nt).map (fun y => accIx ((panesOf c.apane).getD y.rank 0) (c.arbase + y.row) y.col)
  else []

/-- The carry area of the ping buffer, behind the query rows and the outputs of a step: its offset and its size (10 R275, R277). -/
def StepAt.carryArea (x : StepAt) : Nat × Nat :=
  let a := x.attn.1
  (a.ping + a.qr * rowLen a.dh a.qt + a.qr * rowLen a.dh a.ot, a.qr * (a.dh + 2) * 32)

/-- The carry a step goes on from: a program's write to the carry area makes it free values, by what the area holds (10 R277). -/
def State.carryOf (s : State) (x : StepAt) : List Triple :=
  match x.q.carryTag with
  | none => x.q.carry
  | some n =>
    let c := s.core x.core
    if c.intact n then x.q.carry
    else (List.range x.attn.1.qr).map (freeTriple (x.key 3 ++ [leNat (c.hamper.readN x.carryArea.1 x.carryArea.2)]) x.attn.1.dh)

/-- A byte of a key-value block that a step's entries name, as its lantern reads it. -/
def State.blockByte (s : State) (x : StepAt) (ents : List KvEntry) (a : Nat) : Byte :=
  let n := 32 * rowLen x.attn.1.dh x.attn.1.kt
  match ents.find? (fun e => e.v && e.block ≤ a && decide (a < e.block + n)) with
  | some e => s.engByte false { x.eng with unit := s.blockUnit x.core x.g.asid e.block } a
  | none => 0#8

/-- Free bytes, by their key. -/
def freeBytes (key : List Nat) (n : Nat) : List Byte := (List.range n).map (fun i => BitVec.ofNat 8 (Config.freeOf (key ++ [i])))

/-- What RBUF takes of a shard, in a layout that the spec does not give (12 R318): free bytes. -/
def StepAt.shardBytes (x : StepAt) (t n : Nat) : List Byte := freeBytes (freeKey 8 x.g x.wk x.q t) n

/-- The shard that a round holds: as it was received, or, where RBUF's bytes have changed since, free values by what they are (12 R315,
R318). -/
def State.heldShard (s : State) (x : StepAt) : List Byte :=
  let n := x.shard.length
  let now := (List.range n).map (fun i => s.engByte false x.eng ((collOf x.q.desc).shardAt (x.k - 1) + i))
  if now = x.shardBytes (x.k - 1) n then x.shard
  else freeBytes (x.key 9 ++ [leNat now]) n

/-- What a step commits, once everything it needs is at hand (09 R244). -/
def State.stepResult (s : State) (x : StepAt) (ents : List (BitVec 128)) : StepOut :=
  let op := x.w.kind
  let k := x.k
  let rd := s.stepByte x k
  let es := ents.map kvEntry
  let gs := x.q.guards
  if op = opXATTN then attnOut x.attn.1 gs x.attn.2 rd (s.blockByte x es) es (s.carryOf x) k
  else if op = opKVFREQ then kvFreqOut x.q.desc
  else if op = opKVAPP then kvAppOut (kvAppOf x.q.desc) rd (kvEntry (ents.headD 0)) k
  else if op = opKVSHOOT ∨ op = opKVPRE then StepOut.blank k
  else if op = opCRING then
    let c := collOf x.q.desc
    let a := x.attn.1
    if k = 0 then ringOut c a x.ring gs rd (s.blockByte x es) es [] k
    else
      let sh := s.heldShard x
      ringOut c a x.ring gs rd (shardRd a sh) (shardEntries a sh) (s.carryOf x) k
  else if isColl op then collOut (collOf x.q.desc) gs (s.contribs x) x.formedFlags k
  else stepOut (descOf x.q.desc) x.w.capt gs rd (s.core x.core).accGet x.w.oob x.q.topk k

/-! ### Writing a step's outputs (09 R244, R248, 05 R142) -/

/-- The bytes an element's bits lie in. -/
def elemVas (o : Nat × Nat × Nat) : List Nat :=
  let b := elemBytes o.1 o.2.1
  (List.range b.2).map (b.1 + ·)

/-- Puts a byte into a list of writes, over an earlier one at its address. -/
def putByteAt (l : List (Nat × Byte)) (a : Nat) (b : Byte) : List (Nat × Byte) :=
  if l.any (fun x => x.1 == a) then l.map (fun x => if x.1 = a then (a, b) else x) else l ++ [(a, b)]

/-- The bytes that a step's output elements leave, of two at one address the later (09 R244); a narrow element leaves its neighbours'
bits. -/
def State.outBytes (s : State) (w : EngFor) (m : List (Nat × Nat × Nat)) : List (Nat × Byte) :=
  m.foldl (fun l o =>
    let b := elemBytes o.1 o.2.1
    if o.2.1 < 8 then
      let old := (((l.find? (fun x => x.1 == b.1)).map (·.2)).getD (s.engByte false w b.1)).toNat
      let sh := o.1 % 8
      putByteAt l b.1 (BitVec.ofNat 8 (old - nbits old sh o.2.1 * 2 ^ sh + o.2.2 % 2 ^ o.2.1 * 2 ^ sh))
    else (List.range b.2).foldl (fun l i => putByteAt l (b.1 + i) (BitVec.ofNat 8 (o.2.2 / 256 ^ i))) l) []

/-- Whether all 8 bits of a byte are written. -/
def bitsCover (m : List (Nat × Nat × Nat)) (a : Nat) : Bool :=
  (List.range 8).all (fun i => m.any (fun o => decide (o.1 ≤ 8 * a + i ∧ 8 * a + i < o.1 + o.2.1)))

/-- The error of a destination granule that the step would merge into without covering it (09 R248, 14 R382). -/
def State.outMergeErr (s : State) (w : EngFor) (m : List (Nat × Nat × Nat)) : Option Poison :=
  (s.putsOf w (s.outBytes w m)).findSome? (fun p =>
    (s.putErr w { p with bytes := p.bytes.filter (fun x => bitsCover m x.1) }).map (fun u => ⟨u, p.va⟩))

/-- Performs a step's outputs, granule by granule, at their homes. -/
def State.putOuts (s : State) (w : EngFor) (m : List (Nat × Nat × Nat)) : State := s.engWrite w (s.outBytes w m)

/-- The output pages of a step are still translated. -/
def State.outReady (s : State) (x : StepAt) (o : StepOut) : Bool :=
  (((o.mem.flatMap elemVas).filter isGlobal).map (fun a => page a)).dedup.all (fun p =>
    match s.translate (seqUnit x.core) x.g.asid (p * 65536) true with
    | .hit _ _ => true
    | _ => false)

/-! ### Trying a step -/

/-- What came of trying a step: it waits for pages, of which the lowest that faults is kept; its operands are fetched anew; it stops; or
it runs. -/
inductive Attempt where
  | wait (low : Option (Nat × Bool))
  | refetch
  | fault (ecode va : Nat) (wr : Bool)
  | error (ecode : Nat) (at_ : Option Poison)
  | run (o : StepOut)
deriving DecidableEq, Repr

/-- Whether the entries in use are fit: every one with V set is well formed; KVAPP's has V set (10 R263, R278, R281). -/
def entryFault (op : Nat) (ents : List (BitVec 128)) : Option Nat :=
  if op = opKVAPP ∧ (ents.map kvEntry).any (fun e => !e.v) then some 0x0201
  else if (ents.map kvEntry).any (fun e => e.v && e.malformed) then some 0x0200
  else none

/-- A malformed entry in the shard that a round holds (10 R263, 12 R318). -/
def State.shardFault (s : State) (x : StepAt) : Bool :=
  x.w.kind == opCRING && x.k != 0 &&
  (let d := s.heldShard x
   (List.range (d.length / (16 + 32 * rowLen x.attn.1.dh x.attn.1.kt))).any (fun i =>
     let e := kvEntry (shardEntry d i)
     e.v && e.malformed))

/-- The error of what a step reads at its home (09 R248). -/
def State.readsErr (s : State) (x : StepAt) (l : List ReadAt) : Option Poison :=
  l.findSome? (fun y => (List.range y.n).findSome? (fun i => s.engErr false { x.eng with unit := y.unit } (y.va + i)))

/-- The error of hamper bytes that a step uses: its fetches, its carry area, its contributions (09 R248). -/
def State.bufferErr (s : State) (x : StepAt) : Option Poison :=
  let spans := (x.q.bufs.filter (fun b => b.step == x.k)).map (fun b => (b.off, b.len)) ++
    (if x.q.carryTag.isSome then [x.carryArea] else []) ++
    ((x.q.got.filter (fun y => y.chunk == x.k && y.fill != 0)).map (fun y => (y.off, y.data.length)))
  spans.findSome? (fun y => ((s.core x.core).padErr y.1 y.2).map (fun a => ⟨3, 0xFF * 2 ^ 48 + a⟩))

/-- The error of the accumulator rows or of a pane that an array step uses (09 R248, 14 Table 14.8). -/
def State.arrayErr (s : State) (x : StepAt) : Option Poison :=
  let c := s.core x.core
  (x.accReads.find? (fun k => c.accPoison.contains k)).map (fun k => ⟨4, 0xFE * 2 ^ 48 + 8 * k⟩) <|>
  (if isArrayKind x.w.kind then c.paneError x.w.apane else none)

/-- The error of a lantern that serves a block of the step (10 R278). -/
def State.lanternErr (s : State) (l : List ReadAt) : Option Poison :=
  l.findSome? (fun y => match y.unit with
    | .lantern k => if (s.lanterns.getD k Lantern.idle).bad then some ⟨6, y.va⟩ else none
    | _ => none)

/-- Goes on where no error is met (09 R248). -/
def Attempt.unless (p : Option Poison) (k : Attempt) : Attempt :=
  match p with
  | some p => .error p.unit (some p)
  | none => k

/-- Goes on where a round's pages are translated (09 R247). -/
def Attempt.after (r : PageRes) (k : Attempt) : Attempt :=
  match r with
  | .fault e va wr => .fault e va wr
  | .miss low => .wait low
  | .ok => k

/-- Tries a step (09 R244, R247, R248): two rounds of pages, the reads, then what it would commit. -/
def State.attempt (s : State) (x : StepAt) : Attempt :=
  let man := longMan x.w.kind x.q.desc
  let round (r : Round) : PageRes := s.pageRound x.g.asid man x.q.faulted r.needs
  let r1 := s.round1 x
  .after (round r1)
    (if x.unfetched then .refetch
     else
       .unless ((x.q.bufs.filter (fun b => b.step == x.k)).findSome? (·.bad) <|> s.bufferErr x <|> s.readsErr x r1.reads)
         (let ents := s.stepEntries x
          match entryFault x.w.kind ents with
          | some e => .error e none
          | none =>
            if s.shardFault x then .error 0x0200 none
            else
              let r2 := s.round2 x ents
              .after (round r2)
                (.unless (s.readsErr x r2.reads <|> s.lanternErr r2.reads <|> s.arrayErr x) (.run (s.stepResult x ents)))))

/-! ### What a step leaves besides its Commit -/

/-- A sequencer's data enters the hamper in a layout that the spec does not give: free bytes, lit, and a fill that a write ends (05
R142, 09 R243, 10 R277). -/
def Core.fillAt (c : Core) (id off n : Nat) (key : List Nat) : Core :=
  if n = 0 then c
  else
    let d := (c.padWrite off (freeBytes key n)).light off n
    { d with fills := d.fills ++ [⟨id, off, n⟩] }

/-- The bytes of ranges, each address once, in their order. -/
def rangeBytes (l : List (Nat × Nat)) : List Nat := (l.flatMap (fun y => (List.range y.2).map (y.1 + ·))).dedup

/-- A completed copy leaves its data behind that of the copies before it, in the buffer of the step's parity (09 R243; log 40). -/
def State.fillCopy (s : State) (r : GRef) (x : StepAt) (y : SeqCopy) : State :=
  let all := (s.copyReads x y.chunk).map rangeBytes
  let mine := all.getD y.peer []
  let b := x.bufferOf y.chunk
  let off := b.1 + ((all.take y.peer).map (fun l => (l.length + 15) / 16 * 16)).foldl (· + ·) 0
  let n := Nat.min mine.length (b.2 - off)
  let buf : FetchBuf := ⟨y.chunk, y.peer, mine.map (fun a => (a, s.engByte false x.eng a)), mine.findSome? (s.engErr false x.eng), s.ids, off, n⟩
  let q := { x.q with copies := x.q.copies.filter (fun z => decide (z ≠ y)), bufs := x.q.bufs ++ [buf] }
  let s := s.setGroup r (x.g.setWick x.wk (x.w.withCopies q))
  { s.setCore r.core ((s.core r.core).fillAt s.ids off n (freeKey 4 x.g x.wk x.q y.chunk ++ [y.peer])) with ids := s.ids + 1 }

/-- A copy ends without its data: it was discarded, or a page of it is not translated and no service is asked. -/
def State.dropCopy (s : State) (r : GRef) (x : StepAt) (y : SeqCopy) : State :=
  s.setGroup r (x.g.setWick x.wk (x.w.withCopies { x.q with copies := x.q.copies.filter (fun z => decide (z ≠ y)) }))

/-- Whether a prefetched block is skipped: a page of it is untranslated, host-backed or undeclared (10 R282). -/
def State.skipsBlock (s : State) (x : StepAt) (va n : Nat) : Bool :=
  (pagesOf va n).any (fun a => !((s.task x.g.gid.task).any (fun k => k.launch.declared a)) || (s.peekPhysical (seqUnit x.core) x.g.asid a).isNone)

/-- The lines of a block come into the LLC, each by its own page's translation (10 R282). -/
def State.fillBlock (s : State) (x : StepAt) (va n : Nat) : State :=
  (List.range (n / 32)).foldl (fun s i =>
    match s.peekPhysical (seqUnit x.core) x.g.asid (va + 32 * i) with
    | some pa => s.fillRead x.g.gid.task pa (va + 32 * i) false
    | none => s) s

/-- Fills the entry buffers with the entries that a step has read from memory (10 R271, R282): XATTN's used entries; KVPRE's, whose
invalid or malformed ones, and whose blocks that are untranslated, undeclared or host-backed, are skipped, and whose blocks' lines come
into the LLC: the 2 KiB that a block holds at least (log 82). -/
def State.fillEntries (s : State) (x : StepAt) : State :=
  let u := seqUnit x.core
  let asid := x.g.asid
  let val (va : Nat) : BitVec 128 := BitVec.ofNat 128 (s.vnat u asid va 16)
  let sound (va : Nat) : Bool := (s.vreadErr u asid va 16).isNone
  if x.w.kind = opXATTN then
    x.entries.foldl (fun st e =>
      if (st.core x.core).entries.any (·.keyed asid e.1 e.2.1) || !sound e.2.2 then st
      else
        let v := val e.2.2
        st.fillEntry x.core ⟨asid, e.1, e.2.1, v⟩ (if (kvEntry v).v && !(kvEntry v).malformed then st.peekPhysical u asid (kvEntry v).block else none)) s
  else if x.w.kind = opKVPRE then
    let t := shootOf x.q.desc
    (preEntries t x.k).foldl (fun st b =>
      let v := val (t.table + 32 * b)
      let e := kvEntry v
      if !e.v || e.malformed || !sound (t.table + 32 * b) || st.skipsBlock x e.block 2048 then st
      else (st.fillEntry x.core ⟨asid, t.sq, b, v⟩ (st.peekPhysical u asid e.block)).fillBlock x e.block 2048) s
  else s

/-- Whether the entries can be read: the first round's pages are translated. -/
def State.round1Ok (s : State) (x : StepAt) : Bool := decide (s.pageRound x.g.asid false none (s.round1 x).needs = .ok)

/-! ### Panes of the array kinds (08 R222) -/

/-- Whether a tile step of another wick runs on a pane of the core. -/
def Core.tileRunning (c : Core) (slot wk pane : Nat) : Bool :=
  (List.range 8).any (fun k => match c.slots.getD k none with
    | some g => (List.range 4).any (fun j =>
        !(k == slot && j == wk) &&
        (let w := g.wick j
         isArrayKind w.kind && w.apane.testBit pane && (match w.seq with
          | some q => q.run.isSome
          | none => false)))
    | none => false)

/-- The grant a tile-step run holds. -/
def Core.runGrant (c : Core) (slot wk : Nat) : Option PaneReq :=
  c.runPanes.find? (fun q => q.slot == slot && decide (q.wick = some wk))

/-- Releases the panes of a run, and its request. -/
def Core.releaseRun (c : Core) (slot wk : Nat) : Core :=
  let other (q : PaneReq) : Bool := !(q.slot == slot && decide (q.wick = some wk))
  { c with runPanes := c.runPanes.filter other, reqs := c.reqs.filter other }

/-- The panes are the run's: under its group's grant, or its own of at most 16,384 clk. -/
def Core.runHolds (c : Core) (g : Group) (slot wk m now : Nat) : Bool :=
  g.covers m && !leaseExpired now g || (match c.runGrant slot wk with
    | some q => decide (now < q.since + Config.leaseClk)
    | none => false)

/-- The run's request, made where it holds no panes and none is pending. -/
def Core.askRun (c : Core) (slot wk m now : Nat) : Core :=
  let c := { c with runPanes := c.runPanes.filter (fun q => !(q.slot == slot && decide (q.wick = some wk))) }
  if c.reqs.any (fun q => q.slot == slot && decide (q.wick = some wk)) then c
  else { c with reqs := c.reqs ++ [⟨slot, some wk, BitVec.ofNat 4 m, now, false, []⟩] }

/-- No matrix step and no other tile step runs on the panes. -/
def Core.panesIdle (c : Core) (slot wk m : Nat) : Bool :=
  (panesOf m).all (fun p => (c.paneSteps p .running).isEmpty && !c.tileRunning slot wk p)

/-- A step is the oldest that waits on each of its panes (08 R224). -/
def Core.headStep (c : Core) (m : MatStep) : Bool :=
  m.stage == .waiting && (panesOf (cfgPMASK m.cfg)).all (fun p => ((c.paneSteps p .waiting).head?).map (·.id) == some m.id)

/-- A matrix step is ready: it lacks only idle panes (08 R222, R224, R225). -/
def State.stepRipe (s : State) (core : Nat) (m : MatStep) : Bool := (s.core core).headStep m && s.waitsDone (some m.gid) m.waits

/-- A tile step is ready: it is at its boundary with its operands fetched, and lacks only idle panes (08 R222, 09 R243). -/
def StepAt.ripe (s : State) (slot : Nat) (x : StepAt) : Bool :=
  isArrayKind x.w.kind && x.w.status == stBUSY && x.q.run.isNone && decide (x.q.stop = .none) && !x.q.fresh && !x.q.tried &&
  x.q.service.isNone && decide (x.w.done < x.w.total) && x.fetchDone && (s.core x.core).runHolds x.g slot x.wk x.w.apane s.clk

/-- A step's turn on its panes: no other step that is ready there has been so for longer (08 R222). -/
def State.inTurn (s : State) (core m : Nat) (mine : Option Nat) : Bool :=
  let older (t : Option Nat) (panes : Nat) : Bool := t.any (fun t => decide (t < mine.getD s.clk)) && Nat.land panes m != 0
  !(s.core core).steps.any (fun y => older y.readyAt (cfgPMASK y.cfg) && s.stepRipe core y) &&
  !(List.range 8).any (fun k => ((s.core core).slots.getD k none).any (fun g => (List.range 4).any (fun j =>
    (g.wick j).seq.any (fun q => older q.readyAt (g.wick j).apane && StepAt.ripe s k ⟨core, g, j, g.wick j, q⟩))))

/-- Since when something is ready, as clocks pass. -/
def sinceWhen (ready : Bool) (old : Option Nat) (now : Nat) : Option Nat := if ready then some (old.getD now) else none

/-- A group's tile steps as clocks pass: each that is ready now has been so since then at the latest. -/
def Group.ripen (s : State) (core slot : Nat) (g : Group) : Group :=
  { g with wicks := g.wicks.zipIdx.map (fun y => { y.1 with seq := y.1.seq.map (fun q =>
      { q with readyAt := sinceWhen (StepAt.ripe s slot ⟨core, g, y.2, y.1, q⟩) q.readyAt s.clk }) }) }

/-! ### Stops (09 R246 to R249, R259) -/

/-- A sequencer that discards what its current step has done and fetched: it fetches the operands of step DONE anew; a collective's sends
go on (09 R243). -/
def Wick.again (w : Wick) (q : Sequencer) : Sequencer :=
  let q := { q with run := none, tried := false, faulted := none, ahead := none, readyAt := none }
  if isColl w.kind then q
  else { q with asked := w.done, bufs := [], copies := q.copies.map (fun y => { y with live := false }) }

/-- A new run, which reads its block again (09 R251). -/
def Wick.restart (w : Wick) (q : Sequencer) : Sequencer := { w.again q with fresh := true }

/-- A new run that begins with the step after the running one, which commits first: what was fetched for it is discarded (09 R247, R251). -/
def Wick.restartNext (w : Wick) (q : Sequencer) : Sequencer :=
  { q with
    ahead := none
    fresh := true
    asked := w.done + 1
    bufs := q.bufs.filter (fun b => b.step == w.done)
    copies := q.copies.map (fun y => if y.chunk = w.done + 1 then { y with live := false } else y) }

/-- A wick that stops: its running step and what it fetched are discarded, its panes are released. -/
def State.stopWick (s : State) (r : GRef) (g : Group) (wk : Nat) (status ecode : Nat) (fva : Option (Nat × Bool)) : State :=
  let w := g.wick wk
  let w := { w with
    status := status
    ecode := ecode
    fva := (fva.map (fun x => x.1 % 2 ^ 56)).getD w.fva
    seq := w.seq.map (fun q =>
      { w.again q with stop := .none, acks := [], faultWr := (fva.map (·.2)).getD q.faultWr }) }
  (s.setGroup r (g.setWick wk w)).setCore r.core
    (((s.setGroup r (g.setWick wk w)).core r.core).releaseRun r.slot wk)

/-- Logs a step's uncorrectable error and asks for the lamp test (09 R248, 14 R384). -/
def State.logStep (s : State) (x : StepAt) (p : Poison) : State :=
  let c := x.core
  let log (slice core : Nat) (u : LampUnit) (s : State) : State := s.logError x.g.gid.task ⟨p.addr, slice, core, 0, 1, p.unit⟩ u
  if p.unit = 3 ∨ p.unit = 4 ∨ p.unit = 5 then s.logCore x.g.gid.task c p
  else if p.unit = 6 then
    match s.blockUnit c x.g.asid p.addr with
    | .lantern l =>
      let y := s.lanterns.getD l Lantern.idle
      log l 0xFF (.lantern l) { s with lanterns := s.lanterns.set l { y with bad := false } }
    | _ => s
  else
    match s.peekPhysical (seqUnit c) x.g.asid p.addr with
    | some pa => log (homeSlice pa) 0xFF (memUnit pa p.unit) s
    | none => s

/-- The stop that waits at a step boundary takes effect: DROPPED or CANCELLED (09 R259, 13 R345). -/
def State.boundary (s : State) (r : GRef) (g : Group) (wk : Nat) : State :=
  let w := g.wick wk
  match w.seq with
  | none => s.setGroup r g
  | some q =>
    if w.status ≠ stBUSY ∨ q.run.isSome ∨ q.acks ≠ [] then s.setGroup r g
    else
      match q.stop with
      | .drop => s.stopWick r g wk stDROPPED 0 none
      | .cancel => s.stopWick r g wk stCANCELLED 0 none
      | _ => s.setGroup r g

/-- A step has committed: DONE and the LIDX fields advance; the last one makes the wick DONE (09 R244). -/
def State.advance (s : State) (r : GRef) (g : Group) (wk : Nat) : State :=
  let w := g.wick wk
  match w.seq with
  | none => s.setGroup r g
  | some q =>
    let done := w.done + 1
    let q := { q with run := none, tried := q.ahead.isSome, faulted := q.ahead, ahead := none, bufs := q.bufs.filter (fun b => b.step != w.done) }
    let w := { w with done := done, lidx := lidxOf w.kind w.capt q w.total done (freeKey 5 g wk q done), seq := some q }
    let w := if done = w.total ∧ q.stop ≠ .drop ∧ q.stop ≠ .cancel then { w with status := stDONE } else w
    let s := s.setGroup r (g.setWick wk w)
    let c := s.core r.core
    let expired := match c.runGrant r.slot wk with
      | some p => decide (p.since + Config.leaseClk ≤ s.clk)
      | none => false
    let s := if done = w.total ∨ expired = true then s.setCore r.core (c.releaseRun r.slot wk) else s
    s.boundary r (g.setWick wk w) wk

/-- The guards' counts at a Commit (03 R88, R89). -/
def Group.countGuards (g : Group) (l : List (Nat × Nat)) : Group :=
  l.foldl (fun g x => let old := g.guard x.1; g.setGuard x.1 { old with sticky := true, count := Nat.min (old.count + x.2) 0xFFFFFFFF }) g

end Sys2Proof.Machine
end

