-- ==== Sys2Proof/Machine/SysOps.lean ====
section
/-!
DEFINITION. What the S slot's guard, wick and system instructions compute (03 R86 to R91, 09 R245, R259, 14 R369, R389 to
R393): guard words, wick words, system state, XLAT's value, the error log and lamp tests.
-/

namespace Sys2Proof.Machine

/-! ### Guards (03 R86, R91) -/

/-- Bits [63:0] of a guard (03 Table 3.4). -/
def Guard.low (x : Guard) : Word := word (x.mode.toNat * 2 ^ 40 + (if x.sticky then 2 ^ 32 else 0) + x.count % 2 ^ 32)

/-- Bounds that a guard with an action may not take (03 R91, 13 R447). -/
def guardBoundsBad (lo hi : Word) (mode : Nat) : Bool :=
  let a := readF 16 false lo.toNat
  let b := readF 16 false hi.toNat
  mode % 4 != 0 && (a.isNan || b.isNan || decide (0 < a.order b))

/-- GRD's result (03 R91). -/
def Guard.sel (x : Guard) (sel : Nat) : Word :=
  match sel with
  | 0 => x.lower
  | 1 => x.upper
  | _ => x.low

/-- GCLR's result and the guards after it (03 R91). -/
def Group.clearGuards (g : Group) (mask : Word) : Word × Group :=
  (word (((List.range 16).filter (fun i => mask.getLsbD i && (g.guard i).sticky)).map (2 ^ ·)).sum,
    { g with guards := (List.range 16).map (fun i =>
        if mask.getLsbD i then { g.guard i with sticky := false, count := 0 } else g.guard i) })

/-! ### Wick words (09 Table 9.6) -/

/-- The 512 bits of a wick (09 Table 9.6). -/
def Wick.bits (w : Wick) : Nat :=
  let l (i : Nat) : Nat := w.lidx.getD i 0 % 2 ^ 32
  w.desc % 2 ^ 56 * 2 ^ 456 + w.kind % 256 * 2 ^ 448 + w.total % 2 ^ 32 * 2 ^ 416 + w.done % 2 ^ 32 * 2 ^ 384 +
  w.cseq % 2 ^ 32 * 2 ^ 352 + w.cout % 2 ^ 16 * 2 ^ 336 + w.ncol % 256 * 2 ^ 328 + w.arows % 256 * 2 ^ 320 +
  w.arbase % 256 * 2 ^ 312 + w.apane % 16 * 2 ^ 308 + w.kcnt % 64 * 2 ^ 302 + w.psplit % 4 * 2 ^ 300 +
  (if w.fz then 2 ^ 299 else 0) + (if w.live then 2 ^ 298 else 0) + (if w.oob then 2 ^ 297 else 0) +
  w.status % 16 * 2 ^ 292 + w.ecode % 2 ^ 16 * 2 ^ 276 + w.fva % 2 ^ 56 * 2 ^ 192 +
  l 5 * 2 ^ 160 + l 4 * 2 ^ 128 + l 3 * 2 ^ 96 + l 2 * 2 ^ 64 + l 1 * 2 ^ 32 + l 0

/-- Word i of a wick (09 R245). -/
def Wick.word (w : Wick) (i : Nat) : Word := Sys2Proof.word (w.bits >>> (64 * i))

/-- Whether a wick's instruction is stopped: FAULT, ERROR or GUARD (09 R246). -/
def Wick.stopped (w : Wick) : Bool := w.status == stFAULT || w.status == stERROR || w.status == stGUARD

/-- XRES (09 R251, R259): the guards are captured anew and the run starts again from step DONE; a wick in FAULT asks
service of its FVA first. -/
def Group.resumeWick (g : Group) (wk : Nat) : Group :=
  let w := g.wick wk
  if w.stopped then
    g.setWick wk { w with
      status := stBUSY
      ecode := 0
      seq := w.seq.map (fun q =>
        { w.restart q with
          guards := captureGuards g (longTensors w.kind q.desc q.aux)
          stop := .none
          service := if w.status = stFAULT then some (w.fva, q.faultWr) else none }) }
  else g

/-- XDROP (09 R259): a BUSY instruction stops at its next step boundary, a stopped one at once. -/
def State.dropWick (s : State) (r : GRef) (g : Group) (wk : Nat) : State :=
  let w := g.wick wk
  if w.status = stBUSY then
    s.boundary r (g.setWick wk { w with seq := w.seq.map (fun q => { q with stop := .drop }) }) wk
  else if w.stopped then s.stopWick r g wk stDROPPED 0 none
  else s.setGroup r g

/-! ### System state (14 R369, Table 14.4; 02 Table 2.4; 04 R114; 12 R304; 13 Table 13.5) -/

/-- The dies of a die's partition as a mask (15 R395, 22 Table 22.3). -/
def State.partition (s : State) (d : Nat) : Nat := bits s.plat.part (4 * d) 4

/-- The dies of a mask. -/
def diesOf (m : Nat) : List Nat := (List.range 4).filter (fun d => m.testBit d)

/-- PART.TH of a die's partition: the PTH register of its lowest die (13 Table 13.5, 22 Table 22.3). -/
def State.partTh (s : State) (d : Nat) : Nat := s.plat.pth.getD ((diesOf (s.partition d)).headD d) 0xFFFFFFFF

/-- TRAP.STATE (14 Table 14.4). -/
def TrapRegs.stateWord (t : TrapRegs) : Word :=
  word ((if t.inh then 1 else 0) + (if t.dataErr.isSome then 2 else 0) + (if t.rangeErr.isSome then 4 else 0))

/-- The value of a system-state number; a STRM.POP reads bytes [7:0] of the oldest entry of its stream (05 R137). -/
def State.csr (s : State) (r : GRef) (g : Group) (n : Nat) : Word :=
  let t := s.task g.gid.task
  if 0x048 ≤ n ∧ n ≤ 0x04F then g.trap.save.getD (n - 0x048) 0#64
  else if 0x060 ≤ n ∧ n ≤ 0x06F then
    match g.ldataOf (n - 0x060) with
    | d :: _ => word d.row.toNat
    | [] => 0#64
  else
    match n with
    | 0x010 => word g.gid.leaf
    | 0x011 => word g.gid.task
    | 0x012 => word ((t.map (·.scope)).getD 0)
    | 0x013 => word ((t.map (·.launch.cls)).getD 0)
    | 0x014 => (t.bind (·.deadline)).elim 0xFFFFFFFFFFFFFFFF#64 word
    | 0x015 => word g.cls
    | 0x016 => word (s.partTh ((t.map (·.home)).getD (dieOf r.core)))
    | 0x020 => word s.clk
    | 0x030 => word g.fpflags.toNat
    | 0x040 => g.trap.cause
    | 0x041 => g.trap.skew
    | 0x042 => word g.trap.pc
    | 0x043 => g.trap.addr
    | 0x044 => g.trap.vec
    | 0x045 => g.trap.stateWord
    | 0x050 => word g.spill.length
    | 0x051 => word g.spillLim
    | 0x070 => word s.plat.rank
    | 0x080 => word ((t.map (·.errCnt)).getD 0)
    | _ => 0#64

/-- The group with the flags that a part of the bundle at `seq` reads: those from before its bundle (02 R34). -/
def Group.flagsAt (g : Group) (seq : Nat) : Group :=
  match g.pOld with
  | some x => if x.seq = seq then { g with fpflags := x.flags } else g
  | none => g

/-- A value that TRAP.PC and TRAP.VEC do not take (14 Table 14.4). -/
def csrBad (n : Nat) (v : Word) : Bool := (n == 0x042 || n == 0x044) && (bits v 0 5 != 0 || bits v 56 8 != 0)

/-- An access of a handler's interrupted code comes before all that a written TRAP.PC leads to (14 Table 14.4). -/
def Access.forget (nested : Bool) (a : Access) : Access := if a.rel.any (fun x => x.1 == nested) then { a with rel := none } else a

/-- Writes a system-state number (14 R389); TRAP.PC's write clears the offsets of the stored skew. -/
def Group.setCsr (g : Group) (n : Nat) (v : Word) : Group :=
  if 0x048 ≤ n ∧ n ≤ 0x04F then { g with trap := { g.trap with save := g.trap.save.set (n - 0x048) v } }
  else
    match n with
    | 0x030 => { g with fpflags := v.extractLsb' 0 6 }
    | 0x042 =>
      { g with
        trap := { g.trap with pc := v.toNat, skew := word (skewSlot g.trap.skew * 2 ^ 24), hskip := 0, pOld := none }
        toks := g.toks.map (fun t => match t.rel with
          | some (false, _) => { t with rel := some (false, 0) }
          | _ => t)
        loads := g.loads.map (Access.forget false)
        stores := g.stores.map (Access.forget false) }
    | 0x044 => { g with trap := { g.trap with vec := v } }
    | _ => g

/-! ### XLAT and TCINV (14 R390, R391) -/

/-- The SIZE code of a page. -/
def sizeCode (bits : Nat) : Nat := if bits = 16 then 0 else if bits = 21 then 1 else 2

/-- XLAT's value of a translation (14 Table 14.11). -/
def xlatWord (decl : Bool) (bits va pa : Nat) (w rdup host : Bool) : Word :=
  word ((if decl then 2 ^ 12 else 0) + sizeCode bits * 2 ^ 10 + (if rdup then 2 ^ 9 else 0) + (if host then 2 ^ 8 else 0) +
    (if w then 2 ^ 7 else 0) + 2 ^ 6 + (if host then 0 else homeSlice (pa + va % 2 ^ bits)))

/-- XLAT (14 R390): the S slot's engine cache is the sequencers' (log 21); a walk into a table at an address that does not
exist ends without a translation (log 12). -/
def State.xlat (s : State) (r : GRef) (g : Group) (a : Word) : Word :=
  let va := a.toNat
  let decl := match s.task g.gid.task with
    | some t => t.launch.declared va
    | none => false
  if !isGlobal va then 0#64
  else
    match s.cached (seqUnit r.core) g.asid va with
    | some e => xlatWord decl e.bits va e.pa e.w e.rdup e.host
    | none =>
      match s.walk (dieOf r.core) g.asid va with
      | .leaf e => xlatWord decl e.bits va e.pa e.w e.rdup false
      | .host b w => xlatWord decl b va 0 w false true
      | .none => 0#64
      | .absent (some e) => xlatWord decl e.bits va e.pa e.w e.rdup false
      | .absent none => 0#64

/-- Drops the translations that a test selects from a core's caches and its engines' (14 R391). -/
def Core.dropTrans (c : Core) (f : TransEnt → Bool) : Core :=
  let k (l : List TransEnt) : List TransEnt := l.filter (fun e => !f e)
  { c with tcAccess := k c.tcAccess, tcCopy := k c.tcCopy, tcSeq := k c.tcSeq, tc := k c.tc }

/-! ### The error log and lamp tests (14 R384, R392, R393) -/

/-- A quad of an error-log entry (14 Table 14.9). -/
def ErrEntry.quad (e : ErrEntry) (sel : Nat) : Word :=
  if sel = 0 then word (e.addr % 2 ^ 56)
  else word (e.slice % 256 * 2 ^ 40 + e.core % 256 * 2 ^ 32 + e.cls % 256 * 2 ^ 24 + e.kind % 256 * 2 ^ 16 + e.unit % 2 ^ 16)

/-- The unit that LAMP names (14 R393). -/
def lampUnit (core : Nat) (sa sb : Word) : Option LampUnit :=
  match sa.toNat with
  | 0 => some (.pane core 0)
  | 1 => some (.pane core 1)
  | 2 => some (.pane core 2)
  | 3 => some (.pane core 3)
  | 4 => some (.vector core)
  | 5 => some (.copyEngine core)
  | 0x10 => some (bankAt core sb.toNat)
  | _ => none

/-- Whether LAMP's unit may be tested: a pane that the group's grant covers, a unit in service (14 R393). -/
def State.lampAllowed (s : State) (g : Group) (u : LampUnit) : Bool :=
  !s.withdrawn.contains u && (match u with
    | .pane _ p => g.gm.getLsbD p
    | _ => true)

/-- The verdict on LAMP: a pane's test waits for the group's steps (14 R393). -/
def State.ownLamp (s : State) (r : GRef) (g : Group) (sa sb : Word) : Verdict :=
  match lampUnit r.core sa sb with
  | none => operandTrap
  | some u => waitIf (s.lampAllowed g u && decide (sa.toNat < 4) && !((s.core r.core).stepsOf g.gid).isEmpty)

/-- A lamp test that failed withdraws its unit (14 R385): a lantern that serves no block holds nothing (10 R270 to R273), and every later
read of a channel's parts is rebuilt (14 R380). -/
def State.withdraw (s : State) (u : LampUnit) : State :=
  let s := if s.withdrawn.contains u then s else { s with withdrawn := s.withdrawn ++ [u] }
  match u with
  | .lantern k => { s with lanterns := s.lanterns.set k Lantern.idle }
  | .channel _ _ => { s with healed := s.healed.filter (fun k => decide (partUnit (16 * k) ≠ u)) }
  | _ => s

/-- LAMP's result and the state after the test; the outcome is the unit's (log 16). -/
def State.lampTest (s : State) (r : GRef) (g : Group) (sa sb : Word) : Word × State :=
  match lampUnit r.core sa sb with
  | none => (2#64, s)
  | some u =>
    if s.lampAllowed g u then
      let s' := { s with free := s.free + 1 }
      if Config.freeLamp s.free then (0#64, s') else (1#64, s'.withdraw u)
    else (2#64, s)

/-! ### Calls (04 R114 to R117) -/

/-- The hamper offset of a group's spill area (04 R114). -/
def spillBase (c : Core) (slot : Nat) : Nat := c.bnd2 * 1024 + 8192 * slot

/-- The frame that CALL writes (04 Table 4.5). -/
def Group.frame (g : Group) (ret : Nat) : List Byte :=
  natLE 8 ret ++ natLE 8 g.loops.length ++ (List.range 8).flatMap (fun i => natLE 8 (g.nreg (8 + i)).toNat) ++
  (List.range 16).flatMap (fun i => natLE 8 ((g.e.getD i (.filled 0#64)).val).toNat) ++ List.replicate 48 0#8

/-- The newest frame of the spill area. -/
def Group.topFrame (g : Group) : List Byte := g.spill.drop (g.spill.length - 256)

/-- Eight bytes of a frame as a word. -/
def frameWord (f : List Byte) (o : Nat) : Word := word (leNat ((f.drop o).take 8))

/-- RET's registers (04 R117). -/
def Group.unframe (g : Group) : Group :=
  let f := g.topFrame
  { g with
    n := (g.n.take 8) ++ (List.range 8).map (fun i => frameWord f (16 + 8 * i))
    e := (List.range 16).map (fun i => .filled (frameWord f (80 + 8 * i)))
    spill := g.spill.take (g.spill.length - 256)
    pc := (frameWord f 0).toNat % 2 ^ 56 }

/-! ### Verdicts of the control and system parts -/

/-- The verdict on LOOP and LOOPI (04 R104). -/
def ownLoop (g : Group) (n d : Nat) : Verdict :=
  (trapIf (0xFFFFFFFF < n + d) 2 0 0).then (trapIf (n != 0 && g.loops.length == 6) 4 0 0)

/-- A spill burst writes whole granules of the spill area, so the errors that those held end with their contents (04 R116, 14 R382, R383:
an SRAM write detects none; that it clears the error of what it replaces is DEDUCED, log 89). -/
def State.spillBurst (s : State) (r : GRef) (g : Group) : State :=
  let c := s.core r.core
  let gs := (granules (spillBase c r.slot + g.spill.length) 256).map (fun x => x.1 / 16)
  s.setCore r.core { c with padPoison := c.padPoison.filter (fun k => !gs.contains k) }

/-- The verdict on RET (04 R117, 14 R383): the address of the data error is the frame's in the form of the scratchpad
window (DEDUCED, log 73). -/
def ownRet (s : State) (r : GRef) (g : Group) : Verdict :=
  if g.spill.isEmpty then .trap 6 0 0
  else
    let o := spillBase (s.core r.core) r.slot + g.spill.length - 256
    match (s.core r.core).padErr o 256 with
    | some a => .trap 8 3 (0xFF * 2 ^ 48 + a)
    | none => trapIf ((frameWord g.topFrame 8).toNat != g.loops.length) 4 0 0

/-- The verdict on RTT (14 R388). -/
def ownRtt (g : Group) (skip : Bool) : Verdict :=
  trapIf (!g.trap.inh || (returnOffs g.trap.skew skip (bits g.trap.cause 0 8 == 13)).isNone) 4 0 0

/-- The verdict on CSRR: a pop waits for its entry and traps on a poisoned one (05 R137, R150). -/
def ownCsrr (g : Group) (n : Nat) : Verdict :=
  if 0x060 ≤ n ∧ n ≤ 0x06F then
    match g.ldataOf (n - 0x060) with
    | [] => .wait
    | d :: _ => (d.poison).elim .go poisonTrap
  else .go

/-- The verdict on XWAIT (09 R259). -/
def ownXwait (g : Group) (wk : Nat) : Verdict := waitIf ((g.wick wk).status == stBUSY || (g.wick wk).cout != 0)

end Sys2Proof.Machine
end

