-- ==== Sys2Proof/Machine/TaskOps.lean ====
section
/-!
DEFINITION. Launch records, the enqueueing of tasks, cancel scopes, SNUFF and barriers (13_tasks R321 to R328, R343 to R351,
R354 to R358).
-/

namespace Sys2Proof.Machine

/-! ### Launch records (13 Table 13.1, R321, R322, R447) -/

/-- Quad i of a record. -/
def recQuad (b : List Byte) (i : Nat) : Nat := leNat ((b.drop (8 * i)).take 8)

/-- NLEV + 1. -/
def recLevels (b : List Byte) : Nat := nbits (recQuad b 1) 36 3 + 1

/-- An entry of the guard block (13 R447). -/
def guardInit (b : List Byte) (i : Nat) : GuardInit :=
  let q (k : Nat) : Nat := recQuad b (4 * i + k)
  ⟨word (q 0), word (q 1), BitVec.ofNat 8 (q 2), (q 2).testBit 8⟩

/-- The guards of a captured block; none where the record names no block. -/
def guardInits (b : List Byte) : List GuardInit := if b.isEmpty then [] else (List.range 16).map (guardInit b)

/-- A guard block that fails its checks (13 R447). -/
def guardBlockBad (b : List Byte) : Bool :=
  !b.isEmpty && (List.range 16).any (fun i =>
    let q (k : Nat) : Nat := recQuad b (4 * i + k)
    let x := guardInit b i
    q 3 != 0 || nbits (q 2) 9 55 != 0 || nbits (q 2) 3 5 != 0 ||
    (x.set && guardBoundsBad x.lower x.upper x.mode.toNat))

/-- A launch record as its fields say (13 Table 13.1); `counts` replaces the counts of its levels. -/
def launchOf (b : List Byte) (counts : List Nat) (guards : List Byte) : Launch where
  image := nbits (recQuad b 0) 0 56
  arows := nbits (recQuad b 1) 42 9
  win := 32 * (nbits (recQuad b 1) 39 3 + 1)
  cls := nbits (recQuad b 1) 34 2
  ser := (recQuad b 1).testBit 33
  reload := (recQuad b 1).testBit 32
  entry := nbits (recQuad b 1) 0 32
  bnd0 := nbits (recQuad b 2) 0 16
  bnd1 := nbits (recQuad b 2) 16 16
  bnd2 := nbits (recQuad b 2) 32 16
  scope := nbits (recQuad b 3) 32 32
  deadline := nbits (recQuad b 3) 0 32
  donea := nbits (recQuad b 4) 0 56
  levels := (List.range (recLevels b)).map (fun i =>
    ⟨counts.getD i 0, nbits (recQuad b (6 + i)) 32 3, nbits (recQuad b (6 + i)) 36 3⟩)
  ranges := (List.range (nbits (recQuad b 2) 48 3)).map (fun j =>
    ⟨nbits (recQuad b (14 + 2 * j)) 0 56, nbits (recQuad b (15 + 2 * j)) 0 40, nbits (recQuad b (15 + 2 * j)) 40 2⟩)
  args := (List.range 6).map (fun a => word (recQuad b (26 + a)))
  guards := guardInits guards

/-- The counts a record itself gives. -/
def recCounts (b : List Byte) : List Nat := (List.range (recLevels b)).map (fun i => nbits (recQuad b (6 + i)) 0 32)

/-- GBLK. -/
def recGuardBlock (b : List Byte) : Nat := nbits (recQuad b 5) 0 56

/-- Bits of a record that its table does not name, and fields of unused levels and ranges (13 R321). -/
def recReserved (b : List Byte) : Bool :=
  let q := recQuad b
  let nr := nbits (q 2) 48 3
  nbits (q 0) 56 8 != 0 || nbits (q 1) 51 13 != 0 || nbits (q 2) 51 13 != 0 || nbits (q 4) 56 8 != 0 || nbits (q 5) 56 8 != 0 ||
  (List.range 8).any (fun i => if i < recLevels b then nbits (q (6 + i)) 35 1 != 0 || nbits (q (6 + i)) 39 25 != 0 else q (6 + i) != 0) ||
  (List.range 6).any (fun j =>
    if j < nr then nbits (q (14 + 2 * j)) 56 8 != 0 || nbits (q (15 + 2 * j)) 42 22 != 0
    else q (14 + 2 * j) != 0 || q (15 + 2 * j) != 0)

/-- The most instances a level may count inside one unit of the nearest enclosing hardware level (13 R322); `outing` is the
number of partitions of an outing. -/
def levelMax (outing : Option Nat) (above : List Level) (d : Nat) : Option Nat :=
  let has (k : Nat) : Bool := above.any (fun x => x.domain == k)
  match d with
  | 0 => some 1
  | 1 => some (outing.getD 1)
  | 2 => some 4
  | 3 => some (if has 2 then 5 else 20)
  | 4 => some (if has 3 then 8 else if has 2 then 40 else 160)
  | _ => none

/-- Levels that break a rule of 13 R322; `exempt` lists the levels whose counts SPAWNI replaced. -/
def levelsBad (outing : Option Nat) (exempt : List Nat) (l : List Level) : Bool :=
  (List.range l.length).any (fun i =>
    let x := l.getD i ⟨0, 0, 0⟩
    let above := l.take i
    decide (5 < x.domain) || decide (5 < x.mscope) || decide (x.mscope + x.domain < 5) ||
    (match above.getLast? with
      | some y => decide (x.domain ≤ y.domain)
      | none => false) ||
    (x.count == 0 && !exempt.contains i) ||
    (match levelMax outing above x.domain with
      | some m => decide (m < x.count)
      | none => false)) ||
  (match l.getLast? with
    | some x => x.domain != 5
    | none => true)

/-- The hamper limits of 01 R15 broken. -/
def bndBad (l : Launch) : Bool :=
  l.bnd0 % 256 != 0 || decide (2048 < l.bnd0) || l.bnd1 % 64 != 0 || l.bnd2 % 64 != 0 || decide (l.bnd1 < l.bnd0) ||
  decide (12288 < l.bnd2) || decide (l.bnd2 < l.bnd1 + 256)

/-- MALFORMED: a rule of R321, R322 or R15 is broken, or the guard block fails its checks (13 R328, R447). -/
def recMalformed (outing : Option Nat) (exempt : List Nat) (b : List Byte) (l : Launch) (guards : List Byte) : Bool :=
  recReserved b || decide (6 < nbits (recQuad b 2) 48 3) || l.image % 256 != 0 || l.entry % 32 != 0 || decide (256 < l.arows) ||
  l.donea % 8 != 0 || !isGlobal l.donea || recGuardBlock b % 64 != 0 || !isGlobal (recGuardBlock b) || guardBlockBad guards ||
  l.ranges.any (fun x => x.mode == 0) || bndBad l || levelsBad outing exempt l.levels

/-- The groups of each core instance: the last level's count (13 R322). -/
def Launch.perCore (l : Launch) : Nat := (l.levels.getLast?.map (·.count)).getD 0
/-- The core instances: the product of the other counts; a record with no core level takes one core for each instance of its
innermost hardware level (DESIGN CHOICE, log 25). -/
def Launch.instances (l : Launch) : Nat := (l.levels.dropLast.map (·.count)).prod
/-- The groups of a task. -/
def Launch.groups (l : Launch) : Nat := l.instances * l.perCore

/-- What the windows and rows of a task's groups need of a core (13 R327). -/
def Launch.seats (l : Launch) : Nat := Nat.min l.perCore 8

/-- A core is in service: neither its vector unit, its copy engine nor a hamper bank is withdrawn (01 R25, 14 R385; DEDUCED, log 61). -/
def State.coreIn (s : State) (c : Nat) : Bool :=
  !s.withdrawn.any (fun u => match u with
    | .vector d => d == c
    | .copyEngine d => d == c
    | .hamperBank d _ => d == c
    | _ => false)

/-- The hardware unit of a level's domain that a core lies in (13 R322). -/
def unitNo (domain c : Nat) : Nat := if domain = 2 then c / 40 else if domain = 3 then c / 8 else c

/-- Whether levels can be placed on a pool of cores: as many distinct units as a level counts, each holding the levels below it
(13 R322). -/
def fits : List Level → List Nat → Bool
  | [], pool => !pool.isEmpty
  | l :: rest, pool =>
    if l.domain ≤ 1 then l.count == 0 || fits rest pool
    else if l.domain = 5 then !pool.isEmpty
    else
      let us := ((pool.map (unitNo l.domain)).dedup).filter (fun u => fits rest (pool.filter (fun c => unitNo l.domain c == u)))
      decide (l.count ≤ us.length)

/-- The partitions that a mask of dies names, in ascending die order (15 R402). -/
def State.partsOf (s : State) (mask : Nat) : List Nat := ((diesOf mask).map s.partition).dedup

/-- The cores of a mask of dies. -/
def coresOf (mask : Nat) : List Nat := (List.range 160).filter (fun c => mask.testBit (c / 40))

/-- Whether a task's groups can be placed on the cores that a test admits: an outing's instances one on each named partition (15
R402). -/
def State.placeable (s : State) (outing : Bool) (mask : Nat) (l : Launch) (ok : Nat → Bool) : Bool :=
  l.groups == 0 ||
  (if outing then (s.partsOf mask).all (fun m => fits l.levels.tail ((coresOf m).filter ok))
   else fits l.levels ((coresOf mask).filter ok))

/-- UNPLACEABLE: no choice of cores in service can ever satisfy 13 R322 and R327; a task without groups needs none (13 R328). -/
def State.unplaceable (s : State) (outing : Bool) (mask : Nat) (l : Launch) : Bool :=
  l.groups != 0 &&
  (decide (l.bnd0 < l.seats * l.win) || decide (256 < l.seats * l.arows) || !s.placeable outing mask l s.coreIn)

/-! ### Scopes (13 R343, R344) -/

/-- A live scope. -/
def State.scope (s : State) (id : Nat) : Option Scope := s.scopes.find? (fun x => x.id == id)
/-- Replaces a scope. -/
def State.setScope (s : State) (x : Scope) : State := { s with scopes := s.scopes.map (fun y => if y.id = x.id then x else y) }

/-- A scope and those above it, nearest first; a tree of depth 32 at most (13 R343). -/
def State.scopeChain (s : State) : Nat → Nat → List Nat
  | 0, _ => []
  | n + 1, id => match s.scope id with
    | some x => id :: s.scopeChain n x.parent
    | none => []

/-- Whether a live scope is another or its descendant (13 R343). -/
def State.under (s : State) (top id : Nat) : Bool := (s.scopeChain 33 id).contains top

/-- The subtree of a scope. -/
def State.subtree (s : State) (top : Nat) : List Nat := (s.scopes.map (·.id)).filter (fun x => s.under top x)

/-- The tasks that belong to a scope and have not ended. -/
def State.scopeTasks (s : State) (id : Nat) : List Task := s.tasks.filter (fun t => t.scope == id && t.state != .ended)

/-- A scope that is no longer live (13 R343): not open, no task in its subtree, no live child. -/
def State.deadScope (s : State) (x : Scope) : Bool :=
  x.state != .opened && (s.scopeTasks x.id).isEmpty && !(s.scopes.any (fun y => y.parent == x.id))

/-- Frees the scopes that are no longer live, children before their parents; a SNUFF in progress keeps the barriers it has
still to release (13 R343, R349), and the table keeps that a scope was snuffed (21 R435; log 10). -/
def State.sweepN : Nat → State → State
  | 0, s => s
  | n + 1, s =>
    let dead := s.scopes.filter s.deadScope
    if dead.isEmpty then s
    else
      State.sweepN n { s with
        scopes := s.scopes.filter (fun x => !dead.contains x)
        gone := s.gone ++ (dead.filter (fun x => x.state == .snuffed)).map (·.id)
        snuffs := s.snuffs.map (fun u =>
          { u with barriers := u.barriers ++ (dead.filter (fun x => u.scopes.contains x.id)).flatMap (·.barriers) }) }

/-- Frees every scope that is no longer live. -/
def State.sweep (s : State) : State := s.sweepN 33

/-- The lowest index of no live scope (13 R343, log 10). -/
def State.freeIndex (s : State) : Option Nat :=
  let used := s.scopes.map (fun x => x.id % 65536)
  ((List.range (used.length + 1)).map (· + 1)).find? (fun i => !used.contains i && decide (i ≤ 65535))

/-- Creates a scope under a parent (0 for a root): its identifier, its index under a new generation (13 R343). -/
def State.newScope (s : State) (parent maker : Nat) : Option (Nat × State) :=
  if 65535 ≤ s.scopes.length ∨ 32 < (s.scopeChain 33 parent).length then none
  else
    match s.freeIndex with
    | none => none
    | some i =>
      let gen := ((s.scopeGen.find? (fun x => x.1 == i)).map (·.2 + 1)).getD 0
      let id := i + 65536 * (gen % 65536)
      some (id, { s with
        scopes := s.scopes ++ [⟨id, parent, maker, .opened, []⟩]
        gone := s.gone.filter (· != id)
        scopeGen := (i, gen) :: s.scopeGen.filter (fun x => x.1 != i) })

/-- A scope is snuffed: it, or one above it, stands so, or it was freed so (13 R345, 21 R435; DEDUCED, log 10). -/
def State.inSnuffed (s : State) (id : Nat) : Bool :=
  s.gone.contains id || (s.scopeChain 33 id).any (fun x => (s.scope x).any (fun y => y.state == .snuffed))

/-- SCLOSE (13 R355): the status and the state after. -/
def State.closeScope (s : State) (own id : Nat) : Nat × State :=
  match s.scope id with
  | none => (3, s)
  | some x =>
    if !s.under own id then (3, s)
    else match x.state with
      | .opened => (0, (s.setScope { x with state := .closed }).sweep)
      | .closed => (1, s)
      | .snuffed => (2, s)

/-! ### Enqueueing (13 R324, R328, R354) -/

/-- The tasks in a die's class queue (13 R324). -/
def State.classQueue (s : State) (home cls : Nat) : List Task :=
  s.tasks.filter (fun t => t.home == home && t.launch.cls == cls && (t.state == .queued || t.state == .preempted))

/-- The status of 13 Table 13.2; `own` is the spawner's scope, or a queue's root. -/
def State.spawnStatus (s : State) (own home : Nat) (bad unpl : Bool) (l : Launch) : Nat :=
  let sc := if l.scope = 0 then own else l.scope
  if s.inSnuffed sc then 1
  else if (s.scope sc).map (·.state) = some .closed then 2
  else if !s.under own sc then 3
  else if bad then 4
  else if unpl then 5
  else if 1024 ≤ (s.classQueue home l.cls).length then 6
  else 0

/-- Who enqueues a task, and where (13 R324, 15 R401). -/
structure Enqueuer where
  asid  : Nat
  queue : TaskQueue
  rootQ : Nat
  node  : Option (Nat × Nat)
  home  : Nat
  dies  : Nat
  outing : Bool
  scope : Nat
deriving DecidableEq, Repr

/-- Enqueues a task under a new identifier (13 R324). -/
def State.enqueue (s : State) (e : Enqueuer) (l : Launch) : Nat × State :=
  let id := s.ids
  let t : Task := {
    id := id
    launch := l
    asid := e.asid
    queue := e.queue
    rootQ := e.rootQ
    node := e.node
    home := e.home
    dies := e.dies
    outing := e.outing
    order := s.order
    state := .queued
    wasPreempted := false
    deadline := if l.deadline = 0 then none else some (s.clk + 1024 * l.deadline)
    scope := if l.scope = 0 then e.scope else l.scope
    cores := []
    admitted := 0
    todo := []
    left := l.groups
    log := []
    errCnt := 0
    endCode := 0
    acked := false
    victims := [] }
  (id, { s with tasks := s.tasks ++ [t], ids := id + 1, order := s.order + 1 })

/-- A spawn refused with SNUFFED is counted by the SNUFF of that scope until its ack word is written (13 Table 13.7). -/
def State.countRefused (s : State) (sc : Nat) : State :=
  { s with snuffs := (s.snuffs.foldl (fun (acc : List Snuff × Bool) u =>
      if !acc.2 && u.scopes.any (fun x => x == sc || s.under x sc) then (acc.1 ++ [{ u with refused := u.refused + 1 }], true)
      else (acc.1 ++ [u], acc.2)) ([], false)).1 }

/-- What SPAWN and SPAWNI read (13 R354): a verdict where they cannot go on, or the record, its counts, the levels whose
counts were replaced, and the guard block. -/
inductive SpawnRead where
  | stop (v : Verdict)
  | ok (rec : List Byte) (counts : List Nat) (exempt : List Nat) (guards : List Byte)
deriving DecidableEq, Repr

/-- Goes on with what a read of SPAWN gave. -/
def RecRead.orSpawn (x : RecRead) (k : List Byte → SpawnRead) : SpawnRead :=
  match x with
  | .miss => .stop .wait
  | .refused a => .stop (.trap 7 0 a)
  | .bad p => .stop (poisonTrap p)
  | .ok l => k l

/-- The counts that SPAWNI reads for the levels whose count is 0, each at a global address (13 R354, 05 R131). -/
def readCounts (rd : Nat → Nat → RecRead) (sb : Nat) : List Nat → (List (Nat × Nat) → SpawnRead) → SpawnRead
  | [], k => k []
  | i :: rest, k =>
    if !isGlobal (sb + 4 * i) then .stop (accessTrap (sb + 4 * i))
    else (rd (sb + 4 * i) 4).orSpawn (fun b => readCounts rd sb rest (fun l => k ((i, leNat b) :: l)))

/-- The reads of SPAWN and SPAWNI in their order (13 R354, R447); `sb` is SPAWNI's. -/
def State.spawnRead (s : State) (r : GRef) (g : Group) (ra : Nat) (sb : Option Nat) : SpawnRead :=
  let rd (va n : Nat) : RecRead := s.homeRead (seqUnit r.core) g.asid va n
  if ra % 256 != 0 || !isGlobal ra then .stop (accessTrap ra)
  else
    (rd ra 256).orSpawn (fun b =>
      let zero := (List.range (recLevels b)).filter (fun i => (recCounts b).getD i 0 == 0)
      let go (l : List (Nat × Nat)) : SpawnRead :=
        let counts := l.foldl (fun c x => c.set x.1 x.2) (recCounts b)
        let gb := recGuardBlock b
        if gb = 0 ∨ gb % 64 ≠ 0 ∨ !isGlobal gb then .ok b counts (l.map (·.1)) []
        else (rd gb 512).orSpawn (fun x => .ok b counts (l.map (·.1)) x)
      match sb with
      | none => go []
      | some a => if a % 4 != 0 then .stop (accessTrap a) else readCounts rd a zero go)

/-- An atomic (05 R161). -/
def isAtomicPart : Instr → Bool
  | .atadd _ | .atfadd _ | .atmin _ | .atmax _ | .atminu _ | .atmaxu _ | .atand _ | .ator _ | .atxor _ | .atswp _ | .atcas _ => true
  | _ => false

/-- A read of memory through a stream: a load, a MONW, an atomic (06 R173). -/
def isStreamRead : Instr → Bool
  | .ld _ | .ldna _ | .ldbp _ | .ldg _ | .monw _ => true
  | i => isAtomicPart i

/-- Whether every store and atomic of earlier bundles is issued and acknowledged, as DRAIN waits (06 R173, 13 R354). -/
def Group.storesQuiet (g : Group) (seq : Nat) : Bool :=
  !(g.stores.any (fun a => decide (a.seq < seq))) && !(g.qa.any (fun p => decide (p.seq < seq) && (isStore p.instr || isAtomicPart p.instr) && !g.knownOff p))

/-- Whether every read of earlier bundles is performed, as Release waits (06 R173). -/
def Group.readsQuiet (g : Group) (seq : Nat) : Bool :=
  !(g.loads.any (fun a => decide (a.seq < seq) && !a.performed)) && !(g.qa.any (fun p => decide (p.seq < seq) && isStreamRead p.instr && !g.knownOff p))

/-- The verdict on SPAWN and SPAWNI, a release at .p: it waits for the reads and the writes of earlier bundles (13 R354, 06 R173). -/
def ownSpawn (s : State) (r : GRef) (g : Group) (seq ra : Nat) (sb : Option Nat) : Verdict :=
  (waitIf (!g.storesQuiet seq || !g.readsQuiet seq)).then (match s.spawnRead r g ra sb with
    | .stop v => v
    | .ok _ _ _ _ => .go)

/-- SPAWN's result and the state after the enqueueing (13 R354). -/
def State.spawn (s : State) (r : GRef) (g : Group) (ra : Nat) (sb : Option Nat) : Word × State :=
  match s.spawnRead r g ra sb with
  | .stop _ => (0#64, s)
  | .ok b counts exempt gb =>
    let l := launchOf b counts gb
    let own := ((s.task g.gid.task).map (·.scope)).getD 0
    let home := dieOf r.core
    let mask := s.partition home
    let st := s.spawnStatus own home (recMalformed none exempt b l gb) (s.unplaceable false mask l) l
    if st = 0 then
      let (id, s) := s.enqueue ⟨g.asid, .group g.gid, ((s.task g.gid.task).map (·.rootQ)).getD 0, none, home, mask, false, own⟩ l
      (word (id % 2 ^ 32), s)
    else
      (word (st * 2 ^ 56), if st = 1 then s.countRefused (if l.scope = 0 then own else l.scope) else s)

/-! ### SNUFF (13 R344 to R346, R356) -/

/-- A SNUFF that no site has reached. -/
def Snuff.start (id scope : Nat) (scopes tasks : List Nat) (ack asid rootQ : Nat) : Snuff :=
  ⟨id, scope, scopes, ack, asid, rootQ, [], tasks, 0, 0, 0, 0, 0, 0, [], []⟩

/-- Snuffs a scope's subtree in one event of the scope table: the scopes it newly snuffs are its own (13 R344), its tasks are those of the
whole subtree, each item counted by the first SNUFF to reach it (R345, R346), and scopes that hold no task are free at once (R343). -/
def State.snuffScope (s : State) (id ack asid rootQ : Nat) : State :=
  let sub := (s.subtree id).filter (fun x => match s.scope x with
    | some y => y.state != .snuffed
    | none => false)
  let tasks := (s.tasks.filter (fun t => (s.subtree id).contains t.scope && t.state != .ended)).map (·.id)
  let t : State := { s with
    scopes := s.scopes.map (fun x => if sub.contains x.id then { x with state := .snuffed } else x)
    snuffs := s.snuffs ++ [Snuff.start s.ids id sub tasks ack asid rootQ]
    ids := s.ids + 1 }
  t.sweep

/-- A further SNUFF of a scope that stands SNUFFED, live or free by now: its ack word, all counts 0, follows the earlier SNUFF's (13 R356,
15 R406). -/
def State.snuffAgain (s : State) (id ack asid rootQ : Nat) : State :=
  if s.snuffs.any (fun u => u.scopes.contains id) then
    { s with snuffs := s.snuffs.map (fun u => if u.scopes.contains id then { u with followers := u.followers ++ [(ack, asid)] } else u) }
  else { s with snuffs := s.snuffs ++ [Snuff.start s.ids id [] [] ack asid rootQ], ids := s.ids + 1 }

/-- SNUFF's result and the state after (13 R356). -/
def State.snuff (s : State) (own id ack asid rootQ : Nat) : Nat × State :=
  match s.scope id with
  | none => (2, s)
  | some x =>
    if !s.under own id then (2, s)
    else if x.state = .snuffed then (1, s.snuffAgain id ack asid rootQ)
    else (0, s.snuffScope id ack asid rootQ)

/-- The host's SNUFF of a queue's ROOT (15 R406, R449): a ROOT that an earlier SNUFF left without a task is no longer live, and this one
still writes its ack word. -/
def State.snuffRoot (s : State) (root ack asid q : Nat) : State :=
  if (s.scope root).isSome then (s.snuff root root ack asid q).2 else s.snuffAgain root ack asid q

/-- The verdict on SNUFF (13 R356). -/
def ownSnuff (ack : Word) : Verdict := trapIf (ack.toNat % 8 != 0 || !isGlobal ack.toNat) 3 0 ack.toNat

/-- The verdict on SNUFFW (13 R356): it waits for DONE at the home slice. -/
def ownSnuffw (s : State) (r : GRef) (g : Group) (a : Word) : Verdict :=
  (ownSnuff a).then (match s.homeRead (seqUnit r.core) g.asid a.toNat 8 with
    | .miss => .wait
    | .refused x => .trap 7 0 x
    | .bad p => poisonTrap p
    | .ok b => waitIf (!(leNat b).testBit 63))

/-! ### Barriers (13 R348 to R351, R357) -/

/-- COUNT. -/
def barCount (w : Nat) : Nat := nbits w 0 32
/-- ARRIVED. -/
def barArrived (w : Nat) : Nat := nbits w 32 32
/-- PHASE. -/
def barPhase (w : Nat) : Nat := nbits w 64 32
/-- SQ. -/
def barScope (w : Nat) : Nat := nbits w 96 3
/-- SNUFFED. -/
def barSnuffed (w : Nat) : Bool := w.testBit 127

/-- A barrier word of its fields; bits [126:99] as in a word that it replaces. -/
def barWord (old : Nat) (snuffed : Bool) (sq phase arrived count : Nat) : Nat :=
  count + arrived * 2 ^ 32 + phase % 2 ^ 32 * 2 ^ 64 + sq * 2 ^ 96 + nbits old 99 28 * 2 ^ 99 + (if snuffed then 2 ^ 127 else 0)

/-- An arrival (13 R350). -/
def barArrive (w : Nat) : Nat :=
  if barCount w = 0 then w
  else if barSnuffed w ∨ barArrived w + 1 = barCount w then barWord w (barSnuffed w) (barScope w) (barPhase w + 1) 0 (barCount w)
  else barWord w false (barScope w) (barPhase w) ((barArrived w + 1) % 2 ^ 32) (barCount w)

/-- The release by a SNUFF (13 R351). -/
def barRelease (w : Nat) : Nat := barWord w true (barScope w) (barPhase w + 1) 0 (barCount w)

/-- A barrier's word at a physical address. -/
def State.barrier (s : State) (pa : Nat) : Nat := leNat (s.mem.readN pa 16)
/-- Writes a barrier's word, at its home slice, in one event (13 R348). -/
def State.setBarrier (s : State) (pa w : Nat) : State := s.putGranule pa false (natLE 16 w)

/-- The access of a barrier part to its word (13 R348): the physical address, or a verdict. -/
inductive BarRead where
  | stop (v : Verdict)
  | at (pa : Nat)
deriving DecidableEq, Repr

/-- Translates a barrier and reads it; an error in the word raises the data-error trap (DEDUCED, log 26). -/
def State.barRead (s : State) (r : GRef) (g : Group) (a : Word) (wr : Bool) : BarRead :=
  let va := a.toNat
  let u := seqUnit r.core
  if va % 16 != 0 || !isGlobal va then .stop (accessTrap va)
  else
    match s.translate u g.asid va wr with
    | .miss => .stop .wait
    | .refused => .stop (.trap 7 0 va)
    | .hit pa host =>
      if host then .stop (accessTrap va)
      else match s.readErr pa with
        | .bad k => .stop (.trap 8 k va)
        | _ => .at pa

/-- The scope BINIT ties to (13 R357). -/
def binitScope (s : State) (g : Group) (sb : Word) : Nat :=
  if bits sb 32 32 = 0 then ((s.task g.gid.task).map (·.scope)).getD 0 else bits sb 32 32

/-- BINIT's result and the state after (13 R349, R357). -/
def State.binit (s : State) (g : Group) (pa sq : Nat) (sb : Word) : Word × State :=
  let own := ((s.task g.gid.task).map (·.scope)).getD 0
  let sc := binitScope s g sb
  let cnt := bits sb 0 32
  match s.scope sc with
  | none => (2#64, s)
  | some x =>
    if cnt = 0 ∨ !s.under own sc then (2#64, s)
    else if !x.barriers.contains pa && decide (64 ≤ x.barriers.length) then (1#64, s)
    else
      let w := s.barrier pa
      let s := s.setBarrier pa (barWord 0 false sq (barPhase w) 0 cnt)
      (0#64, { s with
        scopes := s.scopes.map (fun y =>
          if y.id = sc then (if y.barriers.contains pa then y else { y with barriers := y.barriers ++ [pa] })
          else { y with barriers := y.barriers.filter (· != pa) })
        snuffs := s.snuffs.map (fun u => { u with barriers := u.barriers.filter (· != pa) }) })

/-- BARR's result and the state after (13 R350, R357). -/
def State.barr (s : State) (pa : Nat) : Word × State :=
  let w := s.barrier pa
  (word (if barCount w = 0 then 0xFFFFFFFF else barPhase w), if barCount w = 0 then s else s.setBarrier pa (barArrive w))

/-- The verdict of a barrier part that only needs its word. -/
def ownBar (s : State) (r : GRef) (g : Group) (a : Word) (wr : Bool) (k : Nat → Verdict) : Verdict :=
  match s.barRead r g a wr with
  | .stop v => v
  | .at pa => k pa

/-- The verdict on BARR: an arrival is a release at the barrier's scope: the reads of earlier bundles are performed, their writes
acknowledged (13 R350, 06 R173, Table 6.2). -/
def ownBarr (s : State) (r : GRef) (g : Group) (seq : Nat) (a : Word) : Verdict :=
  ownBar s r g a true (fun pa => waitIf (!g.storesQuiet seq || !g.readsQuiet seq || (barScope (s.barrier pa) == 5 && !g.hostUnacked.isEmpty)))

/-- The verdict on BWAIT (13 R357). -/
def ownBwait (s : State) (r : GRef) (g : Group) (a ph : Word) : Verdict :=
  ownBar s r g a false (fun pa => let w := s.barrier pa; waitIf (!barSnuffed w && barPhase w == bits ph 0 32))

/-- The group's task's scope. -/
def State.ownScope (s : State) (g : Group) : Nat := ((s.task g.gid.task).map (·.scope)).getD 0
/-- The group's task's root queue (14 R366). -/
def State.ownQueue (s : State) (g : Group) : Nat := ((s.task g.gid.task).map (·.rootQ)).getD 0

/-! ### Verdicts of PRIO, DLINE, END and TAIL -/

/-- The verdict on PRIO (13 R358). -/
def ownPrio (s : State) (g : Group) (v : Word) : Verdict :=
  trapIf (decide (v.toNat < ((s.task g.gid.task).map (·.launch.cls)).getD 0) || decide (3 < v.toNat)) 2 0 0

/-- The verdict on END (13 R340, 05 R139). -/
def ownEnd (g : Group) : Verdict :=
  match g.imbalance with
  | some k => .trap 11 k 0
  | none => .go

/-- The verdict on TAIL (13 R341). -/
def ownTail (s : State) (r : GRef) (g : Group) : Verdict :=
  (trapIf (g.wicks.any (fun w => w.status == stBUSY || w.stopped)) 2 0 0).then
  ((ownEnd g).then (waitIf (decide (8 ≤ (s.core r.core).tracker.length))))

end Sys2Proof.Machine
end

