-- ==== Sys2Proof/Machine/AccessOps.lean ====
section
/-!
DEFINITION. The A slot's shared operations (05_access R153 to R163, 06 R173, R177): the checks of each form at its issue and
what it puts into the stream queues.
-/

namespace Sys2Proof.Machine

/-! ### Loads and stores (05 R153, R155) -/

/-- The kind of a load or store. -/
def accKind : Instr → AccKind
  | .ldna _ => .loadNA | .ldbp _ => .loadBP | .ldg _ => .loadG
  | .st _ => .store | .stna _ => .storeNA | .stbp _ => .storeBP | .sts _ => .storeS
  | _ => .load

/-- Whether a load's qualifier has .wl, or .dk (02 R47). -/
def AM.wl (x : AM) : Bool := x.qual.getLsbD 0
def AM.dk (x : AM) : Bool := x.qual.getLsbD 1

/-- The check of a load or store (05 R153, R155). -/
def amCheck (g : Group) (x : AM) (wr sts : Bool) : AccCheck :=
  ⟨g.eaAM x, accessBytes x.size, false, wr, !wr && (AM.wl x || AM.dk x), sts⟩

/-- The verdict on a load: its checks, its translation, a free entry (05 R135). -/
def ownLoad (s : State) (r : GRef) (g : Group) (x : AM) : Verdict :=
  (s.checkAccess r g (amCheck g x false false)).then (waitIf (!g.loadRoom x.st.toNat))

/-- The verdict on a store: as a load; a poisoned source register traps (05 R150). -/
def ownStore (s : State) (r : GRef) (g : Group) (x : AM) (sts : Bool) : Verdict :=
  (s.checkAccess r g (amCheck g x true sts)).then
  ((waitIf (!g.storeRoom x.st.toNat)).then
  (match (if x.data.toNat < 0x110 then (g.vreg x.data.toNat).poison else none) with
    | some p => poisonTrap p
    | none => .go))

/-- A load enters its stream's load-address queue (05 R153). -/
def issueLoad (s : State) (r : GRef) (g : Group) (seq : Nat) (kind : AccKind) (x : AM) : Group :=
  let ea := g.eaAM x
  let n := accessBytes x.size
  let a := g.newAccess seq x.st.toNat kind ea n (s.pieces r g ea n)
  g.pushLoad { a with dst := loadDst x, wl := AM.wl x, dk := AM.dk x }

/-- A store enters its stream's store-address queue with the data it reads at issue (05 R155, R138). -/
def issueStore (s : State) (r : GRef) (g : Group) (seq : Nat) (kind : AccKind) (x : AM) : Group :=
  let ea := g.eaAM x
  let n := accessBytes x.size
  let a := g.newAccess seq x.st.toNat kind ea n (s.pieces r g ea n)
  (g.pushStore { a with data := storeData r g x }).matchStore x.st.toNat

/-! ### Prefetches (05 R156) -/

/-- Whether a prefetch is dropped (05 R156); DESIGN CHOICE (log 83): one of which the first or the last byte is undeclared is, whatever lies
between. -/
def dropsPf (s : State) (r : GRef) (g : Group) (ea n : Nat) : Bool :=
  let l := match s.task g.gid.task with
    | some t => t.launch.declared ea && t.launch.declared (ea + n - 1)
    | none => false
  !isGlobal ea || !isGlobal (ea + n - 1) || !l ||
  (pagesOf ea n).any (fun a => (s.peekPhysical (accessUnit r) g.asid a).isNone) ||
  decide (Config.readTags < (s.core r.core).tagsHeld false + 64)

/-- PF brings the lines into the LLC and the L1, sector by sector, PFNA into the LLC alone (05 Table 5.3); a sector with an uncorrectable
error is not brought into the L1, and one that the L1 holds takes its home's value (log 83); what a read from HBM meets is logged (14
R384). -/
def prefetch (s : State) (r : GRef) (g : Group) (x : AM) (l1 : Bool) : State :=
  let ea := g.eaAM x
  let n := accessBytes x.size
  if dropsPf s r g ea n then s
  else
    (List.range (4 * ((ea + n - 1) / 128 - ea / 128 + 1))).foldl (fun s i =>
      let va := ea / 128 * 128 + 32 * i
      match s.peekPhysical (accessUnit r) g.asid va with
      | some pa =>
        let s' := s.fillRead g.gid.task pa va false
        if l1 then s'.l1Bring r.core (pa / 32) [] else s'
      | none => s) s

/-! ### MONW (05 R158, R159) -/

/-- The MONW of a place in program order that stands in its queue. -/
def Group.monwAt (g : Group) (seq : Nat) : Option Access := g.loads.find? (fun a => isMonw a && a.seq == seq)

/-- The checks of a MONW and a free entry (05 R158, R162). -/
def monwCheck (s : State) (r : GRef) (g : Group) (x : AX) : Verdict :=
  (s.checkAccess r g ⟨(g.areg x.base.toNat).toNat, accessBytes x.size, true, false, false, false⟩).then
    (waitIf (!g.loadRoom x.st.toNat))

/-- Whether a MONW may take its place in its stream. -/
def monwReady (s : State) (r : GRef) (g : Group) (x : AX) : Bool := monwCheck s r g x == .go

/-- The verdict on a MONW: its checks before it stands in its queue, its condition once it does; a read that met an
uncorrectable error traps (05 R150, R158, R159; log 29). -/
def ownMonw (s : State) (r : GRef) (g : Group) (seq : Nat) (x : AX) : Verdict :=
  match g.monwAt seq with
  | some a => (match a.poison with
    | some p => poisonTrap p
    | none => waitIf (!a.sat))
  | none => (monwCheck s r g x).then .wait

/-- A MONW enters its stream's load-address queue and stays unissued (05 R159). One at .g that no access of its group is outstanding before
orders nothing after it but its stream: memory as it stands is kept for the load after it (17 R418; log 92). -/
def enterMonw (s : State) (r : GRef) (g : Group) (seq : Nat) (x : AX) : Group :=
  let ea := (g.areg x.base.toNat).toNat
  let n := accessBytes x.size
  let a := g.newAccess seq x.st.toNat .monw ea n (s.pieces r g ea n)
  let free := x.scope = 0#3 && g.loads.isEmpty && g.stores.isEmpty && g.fences.isEmpty
  { g.pushLoad { a with
      cmp := (scalarSrc r g x.cmp.toNat).setWidth 128
      val := (scalarSrc r g x.val.toNat).setWidth 128
      scope := x.scope.toNat
      ne := x.ret == 1#1 } with
    past := if free then some ⟨a.ord, seq, x.st.toNat, s.mem⟩ else none }

/-- The memory that a load from its home may still be served from: it stands in the bundle after a MONW at .g, in another stream, and
nothing orders it after what that MONW read (06 R169, R177, 17 R418; log 92). -/
def Group.pastFor (g : Group) (a : Access) : Option Mem :=
  match g.past with
  | some m =>
    if a.ord = m.ord + 1 ∧ a.seq = m.seq + 1 ∧ a.stream ≠ m.stream ∧ (a.kind = .loadG ∨ a.kind = .loadBP) ∧
        a.pieces.all (fun x => x.space == .dev) = true ∧ g.loads.all (fun b => decide (a.ord ≤ b.ord)) = true then some m.mem
    else none
  | none => none

/-- A satisfied MONW issues: it leaves its queue and acquires at its scope (05 R158, 06 R177). -/
def issueMonw (g : Group) (seq : Nat) (x : AX) : Group :=
  let g := { g with loads := g.loads.filter (fun a => !(isMonw a && a.seq == seq)) }
  if x.scope = 0#3 then g else g.addFence (acqFence x.scope.toNat allStreams none)

/-! ### Atomics (05 R160 to R162, 06 R177) -/

/-- A 64-bit or 128-bit operand of an atomic (05 R160). -/
def atomicVal (r : GRef) (g : Group) (size : BitVec 3) (c : BitVec 6) : BitVec 128 :=
  if size = 4#3 then (scalarSrc r g (c.toNat + 1)) ++ (scalarSrc r g c.toNat) else (scalarSrc r g c.toNat).setWidth 128

/-- The verdict on an atomic (05 R161, R162). -/
def ownAtomic (s : State) (r : GRef) (g : Group) (x : AX) : Verdict :=
  (s.checkAccess r g ⟨(g.areg x.base.toNat).toNat, accessBytes x.size, true, true, false, false⟩).then
    (waitIf (!g.storeRoom x.st.toNat || (x.ret == 1#1 && !g.loadRoom x.st.toNat)))

/-- An atomic enters its stream's queues, between the release and the acquire of its scope; the core's L1 copy of its line is
discarded (05 R161, 06 R177). -/
def issueAtomic (s : State) (r : GRef) (g : Group) (seq op : Nat) (x : AX) : State :=
  let ea := (g.areg x.base.toNat).toNat
  let n := accessBytes x.size
  let sc := x.scope.toNat
  let g := if sc = 0 then g else g.addFence (relFence sc allStreams)
  let o := g.ord
  let a := g.newAccess seq x.st.toNat (.atomic op (x.ret == 1#1)) ea n (s.pieces r g ea n)
  let g := g.pushStore { a with
    dst := if x.ret = 1#1 then .queue else .discard
    cmp := atomicVal r g x.size x.cmp
    val := atomicVal r g x.size x.val
    scope := sc }
  let g := if sc = 0 then g else g.addFence (acqFence sc allStreams (some o))
  let s := match a.pieces.find? (fun p => p.space == .dev) with
    | some p => s.setCore r.core ((s.core r.core).dropLine p.pa)
    | none => s
  s.setGroup r g

/-! ### Ordering parts (06 R173) -/

/-- The verdict on MARK: room in both queues of each stream (06 R173). -/
def ownMark (g : Group) (m : BitVec 16) : Verdict := waitIf ((maskStreams m).any (fun st => !g.loadRoom st || !g.storeRoom st))
/-- The verdict on DRAIN: every store and atomic of the streams is acknowledged (06 R173). -/
def ownDrain (g : Group) (m : BitVec 16) : Verdict := waitIf (g.stores.any (fun a => m.getLsbD a.stream))
/-- The verdict on TKW: the latest productions issued before its bundle have completed (06 R173). -/
def ownTkw (g : Group) (seq : Nat) (m : BitVec 16) : Verdict :=
  waitIf ((tkwTokens m).any (fun tk => match g.latestProd tk seq with
    | some t => t.left != 0
    | none => false))

/-- The verdict on an A part. -/
def ownA (s : State) (r : GRef) (g : Group) (seq : Nat) (i : Instr) : Verdict :=
  match i with
  | .ld x => ownLoad s r g x
  | .ldna x => ownLoad s r g x
  | .ldbp x => ownLoad s r g x
  | .ldg x => ownLoad s r g x
  | .st x => ownStore s r g x false
  | .stna x => ownStore s r g x false
  | .stbp x => ownStore s r g x false
  | .sts x => ownStore s r g x true
  | .monw x => ownMonw s r g seq x
  | .atadd x => ownAtomic s r g x
  | .atfadd x => ownAtomic s r g x
  | .atmin x => ownAtomic s r g x
  | .atmax x => ownAtomic s r g x
  | .atminu x => ownAtomic s r g x
  | .atmaxu x => ownAtomic s r g x
  | .atand x => ownAtomic s r g x
  | .ator x => ownAtomic s r g x
  | .atxor x => ownAtomic s r g x
  | .atswp x => ownAtomic s r g x
  | .atcas x => ownAtomic s r g x
  | .mark x => ownMark g x.mask
  | .drain x => ownDrain g x.mask
  | .tkw x => ownTkw g seq x.mask
  | _ => .go

end Sys2Proof.Machine
end

