-- ==== Sys2Proof/Machine/Issue.lean ====
section
/-!
DEFINITION. THE ISSUE OF A SLOT PART, shared by every slot instruction (02 R32 to R40, 04 R100, R108, 05 R135, 13 R330): the
verdict on a part (wait, trap or issue), and what the six slots do at each.
-/

namespace Sys2Proof.Machine

/-! ### C parts (11 R298 to R302) -/

/-- What a C part's record read came to. -/
inductive CopyRead where
  | stop (v : Verdict)
  | ok (rec : List Byte)
deriving DecidableEq, Repr

/-- The read of a transfer record at issue (11 R298); a record outside the scratchpad's bounds traps too (DEDUCED, log 56). -/
def State.copyRead (s : State) (r : GRef) (g : Group) (ra : Nat) : CopyRead :=
  if ra % 64 != 0 || !(isGlobal ra || isPadWin ra) || (spanBad (s.engBnd (copyFor r.core g)) (some (ra, (ra : Int) + 63))).isSome then .stop (accessTrap ra)
  else
    match s.engRead (copyFor r.core g) ra 64 with
    | .miss => .stop .wait
    | .refused a => .stop (.trap 7 0 a)
    | .bad p => .stop (poisonTrap p)
    | .ok l => .ok l

/-- The start byte B of a copy form (11 R295). -/
def copyStart (g : Group) (x : CC) : Nat := if x.useR = 1#1 then (g.nreg x.nb.toNat).toNat else 0

/-- A wait for a place in a channel's queue (11 R285). -/
def chanWait (s : State) (r : GRef) (ch : Nat) : Verdict := waitIf (decide (16 ≤ (s.core r.core).copy.depth ch))

/-- The verdict on a copy form (11 R298). -/
def ownCopy (s : State) (r : GRef) (g : Group) (op : Nat) (x : CC) : Verdict :=
  match s.copyRead r g (g.nreg x.na.toNat).toNat with
  | .stop v => v
  | .ok l =>
    (recVerdict op (recOf l) (s.engBnd (copyFor r.core g)) g.wb g.wc).then
    ((trapIf (copyStart g x % 4096 != 0 || decide ((recOf l).len < copyStart g x)) 2 0 0).then (chanWait s r x.ch.toNat))

/-- The parked chain of a group on a channel, by its place among the started entries (11 R299). -/
def CopyEngine.parkedAt (x : CopyEngine) (id : GId) (ch : Nat) : Option Nat :=
  x.runs.findIdx? (fun j => j.kind == .chain && j.parked && j.ch == ch && j.owner == some id)

/-- The verdict on CPYL: a head's address; with none, the tokens consumed (11 R299, 02 R38). -/
def ownCpyl (s : State) (r : GRef) (g : Group) (p : Part) (x : CL) : Verdict :=
  let a := (g.nreg x.na.toNat).toNat
  if a = 0 then waitIf (!(g.consumed p.tw p.seq).all g.prodDone)
  else
    (trapIf (a % 64 != 0 || !(isGlobal a || isPadWin a) || (spanBad (s.engBnd (copyFor r.core g)) (some (a, (a : Int) + 63))).isSome) 3 0 a).then
      (chanWait s r x.ch.toNat)

/-- The verdict on a C part. -/
def ownC (s : State) (r : GRef) (g : Group) (p : Part) (i : Instr) : Verdict :=
  match i with
  | .cpy x => ownCopy s r g cpCPY x
  | .cpy2 x => ownCopy s r g cpCPY2 x
  | .cpyh x => ownCopy s r g cpCPYH x
  | .cpln x => ownCopy s r g cpCPLN x
  | .accld x => ownCopy s r g cpACCLD x
  | .accst x => ownCopy s r g cpACCST x
  | .gstep x => ownCopy s r g cpGSTEP x
  | .cpyl x => ownCpyl s r g p x
  | .stamp x => (stampVerdict (g.nreg x.na.toNat).toNat (s.engBnd (copyFor r.core g))).then (chanWait s r x.ch.toNat)
  | _ => .go

/-! ### S and K parts -/

/-- The opcode of a long instruction (09 Table 9.1, 10 R274, 12 R307), and its fields. -/
def longOp : Instr → Option (Nat × XL)
  | .xmm x => some (opXMM, x) | .xconv x => some (opXCONV, x) | .xgath x => some (opXGATH, x) | .xsort x => some (opXSORT, x)
  | .xtopk x => some (opXTOPK, x) | .xnorm x => some (opXNORM, x) | .xattn x => some (opXATTN, x)
  | .kvshoot x => some (opKVSHOOT, x) | .kvfreq x => some (opKVFREQ, x) | .kvapp x => some (opKVAPP, x)
  | .kvpre x => some (opKVPRE, x) | .callred x => some (opCALLRED, x) | .credsc x => some (opCREDSC, x)
  | .cgath x => some (opCGATH, x) | .cbcast x => some (opCBCAST, x) | .ca2a x => some (opCA2A, x)
  | .csend x => some (opCSEND, x) | .crecv x => some (opCRECV, x) | .cring x => some (opCRING, x) | .ctopk x => some (opCTOPK, x)
  | _ => none

/-- The value of a CSRS or CSRC as it would be written (14 R389). -/
def csrNew (s : State) (r : GRef) (g : Group) (i : Instr) : Option (Nat × Word) :=
  match i with
  | .csrw x => some (x.num.toNat, scalarSrc r g x.sa.toNat)
  | .csrs x => some (x.num.toNat, s.csr r g x.num.toNat ||| scalarSrc r g x.sa.toNat)
  | .csrc x => some (x.num.toNat, s.csr r g x.num.toNat &&& ~~~(scalarSrc r g x.sa.toNat))
  | _ => none

/-- The verdict on an S part. -/
def ownS (s : State) (r : GRef) (g : Group) (p : Part) (i : Instr) : Verdict :=
  let v (c : BitVec 6) : Word := scalarSrc r g c.toNat
  match i with
  | .jmp x => trapIf (bits (v x.sa) 0 5 != 0 || bits (v x.sa) 56 8 != 0) 4 0 0
  | .call _ => trapIf (decide (g.spillLim < g.spill.length + 256)) 5 0 0
  | .ret _ => ownRet s r g
  | .loop x => ownLoop g (v x.sa).toNat x.fn.toNat
  | .loopi x => ownLoop g x.sa.toNat x.fn.toNat
  | .lbrk x => trapIf (decide (g.loops.length < x.lv.toNat + 1)) 4 0 0
  | .gset x => trapIf (guardBoundsBad (v x.sa) (v x.sb) x.mode.toNat) 2 0 0
  | .xwait x => ownXwait g x.wk.toNat
  | .spawn x => ownSpawn s r g p.seq (v x.sa).toNat none
  | .spawni x => ownSpawn s r g p.seq (v x.sa).toNat (some (v x.sb).toNat)
  | .snuff x => ownSnuff (v x.sb)
  | .snuffw x => ownSnuffw s r g (v x.sa)
  | .binit x => ownBar s r g (v x.sa) true (fun _ => .go)
  | .barr x => ownBarr s r g p.seq (v x.sa)
  | .bwait x => ownBwait s r g (v x.sa) (v x.sb)
  | .prio x => ownPrio s g (v x.sa)
  | .dline x => trapIf (bits (v x.sa) 32 32 != 0) 2 0 0
  | .endGroup _ => ownEnd g
  | .tail _ => ownTail s r g
  | .rtt x => ownRtt g (x.skip == 1#1)
  | .csrr x => ownCsrr g x.num.toNat
  | .errrd x => trapIf (bits (v x.sa) 4 60 != 0) 2 0 0
  | .lamp x => s.ownLamp r g (v x.sa) (v x.sb)
  | i =>
    match longOp i, csrNew s r g i with
    | some (op, x), _ => ownLong s r g op x.wk.toNat x.nd.toNat
    | none, some (n, w) => trapIf (csrBad n w) 2 0 0
    | none, none => .go

/-- The address of a KLD (03 R84). -/
def kldEa (g : Group) (x : KL) : Nat := (g.areg x.src.toNat + word (64 * x.off.toNat)).toNat

/-- The verdict on a K part (03 R85): a hamper error raises the data-error trap (14 R381; DEDUCED, log 56). -/
def ownK (s : State) (r : GRef) (g : Group) (seq : Nat) (i : Instr) : Verdict :=
  match i with
  | .kld x =>
    let ea := kldEa g x
    let o := ea % 2 ^ 24
    if !isPadWin ea || nbits ea 24 24 != 0 || ea % 64 != 0 || !(s.core r.core).padHas o 64 then accessTrap ea
    else
      match (s.core r.core).padErr o 64 with
      | some a => .trap 8 3 (0xFF * 2 ^ 48 + a)
      | none => .go
  | .kmov _ => waitIf (g.scaleWait seq)
  | _ => .go

/-- The verdict that a part's own entry gives, once its operands are at hand. -/
def own (s : State) (r : GRef) (g : Group) (k : Slot) (p : Part) (i : Instr) : Verdict :=
  match k with
  | .S => ownS s r g p i
  | .A => ownA s r g p.seq i
  | .V => ownV g p.sw i
  | .M => ownM s r g p.seq i
  | .C => ownC s r g p i
  | .K => ownK s r g p.seq i

/-! ### The verdict on a part -/

/-- The latest earlier production of a token that a part's bundle produces has not completed (11 R291). -/
def prodPending (g : Group) (p : Part) (i : Instr) : Bool :=
  isAsync i && (match g.latestProd (twProduces p.tw) p.seq with
    | some t => twProduces p.tw != 0 && t.left != 0
    | none => false)

/-- A loop-end bundle whose address is not the innermost entry's END (04 R105). -/
def leBad (g : Group) (p : Part) : Bool :=
  hdrLE p.hdr && (match g.loops with
    | e :: _ => e.stop != p.addr
    | [] => true)

/-- A part's predicate (02 R37). -/
def Group.predOn (g : Group) (p : Part) (i : Instr) : Bool := g.predField p.seq (predOf i)

/-- A part 15 bundles after the base: its slot would stand at offset 16 once it had issued, so it may trap but not issue (02 R32, 14
R388; DEDUCED, log 37). -/
def atSlipLimit (g : Group) (p : Part) : Bool := decide (g.oldestSeq + 15 ≤ p.seq)

/-- The verdict on a part but for its bundle's other parts; with `mate`, as one that issues with the parts of its sync. -/
def verdictAlone (s : State) (r : GRef) (g : Group) (k : Slot) (p : Part) (i : Instr) (mate : Bool) : Verdict :=
  if hazard g k p i mate then .wait
  else if leBad g p then .atBundle 4 0
  else if !g.predOn p i then
    waitIf (atSlipLimit g p ||
      (isAsync i && twProduces p.tw != 0 && (prodPending g p i || !(g.consumed p.tw p.seq).all g.prodDone)))
  else (own s r g k p i).then (waitIf (atSlipLimit g p || prodPending g p i))

/-- Whether a verdict is a trap. -/
def Verdict.traps : Verdict → Bool
  | .trap _ _ _ | .atBundle _ _ => true
  | _ => false

/-- The unissued parts of a part's bundle that its sync names besides it (02 R35, R36). -/
def syncMates (g : Group) (k : Slot) (p : Part) : List (Slot × Part) :=
  if syncNames p k then
    (otherSlots k).filterMap (fun k2 => match g.headPart k2 with
      | some q => if q.seq = p.seq ∧ syncNames p k2 then some (k2, q) else none
      | none => none)
  else []

/-- A part whose effect comes after those of the others of its sync in their clk: a control part, one by which the group stops issuing, and
one that takes from the core what the others read (04 R102, 13 R358, 14 R387, R391, R393). -/
def issuesLast (i : Instr) : Bool :=
  isControl i || (match i with
    | .yield _ => true
    | .brk _ => true
    | .tcinv _ => true
    | .lamp _ => true
    | _ => false)

/-- The verdict on a part at the head of its slot: the parts that a sync names issue together, a control part last, and of
several that trap the first in the order S, A, V, M, C, K (02 R35, 04 R102, R108). -/
def verdict (s : State) (r : GRef) (g : Group) (k : Slot) (p : Part) (i : Instr) : Verdict :=
  let mine := verdictAlone s r g k p i true
  let mates := (syncMates g k p).map (fun x => (x.1.num, verdictAlone s r g x.1 x.2 x.2.instr true))
  if mine = .wait then .wait
  else if mates.any (fun x => x.2 == .wait) then .wait
  else if mine.traps then (if mates.any (fun x => x.2.traps && decide (x.1 < k.num)) then .wait else mine)
  else waitIf (mates.any (·.2.traps) || (issuesLast i && !mates.isEmpty) || hazard g k p i false)

/-- A part that raises a trap by its own effect once it issues (14 R387). -/
def raises (g : Group) (p : Part) (i : Instr) : Bool :=
  g.predOn p i && (match i with
    | .trap _ => true
    | .brk _ => true
    | _ => false)

/-- Every part that its sync names beside a part may issue with it now (02 R35). -/
def syncGoes (s : State) (r : GRef) (g : Group) (k : Slot) (p : Part) : Bool :=
  ((k, p) :: syncMates g k p).all (fun x => verdictAlone s r g x.1 x.2 x.2.instr true == .go)

/-- A head part would trap in this clk: at its issue, or by its own effect (04 R108, 14 R387). -/
def comesToTrap (s : State) (r : GRef) (g : Group) (k : Slot) (p : Part) : Bool :=
  (verdict s r g k p p.instr).traps || (raises g p p.instr && syncGoes s r g k p)

/-- The head of another slot would trap in this clk and comes first: it is of an older bundle, or of the same one in the order S, A, V, M,
C, K (04 R108; log 91). -/
def trapsBefore (s : State) (r : GRef) (g : Group) (k : Slot) (p : Part) : Bool :=
  (otherSlots k).any (fun k2 => match g.headPart k2 with
    | some q => (decide (q.seq < p.seq) || (decide (q.seq = p.seq) && decide (k2.num < k.num))) && comesToTrap s r g k2 q
    | none => false)

/-! ### Which group issues (13 R330) -/

/-- A full-sync bundle with LE or PP at the head of every slot (02 R36). -/
def Group.atPoint (g : Group) : Bool :=
  match g.qs with
  | p :: _ => (hdrLE p.hdr || hdrPP p.hdr) && slots.all (fun k => match g.headPart k with
      | some q => q.seq == p.seq
      | none => false)
  | [] => false

/-- Unpopped load-data entries and unmatched store-data entries (13 R333). -/
def Group.undelivered (g : Group) : Nat := (g.ldata.map List.length).sum + (g.sdata.map List.length).sum

/-- A wait part of the next bundle that is satisfied (13 R333). -/
def waitSatisfiedNow (s : State) (r : GRef) (g : Group) : Bool :=
  (match g.qs with
    | p :: _ => isWaitPoint p.instr && g.predOn p p.instr && verdictAlone s r g .S p p.instr true == .go
    | [] => false) ||
  (match g.qa with
    | p :: _ => (g.monwAt p.seq).any (·.sat)
    | [] => false)

/-- Pre-emption lands here (13 R333). -/
def landsHere (s : State) (r : GRef) (g : Group) : Bool :=
  g.preempt && !g.landed && (g.stop.isSome || (g.atPoint && decide (g.undelivered ≤ 4) && !waitSatisfiedNow s r g))

/-- A group whose parts do not issue: stopped, ended, snuffed, yielded, about to land, or with an asynchronous trap to take
(13 R330, R333, R340, R345, R358; 14 R363, R366). -/
def heldBack (s : State) (r : GRef) (g : Group) : Bool :=
  g.stop.isSome || g.ended || g.snuffed || g.landed || g.yielded.isSome || landsHere s r g

/-- An asynchronous trap is pending and may be taken (14 R363). -/
def Group.asyncDue (g : Group) : Bool := !g.trap.inh && g.stop.isNone && !g.ended && !g.snuffed && !g.landed && (g.trap.rangeErr.isSome || g.trap.dataErr.isSome)

/-- The bundle of an XWAIT, BWAIT or SNUFFW at the head of the S slot that waits for nothing but its own condition (13 R330). -/
def pointWaits (s : State) (r : GRef) (g : Group) : Option Nat :=
  match g.qs with
  | p :: _ =>
    if isWaitPoint p.instr && !hazard g .S p p.instr true && g.predOn p p.instr && own s r g .S p p.instr == .wait then some p.seq else none
  | [] => none

/-- The bundle of a MONW that stands in its queue unsatisfied (05 R159, 13 R330). -/
def Group.monwWaits (g : Group) : Option Nat :=
  match g.qa with
  | p :: _ => if (g.monwAt p.seq).any (fun a => !a.sat && a.poison.isNone) then some p.seq else none
  | [] => none

/-- A part of a bundle past a waiting MONW, BWAIT, SNUFFW or XWAIT: the group that waits on it is not ready for that part (13 R330;
DEDUCED, log 90). -/
def pastWait (s : State) (r : GRef) (g : Group) (p : Part) : Bool :=
  (pointWaits s r g).any (fun w => decide (w < p.seq)) || g.monwWaits.any (fun w => decide (w < p.seq))

/-- Whether some slot of a group can issue (13 R330). -/
def groupReady (s : State) (r : GRef) (g : Group) : Bool :=
  !heldBack s r g && slots.any (fun k => match g.headPart k with
    | some p => verdict s r g k p p.instr != .wait && !pastWait s r g p
    | none => false)

/-- A group that has been ready without issuing for 64 clk or more (13 R330). -/
def Group.aged (g : Group) (now : Nat) : Bool := g.promoted || g.readySince.any (fun t => decide (t + 64 ≤ now))

/-- The group slots of a core that are ready, with their groups. -/
def State.readyGroups (s : State) (c : Nat) : List (Nat × Group) :=
  (List.range 8).filterMap (fun k => match s.group ⟨c, k⟩ with
    | some g => if groupReady s ⟨c, k⟩ g then some (k, g) else none
    | none => none)

/-- How far a slot lies past the one that issued last (13 R330). -/
def slotTurn (last k : Nat) : Nat := (k + 7 - last) % 8

/-- The ready group that a core chooses (13 R330): the longest promoted, else the lowest class, round-robin within it. -/
def State.choice (s : State) (c : Nat) : Option Nat :=
  let last := (s.core c).lastSlot
  let key (x : Nat × Group) : Nat :=
    if x.2.aged s.clk then (x.2.readySince.getD 0) * 8 + slotTurn last x.1
    else 2 ^ 80 + x.2.cls * 8 + slotTurn last x.1
  match s.readyGroups c with
  | [] => none
  | x :: rest => some (rest.foldl (fun m y => if key y < key m then y else m) x).1

/-- A hamper bank of the core is under a lamp test, which holds back issue there (14 R385). -/
def State.bankTest (s : State) (core : Nat) : Bool :=
  s.lamps.any (fun j => match j.unit with
    | .hamperBank c _ => c == core
    | _ => false)

/-- Whether this clk's issue turn of the core is the group's (13 R330). -/
def State.hasTurn (s : State) (r : GRef) : Bool :=
  let c := s.core r.core
  if s.bankTest r.core then false
  else if c.lastClk = some s.clk then c.lastSlot == r.slot else s.choice r.core == some r.slot

/-- Marks the issue: the core's turn, and the yielded groups that waited for this one (13 R330, R358). -/
def State.noteIssue (s : State) (r : GRef) : State :=
  let c := s.core r.core
  let f (k : Nat) (g : Group) : Group :=
    if k = r.slot then { g with readySince := none, promoted := false }
    else
      let w := g.waiters.filter (· != r.slot)
      { g with waiters := w, yielded := if g.yielded.isSome && w.isEmpty then none else g.yielded }
  s.setCore r.core { c with
    lastSlot := r.slot
    lastClk := some s.clk
    slots := (List.range c.slots.length).map (fun k => (c.slots.getD k none).map (f k)) }

/-! ### What a slot does -/

/-- A V part at a switch point empties the latches before it reads, whether or not it executes (02 R40). -/
def Group.switchV (g : Group) (k : Slot) (p : Part) : Group := if k = .V ∧ p.sw = true then g.clearLatches else g

/-- The predicates from before the bundle are kept for its M and C parts that an S predicate write does not wait for, and the flags for
its CSRR of FP.FLAGS that a V part does not wait for (02 R34). -/
def Group.keepOld (g : Group) (k : Slot) (p : Part) (i : Instr) : Group :=
  let beside (k2 : Slot) (f : Instr → Bool) : Bool := match g.headPart k2 with
    | some q => decide (q.seq = p.seq) && f q.instr
    | none => false
  if (decide (k = .S) && !(predDests i).isEmpty && (beside .M (fun j => (nDest j).isSome) || beside .C (fun j => (nDest j).isSome))) ||
      (decide (k = .V) && mayFlag i && beside .S readsFlags) then { g with pOld := some ⟨p.seq, g.p, g.fpflags⟩ } else g

/-- What was kept goes once no part of its bundle needs it. -/
def Group.dropOld (g : Group) : Group :=
  match g.pOld with
  | some x => if (g.qs ++ g.qm ++ g.qc).any (fun y => decide (y.seq = x.seq)) then g else { g with pOld := none }
  | none => g

/-- A predicated-off asynchronous part completes its share of the produced token (02 R37). -/
def Group.passToken (g : Group) (p : Part) (i : Instr) : Group :=
  if isAsync i then let (t, g) := g.produce p.tw p.seq; g.completeProd t false else g

/-- The refusals that a page-fault trap has answered are dropped (14 R373). -/
def State.dropRefusals (s : State) (core asid va : Nat) : State :=
  (((s.clearRefused (.engine core .access) asid va 1).clearRefused (.engine core .copy) asid va 1).clearRefused
    (.engine core .seq) asid va 1).clearRefused (.core core) asid va 1

/-- A part that waits, which takes no issue turn for it: a MONW whose checks have passed takes its place in its stream (05 R159), and a
matrix step without a grant makes its group's request (08 R221; MWAIT lease too, log 27). -/
def waitEffect (s : State) (r : GRef) (g : Group) (k : Slot) (p : Part) (i : Instr) : State :=
  if hazard g k p i false || leBad g p || !g.predOn p i then s
  else
    let ask (m : Nat) : State :=
      if g.lm ≠ 0#4 ∧ g.covers m = false then s.setCore r.core ((s.core r.core).request r.slot g.lm s.clk) else s
    match i with
    | .monw x =>
      if (g.monwAt p.seq).isNone && monwReady s r g x then s.setGroup r (enterMonw s r g p.seq x) else s
    | .mstep _ => if Nat.land (cfgPMASK g.mcfg) g.lm.toNat = cfgPMASK g.mcfg then ask (cfgPMASK g.mcfg) else s
    | .mstepz _ => if Nat.land (cfgPMASK g.mcfg) g.lm.toNat = cfgPMASK g.mcfg then ask (cfgPMASK g.mcfg) else s
    | .mstept _ => if Nat.land (cfgPMASK g.mcfg) g.lm.toNat = cfgPMASK g.mcfg then ask (cfgPMASK g.mcfg) else s
    | .mzero _ => if Nat.land (cfgPMASK g.mcfg) g.lm.toNat = cfgPMASK g.mcfg then ask (cfgPMASK g.mcfg) else s
    | .mwaitLease _ => ask g.lm.toNat
    | _ => s

/-- A header action of a bundle whose every part has issued comes before any trap (04 R105, R107, R110). -/
def Group.headerHolds (g : Group) : Bool := g.qh.any (fun h => h.pending && decide (h.seq < g.oldestSeq))

/-- The part that a slot of the current group would issue, with its group. -/
def State.headOf (s : State) (k : Slot) : Option (Group × Part) :=
  match s.group s.cur with
  | some g => (g.headPart k).map (fun p => (g, p))
  | none => none

/-- The group with its part issued, before the part's own effect: the part leaves its queue. -/
def issued (g : Group) (k : Slot) (p : Part) (i : Instr) : Group := ((g.switchV k p).keepOld k p i).retire k

/-- The log entry and the lamp test of an uncorrectable error that a part's own read met (14 R384, R385): a read of the register region
is the part's own; poison that it meets in a register or a queue entry beside that was logged when it was read. -/
def State.logTrap (s : State) (r : GRef) (g : Group) (k : Slot) (i : Instr) (unit addr : Nat) : State :=
  let own := match k, i with
    | .K, _ => true
    | .C, _ => true
    | .S, .csrr _ => false
    | .S, _ => true
    | _, _ => unit == 3 && addr / 2 ^ 48 == 0xFF && decide (addr % 2 ^ 48 < 1024 * (s.core r.core).bnd0)
  if !own then s
  else if unit = 3 then s.logError g.gid.task ⟨addr, 0xFF, r.core, 0, 1, 3⟩ (bankAt r.core (addr % 2 ^ 24))
  else
    match s.peekPhysical (.engine r.core .seq) g.asid addr with
    | some pa => s.logError g.gid.task ⟨addr, homeSlice pa, 0xFF, 0, 1, unit⟩ (memUnit pa unit)
    | none => s

/-- What every issue leaves around the part's own effect: predicates kept for the bundle go once no part needs them (02 R34), and the
core's turn is taken (13 R330). -/
def State.afterIssue (s : State) (r : GRef) : State :=
  (match s.group r with
    | some g => s.setGroup r g.dropOld
    | none => s).noteIssue r

/-- A part that issues in this clk with the other parts of its sync, each judged on the state from before (02 R34, R35; log 64). -/
def State.judged (s : State) (k : Slot) (p : Part) : Bool := decide (s.joint = some p.seq) && syncNames p k

/-- Of a sync's parts that issue in one clk, those whose effects come before this one's: a part that reads what this one writes as it issues,
and every one before a part that comes last (02 R34, R35; log 64). -/
def matesFirst (g : Group) (k : Slot) (p : Part) (i : Instr) : Bool :=
  (syncMates g k p).any (fun x => issuesLast i || mateBlocks i p.tw x.2)

/-- The issue of part `p` of slot `k`: its effect `f`, or, predicated off, nothing but its share of its bundle's token (02 R37). -/
def State.issuePart (s : State) (r : GRef) (g : Group) (k : Slot) (p : Part) (i : Instr) (f : State → GRef → Group → Part → State) : State :=
  if g.predOn p i then (f s r (issued g k p i) p).afterIssue r
  else (s.setGroup r ((((g.switchV k p).retire k).passToken p i).dropOld)).noteIssue r

/-- THE ISSUE OF A PART of slot `k` of the current group: it waits, traps, passes predicated off, or takes its effect `f` on
the state, its group with the part issued, and the part (02 R37, 04 R108). A part that raises a trap by its effect comes in the order of
traps, before an asynchronous one (04 R108, 14 R363, R387). -/
def runPart (k : Slot) (i : Instr) (s : State) (f : State → GRef → Group → Part → State) : Host.Outcome State Fault Refusal :=
  let r := s.cur
  match s.headOf k with
  | none => .next s
  | some (g, p) =>
    if s.judged k p then .next (if matesFirst g k p i then s else s.issuePart r g k p i f)
    else if !s.serving || heldBack s r g then .next s
    else
      match verdict s r g k p i with
      | .wait => .next (waitEffect s r g k p i)
      | .trap code info addr =>
        if !s.hasTurn r || g.headerHolds || trapsBefore s r g k p then .next s
        else
          let s := s.noteIssue r
          let s := if code = 8 then s.logTrap r g k i info addr else s
          .next (trapPart (if code = 7 then s.dropRefusals r.core g.asid addr else s) r (g.switchV k p) k code info addr)
      | .atBundle code info => if s.hasTurn r then .next (trapBundle (s.noteIssue r) r g code info 0 p.addr) else .next s
      | .go =>
        if !s.hasTurn r || (if raises g p i then trapsBefore s r g k p else g.asyncDue) then .next s
        else .next (s.issuePart r g k p i f)

/-- A part whose effect is on its group alone. -/
def runGroup (k : Slot) (i : Instr) (s : State) (f : GRef → Group → Part → Group) : Host.Outcome State Fault Refusal :=
  runPart k i s (fun s r g p => s.setGroup r (f r g p))

end Sys2Proof.Machine
end

