-- ==== Sys2Proof/Machine/Access.lean ====
section
/-!
DEFINITION. The access family of the A slot (05_access R151 to R163), and the events of the memory system that perform what
the streams hold: tags (R140), loads (R136, R143), stores and atomics (R155, R161), MONW's test (R158), acknowledgements (06 R165,
R170).
-/

namespace Sys2Proof.Machine

/-! ### Loads, stores, prefetches -/

/-- LD (05 R153). -/
def execLd (x : AM) (s : State) : Host.Outcome State Fault Refusal :=
  runPart .A (.ld x) s (fun s r g p => s.setGroup r (issueLoad s r g p.seq .load x))
/-- LDNA (05 R153). -/
def execLdna (x : AM) (s : State) : Host.Outcome State Fault Refusal :=
  runPart .A (.ldna x) s (fun s r g p => s.setGroup r (issueLoad s r g p.seq .loadNA x))
/-- LDBP (05 R153). -/
def execLdbp (x : AM) (s : State) : Host.Outcome State Fault Refusal :=
  runPart .A (.ldbp x) s (fun s r g p => s.setGroup r (issueLoad s r g p.seq .loadBP x))
/-- LDG (05 R153). -/
def execLdg (x : AM) (s : State) : Host.Outcome State Fault Refusal :=
  runPart .A (.ldg x) s (fun s r g p => s.setGroup r (issueLoad s r g p.seq .loadG x))
/-- ST (05 R155). -/
def execSt (x : AM) (s : State) : Host.Outcome State Fault Refusal :=
  runPart .A (.st x) s (fun s r g p => s.setGroup r (issueStore s r g p.seq .store x))
/-- STNA (05 R155). -/
def execStna (x : AM) (s : State) : Host.Outcome State Fault Refusal :=
  runPart .A (.stna x) s (fun s r g p => s.setGroup r (issueStore s r g p.seq .storeNA x))
/-- STBP (05 R155). -/
def execStbp (x : AM) (s : State) : Host.Outcome State Fault Refusal :=
  runPart .A (.stbp x) s (fun s r g p => s.setGroup r (issueStore s r g p.seq .storeBP x))
/-- STS (05 R155). -/
def execSts (x : AM) (s : State) : Host.Outcome State Fault Refusal :=
  runPart .A (.sts x) s (fun s r g p => s.setGroup r (issueStore s r g p.seq .storeS x))

/-- PF: the lines come into the L1 (05 R156, Table 5.3). -/
def execPf (x : AM) (s : State) : Host.Outcome State Fault Refusal :=
  runPart .A (.pf x) s (fun s r g _ => prefetch (s.setGroup r g) r g x true)
/-- PFNA: the lines come into the LLC alone (05 R156, Table 5.3). -/
def execPfna (x : AM) (s : State) : Host.Outcome State Fault Refusal :=
  runPart .A (.pfna x) s (fun s r g _ => prefetch (s.setGroup r g) r g x false)

/-! ### MONW and atomics -/

/-- MONW issues once its condition is found satisfied (05 R158, R159). -/
def execMonw (x : AX) (s : State) : Host.Outcome State Fault Refusal :=
  runPart .A (.monw x) s (fun s r g p => (s.setGroup r (issueMonw g p.seq x)).settle r)

/-- ATADD (05 R161). -/
def execAtadd (x : AX) (s : State) : Host.Outcome State Fault Refusal :=
  runPart .A (.atadd x) s (fun s r g p => (issueAtomic s r g p.seq 0x10 x).settle r)
/-- ATFADD (05 R161). -/
def execAtfadd (x : AX) (s : State) : Host.Outcome State Fault Refusal :=
  runPart .A (.atfadd x) s (fun s r g p => (issueAtomic s r g p.seq 0x11 x).settle r)
/-- ATMIN (05 R161). -/
def execAtmin (x : AX) (s : State) : Host.Outcome State Fault Refusal :=
  runPart .A (.atmin x) s (fun s r g p => (issueAtomic s r g p.seq 0x12 x).settle r)
/-- ATMAX (05 R161). -/
def execAtmax (x : AX) (s : State) : Host.Outcome State Fault Refusal :=
  runPart .A (.atmax x) s (fun s r g p => (issueAtomic s r g p.seq 0x13 x).settle r)
/-- ATMINU (05 R161). -/
def execAtminu (x : AX) (s : State) : Host.Outcome State Fault Refusal :=
  runPart .A (.atminu x) s (fun s r g p => (issueAtomic s r g p.seq 0x14 x).settle r)
/-- ATMAXU (05 R161). -/
def execAtmaxu (x : AX) (s : State) : Host.Outcome State Fault Refusal :=
  runPart .A (.atmaxu x) s (fun s r g p => (issueAtomic s r g p.seq 0x15 x).settle r)
/-- ATAND (05 R161). -/
def execAtand (x : AX) (s : State) : Host.Outcome State Fault Refusal :=
  runPart .A (.atand x) s (fun s r g p => (issueAtomic s r g p.seq 0x16 x).settle r)
/-- ATOR (05 R161). -/
def execAtor (x : AX) (s : State) : Host.Outcome State Fault Refusal :=
  runPart .A (.ator x) s (fun s r g p => (issueAtomic s r g p.seq 0x17 x).settle r)
/-- ATXOR (05 R161). -/
def execAtxor (x : AX) (s : State) : Host.Outcome State Fault Refusal :=
  runPart .A (.atxor x) s (fun s r g p => (issueAtomic s r g p.seq 0x18 x).settle r)
/-- ATSWP (05 R161). -/
def execAtswp (x : AX) (s : State) : Host.Outcome State Fault Refusal :=
  runPart .A (.atswp x) s (fun s r g p => (issueAtomic s r g p.seq 0x19 x).settle r)
/-- ATCAS (05 R161). -/
def execAtcas (x : AX) (s : State) : Host.Outcome State Fault Refusal :=
  runPart .A (.atcas x) s (fun s r g p => (issueAtomic s r g p.seq 0x1A x).settle r)

/-! ### Address arithmetic (05 R163) -/

/-- LEA. -/
def execLea (x : AR) (s : State) : Host.Outcome State Fault Refusal :=
  runGroup .A (.lea x) s (fun r g _ =>
    g.setA x.ad.toNat (g.areg x.aa.toNat + scalarSrc r g x.sa.toNat + sext x.imm))
/-- LEAX. -/
def execLeax (x : AR) (s : State) : Host.Outcome State Fault Refusal :=
  runGroup .A (.leax x) s (fun r g _ =>
    g.setA x.ad.toNat (g.areg x.aa.toNat + (scalarSrc r g x.sa.toNat <<< (x.imm.extractLsb' 0 4).toNat)))
/-- AMOV. -/
def execAmov (x : AR) (s : State) : Host.Outcome State Fault Refusal :=
  runGroup .A (.amov x) s (fun r g _ => g.setA x.ad.toNat (scalarSrc r g x.sa.toNat + sext x.imm))
/-- The step of an aligned ring of 2^k bytes. -/
def ringStep (aa : Word) (k : Nat) (d : Word) : Word :=
  let m := word (2 ^ k - 1)
  (aa &&& ~~~m) ||| ((aa + d) &&& m)
/-- AINC. -/
def execAinc (x : AR) (s : State) : Host.Outcome State Fault Refusal :=
  runGroup .A (.ainc x) s (fun r g _ =>
    g.setA x.ad.toNat (ringStep (g.areg x.aa.toNat) (bits (scalarSrc r g x.sa.toNat) 0 6) (sext x.imm)))

/-! ### Tags (05 R140) -/

/-- TAG_GRANT: the next pair's access takes all its tags; one that cannot take them all waits (05 R140). -/
def execTagGrant (core : Nat) (s : State) : Host.Outcome State Fault Refusal :=
  let c := s.core core
  match c.nextGrant with
  | none => .next s
  | some (slot, st, a) =>
    if !s.serving || decide ((if a.isWrite then Config.writeTags else Config.readTags) < c.tagsHeld a.isWrite + a.tags) then .next s
    else
      match s.group ⟨core, slot⟩ with
      | none => .next s
      | some g =>
        let mark := markOrd (fun b => { b with granted := true }) a.ord
        let s := s.setGroup ⟨core, slot⟩ { g with loads := mark g.loads, stores := mark g.stores }
        .next (if slot < 8 then s.setCore core { s.core core with tagRR := 16 * slot + st } else s)

/-! ### Loads (05 R136, R143, R145, R150, 06 R168) -/

/-- Room for one more entry in a stream's load-data queue where an access delivers to it (05 R134). -/
def Group.dataRoom (g : Group) (a : Access) : Bool :=
  decide (a.dst ≠ .queue) || decide ((g.ldataOf a.stream).length < Config.dataDepth)

/-- Whether piece i of a load may be performed: with .wl the earlier pieces are, and its granule is lit; a waiting .wl load of a
stopped group is not (05 R143, R144). -/
def Group.pieceReady (g : Group) (c : Core) (a : Access) (i : Nat) : Bool :=
  match a.pieces[i]? with
  | none => false
  | some x => !x.done && (!a.wl || (g.stop.isNone && (a.pieces.take i).all (·.done) && c.allLit x.pa x.len))

/-- The log entry of what a read piece met (14 R380, R384). -/
def State.logPiece (s : State) (r : GRef) (g : Group) (x : Piece) : State :=
  match x.space with
  | .dev => s.logRead g.gid.task x.pa x.va
  | .pad =>
    if ((s.core r.core).padErr x.pa x.len).isSome then
      s.logError g.gid.task ⟨x.va, 0xFF, r.core, 0, 1, 3⟩ (bankAt r.core x.pa)
    else s
  | .host => s

/-- What the caches do at a load's piece of device memory: one that no L1 copy serves allocates in the LLC where its form does, and a
miss of an LD fills the sector of the L1, unless it holds an uncorrectable error (05 R145, R146, Table 5.3). -/
def State.fillL1 (s : State) (r : GRef) (a : Access) (x : Piece) (evict : List Nat) : State :=
  if x.space != .dev || (a.kind.l1Lookup && ((s.core r.core).l1Get (x.pa / 32)).isSome) then s
  else
    let s := if a.kind.allocates then s.llcFill x.pa false else s
    if a.kind = .load then s.l1Bring r.core (x.pa / 32) evict else s

/-- What a load piece reads where it is served from the memory before a MONW at .g. -/
def readOld (m : Mem) (x : Piece) (now : List Byte × Option Poison) : List Byte × Option Poison := (m.readN x.pa x.len, now.2)

/-- LOAD_PERFORMED: a piece of the stream's oldest load is read, with the pieces that one L1 sector serves at the same instant; a
.dk load darkens the granule; the last piece delivers the data (05 R136, R141, R143, R153). The numbers from the count of the pieces on
name the pieces once more, each read as it stood before a MONW at .g, where the load may be so served (17 R418; log 92). -/
def execLoadPerformed (g : GRef) (st : Nat) (piece : Nat) (evict : List Nat) (s : State) : Host.Outcome State Fault Refusal :=
  match s.group g with
  | none => .next s
  | some x =>
    match x.headLoad st with
    | none => .next s
    | some a =>
      let old := if a.pieces.length ≤ piece then x.pastFor a else none
      let i := if old.isSome then piece - a.pieces.length else piece
      if !s.serving || isMonw a || !a.granted || x.fenced a || !x.dataRoom a || !x.pieceReady (s.core g.core) a i then .next s
      else
        let ps := a.together i
        let rd (y : Piece) : List Byte × Option Poison := old.elim (s.readPiece g a y) (fun m => readOld m y (s.readPiece g a y))
        let a' := (ps.foldl (fun (b : Access) y => b.take y (rd y)) a).doPieces ps
        let s := ps.foldl (fun s y => if y.space == .dev && a.kind.l1Lookup && ((s.core g.core).l1Get (y.pa / 32)).isSome then s
          else s.logPiece g x y) s
        let s := ps.foldl (fun s y => s.fillL1 g a y evict) s
        let s := if a.dk then s.setCore g.core (ps.foldl (fun c y => c.darken y.pa y.len) (s.core g.core)) else s
        let x := if a'.performed then x.deliver a' else { x with loads := markOrd (fun _ => a') a.ord x.loads }
        .next ((s.setGroup g x).settle g)

/-! ### Stores and atomics (05 R155, R161, 14 R382) -/

/-- STORE_PERFORMED: one piece of the stream's oldest store, in store order, once its data is matched (05 R138, R155). -/
def execStorePerformed (g : GRef) (st : Nat) (piece : Nat) (s : State) : Host.Outcome State Fault Refusal :=
  match s.group g with
  | none => .next s
  | some x =>
    match x.headStore st with
    | none => .next s
    | some a =>
      match a.pieces[piece]? with
      | none => .next s
      | some y =>
        if !s.serving || a.isAtomic || !a.granted || a.data.isNone || x.fenced a || y.done then .next s
        else
          let bad := if y.space = .dev then s.mergeUnit y.pa y.len else none
          let (s, x) := s.storePiece g x a y
          let s := match bad with
            | some u => s.logError x.gid.task ⟨y.va / 16 * 16, homeSlice y.pa, 0xFF, 0, 1, u⟩ (memUnit y.pa u)
            | none => s
          .next ((s.setGroup g { x with stores := markOrd (fun b => b.doPieces [y]) a.ord x.stores }).settle g)

/-- WRITE_ACKNOWLEDGEMENT: the home has performed every piece of the stream's oldest store or atomic; a host-backed store then
still awaits the host (05 R155, 06 R165, R170). -/
def execWriteAcknowledgement (g : GRef) (st : Nat) (s : State) : Host.Outcome State Fault Refusal :=
  match s.group g with
  | none => .next s
  | some x =>
    match x.stores.find? (fun a => a.stream == st) with
    | none => .next s
    | some a =>
      if !s.serving || !a.performed then .next s
      else
        .next ((s.setGroup g { x with
          stores := x.stores.filter (fun b => decide (b.ord ≠ a.ord))
          hostUnacked := x.hostUnacked ++ (if a.pieces.any (fun y => y.space == .host) then [st] else []) }).settle g)

/-- HOST_STORE_ACKNOWLEDGEMENT: the host acknowledges the stream's oldest store to a host-backed page (06 R170). -/
def execHostStoreAcknowledgement (g : GRef) (st : Nat) (s : State) : Host.Outcome State Fault Refusal :=
  match s.group g with
  | none => .next s
  | some x =>
    if !s.serving || !x.hostUnacked.contains st then .next s
    else .next ((s.setGroup g { x with hostUnacked := x.hostUnacked.erase st }).settle g)

/-- The old value an atomic reads at the home or the hamper, and the error it meets. -/
def State.atomicRead (s : State) (r : GRef) (x : Piece) : Nat × Option Nat :=
  match x.space with
  | .pad => (leNat ((s.core r.core).hamper.readN x.pa x.len), ((s.core r.core).padErr x.pa x.len).map (fun _ => 3))
  | _ => (leNat (s.mem.readN x.pa x.len), match s.readErr x.pa with
    | .bad u => some u
    | _ => none)

/-- The write of an atomic: lit state and copies elsewhere are unchanged (05 R161, R162); the core's own copy of the line goes. -/
def State.atomicWrite (s : State) (r : GRef) (x : Piece) (v : Nat) : State :=
  match x.space with
  | .pad => s.setCore r.core ((s.core r.core).padWrite x.pa (natLE x.len v))
  | _ =>
    let s := (s.putGranule x.pa false (natLE x.len v)).llcFill x.pa true
    s.setCore r.core ((s.core r.core).dropLine x.pa)

/-- ATOMIC_PERFORMED: one event at the home slice or the hamper, in store order and, with return, in load order; one that meets
poison is not performed (05 R161, 14 R382). -/
def execAtomicPerformed (g : GRef) (st : Nat) (s : State) : Host.Outcome State Fault Refusal :=
  match s.group g with
  | none => .next s
  | some x =>
    match x.headStore st with
    | none => .next s
    | some a =>
      match a.kind, a.pieces with
      | .atomic op ret, [y] =>
        if !s.serving || !a.granted || x.fenced a || !x.dataRoom a ||
            (ret && x.loads.any (fun b => b.stream == st && decide (b.ord < a.ord))) then .next s
        else
          let (m, err) := s.atomicRead g y
          let s := s.logPiece g x y
          let s := if err.isNone then s.atomicWrite g y (atomicOp op a.size m (a.val.toNat % 2 ^ (8 * a.size)) (a.cmp.toNat % 2 ^ (8 * a.size))) else s
          let ent : DataEnt := ⟨if err.isNone then BitVec.ofNat 8192 m else 0, err.map (fun u => ⟨u, y.va⟩)⟩
          let x := if ret then { x with ldata := x.ldata.set st (x.ldataOf st ++ [ent]) }
            else match err with
              | some u => x.pendDataErr u y.va
              | none => x
          .next ((s.setGroup g { x with stores := markOrd (fun b => b.doPieces [y]) a.ord x.stores }).settle g)
      | _, _ => .next s

/-! ### MONW's test (05 R158) -/

/-- Whether a MONW's word satisfies its condition. -/
def Access.monwHolds (a : Access) (t : Nat) : Bool :=
  let n := 2 ^ (8 * a.size)
  (Nat.land t (a.cmp.toNat % n) == a.val.toNat % n) != a.ne

/-- MONW_TEST: the word is read at the home or the hamper when the MONW's place in load order has come (05 R158). -/
def execMonwTest (g : GRef) (s : State) : Host.Outcome State Fault Refusal :=
  match s.group g with
  | none => .next s
  | some x =>
    match x.loads.find? isMonw with
    | none => .next s
    | some a =>
      match (x.headLoad a.stream).map (·.ord), a.pieces with
      | some o, [y] =>
        if !s.serving || o != a.ord || !a.granted || x.fenced a || a.sat || a.poison.isSome then .next s
        else
          let (t, err) := s.atomicRead g y
          let s := s.logPiece g x y
          let s := if y.space = .dev then s.llcFill y.pa false else s
          let b := match err with
            | some u => { a with poison := some ⟨u, y.va⟩ }
            | none => { a with sat := a.monwHolds t }
          .next (s.setGroup g { x with loads := markOrd (fun _ => b) a.ord x.loads })
      | _, _ => .next s

end Sys2Proof.Machine
end

