-- ==== Sys2Proof/Machine/Control.lean ====
section
/-!
DEFINITION. The control family: branches, jumps, calls and hardware loops (04 R104, R117, R125 to R128).
-/

namespace Sys2Proof.Machine

/-- BR's condition (04 R125). -/
def brTaken (c : Nat) (a : Word) : Bool :=
  match c with
  | 0 => true
  | 1 => a == 0#64
  | 2 => a != 0#64
  | 3 => a.msb
  | _ => !a.msb

/-- BR (04 R125): where it is not taken, dispatch goes on at the next bundle. -/
def execBr (x : SB) (s : State) : Host.Outcome State Fault Refusal :=
  runGroup .S (.br x) s (fun r g p =>
    if brTaken x.fn.toNat (scalarSrc r g x.sa.toNat) then { g with pc := bundleOff p.addr x.off } else g)

/-- JMP (04 R126). -/
def execJmp (x : R2) (s : State) : Host.Outcome State Fault Refusal :=
  runGroup .S (.jmp x) s (fun r g p =>
    { g.resultS p.seq x.dst.toNat (word ((p.addr + 32) % 2 ^ 56)) with pc := (scalarSrc r g x.sa.toNat).toNat })

/-- CALL (04 R116, R117). -/
def execCall (x : CallF) (s : State) : Host.Outcome State Fault Refusal :=
  runPart .S (.call x) s (fun s r g p =>
    (s.spillBurst r g).setGroup r { g with
      spill := g.spill ++ g.frame ((p.addr + 32) % 2 ^ 56)
      pc := bundleOff p.addr x.off })

/-- RET (04 R117). -/
def execRet (x : R0) (s : State) : Host.Outcome State Fault Refusal :=
  runGroup .S (.ret x) s (fun _ g _ => g.unframe)

/-- Opens a loop of n source and d drain iterations, or skips it (04 R104). -/
def Group.openLoop (g : Group) (p : Part) (n d : Nat) (off : BitVec 18) : Group :=
  let stop := bundleOff p.addr off
  if n = 0 then { g with pc := (stop + 32) % 2 ^ 56 }
  else
    let g := { g with loops := ⟨(p.addr + 32) % 2 ^ 56, stop, d, n, 0⟩ :: g.loops }
    if d = 0 then g
    else { g with p := (List.range 16).map (fun k => if k < 8 then g.p.getD k false else decide (k = 8)) }

/-- LOOP (04 R104, R127). -/
def execLoop (x : SB) (s : State) : Host.Outcome State Fault Refusal :=
  runGroup .S (.loop x) s (fun r g p => g.openLoop p (scalarSrc r g x.sa.toNat).toNat x.fn.toNat x.off)

/-- LOOPI (04 R104, R127). -/
def execLoopi (x : SB) (s : State) : Host.Outcome State Fault Refusal :=
  runGroup .S (.loopi x) s (fun _ g p => g.openLoop p x.sa.toNat x.fn.toNat x.off)

/-- LBRK (04 R128). -/
def execLbrk (x : LBrk) (s : State) : Host.Outcome State Fault Refusal :=
  runGroup .S (.lbrk x) s (fun _ g p =>
    { g with loops := g.loops.drop (x.lv.toNat + 1), pc := bundleOff p.addr x.off })

end Sys2Proof.Machine
end

