-- ==== Sys2Proof/Machine/Vector.lean ====
section
/-!
DEFINITION. The vector family (07_vector R194 to R205): one meaning for each instruction over the shared delivery of operands
and writing of results.
-/

namespace Sys2Proof.Machine

/-- The three source fields in field order, a scalar broadcast at the width of each field's elements, and the group after the
pops (02 R34, R42, 07 R189). A field that an entry does not read is 0x000 or holds no operand, and pops nothing. -/
def fetch3 (r : GRef) (g : Group) (x : VR) (wa wb : Nat) : Row × Row × Row × Group :=
  let (a, g) := fetchV r g wa x.va
  let (b, g) := fetchV r g wb x.vb
  let (c, g) := fetchV r g x.w x.vc
  (a, b, c, g)

/-- THE ISSUE OF A V PART: operands are read before the destination is written, and the result goes to vd and b0 (07 R189,
02 R40). -/
def runVw (i : Instr) (x : VR) (wa wb : Nat) (s : State) (f : GRef → Group → Row → Row → Row → VRes) :
    Host.Outcome State Fault Refusal :=
  runGroup .V i s (fun r g p =>
    let (a, b, c, g') := fetch3 r g x wa wb
    g'.resultV p.seq x.vd (f r g a b c))

/-- A V part whose operands all have the width of its type. -/
def runV (i : Instr) (x : VR) (s : State) (f : GRef → Group → Row → Row → Row → VRes) : Host.Outcome State Fault Refusal :=
  runVw i x x.w x.w s f

/-- A group field: its registers, or the one operand where G = 1 (07 R191). -/
def groupOr (g : Group) (a : Row) (f : BitVec 9) (n : Nat) : List Row := if n = 1 then [a] else groupRows g f n

/-- VADD (07 R194). -/
def execVadd (x : VR) (s : State) : Host.Outcome State Fault Refusal :=
  runV (.vadd x) x s (fun _ _ a b c => vArith .add x.sat x a b c)

/-- VSUB (07 R194). -/
def execVsub (x : VR) (s : State) : Host.Outcome State Fault Refusal :=
  runV (.vsub x) x s (fun _ _ a b c => vArith .sub x.sat x a b c)

/-- VMUL (07 R194). -/
def execVmul (x : VR) (s : State) : Host.Outcome State Fault Refusal :=
  runV (.vmul x) x s (fun _ _ a b c => vArith .mul x.sat x a b c)

/-- VMULH (07 R194). -/
def execVmulh (x : VR) (s : State) : Host.Outcome State Fault Refusal :=
  runV (.vmulh x) x s (fun _ _ a b _ => vMulh x a b)

/-- VDIV (07 R194). -/
def execVdiv (x : VR) (s : State) : Host.Outcome State Fault Refusal :=
  runV (.vdiv x) x s (fun _ _ a b c => vArith .div false x a b c)

/-- VSQRT (07 R194). -/
def execVsqrt (x : VR) (s : State) : Host.Outcome State Fault Refusal :=
  runV (.vsqrt x) x s (fun _ _ a b c => vArith .sqrt false x a b c)

/-- VMIN (07 R195). -/
def execVmin (x : VR) (s : State) : Host.Outcome State Fault Refusal :=
  runV (.vmin x) x s (fun _ _ a b _ => vMinMax false x a b)

/-- VMAX (07 R195). -/
def execVmax (x : VR) (s : State) : Host.Outcome State Fault Refusal :=
  runV (.vmax x) x s (fun _ _ a b _ => vMinMax true x a b)

/-- VABS (07 R195). -/
def execVabs (x : VR) (s : State) : Host.Outcome State Fault Refusal :=
  runV (.vabs x) x s (fun _ _ a _ _ => vAbsNeg false x a)

/-- VNEG (07 R195). -/
def execVneg (x : VR) (s : State) : Host.Outcome State Fault Refusal :=
  runV (.vneg x) x s (fun _ _ a _ _ => vAbsNeg true x a)

/-- VFMA (07 R194). -/
def execVfma (x : VR) (s : State) : Host.Outcome State Fault Refusal :=
  runV (.vfma x) x s (fun _ _ a b c => vArith .fma false x a b c)

/-- VFMS (07 R194). -/
def execVfms (x : VR) (s : State) : Host.Outcome State Fault Refusal :=
  runV (.vfms x) x s (fun _ _ a b c => vArith .fms false x a b c)

/-- VFNMA (07 R194). -/
def execVfnma (x : VR) (s : State) : Host.Outcome State Fault Refusal :=
  runV (.vfnma x) x s (fun _ _ a b c => vArith .fnma false x a b c)

/-- VAND (07 R196). -/
def execVand (x : VR) (s : State) : Host.Outcome State Fault Refusal :=
  runV (.vand x) x s (fun _ _ a b _ => vBit .and x a b)

/-- VOR (07 R196). -/
def execVor (x : VR) (s : State) : Host.Outcome State Fault Refusal :=
  runV (.vor x) x s (fun _ _ a b _ => vBit .or x a b)

/-- VXOR (07 R196). -/
def execVxor (x : VR) (s : State) : Host.Outcome State Fault Refusal :=
  runV (.vxor x) x s (fun _ _ a b _ => vBit .xor x a b)

/-- VNOT (07 R196). -/
def execVnot (x : VR) (s : State) : Host.Outcome State Fault Refusal :=
  runV (.vnot x) x s (fun _ _ a b _ => vBit .not x a b)

/-- VSHL (07 R196). -/
def execVshl (x : VR) (s : State) : Host.Outcome State Fault Refusal :=
  runV (.vshl x) x s (fun _ _ a b _ => vBit .shl x a b)

/-- VSHR (07 R196). -/
def execVshr (x : VR) (s : State) : Host.Outcome State Fault Refusal :=
  runV (.vshr x) x s (fun _ _ a b _ => vBit .shr x a b)

/-- VSAR (07 R196). -/
def execVsar (x : VR) (s : State) : Host.Outcome State Fault Refusal :=
  runV (.vsar x) x s (fun _ _ a b _ => vBit .sar x a b)

/-- VCLZ (07 R196). -/
def execVclz (x : VR) (s : State) : Host.Outcome State Fault Refusal :=
  runV (.vclz x) x s (fun _ _ a b _ => vBit .clz x a b)

/-- VPOPC (07 R196). -/
def execVpopc (x : VR) (s : State) : Host.Outcome State Fault Refusal :=
  runV (.vpopc x) x s (fun _ _ a b _ => vBit .popc x a b)

/-- VCMP (07 R197). -/
def execVcmp (x : VR) (s : State) : Host.Outcome State Fault Refusal :=
  runV (.vcmp x) x s (fun _ _ a b _ => vCmp x a b)

/-- VSEL (07 R198). -/
def execVsel (x : VR) (s : State) : Host.Outcome State Fault Refusal :=
  runV (.vsel x) x s (fun _ _ a b c => vSel x a b c)

/-- VMOV (07 R198). -/
def execVmov (x : VR) (s : State) : Host.Outcome State Fault Refusal :=
  runV (.vmov x) x s (fun _ _ a _ _ => VRes.bits a)

/-- VBCAST (07 R198). -/
def execVbcast (x : VR) (s : State) : Host.Outcome State Fault Refusal :=
  runV (.vbcast x) x s (fun r g a _ _ => vBcast x a (scalarField r g x.vb))

/-- VPERM: the group named by va is the table (07 R199). -/
def execVperm (x : VR) (s : State) : Host.Outcome State Fault Refusal :=
  runV (.vperm x) x s (fun _ g a b _ => vPerm x (groupOr g a x.va (vGroup (.vperm x)).1) b)

/-- VSHUF (07 R200). -/
def execVshuf (x : VR) (s : State) : Host.Outcome State Fault Refusal :=
  runV (.vshuf x) x s (fun _ _ a b _ => vShuf x a b)

/-- VROT (07 R198). -/
def execVrot (x : VR) (s : State) : Host.Outcome State Fault Refusal :=
  runV (.vrot x) x s (fun r g a _ _ => vRot x a (scalarField r g x.vb))

/-- VIOTA (07 R198). -/
def execViota (x : VR) (s : State) : Host.Outcome State Fault Refusal :=
  runV (.viota x) x s (fun r g _ _ _ => vIota x (scalarField r g x.va) (scalarField r g x.vb))

/-- VEXP2 (07 R201). -/
def execVexp2 (x : VR) (s : State) : Host.Outcome State Fault Refusal :=
  runV (.vexp2 x) x s (fun _ _ a _ _ => vFunc exp2F x a)

/-- VLOG2 (07 R201). -/
def execVlog2 (x : VR) (s : State) : Host.Outcome State Fault Refusal :=
  runV (.vlog2 x) x s (fun _ _ a _ _ => vFunc log2F x a)

/-- VRCP (07 R201). -/
def execVrcp (x : VR) (s : State) : Host.Outcome State Fault Refusal :=
  runV (.vrcp x) x s (fun _ _ a _ _ => vFunc rcpF x a)

/-- VRSQ (07 R201). -/
def execVrsq (x : VR) (s : State) : Host.Outcome State Fault Refusal :=
  runV (.vrsq x) x s (fun _ _ a _ _ => vFunc rsqF x a)

/-- VSIN (07 R201). -/
def execVsin (x : VR) (s : State) : Host.Outcome State Fault Refusal :=
  runV (.vsin x) x s (fun _ _ a _ _ => vFunc sinF x a)

/-- VCOS (07 R201). -/
def execVcos (x : VR) (s : State) : Host.Outcome State Fault Refusal :=
  runV (.vcos x) x s (fun _ _ a _ _ => vFunc cosF x a)

/-- VREDA (07 R202). -/
def execVreda (x : VR) (s : State) : Host.Outcome State Fault Refusal :=
  runV (.vreda x) x s (fun r g a _ _ => vReduce .add x a (scalarField r g x.vb))

/-- VREDX (07 R202). -/
def execVredx (x : VR) (s : State) : Host.Outcome State Fault Refusal :=
  runV (.vredx x) x s (fun r g a _ _ => vReduce .max x a (scalarField r g x.vb))

/-- VREDN (07 R202). -/
def execVredn (x : VR) (s : State) : Host.Outcome State Fault Refusal :=
  runV (.vredn x) x s (fun r g a _ _ => vReduce .min x a (scalarField r g x.vb))

/-- VSCAN (07 R203). -/
def execVscan (x : VR) (s : State) : Host.Outcome State Fault Refusal :=
  runV (.vscan x) x s (fun _ _ a b _ => vScan x a b)

/-- VCX: the keys are their own payload (07 R204). -/
def execVcx (x : VR) (s : State) : Host.Outcome State Fault Refusal :=
  runV (.vcx x) x s (fun _ g a _ _ =>
    let n := (vGroup (.vcx x)).1
    vCx x n (groupOr g a x.va n) (groupOr g a x.va n))

/-- VCXS: the exchanges of the keys in va, applied to vb (07 R204). -/
def execVcxs (x : VR) (s : State) : Host.Outcome State Fault Refusal :=
  runV (.vcxs x) x s (fun _ g a b _ =>
    let n := (vGroup (.vcxs x)).1
    vCx x n (groupOr g a x.va n) (groupOr g b x.vb n))

/-- VINS (07 R205). -/
def execVins (x : VR) (s : State) : Host.Outcome State Fault Refusal :=
  runV (.vins x) x s (fun _ _ a b _ => vInsert x a a (elem b x.w 0) (elem b x.w 0))

/-- VINSM (07 R205). -/
def execVinsm (x : VR) (s : State) : Host.Outcome State Fault Refusal :=
  runV (.vinsm x) x s (fun _ _ a b c => vInsert x a b (elem c x.w 0) (elem c x.w 1))

end Sys2Proof.Machine
end

