-- ==== Sys2Proof/Machine/Convert.lean ====
section
/-!
DEFINITION. The conversions of the V slot (03_numbers R92 to R99): their sources have the width of the source type.
-/

namespace Sys2Proof.Machine

/-- CVT (03 R93). -/
def execCvt (x : VR) (s : State) : Host.Outcome State Fault Refusal :=
  runVw (.cvt x) x (typeWidth x.st) x.w s (fun _ g a _ _ => vCvt x a (keptDest g x.vd))

/-- QUANT, derive (03 R94). -/
def execQuantDerive (x : VR) (s : State) : Host.Outcome State Fault Refusal :=
  runVw (.quantDerive x) x (typeWidth x.st) x.w s (fun _ _ a _ _ => vDerive x a)

/-- QUANT, apply: vb holds the scale bytes (03 R95). -/
def execQuantApply (x : VR) (s : State) : Host.Outcome State Fault Refusal :=
  runVw (.quantApply x) x (typeWidth x.st) 8 s (fun _ g a b _ => vQuant x a b (keptDest g x.vd))

/-- DQUANT: vb holds the scale bytes (03 R96). -/
def execDquant (x : VR) (s : State) : Host.Outcome State Fault Refusal :=
  runVw (.dquant x) x (typeWidth x.st) 8 s (fun _ _ a b _ => vDquant x a b)

/-- PACK (03 R97). -/
def execPack (x : VR) (s : State) : Host.Outcome State Fault Refusal :=
  runVw (.pack x) x (typeWidth x.st) (typeWidth x.st) s (fun _ _ a b _ => vPack x a b)

/-- UNPACK (03 R98). -/
def execUnpack (x : VR) (s : State) : Host.Outcome State Fault Refusal :=
  runVw (.unpack x) x (typeWidth x.st) x.w s (fun _ _ a _ _ => vUnpack x a)

end Sys2Proof.Machine
end

