-- ==== Sys2Proof/Machine/Copy.lean ====
section
/-!
DEFINITION. The copy family of the C slot (11_copy R297 to R302), and the events of the copy engines: the start of an entry (R285),
a chunk (R288), the stamp (R290), and the records of a chain (R299, R300).
-/

namespace Sys2Proof.Machine

/-! ### The C parts -/

/-- The job that a copy form enters into its channel's queue: its captured record, its start byte, its tokens (11 R298). -/
def issueCopy (s : State) (r : GRef) (g : Group) (p : Part) (x : CC) : State :=
  let ra := (g.nreg x.na.toNat).toNat
  let waits := g.consumed p.tw p.seq
  let start := copyStart g x
  let l := match s.copyRead r g ra with
    | .ok l => l
    | .stop _ => []
  let (prod, g) := g.produce p.tw p.seq
  let j : CopyJob := { CopyJob.fresh 0 (some g.gid) none g.asid x.ch.toNat .copy with
    recAddr := ra, record := l, start := start, next := start, prod := prod, waits := waits }
  ((s.setGroup r g).logCorrected r.core j ((List.range 64).map (ra + ·))).enqueueCopy r.core j

/-- CPY (11 R298). -/
def execCpy (x : CC) (s : State) : Host.Outcome State Fault Refusal := runPart .C (.cpy x) s (fun s r g p => issueCopy s r g p x)
/-- CPY2 (11 R298). -/
def execCpy2 (x : CC) (s : State) : Host.Outcome State Fault Refusal := runPart .C (.cpy2 x) s (fun s r g p => issueCopy s r g p x)
/-- CPYH (11 R298). -/
def execCpyh (x : CC) (s : State) : Host.Outcome State Fault Refusal := runPart .C (.cpyh x) s (fun s r g p => issueCopy s r g p x)
/-- CPLN (11 R298). -/
def execCpln (x : CC) (s : State) : Host.Outcome State Fault Refusal := runPart .C (.cpln x) s (fun s r g p => issueCopy s r g p x)
/-- ACCLD (11 R298). -/
def execAccld (x : CC) (s : State) : Host.Outcome State Fault Refusal := runPart .C (.accld x) s (fun s r g p => issueCopy s r g p x)
/-- ACCST (11 R298). -/
def execAccst (x : CC) (s : State) : Host.Outcome State Fault Refusal := runPart .C (.accst x) s (fun s r g p => issueCopy s r g p x)
/-- GSTEP (11 R298). -/
def execGstep (x : CC) (s : State) : Host.Outcome State Fault Refusal := runPart .C (.gstep x) s (fun s r g p => issueCopy s r g p x)

/-- CPYL: a head enters the channel's queue; with no head the group's parked chain ends, its production completes, and the
CPYL's own completes at once (11 R299). One that consumes a failed production has no effect and fails its own (08 R226). -/
def execCpyl (x : CL) (s : State) : Host.Outcome State Fault Refusal :=
  runPart .C (.cpyl x) s (fun s r g p =>
    let a := (g.nreg x.na.toNat).toNat
    let waits := g.consumed p.tw p.seq
    let failed := waits.any g.prodFailed
    let (prod, g) := g.produce p.tw p.seq
    if a ≠ 0 then
      (s.setGroup r g).enqueueCopy r.core { CopyJob.fresh 0 (some g.gid) none g.asid x.ch.toNat .chain with
        recAddr := a, prod := prod, waits := waits }
    else
      let s := s.setGroup r (g.completeProd prod failed)
      if failed then s
      else
        match ((s.core r.core).copy.parkedAt g.gid x.ch.toNat) with
        | none => s
        | some k => match (s.core r.core).copy.runs[k]? with
          | some j => (s.dropRun r.core k).finishJob j true
          | none => s)

/-- STAMP (11 R301). -/
def execStamp (x : CS) (s : State) : Host.Outcome State Fault Refusal :=
  runPart .C (.stamp x) s (fun s r g p =>
    let waits := g.consumed p.tw p.seq
    let va := (g.nreg x.na.toNat).toNat
    let seq := bits (g.nreg x.nb.toNat) 0 16
    let (prod, g) := g.produce p.tw p.seq
    (s.setGroup r g).enqueueCopy r.core { CopyJob.fresh 0 (some g.gid) none g.asid x.ch.toNat .stamp with
      recAddr := va, start := seq, prod := prod, waits := waits })

/-- The channel status of CPYQ sel 0 (11 Table 11.6). -/
def CopyEngine.status (e : CopyEngine) (id : GId) (ch : Nat) : Nat :=
  e.depth ch + (if (e.parkedAt id ch).isSome then 256 else 0) + (if e.runs.any (fun j => j.ch == ch && !j.parked) then 512 else 0)

/-- CPYQ: into an n register and no ember (11 R302). -/
def execCpyq (x : CQ) (s : State) : Host.Outcome State Fault Refusal :=
  runPart .C (.cpyq x) s (fun s r g p =>
    let e := (s.core r.core).copy
    let v := if x.sel = 0#2 then e.status g.gid x.ch.toNat
      else match e.held.find? (fun h => h.gid == g.gid && h.ch == x.ch.toNat) with
        | some h => h.addr
        | none => 0
    s.setGroup r (g.resultN p.seq x.nd.toNat (word v)))

/-! ### Starting (11 R285) -/

/-- COPY_START: the head of a channel's queue starts once the productions it consumes have completed and no chain occupies the
channel; a chain that consumes a failed production ends at once and fails its own (11 R285, R291, R299, 08 R226). -/
def execCopyStart (eng : Nat) (ch : Nat) (s : State) : Host.Outcome State Fault Refusal :=
  let e := s.engine eng
  match e.queue.find? (fun j => j.ch == ch) with
  | none => .next s
  | some j =>
    if !s.serving || e.chained ch || !s.waitsDone j.owner j.waits then .next s
    else
      let failed := s.waitsFailed j.owner j.waits
      let e := { e with queue := e.queue.filter (fun k => decide (k.id ≠ j.id)) }
      if failed && j.kind == .chain then .next ((s.setEngine eng e).finishJob j false)
      else .next (s.setEngine eng { e with runs := e.runs ++ [j.begin failed] })

/-! ### Chunks (11 R288, R289, R293, R294) -/

/-- The sequence bytes of the chunk a job comes to. -/
def CopyJob.chunk (j : CopyJob) : List Nat := (List.range (Nat.min j.xrec.len (j.next + 4096) - j.next)).map (j.next + ·)

/-- The addresses of the index words that a chunk reads (11 Table 11.2). -/
def Rec.idxVas (x : Rec) (l : List Nat) : List Nat :=
  if x.kind = cpGSTEP then ((l.map x.idxAt).dedup).flatMap (fun a => [a, a + 1, a + 2, a + 3]) else []

/-- What the chunk has read at an address. -/
def CopyJob.gotAt (j : CopyJob) (va : Nat) : Byte := match j.got.find? (fun x => x.1 == va) with
  | some x => x.2
  | none => 0#8

/-- The index words as the chunk has read them. -/
def CopyJob.idxOf (j : CopyJob) (a : Nat) : Nat := leNat ((List.range 4).map (fun i => j.gotAt (a + i)))

/-- The moves of the chunk: each byte's source and its destination (11 R287). -/
def CopyJob.moves (j : CopyJob) : List (SrcByte × Nat) := j.chunk.map (j.xrec.at j.idxOf)

/-- Of some addresses, those the chunk has still to read. -/
def CopyJob.unread (j : CopyJob) (l : List Nat) : List Nat := l.filter (fun a => !j.got.any (fun x => x.1 == a))

/-- A job stops: its stamp's STATUS and ECODE, BDONE the bytes of the chunks before. -/
def CopyJob.stopAt (j : CopyJob) (status ecode : Nat) : CopyJob := 
  { j with ended := some ⟨status, ecode, j.next⟩, got := [], puts := [], faulted := false }

/-- A chunk stops on a refused page: FAULT, ECODE 3, the address held (11 R294). -/
def State.faultChunk (s : State) (eng run : Nat) (j : CopyJob) (va : Nat) : State :=
  ((s.mapRun eng run (fun j => j.stopAt 2 3)).hold eng j va).clearRefused (engUnit eng) j.asid va 1

/-- A chunk stops on an uncorrectable error: ERROR and its ECODE, logged (11 R293). -/
def State.errorChunk (s : State) (eng run : Nat) (j : CopyJob) (ecode : Nat) (p : Poison) : State :=
  (s.mapRun eng run (fun j => j.stopAt 1 ecode)).logJob eng j p

/-- One read piece of a chunk, of those still to come: its bytes are fixed at one instant, or meet an error (11 R288, R293). -/
def State.readChunk (s : State) (eng run : Nat) (j : CopyJob) (left : List Nat) (piece : Nat) : State :=
  let w := j.on eng
  let ps := (left.map w.pieceOf).dedup
  let mine := left.filter (fun a => w.pieceOf a == ps.getD (piece % ps.length) 0)
  match mine.findSome? (s.engErr true w) with
  | some p => s.errorChunk eng run j 1 p
  | none =>
    let vals := mine.map (fun a => (a, s.engByte true w a))
    ((s.logCorrected eng j mine).engFill w j.xrec.na mine).mapRun eng run (fun j => { j with got := j.got ++ vals })

/-- A chunk with every read performed: its writes stand ready, one piece for each granule, or its merge meets an error and none is made
(11 R288, R289, R293, 14 R382; log 84). -/
def State.planChunk (s : State) (eng run : Nat) (j : CopyJob) : State :=
  let w := j.on eng
  let ws := j.moves.map (fun m => (m.2, m.1.val j.gotAt))
  match s.engMergeErr w ws with
  | some p => s.errorChunk eng run j 2 p
  | none => s.mapRun eng run (fun k => { k with
      got := []
      puts := s.putsOf w ws
      oob := k.oob || (k.xrec.kind == cpGSTEP && j.chunk.any (fun i => decide (k.xrec.kpar ≤ j.idxOf (k.xrec.idxAt i)))) })

/-- The writes of a chunk are all performed: a copy that a SNUFF has reached is cut after it, be it the last; another goes on or has ended
(11 R288, R290, 13 Table 13.7). -/
def CopyJob.chunkDone (j : CopyJob) : CopyJob :=
  let next := j.next + j.chunk.length
  { j with
    next := next
    puts := []
    ended := if j.cut.isSome then some ⟨3, 0, next⟩ else if next = j.xrec.len then some ⟨0, 0, next⟩ else none }

/-- A write piece that allocates and leaves bytes of its sector to HBM: what the fill meets is logged (05 R146, 14 R384). -/
def State.logPut (s : State) (j : CopyJob) (p : CopyPut) : State :=
  let lo := p.va / 32 * 32
  let dst := j.chunk.map (fun i => (j.xrec.at (fun _ => 0) i).2)
  if j.xrec.na || p.space != .dev || (List.range 32).all (fun i => dst.contains (lo + i)) then s
  else s.logFill j.taskOf p.pa p.va (fillReads p.pa p.whole)

/-- One write piece of a chunk, of those still to come, in no fixed order (11 R289). -/
def State.writeChunk (s : State) (eng run : Nat) (j : CopyJob) (piece : Nat) : State :=
  let i := piece % j.puts.length
  match j.puts[i]? with
  | none => s
  | some p =>
    ((s.logPut j p).putPiece (j.on eng) (!j.xrec.na) p).mapRun eng run (fun k =>
      let k := { k with puts := k.puts.eraseIdx i }
      if k.puts.isEmpty then k.chunkDone else k)

/-- A chunk waits for pages: where one is a demand fault, it runs from its start once they are translated (11 R294). -/
def State.awaitPages (s : State) (eng run : Nat) (j : CopyJob) (wr : Bool) (vas : List Nat) : State :=
  let u := engUnit eng
  if (vas.filter isGlobal).any (fun a => decide (s.translate u j.asid a wr = .miss) && !s.walkGives u j.asid a wr) then
    s.mapRun eng run (fun j => { j with faulted := true })
  else s

/-- COPY_CHUNK: one piece of the chunk that a started copy or a chain's record has come to: a read, once the pages are translated, the
index words of a GSTEP first, from the start again after a demand fault; with every read performed the writes are made ready; then a
write (11 R288, R289, R294). `run.piece` names which of the pieces still to come, which nothing orders. -/
def execCopyChunk (eng : Nat) (run : RunPiece) (s : State) : Host.Outcome State Fault Refusal :=
  match (s.engine eng).runs[run.run]? with
  | none => .next s
  | some j =>
    if !s.serving || j.kind == .stamp || !j.loaded || j.ended.isSome then .next s
    else if !j.puts.isEmpty then .next (s.writeChunk eng run.run j run.piece)
    else
      let x := j.xrec
      let ivas := x.idxVas j.chunk
      let dst := j.chunk.map (fun i => (x.at (fun _ => 0) i).2)
      match s.spanOf (engUnit eng) j.asid false ivas, s.spanOf (engUnit eng) j.asid true dst with
      | .refused a, .refused b => .next (s.faultChunk eng run.run j (Nat.min a b))
      | .refused a, _ => .next (s.faultChunk eng run.run j a)
      | _, .refused b => .next (s.faultChunk eng run.run j b)
      | .miss, _ => .next ((s.awaitPages eng run.run j false ivas).awaitPages eng run.run j true dst)
      | _, .miss => .next (s.awaitPages eng run.run j true dst)
      | .ok, .ok =>
        if !(j.unread ivas).isEmpty then .next (s.readChunk eng run.run j (j.unread ivas) run.piece)
        else
          let rds := (j.moves.flatMap (fun m => m.1.vas)).dedup
          match s.spanOf (engUnit eng) j.asid false rds with
          | .refused a => .next (s.faultChunk eng run.run j a)
          | .miss => .next (s.awaitPages eng run.run j false rds)
          | .ok =>
            if j.faulted then .next (s.mapRun eng run.run (fun j => { j with faulted := false, got := [] }))
            else if !(j.unread rds).isEmpty then .next (s.readChunk eng run.run j (j.unread rds) run.piece)
            else .next (s.planChunk eng run.run j)

/-! ### Stamps and the ends of entries (11 R290 to R292, R299, R300) -/

/-- An entry ends: its place among the started ones goes, and its share of the production completes or fails. -/
def State.endRun (s : State) (eng run : Nat) (j : CopyJob) (ok : Bool) : State := (s.dropRun eng run).finishJob j ok

/-- The write of a few bytes as one event of the engine: performed, still to be translated, or refused or in error (11 R290). -/
inductive SmallWrite where
  | miss
  | failed (s : State)
  | ok (s : State)

/-- Writes bytes that lie in one granule, for a stamp or an OWN bit. -/
def State.smallWrite (s : State) (eng : Nat) (j : CopyJob) (va : Nat) (bs : List Byte) : SmallWrite :=
  let vas := (List.range bs.length).map (va + ·)
  match s.spanOf (engUnit eng) j.asid true vas with
  | .miss => .miss
  | .refused a => .failed (s.clearRefused (engUnit eng) j.asid a 1)
  | .ok =>
    match s.engMergeErr (j.on eng) (List.zip vas bs) with
    | some p => .failed (s.logJob eng j p)
    | none => .ok (s.engWrite (j.on eng) (List.zip vas bs))

/-- After its stamp an entry ends; a chain goes on to NEXT where its record completed (11 R291, R299). -/
def State.afterStamp (s : State) (eng run : Nat) (j : CopyJob) (ok : Bool) : State :=
  let ok := ok && (match j.ended with
    | some e => e.status == 0
    | none => false)
  if j.kind = .chain ∧ ok = true ∧ j.cut = none ∧ j.xrec.next ≠ 0 then
    s.mapRun eng run (fun j => { j with
      recAddr := j.xrec.next, record := [], next := 0, loaded := false, ended := none, oob := false, got := [], puts := [], faulted := false })
  else s.endRun eng run j (ok && (j.cut.isNone || decide (j.kind ≠ .chain) || j.xrec.next == 0))

/-- The stamp of an entry whose payload and OWN write-back are done. -/
def State.stampEntry (s : State) (eng run : Nat) (j : CopyJob) (e : CopyEnd) : State :=
  let (va, seq) := j.stampAt
  if j.noStamp || (j.kind != .stamp && j.xrec.skip) then s.afterStamp eng run j true
  else
    match s.smallWrite eng j va (natLE 8 (stampWord e.status seq e.ecode e.bdone j.oob)) with
    | .miss => s
    | .failed s => (s.hold eng j va).afterStamp eng run j false
    | .ok s => s.afterStamp eng run j true

/-- COMPLETION_STAMP: a chain's record gives back its OWN bit, then the stamp is written, then the entry ends or its chain goes on
(11 R290 to R292, R299, R300; one event for both writes, log 30). -/
def execCompletionStamp (eng : Nat) (run : Nat) (s : State) : Host.Outcome State Fault Refusal :=
  match (s.engine eng).runs[run]? with
  | none => .next s
  | some j =>
    match j.ended with
    | none => .next s
    | some e =>
      let (va, _) := j.stampAt
      let stampMiss := !(j.noStamp || (j.kind != .stamp && j.xrec.skip)) &&
        decide (s.spanOf (engUnit eng) j.asid true ((List.range 8).map (va + ·)) = .miss)
      if !s.serving || stampMiss then .next s
      else if j.kind != .chain || j.keepOwn then .next (s.stampEntry eng run j e)
      else
        match s.smallWrite eng j (j.recAddr + 1) [(j.record.getD 1 0#8) &&& 0xFE#8] with
        | .miss => .next s
        | .failed s => .next ((s.hold eng j j.recAddr).afterStamp eng run j false)
        | .ok s => .next (s.stampEntry eng run j e)

/-! ### Chains (11 R299, R300) -/

/-- A chained record that fails its checks is stamped only where its own STAMPA is usable (11 R299). -/
def stampUsable (x : Rec) (b : PadBnd) : Bool :=
  !x.skip && x.stampa % 8 == 0 && !isAccWin x.stampa && (spanBad b (some (x.stampa, (x.stampa : Int) + 7))).isNone

/-- CHAIN_RECORD_READ: the chain reads its record as it reaches it: OWN = 0 parks it, a malformed record ends it, any other runs;
the read of OWN = 1 is an acquire at .p (11 R299, R300). A refused or failed read ends the chain (log 31). -/
def execChainRecordRead (eng : Nat) (run : Nat) (s : State) : Host.Outcome State Fault Refusal :=
  match (s.engine eng).runs[run]? with
  | none => .next s
  | some j =>
    if !s.serving || j.kind != .chain || j.loaded || j.parked || j.ended.isSome then .next s
    else
      match s.engRead (j.on eng) j.recAddr 64 with
      | .miss => .next s
      | .refused a => .next (((s.hold eng j a).clearRefused (engUnit eng) j.asid a 1).endRun eng run j false)
      | .bad p => .next (((s.hold eng j j.recAddr).logJob eng j p).endRun eng run j false)
      | .ok l =>
        let x := recOf l
        let s := s.logCorrected eng j ((List.range 64).map (j.recAddr + ·))
        if x.own = false then .next (s.mapRun eng run (fun j => { j with parked := true, seen := l.take 16 }))
        else
          let s := match engCore eng with
            | some c => s.inval c
            | none => s
          let w := s.jobWin j
          if chainBad x (s.engBnd (j.on eng)) w.1 w.2 then
            .next ((s.hold eng j j.recAddr).mapRun eng run (fun j => { j with
              record := l, ended := some ⟨1, 4, 0⟩, keepOwn := true, noStamp := !stampUsable x (s.engBnd (j.on eng)) }))
          else
            .next (s.mapRun eng run (fun j => { j with
              record := l, loaded := true, next := 0, ended := if x.len = 0 then some ⟨0, 0, 0⟩ else none }))

/-- CHAIN_UNPARK: a write has changed the parked record's first granule, so it is read again (11 R299). -/
def execChainUnpark (eng : Nat) (run : Nat) (s : State) : Host.Outcome State Fault Refusal :=
  match (s.engine eng).runs[run]? with
  | none => .next s
  | some j =>
    if !s.serving || !j.parked then .next s
    else
      let vas := (List.range 16).map (j.recAddr + ·)
      if s.spanOf (engUnit eng) j.asid false vas = .ok ∧ vas.map (s.engByte false (j.on eng)) ≠ j.seen then
        .next (s.mapRun eng run (fun j => { j with parked := false }))
      else .next s

end Sys2Proof.Machine
end

