-- ==== Sys2Proof/Machine/Fetch.lean ====
section
/-!
DEFINITION. Fetch, decode and dispatch of bundles, and the actions of a bundle's header (02 R31, R32, R40, 04 R105, R107,
13 R339).
-/

namespace Sys2Proof.Machine

/-! ### The instruction store (13 R337, R339) -/

/-- The image of a group's task. -/
def State.imageOf (s : State) (g : Group) : Nat := ((s.task g.gid.task).map (·.launch.image)).getD 0

/-- Whether an overlay holds the bundle at an address of an image; one in error is loaded again (14 R383). -/
def Overlay.holds (o : Overlay) (image asid pc : Nat) : Bool :=
  !o.bad && o.image == image && o.asid == asid && decide (o.base ≤ pc) && decide (pc + 32 ≤ o.base + o.bytes.length)

/-- The resident overlay that holds a group's next bundle. -/
def State.residentFor (s : State) (r : GRef) (g : Group) : Option Overlay :=
  (s.core r.core).store.find? (fun o => o.holds (s.imageOf g) g.asid g.pc)

/-- The bundle of an overlay at an address: 32 bytes, little-endian (02 R28). -/
def Overlay.bundleAt (o : Overlay) (pc : Nat) : BitVec 256 := BitVec.ofNat 256 (leNat ((o.bytes.drop (pc - o.base)).take 32))

/-- Marks an overlay fetched from: the least recently fetched are evicted first (13 R339). -/
def Core.touch (c : Core) (o : Overlay) (now : Nat) : Core :=
  { c with store := c.store.map (fun x => if x = o then { x with used := now, served := true } else x) }

/-! ### Dispatch (02 R31, R32, 04 R102) -/

/-- A bundle whose header action, or control part, must come before the next dispatch (04 R102, R105). -/
def Group.dispatchHeld (g : Group) : Bool := g.qs.any (fun p => isControl p.instr) || g.qh.any (·.le)

/-- Room in every slot queue that receives a part (02 R32). -/
def Group.queueRoom6 (g : Group) : Bool := slots.all (fun k => g.skip.getD k.num 0 != 0 || decide ((g.slotQ k).length < Config.slotDepth))

/-- Every part of every earlier bundle has issued (02 R31). -/
def Group.allIssued (g : Group) : Bool := slots.all (fun k => (g.slotQ k).isEmpty) && !g.qh.any (·.pending)

/-- Headers that have done their part, of bundles whose every part has issued, are forgotten. -/
def Group.tidy (g : Group) : Group := { g with qh := g.qh.filter (fun h => h.pending || decide (g.oldestSeq ≤ h.seq)) }

/-- The trap that a bundle raises at decode: illegal, or a v register at or above the window (02 R31). -/
def bundleTrap (win : Nat) (w : BitVec 256) : Option (Nat × Nat) :=
  match decodeBundle w with
  | .error info => some (1, info)
  | .ok b => if b.windowRegs.any (fun c => decide (win ≤ c)) then some (2, 0) else none

/-- A bundle's parts enter the slot queues, but for those that a return skips (02 R32, 04 R112). -/
def Group.dispatch (g : Group) (w : BitVec 256) (b : Bundle) : Group :=
  let full := hdrLE b.hdr || hdrPP b.hdr || isControl b.s
  let sw := b.switchPoint
  let g' := slots.foldl (fun (x : Group) k =>
    if x.skip.getD k.num 0 = 0 then x.setSlotQ k (x.slotQ k ++ [⟨g.pc, g.seq, b.hdr, b.tw, sw, full, bundlePart w k⟩])
    else { x with skip := x.skip.set k.num (x.skip.getD k.num 0 - 1) }) g
  let rot := hdrRS b.hdr && g.hskip != 0
  let p8 := match g.loops with
    | e :: _ => decide (e.index + 1 < e.count)
    | [] => false
  { g' with
    qh := if hdrRS b.hdr || hdrLE b.hdr then g.qh ++ [⟨g.pc, g.seq, hdrRS b.hdr, rot, hdrLE b.hdr, p8⟩] else g.qh
    hskip := if rot then g.hskip - 1 else g.hskip
    pc := (g.pc + 32) % 2 ^ 56
    seq := g.seq + 1 }

/-- A group that fetches: its image read, neither stopped nor ended nor cut by a SNUFF (13 R338 to R340, R345, 14 R366). -/
def Group.fetches (g : Group) : Bool := g.started && g.stop.isNone && !g.ended && !g.snuffed && !g.landed && !g.fetchHold

/-- Whether a group's next bundle can be dispatched or trap now. -/
def canDispatch (s : State) (r : GRef) (g : Group) : Bool :=
  s.serving && g.fetches && !g.dispatchHeld && g.queueRoom6 && (match s.residentFor r g with
    | some o => (bundleTrap g.win (o.bundleAt g.pc)).isNone || g.allIssued
    | none => false)

/-- BUNDLE_DECODE (02 R31, R32): the next bundle is decoded and dispatched; one that traps does so once every part of every
earlier bundle has issued. -/
def execBundleDecode (r : GRef) (s : State) : Host.Outcome State Fault Refusal :=
  match s.group r with
  | none => .next s
  | some g =>
    if !canDispatch s r g then .next s
    else
      match s.residentFor r g with
      | none => .next s
      | some o =>
        let s := s.setCore r.core ((s.core r.core).touch o s.clk)
        let w := o.bundleAt g.pc
        match bundleTrap g.win w with
        | some (code, info) => .next (trapBundle s r g code info 0 g.pc)
        | none =>
          match decodeBundle w with
          | .ok b => .next (s.setGroup r (g.tidy.dispatch w b))
          | .error _ => .next s

/-! ### Header actions (04 R105, R107) -/

/-- The rotation of the stage predicates, p8 taking a value (04 R107). -/
def rotatePreds (p8 : Bool) (l : List Bool) : List Bool :=
  (List.range 16).map (fun k => if k < 8 then l.getD k false else if k = 8 then p8 else l.getD (k - 1) false)

/-- The rotation that a header makes; predicates kept for a later bundle rotate too (04 R107, 02 R34). -/
def Group.rotated (g : Group) (h : HdrEntry) : Group :=
  { g with
    p := rotatePreds h.p8 g.p
    pOld := g.pOld.map (fun x => if h.seq < x.seq then { x with p := rotatePreds h.p8 x.p } else x) }

/-- ROTATE (04 R107). -/
def execRotate (r : GRef) (s : State) : Host.Outcome State Fault Refusal :=
  match s.group r with
  | none => .next s
  | some g =>
    match g.qh.find? g.rotateDue with
    | none => .next s
    | some h =>
      .next (s.setGroup r { g.rotated h with
        qh := g.qh.map (fun x => if x.seq = h.seq then { x with rotated := true } else x) })

/-- The loop-back or the exit of the innermost loop (04 R105). -/
def Group.loopedEnd (g : Group) : Group :=
  match g.loops with
  | [] => g
  | e :: rest =>
    if e.index + 1 < e.count + e.drain then { g with loops := { e with index := e.index + 1 } :: rest, pc := e.start }
    else { g with loops := rest, pc := (e.stop + 32) % 2 ^ 56 }

/-- LOOP_END (04 R105). -/
def execLoopEnd (r : GRef) (s : State) : Host.Outcome State Fault Refusal :=
  match s.group r with
  | none => .next s
  | some g =>
    match g.qh.find? g.loopEndDue with
    | none => .next s
    | some h => .next (s.setGroup r { g.loopedEnd with qh := g.qh.filter (fun x => decide (x.seq ≠ h.seq)) })

/-- The header actions of the bundles whose every part has issued, made at once where a trap follows (04 R105, R107, R110). -/
def Group.settleHeaders (g : Group) : Group :=
  (g.qh.filter (fun h => h.pending && decide (h.seq < g.oldestSeq))).foldl (fun (g : Group) h =>
    let g := if h.rs && !h.rotated then g.rotated h else g
    let g := if h.le then g.loopedEnd else g
    { g with qh := g.qh.filter (fun x => decide (x.seq ≠ h.seq)) }) g

/-! ### Completion (02 R40, 03 R73, 04 R100) -/

/-- An earlier part in flight pushes the stream that this one pushes (05 R138). -/
def earlierPush (g : Group) (idx : Nat) (f : InFlight) : Bool :=
  match f.push with
  | some (k, _) => (g.fly.take idx).any (fun x => match x.push with
      | some (j, _) => j == k
      | none => false)
  | none => false

/-- PART_COMPLETION (02 R40, 04 R100): a part in flight writes its result. -/
def execPartCompletion (r : GRef) (idx : Nat) (s : State) : Host.Outcome State Fault Refusal :=
  match s.group r with
  | none => .next s
  | some g =>
    match g.fly[idx]? with
    | none => .next s
    | some f =>
      if earlierPush g idx f then .next s
      else
        let g := g.complete f
        .next (s.setGroup r (match f.push with
          | some (k, _) => g.matchStore k
          | none => g))

end Sys2Proof.Machine
end

