-- ==== Sys2Proof/Machine/QueueOps.lean ====
section
/-!
DEFINITION. The command queues' shared operations (15_commands R395 to R406, 14 R448): contexts, node records, notifications, queue
events, completion words.
-/

namespace Sys2Proof.Machine

/-! ### Accesses of the front end (14 R448) -/

/-- The unit that translates for a queue: the front end of its home die. -/
def CmdQueue.unit (cq : CmdQueue) : XUnit := .die cq.home

/-- A read of the front end in the queue's address space. -/
def State.qRead (s : State) (cq : CmdQueue) (va n : Nat) : RecRead := s.homeRead cq.unit cq.pasid va n

/-- Whether the queue's context can be read and written now. -/
def State.ctxReady (s : State) (cq : CmdQueue) : Bool := decide (s.span cq.unit cq.pasid cq.ctx 64 true = .ok)

/-- Quad i of the queue's context (15 Table 15.1). -/
def State.ctxQuad (s : State) (cq : CmdQueue) (i : Nat) : Nat := s.vnat cq.unit cq.pasid (cq.ctx + 8 * i) 8

/-- Writes n bytes of the context at an offset. -/
def State.putCtx (s : State) (cq : CmdQueue) (off n v : Nat) : State :=
  s.vwrite cq.unit cq.pasid (cq.ctx + off) (natLE n v)

/-- The code of STATE (15 Table 15.1). -/
def QueueState.code : QueueState → Nat
  | .run => 0
  | .stalled => 1
  | .aborted => 2

/-- Marks a queue whose STATE is still to be written, or no longer. -/
def State.dueState (s : State) (q : Nat) (due : Bool) : State :=
  match s.queue q with
  | none => s
  | some cq => s.setQueue { cq with stateDue := due }

/-- Writes STATE into the context's top byte, which holds PASID's word's bits [63:56]; where the context cannot be written now, STATE is
due (15 R405; log 70). -/
def State.putState (s : State) (cq : CmdQueue) : State :=
  if s.ctxReady cq then (s.dueState cq.q false).putCtx cq 63 1 (cq.state.code * 16) else s.dueState cq.q true

/-- The write of a word of up to 32 bytes for a task or a node (14 R448): still to be translated, refused or in error, or done. -/
inductive WordWrite where
  | miss
  | refused (s : State)
  | ok (s : State)

/-- Writes a completion word or an ack word; a poisoned granule that it would merge into keeps its poison and the word is not
written (14 R382). -/
def State.writeWord (s : State) (u : XUnit) (asid va : Nat) (bs : List Byte) : WordWrite :=
  match s.span u asid va bs.length true with
  | .miss => .miss
  | .refused _ => .refused (s.clearRefused u asid va bs.length)
  | .ok =>
    match s.mergeErr u asid va bs.length with
    | some _ => .ok s
    | none => .ok (s.vwrite u asid va bs)

/-! ### Slots (15 R396 to R398, R404) -/

/-- The slot number of an absolute slot. -/
def CmdQueue.slotOf (cq : CmdQueue) (i : Nat) : Nat := i % cq.rs
/-- Slots counted modulo 2^32 from CONS to an absolute slot. -/
def since32 (b a : Nat) : Nat := (b + 2 ^ 32 - a) % 2 ^ 32
/-- A slot number that is live: between CONS and PROD (15 R397, R398). -/
def CmdQueue.live (cq : CmdQueue) (slot : Nat) : Bool :=
  decide (slot < cq.rs) && decide ((slot + cq.rs - cq.cons % cq.rs) % cq.rs < since32 cq.prod cq.cons)
/-- The node of a slot number. -/
def CmdQueue.node (cq : CmdQueue) (slot : Nat) : Option Node := cq.nodes.find? (fun n => n.slot == slot)
/-- Replaces a node. -/
def CmdQueue.setNode (cq : CmdQueue) (n : Node) : CmdQueue :=
  { cq with nodes := cq.nodes.map (fun m => if m.slot = n.slot then n else m) }

/-! ### Node records (15 R398, R401) -/

/-- Quad i of a node's record. -/
def Node.quad (n : Node) (i : Nat) : Nat := leNat ((n.record.drop (8 * i)).take 8)
/-- KIND. -/
def Node.kind (n : Node) : Nat := nbits (n.quad 0) 0 8
/-- PRED. -/
def Node.pred (n : Node) : Nat := nbits (n.quad 0) 16 16
/-- FSKIP. -/
def Node.fskip (n : Node) : Bool := (n.quad 0).testBit 10
/-- S. -/
def Node.serial (n : Node) : Bool := (n.quad 0).testBit 8
/-- DONEA. -/
def Node.donea (n : Node) : Nat := n.quad 5
/-- Payload quad j. -/
def Node.p (n : Node) (j : Nat) : Nat := n.quad (6 + j)

/-- The kinds of 15 Table 15.2. -/
def kLAUNCH : Nat := 1
def kCOPY : Nat := 2
def kSIGNAL : Nat := 3
def kWAIT : Nat := 4
def kLOOP : Nat := 5
def kCOND : Nat := 6
def kILAUNCH : Nat := 7
def kOUTING : Nat := 8

/-- The payload bits that a kind names (15 Table 15.3). -/
def payMasks (k : Nat) : List Nat :=
  let a := 2 ^ 56 - 1
  let w := 2 ^ 64 - 1
  if k = kLAUNCH ∨ k = kCOPY then [a]
  else if k = kSIGNAL then [a, w, 3]
  else if k = kWAIT then [a, w, w, 3]
  else if k = kLOOP then [2 ^ 32 - 1, 2 ^ 48 - 1, w, w, 15]
  else if k = kCOND then [a, w, w, 3, 2 ^ 32 - 1]
  else if k = kILAUNCH then [a, a]
  else [a, 15]

/-- The slots that a COND names besides its successors: TSLOT and FSLOT. -/
def Node.condSlots (n : Node) : List Nat := if n.kind = kCOND then [nbits (n.p 4) 0 16, nbits (n.p 4) 16 16] else []

/-- NSUCC. -/
def nsucc (n : Node) : Nat := nbits (n.quad 0) 32 16

/-- The successors in the record, and those of the array (15 Table 15.2). -/
def Node.succOf (n : Node) (ovf : List Byte) : List Nat :=
  (List.range (nsucc n)).map (fun i =>
    if i < 8 then nbits (n.quad (2 + i / 4)) (16 * (i % 4)) 16 else leNat ((ovf.drop (2 * (i - 8))).take 2))

/-- A record that breaks R398 before its successor array is read. -/
def Node.headBad (n : Node) : Bool :=
  let q := n.quad
  let ovf := q 4
  !onlyBits (q 0) (2 ^ 48 - 1 - (2 ^ 16 - 1) + 0x5FF) || n.kind == 0 || decide (8 < n.kind) || decide (1024 < nsucc n) ||
  nbits ovf 56 8 != 0 || (decide (nsucc n ≤ 8) && ovf != 0) || (decide (8 < nsucc n) && (ovf % 2 != 0 || !isGlobal ovf)) ||
  n.donea % 8 != 0 || !isGlobal n.donea ||
  (List.range 10).any (fun j => !onlyBits (n.p j) ((payMasks n.kind).getD j 0)) ||
  (n.kind == kLOOP && (nbits (n.p 4) 0 4 == 0 || decide (8 < nbits (n.p 4) 0 4)))

/-- A record whose successors or COND slots break R398 or R401. -/
def CmdQueue.succBad (cq : CmdQueue) (n : Node) (succ : List Nat) : Bool :=
  (succ ++ n.condSlots).any (fun x => !cq.live x || x == n.slot) || (match n.condSlots with
    | [a, b] => a == b
    | _ => false)

/-! ### Queue events (15 R405) -/

/-- Posts a queue event and stalls the queue until it is answered; STATE is written at once where the context can be written, whatever room
the ring has. -/
def State.raiseEvent (s : State) (q code slot addr : Nat) (w : List Byte) : State :=
  let (serial, s) := s.post q [word (0xFFFFFFFF * 2 ^ 32 + slot % 2 ^ 32), word code, 0#64, 0#64, word (addr % 2 ^ 56),
    faultPlace false false 7 255, 0#64, 0#64]
  match s.queue q with
  | none => s
  | some cq =>
    let cq' : CmdQueue := { cq with
      events := cq.events ++ [⟨code, slot, addr, serial, w⟩]
      state := if cq.state = .aborted then .aborted else .stalled }
    (s.setQueue cq').putState cq'

/-- The queue fetches and fires: STATE is RUN and it is not stalled (15 R399, R405). -/
def CmdQueue.running (cq : CmdQueue) : Bool := decide (cq.state = .run) && cq.events.isEmpty

/-! ### Notifications and firing (15 R399, R400) -/

/-- One notification reaches a slot: its node, or the slot's count until it is fetched. -/
def CmdQueue.notify (cq : CmdQueue) (slot : Nat) (o : NodeOutcome) : CmdQueue :=
  match cq.node slot with
  | none => { cq with early := cq.early ++ [(slot, o)] }
  | some n =>
    let ran := match o with
      | .done => true
      | .failed => !n.fskip
      | .skipped => false
    cq.setNode { n with
      pending := n.pending - 1
      ran := if ran then n.ran + 1 else n.ran
      skips := if ran then n.skips else n.skips + 1 }

/-- The node may fire: nothing is pending, and S holds it no more (15 R399). -/
def CmdQueue.ready (cq : CmdQueue) (n : Node) : Bool :=
  cq.running && !n.fired && n.outcome.isNone && n.result.isNone && n.pending == 0 &&
  (!n.serial || (cq.nodes.takeWhile (fun m => m.slot != n.slot)).all (fun m => m.outcome.isSome))

/-- Every notification it received was skipped (15 R400). -/
def Node.skipped (n : Node) : Bool := decide (0 < n.pred) && n.ran == 0

/-- The node of a kind that fires now. -/
def State.firing (s : State) (q slot kind : Nat) : Option (CmdQueue × Node) :=
  match s.queue q with
  | none => none
  | some cq =>
    match cq.node slot with
    | none => none
    | some n => if s.serving && cq.ready n && !n.skipped && n.kind == kind then some (cq, n) else none

/-- A node fired, its work still to end. -/
def State.fire (s : State) (cq : CmdQueue) (n : Node) : State := s.setQueue (cq.setNode { n with fired := true })

/-- A node fired whose work is done or failed. -/
def State.fireEnd (s : State) (cq : CmdQueue) (n : Node) (o : NodeOutcome) : State :=
  s.setQueue (cq.setNode { n with fired := true, result := some o })

/-- The slots of a LOOP's body. -/
def loopBody (cq : CmdQueue) (n : Node) : List Nat :=
  (List.range (nbits (n.p 1) 16 16)).map (fun i => (nbits (n.p 1) 0 16 + i) % cq.rs)

/-- A slot lies in the body of a fetched LOOP that is not final, fired or not (15 R403). -/
def CmdQueue.inLoop (cq : CmdQueue) (slot : Nat) : Bool :=
  cq.nodes.any (fun m => m.kind == kLOOP && m.slot != slot && m.outcome.isNone && (loopBody cq m).contains slot)

/-- The nodes at the front that are final leave the ring; a LOOP's body stays until the LOOP is final (15 R403, R404). -/
def CmdQueue.retireN : Nat → CmdQueue → CmdQueue
  | 0, cq => cq
  | k + 1, cq =>
    match cq.nodes with
    | n :: rest =>
      if n.outcome.isSome && !n.owned && !cq.inLoop n.slot then
        CmdQueue.retireN k { cq with nodes := rest, cons := (cq.cons + 1) % 2 ^ 32 }
      else cq
    | [] => cq

/-- Retirement (15 R404). -/
def CmdQueue.retire (cq : CmdQueue) : CmdQueue := cq.retireN cq.nodes.length

/-! ### Launching from a queue (15 R401, R402) -/

/-- What a launching node reads. -/
inductive NodeRead where
  | wait
  | fail
  | ok (b : List Byte) (counts exempt : List Nat) (guards : List Byte)
deriving DecidableEq, Repr

/-- Goes on with what a read of a launching node gave: a refusal or an error fails it (14 R448; DEDUCED for an error, log 65). -/
def RecRead.orNode (x : RecRead) (k : List Byte → NodeRead) : NodeRead :=
  match x with
  | .miss => .wait
  | .refused _ => .fail
  | .bad _ => .fail
  | .ok l => k l

/-- The counts that ILAUNCH reads at firing (15 R401). -/
def nodeCounts (rd : Nat → Nat → RecRead) (sb : Nat) : List Nat → (List (Nat × Nat) → NodeRead) → NodeRead
  | [], k => k []
  | i :: rest, k => (rd (sb + 4 * i) 4).orNode (fun b => nodeCounts rd sb rest (fun l => k ((i, leNat b) :: l)))

/-- The reads of a LAUNCH, ILAUNCH or OUTING node. -/
def State.nodeRead (s : State) (cq : CmdQueue) (n : Node) : NodeRead :=
  let rd := s.qRead cq
  let ra := n.p 0
  if ra % 256 != 0 || !isGlobal ra then .fail
  else
    (rd ra 256).orNode (fun b =>
      let zero := (List.range (recLevels b)).filter (fun i => (recCounts b).getD i 0 == 0)
      let go (l : List (Nat × Nat)) : NodeRead :=
        let counts := l.foldl (fun c x => c.set x.1 x.2) (recCounts b)
        let gb := recGuardBlock b
        if gb = 0 ∨ gb % 64 ≠ 0 ∨ !isGlobal gb then .ok b counts (l.map (·.1)) []
        else (rd gb 512).orNode (fun x => .ok b counts (l.map (·.1)) x)
      if n.kind = kILAUNCH then (if n.p 1 % 4 != 0 || !isGlobal (n.p 1) then .fail else nodeCounts rd (n.p 1) zero go)
      else go [])

/-- The refusals that a launching node's reads have met. -/
def State.clearNode (s : State) (cq : CmdQueue) (n : Node) : State :=
  ((s.clearRefused cq.unit cq.pasid (n.p 0) 256).clearRefused cq.unit cq.pasid (n.p 1) 32).clearRefused cq.unit cq.pasid
    (recGuardBlock (s.vread cq.unit cq.pasid (n.p 0) 256)) 512

/-- DIES of an OUTING is a union of 1, 2 or 4 whole partitions and holds the queue's own (15 R402). -/
def State.diesOk (s : State) (cq : CmdQueue) (m : Nat) : Bool :=
  let ps := s.partsOf m
  m != 0 && ps.all (fun x => Nat.land x m == x) && (ps.length == 1 || ps.length == 2 || ps.length == 4) &&
  Nat.land m (s.partition cq.home) == s.partition cq.home

/-- A launching node's try: the status of R328, or none where the record itself fails the node, and the launch. -/
def State.nodeStatus (s : State) (cq : CmdQueue) (n : Node) (b : List Byte) (counts exempt : List Nat) (gb : List Byte) :
    Option Nat × Launch × Nat :=
  let l := launchOf b counts gb
  let out := n.kind == kOUTING
  let mask := if out then nbits (n.p 1) 0 4 else s.partition cq.home
  let parts := (s.partsOf mask).length
  let bad := recMalformed (if out then some parts else none) exempt b l gb ||
    (out && (match l.levels with
      | x :: _ => x.domain != 1 || x.count != parts
      | [] => true))
  if l.cls < cq.cmin ∨ (out && !s.diesOk cq mask) = true then (none, l, mask)
  else (some (s.spawnStatus cq.root cq.home bad (s.unplaceable out mask l) l), l, mask)

/-- Enqueues a node's task, or fails the node; an outing that finds its class queue full is tried again (15 R401, R402). -/
def State.launchNode (s : State) (cq : CmdQueue) (n : Node) : State :=
  match s.nodeRead cq n with
  | .wait => s
  | .fail => (s.clearNode cq n).fireEnd cq n .failed
  | .ok b counts exempt gb =>
    match s.nodeStatus cq n b counts exempt gb with
    | (some 0, l, mask) =>
      let (id, s) := s.enqueue ⟨cq.pasid, .command cq.q, cq.q, some (cq.q, n.slot), cq.home, mask, n.kind == kOUTING, cq.root⟩ l
      s.setQueue (cq.setNode { n with fired := true, task := id })
    | (some 6, _, _) => if n.kind = kOUTING then s.fire cq n else s.fireEnd cq n .failed
    | (some 1, l, _) => (s.countRefused (if l.scope = 0 then cq.root else l.scope)).fireEnd cq n .failed
    | _ => s.fireEnd cq n .failed

/-! ### Addresses of SIGNAL, WAIT and COND (15 R401) -/

/-- What became of the word that a SIGNAL, WAIT or COND names: a wait for translation, FAILED, or its physical address. -/
inductive NodeWord where
  | wait
  | fail
  | at (pa : Nat)
deriving DecidableEq, Repr

/-- Translates the word; misaligned or host-backed gives FAILED, and so does a refused page (DEDUCED, log 65). -/
def State.nodeWord (s : State) (cq : CmdQueue) (n : Node) (wr : Bool) : NodeWord :=
  let va := n.p 0
  if va % 8 != 0 || !isGlobal va then .fail
  else
    match s.translate cq.unit cq.pasid va wr with
    | .miss => .wait
    | .refused => .fail
    | .hit pa host => if host then .fail else .at pa

/-- The condition of WAIT and COND: (word and mask) cond value (15 Table 15.3). -/
def nodeCond (n : Node) (w : Nat) : Bool :=
  let a := Nat.land w (n.p 1)
  let b := n.p 2
  match nbits (n.p 3) 0 2 with
  | 0 => a == b
  | 1 => a != b
  | 2 => decide (b ≤ a)
  | _ => decide (a < b)

/-! ### Loops (15 R403) -/

/-- EXIT. -/
def loopExit (n : Node) : Nat := nbits (n.p 1) 32 16
/-- The entries. -/
def loopEntries (n : Node) : List Nat :=
  (List.range (nbits (n.p 4) 0 4)).map (fun i => nbits (n.p (2 + i / 4)) (16 * (i % 4)) 16)
/-- N. -/
def loopN (n : Node) : Nat := nbits (n.p 0) 0 32

/-- A LOOP that R403 calls malformed; its live body slots are fetched. -/
def loopBad (cq : CmdQueue) (n : Node) : Bool :=
  let body := loopBody cq n
  body.contains n.slot || body.any (fun b => !cq.live b) || !body.contains (loopExit n) ||
  (loopEntries n).any (fun e => !body.contains e) ||
  body.any (fun b => match cq.node b with
    | none => false
    | some m => m.pred == 0 || m.serial || (m.succ ++ m.condSlots).any (fun x => !body.contains x))

/-- A body node re-armed (15 R403). -/
def Node.rearm (n : Node) : Node :=
  { n with ran := 0, skips := 0, pending := n.pred, fired := false, result := none, outcome := none, task := 0, iter := 0, owned := true }

/-- An iteration starts: every body slot is re-armed, then the entries are notified as ran. -/
def CmdQueue.iterate (cq : CmdQueue) (n : Node) (it : Nat) : CmdQueue :=
  let body := loopBody cq n
  let cq := { cq with nodes := cq.nodes.map (fun (m : Node) => if body.contains m.slot then m.rearm else m) }
  let cq := cq.setNode { n with fired := true, iter := it }
  (loopEntries n).foldl (fun (cq : CmdQueue) e => cq.notify e NodeOutcome.done) cq

/-- A LOOP's body is free to retire once the LOOP is final. -/
def CmdQueue.disown (cq : CmdQueue) (n : Node) : CmdQueue :=
  if n.kind = kLOOP then
    let body := loopBody cq n
    { cq with nodes := cq.nodes.map (fun (m : Node) => if body.contains m.slot then { m with owned := n.owned } else m) }
  else cq

/-! ### The end of a node (15 R399 to R401) -/

/-- Outcome codes of a completion word. -/
def NodeOutcome.code : NodeOutcome → Nat
  | .done => 0
  | .failed => 1
  | .skipped => 2

/-- The node completion word (15 R399). -/
def nodeDone (n : Node) (o : NodeOutcome) : Nat :=
  2 ^ 63 + o.code * 2 ^ 60 + (if n.kind = kLAUNCH ∨ n.kind = kILAUNCH ∨ n.kind = kOUTING then n.task % 2 ^ 32 else 0)

/-- A node is final: its successors are notified once, a COND's two slots as its condition gave, and slots retire (15 R399 to R401,
R404). A COND that failed notifies both as its other successors, and a malformed one only those that are live (DEDUCED, log 65). -/
def CmdQueue.finalNode (cq : CmdQueue) (n : Node) (o : NodeOutcome) : CmdQueue :=
  let cq : CmdQueue := (cq.setNode { n with outcome := some o, result := some o }).disown n
  let tell (cq : CmdQueue) (x : Nat) (o : NodeOutcome) : CmdQueue := if cq.live x && x != n.slot then cq.notify x o else cq
  let cq : CmdQueue := n.succ.foldl (fun (cq : CmdQueue) x => tell cq x o) cq
  let cq : CmdQueue := match n.condSlots with
    | [t, f] =>
      if o = NodeOutcome.done then
        (if n.iter = 1 then tell (tell cq t NodeOutcome.done) f NodeOutcome.skipped
         else tell (tell cq t NodeOutcome.skipped) f NodeOutcome.done)
      else tell (tell cq t o) f o
    | _ => cq
  cq.retire

end Sys2Proof.Machine
end

