-- ==== Sys2Proof/Machine/SchedOps.lean ====
section
/-!
DEFINITION. Groups as they start (02 Table 2.3, 13 R323, R329, R447).
-/

namespace Sys2Proof.Machine

/-- The trap registers of a group at its start (14 R369). -/
def TrapRegs.start : TrapRegs :=
  ⟨0, 0#64, 0, none, 0#64, 0#64, 0#64, false, List.replicate 8 0#64, none, none⟩

/-- Guard i as a group starts with it (13 R447). -/
def startGuard (l : Launch) (i : Nat) : Guard :=
  match l.guards[i]? with
  | some x => if x.set then ⟨x.lower, x.upper, x.mode, false, 0⟩ else ⟨0#64, 0#64, 0#8, false, 0⟩
  | none => ⟨0#64, 0#64, 0#8, false, 0⟩

/-- The first sequence number of a group's program order. -/
def firstSeq : Nat := 16

/-- A group as it starts (02 Table 2.3, 13 R323): its identity, window rows and launch record. -/
def Group.start (gid : GId) (asid wb spillLim : Nat) (l : Launch) : Group where
  gid := gid
  cls := l.cls
  win := l.win
  asid := asid
  n := (l.args ++ List.replicate 16 0#64).take 6 ++ List.replicate 10 0#64
  e := List.replicate 16 (.filled 0#64)
  p := true :: List.replicate 15 false
  pOld := none
  a := List.replicate 16 0#64
  f := List.replicate 8 0#64
  vregs := []
  lat := [.empty, .empty, .empty, .empty]
  held := [.empty, .empty, .empty, .empty]
  c := List.replicate 16 0
  cbuf := []
  cheld := []
  toks := []
  guards := (List.range 16).map (startGuard l)
  wicks := List.replicate 4 Wick.idle
  mcfg := 0#64
  lm := 0#4
  gm := 0#4
  budget := 0
  granted := 0
  wb := wb
  wc := l.arows
  pc := (l.image + l.entry) % 2 ^ 56
  fetchHold := false
  loops := []
  spill := []
  spillLim := spillLim
  fpflags := 0#6
  seq := firstSeq
  ids := 1
  qs := []
  qa := []
  qv := []
  qm := []
  qc := []
  qk := []
  qh := []
  skip := [0, 0, 0, 0, 0, 0]
  hskip := 0
  fly := []
  ord := 0
  loads := []
  stores := []
  ldata := List.replicate 16 []
  sdata := List.replicate 16 []
  fences := []
  trap := TrapRegs.start
  stop := none
  yielded := none
  waiters := []
  readySince := none
  promoted := false
  ended := false
  tailed := false
  preempt := false
  landed := false
  snuffed := false
  hostUnacked := []
  started := false
  lost := false
  longs := 0
  past := none

/-- SPILL.LIM of a group started on a core: 8 KiB where the core has a spill region (04 R114; log 19). -/
def spillLimit (l : Launch) : Nat := if l.bnd2 < 12288 then 8192 else 0

end Sys2Proof.Machine
end

