-- ==== Sys2Proof/Machine/Fates.lean ====
section
/-!
DEFINITION. The fates of 13 Table 13.7, which a SNUFF brings site by site and an abort brings at once (13 R345 to R347, R351, 14
R367), and where a group lands, is saved and is seated again (13 R332 to R336).
-/

namespace Sys2Proof.Machine

/-! ### A group that stops under a SNUFF (13 Table 13.7) -/

/-- Stores at hand, and atomics already sent to their home slices: what is still performed. -/
def Access.survives (a : Access) : Bool := if a.isAtomic then a.granted else a.data.isSome

/-- A group cut: no further part issues, loads are discarded, the stores at hand stay. -/
def Group.cut (g : Group) : Group :=
  { g.discard.lapse with
    snuffed := true
    stop := none
    loads := []
    ldata := List.replicate 16 []
    sdata := List.replicate 16 []
    stores := g.stores.filter Access.survives
    held := [.empty, .empty, .empty, .empty]
    lm := 0#4
    yielded := none
    waiters := []
    preempt := false
    landed := false
    trap := { g.trap with dataErr := none, rangeErr := none } }

/-- Its atomics that are performed, and those dropped. -/
def Group.cutCounts (g : Group) : Nat × Nat :=
  let l := g.stores.filter Access.isAtomic
  ((l.filter (·.granted)).length, (l.filter (fun a => !a.granted)).length)

/-- How many engine items still owe a production its completion. -/
def Core.owed (c : Core) (gid : GId) (id : Nat) : Nat :=
  (c.steps.filter (fun m => m.gid == gid && m.prod == some id)).length +
  ((c.copy.queue ++ c.copy.runs).filter (fun j => j.owner == some gid && j.prod == some id)).length

/-- The shares of productions that belong to parts never to issue complete (DEDUCED, log 58: 13 Table 13.7 lets issued steps commit). -/
def Group.settleProds (c : Core) (g : Group) : Group := { g with toks := g.toks.map (fun t => { t with left := c.owed g.gid t.id }) }

/-- A long instruction of a cut group: a BUSY one stops at its next boundary as CANCELLED, a stopped one is DROPPED (13 Table 13.7,
R340). -/
def State.cutWick (s : State) (r : GRef) (wk : Nat) : State :=
  match s.group r with
  | none => s
  | some g =>
    let w := g.wick wk
    if w.status = stBUSY then
      s.boundary r (g.setWick wk { w with seq := w.seq.map (fun q => { q with stop := .cancel, service := none }) }) wk
    else if w.stopped then s.stopWick r g wk stDROPPED 0 none
    else s

/-- Cuts the group of a slot. -/
def State.cutGroup (s : State) (r : GRef) (g : Group) : State :=
  let c := s.core r.core
  let s := (s.setCore r.core (c.unrequest r.slot)).setGroup r (g.cut.settleProds c)
  ((List.range 4).foldl (fun s k => s.cutWick r k) s).settle r

/-- The end code that a SNUFF or an abort gives a task (13 Table 13.4). -/
def Task.cancel (t : Task) (code : Nat) : Task := { t with endCode := if t.endCode = 0 ∨ code = 2 then code else t.endCode }

/-- Groups of a task that never start or whose saved state goes count as retired. -/
def State.retireUnstarted (s : State) (c task code : Nat) : State :=
  match s.task task with
  | none => s
  | some t =>
    let gone := (t.todo.filter (fun x => x.1 == c)).length + ((s.core c).saved.filter (fun g => g.gid.task == task)).length
    if gone = 0 then s
    else
      let s := s.setTask ({ t with todo := t.todo.filter (fun x => x.1 != c), left := t.left - gone }.cancel code)
      let x := s.core c
      s.setCore c { x with
        saved := x.saved.filter (fun g => g.gid.task != task)
        savedPad := x.savedPad.filter (fun p => p.task != task) }

/-- What a core's groups counted: stopped, atomics performed, atomics dropped. -/
structure CutCount where
  stopped : Nat
  performed : Nat
  dropped : Nat
deriving DecidableEq, Repr

/-- A SNUFF or an abort reaches a core: its saved groups, unstarted groups and seated groups of the tasks meet their fates; a group
that issued END retires normally (13 Table 13.7). -/
def State.cutCore (s : State) (c : Nat) (tasks : List Nat) (code : Nat) : CutCount × State :=
  let saved := ((s.core c).saved.filter (fun g => tasks.contains g.gid.task)).length
  let s := tasks.foldl (fun s t => s.retireUnstarted c t code) s
  (List.range 8).foldl (fun (x : CutCount × State) k =>
    match x.2.group ⟨c, k⟩ with
    | none => x
    | some g =>
      if !tasks.contains g.gid.task || g.ended || g.snuffed then x
      else
        let (p, d) := g.cutCounts
        let s := x.2.cutGroup ⟨c, k⟩ g
        let s := match s.task g.gid.task with
          | some t => s.setTask (t.cancel code)
          | none => s
        (⟨x.1.stopped + 1, x.1.performed + p, x.1.dropped + d⟩, s)) (⟨saved, 0, 0⟩, s)

/-! ### Copies under a SNUFF (13 Table 13.7, 11 R290, R295, R299) -/

/-- A group that issued END or TAIL before, whose work is not cut. -/
def State.endedNormally (s : State) (id : GId) : Bool :=
  match s.anyGroup id with
  | some g => g.ended && !g.snuffed
  | none => false

/-- A copy that a cut reaches. -/
def State.cutReaches (s : State) (tasks : List Nat) (j : CopyJob) : Bool :=
  match j.owner with
  | some id => tasks.contains id.task && j.cut.isNone && !s.endedNormally id
  | none => false

/-- A chain between two records, parked, or not yet started: it ends without a stamp. -/
def CopyJob.idleChain (j : CopyJob) : Bool := j.kind == .chain && (!j.loaded || j.parked) && j.ended.isNone

/-- A started entry cut: one that writes a chunk finishes it; a stamp still to write reports CANCELLED, one whose last chunk is written
stays COMPLETE. -/
def CopyJob.cutRun (id : Nat) (j : CopyJob) : CopyJob :=
  if j.puts.isEmpty then { j with cut := some id, got := [], faulted := false, ended := some (j.ended.getD ⟨3, 0, j.next⟩) } else { j with cut := some id }

/-- Whether a cut entry is counted. -/
def CopyJob.cutCounted (j : CopyJob) : Bool := j.ended.isNone || (j.kind == .chain && j.xrec.next != 0)

/-- A SNUFF or an abort reaches a channel of a copy engine: how many entries it cut, and the state. -/
def State.cutChannel (s : State) (e ch : Nat) (tasks : List Nat) (id : Nat) : Nat × State :=
  let x := s.engine e
  let hit (j : CopyJob) : Bool := j.ch == ch && s.cutReaches tasks j
  let queued := x.queue.filter hit
  let idle := (queued.filter (fun j => j.kind == .chain)) ++ (x.runs.filter (fun j => hit j && j.idleChain))
  let started := (queued.filter (fun j => j.kind != .chain)).map (fun j => { j with ended := some ⟨3, 0, if j.kind = .stamp then 0 else j.start⟩, cut := some id })
  let runs := (x.runs.filter (fun j => !(hit j && j.idleChain))).map (fun j => if hit j then j.cutRun id else j)
  let n := queued.length + (x.runs.filter (fun j => hit j && (j.idleChain || j.cutCounted))).length
  let s := s.setEngine e { x with queue := x.queue.filter (fun j => !hit j), runs := runs ++ started }
  (n, idle.foldl (fun s j => s.finishJob j false) s)

/-! ### Queued tasks and barriers (13 R345, R351) -/

/-- A SNUFF or an abort reaches a die's class queues: queued tasks are removed, to end without seating a group. -/
def State.cutQueue (s : State) (d : Nat) (tasks : List Nat) (code : Nat) : Nat × State :=
  let hit (t : Task) : Bool := tasks.contains t.id && t.home == d
  let n := (s.tasks.filter (fun t => hit t && t.state == .queued)).length
  (n, { s with tasks := s.tasks.map (fun t =>
    if hit t && t.state == .queued then { t with state := .running, left := 0, todo := [] }.cancel code
    else if hit t && t.state == .preempted then { t with state := .running }
    else t) })

/-- Releases barriers, each in one event at its home slice (13 R351). -/
def State.releaseBarriers (s : State) (l : List Nat) : State := l.foldl (fun s pa => s.setBarrier pa (barRelease (s.barrier pa))) s

/-! ### Abort (14 R367) -/

/-- ANSWER_ABORT's effect on a task: every group and engine item meets its fate, the barriers of the scopes that the task created
are released, and the task ends with END = 2. -/
def State.abortTask (s : State) (task : Nat) : State :=
  let ts := [task]
  let s := (List.range 4).foldl (fun s d => (s.cutQueue d ts 2).2) s
  let s := (List.range 160).foldl (fun s c =>
    let s := (s.cutCore c ts 2).2
    (List.range 8).foldl (fun s ch => (s.cutChannel c ch ts 0).2) s) s
  let s := s.releaseBarriers (((s.scopes.filter (fun x => x.maker == task)).flatMap (·.barriers)).dedup)
  match s.task task with
  | some t => s.setTask (t.cancel 2)
  | none => s

/-! ### Answers to stopped groups (14 R367, R368) -/

/-- The trapping part of a cause had issued already, so that a skip changes nothing (14 R367, R388). -/
def causeIssued (code : Nat) : Bool := code == 12 || code == 13

/-- An answer takes effect on a stopped group: it goes on from its stopped point, with or without the trapping part; a skip that would
carry an offset to 16 stops it again with a new record, TRAP.CAUSE and TRAP.ADDR written unless it is nested (R362); abort ends its task
(14 R367). -/
def State.applyAnswer (s : State) (r : GRef) (g : Group) (x : StopRec) (a : Answer) : State :=
  let nested := g.trap.inh
  let go (offs : List Nat) : State :=
    let g := { g with stop := none }
    s.setGroup r (if nested then g.returnNested x.base offs x.hskip x.pOld else g.returnFrom x.base offs x.hskip)
  if x.abortOnly ∨ a = .abort then s.abortTask g.gid.task
  else if a = .resume then go (skewOffs x.skew)
  else
    match returnOffs x.skew true (causeIssued x.code) with
    | some offs => go offs
    | none =>
      let outer := if nested then g.trap.cause else 0#64
      let cause := causeWord 4 0 false
      let quads := [word (g.gid.task + 4294967296 * g.gid.leaf), cause, word x.base, x.skew, 0#64,
        faultPlace (heldAny g.held) nested r.slot r.core, outer, 0#64]
      let (serial, s) := s.post x.queue quads
      s.setGroup r { g with
        stop := some { x with code := 4, serial := serial, answer := none }
        trap := if nested then g.trap else { g.trap with cause := cause, addr := 0#64 } }

/-- An answer that arrived while the group was saved takes effect once it is seated (14 R368). -/
def State.lateAnswer (s : State) (r : GRef) : State :=
  match s.group r with
  | none => s
  | some g =>
    match g.stop with
    | none => s
    | some x =>
      match x.answer with
      | none => s
      | some a => s.applyAnswer r g x a

/-! ### Landing, saving and seating again (13 R333 to R336, 14 R368) -/

/-- A group lands: the bundle's parts count as not issued and are fetched again at its resumption; a stopped group lands where it
stopped, its record kept (13 R333, 14 R368). -/
def Group.land (g : Group) : Group :=
  let g := { g.lapse with landed := true, yielded := none, waiters := [], readySince := none, promoted := false }
  if g.stop.isSome then g
  else
    let b := g.basePC
    let q := g.oldestSeq
    { (g.refetch b [0, 0, 0, 0, 0, 0] (g.rotatedFrom b)).clearLatches with seq := q }

/-- Whether a fence waits for an access of a list, by their places in order. -/
def Group.fenceWaits (g : Group) (l : List Nat) (f : Fence) : Bool :=
  (g.loads ++ g.stores).any (fun a => l.contains a.ord && (f.selects a || f.also == some a.ord ||
    (f.host && decide (a.ord < f.ord) && a.isWrite && a.pieces.any (fun y => y.space == .host))))

/-- Whether an access of a landed group cannot be performed where those of a list cannot: a store without its data, a .wl load at a dark
granule, a read with no room for its data, one behind such an access in its order, or one that a fence holds for it (05 R136, R138, R143,
06 R173). -/
def Group.heldFor (g : Group) (c : Core) (l : List Nat) (a : Access) : Bool :=
  let behind (b : Access) : Bool := b.stream == a.stream && decide (b.ord < a.ord) && l.contains b.ord
  !a.performed && (
    (a.isWrite && ((a.data.isNone && !a.isAtomic) || g.stores.any behind)) ||
    (a.isRead && (g.loads.any behind || g.stores.any (fun b => b.isRead && behind b) ||
      (a.dst == .queue && decide (Config.dataDepth ≤ (g.ldataOf a.stream).length +
        ((g.loads ++ g.stores).filter (fun b => b.stream == a.stream && b.isRead && !b.performed && b.dst == .queue && decide (b.ord < a.ord))).length)))) ||
    (a.wl && (g.stop.isSome || a.pieces.any (fun x => !x.done && !c.allLit x.pa x.len))) ||
    g.fences.any (fun f => decide (f.ord < a.ord) && f.hold.getLsbD a.stream && (f.holdLoads || a.isWrite) && g.fenceWaits l f))

/-- The accesses of a landed group that cannot be performed before it is seated again, by their places in order. -/
def Group.stuckN (g : Group) (c : Core) : Nat → List Nat → List Nat
  | 0, l => l
  | n + 1, l =>
    let k := ((g.loads ++ g.stores).filter (g.heldFor c l)).map (·.ord)
    if k = l then l else g.stuckN c n k

/-- A landed group may be written out: nothing in flight, every store and atomic performed and acknowledged but those that cannot be, its
long instructions at their boundaries, its steps committed (13 R333, R334, 09 R249, 08 R209; log 96). -/
def Core.quiet (c : Core) (g : Group) : Bool :=
  g.fly.isEmpty && g.stores.all (fun a => (g.stuckN c (g.loads.length + g.stores.length + 1) []).contains a.ord) && g.hostUnacked.isEmpty &&
  g.wicks.all (fun w => match w.seq with
    | some q => q.run.isNone && q.acks.isEmpty && (isColl w.kind || q.copies.isEmpty)
    | none => true) &&
  (c.stepsOf g.gid).isEmpty

/-- The saved addresses of a group: none holds a tag (13 R336, 05 R144). -/
def Group.stow (g : Group) : Group :=
  { g with
    preempt := false
    loads := g.loads.map (fun a => if a.performed then a else { a with granted := false })
    stores := g.stores.map (fun a => { a with granted := false }) }

/-- A wick of a group that lands, or resumes: a BUSY instruction stops at its next boundary, or continues with its block read again
(09 R249, R251). -/
def Group.haltWicks (g : Group) : Group :=
  { g with wicks := g.wicks.map (fun w => if w.status = stBUSY then
      { w with seq := w.seq.map (fun q => if q.stop = .none then { q with stop := .preempt } else q) } else w) }

/-- The BUSY instructions of a resumed group go on. -/
def Group.goWicks (g : Group) : Group :=
  { g with wicks := g.wicks.map (fun w => if w.status = stBUSY then
      { w with seq := w.seq.map (fun q =>
        if q.stop = .preempt then { w.restart q with stop := .none } else q) } else w) }

/-- The scratchpad of a core: its hamper bytes from BND0 to BND1 (13 R334). -/
def Core.padImage (c : Core) (task : Nat) : PadImage :=
  let inPad (a : Nat) : Bool := c.bnd0 * 1024 ≤ a && decide (a < c.bnd1 * 1024)
  ⟨task, c.hamper.filter (fun x => inPad x.1), c.lit.filter (fun k => inPad (16 * k)), c.padPoison.filter (fun k => inPad (16 * k)),
    c.fills.filter (fun f => inPad f.off)⟩

/-- The scratchpad as a task starts: every byte zero, every granule dark (05 R142). -/
def Core.clearPad (c : Core) : Core :=
  let inPad (a : Nat) : Bool := c.bnd0 * 1024 ≤ a && decide (a < c.bnd1 * 1024)
  { c with
    hamper := c.hamper.filter (fun x => !inPad x.1)
    lit := c.lit.filter (fun k => !inPad (16 * k))
    padPoison := c.padPoison.filter (fun k => !inPad (16 * k))
    fills := c.fills.filter (fun f => !inPad f.off) }

/-- A saved scratchpad restored (13 R336). -/
def Core.restorePad (c : Core) (p : PadImage) : Core :=
  let c := c.clearPad
  { c with
    hamper := p.bytes.foldl (fun m x => m.write x.1 x.2) c.hamper
    lit := p.lit.foldl insertNat c.lit
    padPoison := p.poison.foldl insertNat c.padPoison
    fills := c.fills ++ p.fills }

/-- Rows of the accumulator store held on a core: by seated and pre-empted groups, and by draining ones whose steps have not all
committed (13 R327, R340, R341). -/
def Core.rowsHeld (c : Core) : List (Nat × Nat) :=
  ((c.slots.filterMap id ++ c.saved ++ c.tracker.filter (fun g => !(c.stepsOf g.gid).isEmpty)).filter (fun g => g.wc != 0)).map
    (fun g => (g.wb, g.wc))

/-- Whether n rows from a base are held by none. -/
def rowsOpen (held : List (Nat × Nat)) (b n : Nat) : Bool := held.all (fun x => decide (b + n ≤ x.1 ∨ x.1 + x.2 ≤ b))

/-- Up to k windows of n rows among the rows not held, lowest first (placement changes no result, 13 R325). -/
def openWindows (held : List (Nat × Nat)) (n : Nat) : Nat → Nat → Nat → List Nat
  | 0, _, _ => []
  | fuel + 1, k, b =>
    if k = 0 ∨ 256 < b + n then []
    else if rowsOpen held b n then b :: openWindows held n fuel (k - 1) (b + n)
    else openWindows held n fuel k (b + 1)

/-- The windows of rows that k groups of a launch may have on a core (13 R325, R327). -/
def Core.windowsFor (c : Core) (l : Launch) (k : Nat) : List Nat :=
  if l.arows = 0 then List.replicate k 0 else openWindows c.rowsHeld l.arows 257 k 0

/-- A window reserved for the core's task that no group holds (13 R325). -/
def Core.freeRows (c : Core) (n : Nat) : Option Nat := c.rows.find? (fun b => rowsOpen c.rowsHeld b n)

/-- The rows that a task needs of a core fit beside those held there (13 R327; each window in one piece, log 28). -/
def Core.rowsFit (c : Core) (l : Launch) : Bool := (c.windowsFor l l.seats).length == l.seats

/-- A core with no task and no group on it. -/
def Core.vacant (c : Core) : Bool := c.task.isNone && c.slots.all (·.isNone)

/-- A core may seat a task: in service, no task on it, rows enough (13 R327). -/
def State.coreFree (s : State) (l : Launch) (c : Nat) : Bool := s.coreIn c && (s.core c).vacant && (s.core c).rowsFit l

/-! ### The order of admission (13 R324 to R326, R331) -/

/-- The place of a waiting task ahead of the deadline order: a task for which cores of its class were taken, then the pre-empted tasks, then
all others (13 R324, R331, R332, 20 R433; log 28). -/
def State.rank (s : State) (t : Task) : Nat :=
  if t.state = .queued ∧ t.victims.any (fun v => (s.task v).any (fun x => x.state == .preempted && x.launch.cls == t.launch.cls)) then 0
  else if t.state = .preempted then 1
  else 2

/-- R324's order within a class: pre-empted tasks ahead of the deadline order, then the deadline, then the enqueueing; no cycle of tasks,
each before the next, can stand in it. -/
def State.before (s : State) (a b : Task) : Bool :=
  let dl (t : Task) : Nat := (t.deadline).getD (2 ^ 80)
  decide (s.rank a < s.rank b) || (s.rank a == s.rank b &&
    (decide (dl a < dl b) || (dl a == dl b && decide (a.order < b.order))))

/-- A task's scope is live, and neither it nor one above it is snuffed (13 R345). -/
def State.scopeOk (s : State) (t : Task) : Bool := (s.scope t.scope).isSome && !s.inSnuffed t.scope

/-- A task that waits for admission, or to be seated again (13 R324, R332). -/
def State.waits (s : State) (x : Task) : Bool := (x.state == .queued || x.state == .preempted) && s.scopeOk x

/-- An earlier task of its queue holds a task back: one that still waits, or, with SER, one that has not ended (13 R324, R326). -/
def State.queueHeld (s : State) (t : Task) : Bool :=
  t.state == .queued && s.tasks.any (fun x => x.id != t.id && x.queue == t.queue && decide (x.order < t.order) &&
    ((x.state == .queued && s.scopeOk x) || (t.launch.ser && x.state != .ended)))

/-- Two tasks stand in one order of admission: of one home die, or an outing that names a partition of the other (13 R324, 15 R402). -/
def Task.meets (a b : Task) : Bool := a.home == b.home || ((a.outing || b.outing) && Nat.land a.dies b.dies != 0)

/-- No task stands before it in its class, nor an earlier one of its queue, nor one whose cores it gave (13 R324 to R326, R332). Passed over
are tasks of a snuffed scope, which are never admitted (R345), and those that their queue holds back (DEDUCED, log 28). -/
def State.mayAdmit (s : State) (t : Task) : Bool :=
  s.scopeOk t && !s.queueHeld t &&
  !s.tasks.any (fun x => x.id != t.id && s.waits x && !s.queueHeld x &&
    ((x.meets t && x.launch.cls == t.launch.cls && s.before x t) || x.victims.contains t.id))

/-- A task of a lower class number in the same order that could be placed, or take back a core, now is considered first (13 R324). -/
def State.classFirst (s : State) (t : Task) : Bool :=
  !s.tasks.any (fun x => x.meets t && decide (x.launch.cls < t.launch.cls) && s.mayAdmit x && (match x.state with
    | .queued => s.placeable x.outing x.dies x.launch (s.coreFree x.launch)
    | .preempted => s.cores.any (fun c => c.task.isNone && c.savedPad.any (fun p => p.task == x.id))
    | _ => false))

/-! ### Placement (13 R322, R325) -/

/-- The mixed-radix digits of an instance number under the counts of the levels above the groups, outermost first. -/
def instDigits : List Level → Nat → List Nat
  | [], _ => []
  | l :: rest, i => let n := (rest.map (·.count)).prod; (i / n) % Nat.max 1 l.count :: instDigits rest i

/-- A choice of cores, one for each core instance in ascending leaf order, obeys the levels: instances of a level share its unit
exactly where they share their indices down to it; an outing's partitions come in ascending die order (13 R322, R325, 15 R402). -/
def State.placeOk (s : State) (t : Task) (place : List Nat) : Bool :=
  let l := t.launch
  let hw := l.levels.dropLast
  let at_ (i : Nat) : Nat := place.getD i 0
  place.length == (if l.groups = 0 then 0 else l.instances) && place.all (fun c => t.dies.testBit (dieOf c) && s.coreFree l c) &&
  (place.dedup).length == place.length &&
  (List.range place.length).all (fun i => (List.range place.length).all (fun j =>
    (List.range hw.length).all (fun k =>
      let d := (hw.getD k ⟨0, 0, 0⟩).domain
      d ≤ 1 || (((instDigits hw i).take (k + 1) == (instDigits hw j).take (k + 1)) == (unitNo d (at_ i) == unitNo d (at_ j)))))) &&
  (!t.outing || (List.range place.length).all (fun i =>
    s.partition (dieOf (at_ i)) == (s.partsOf t.dies).getD ((instDigits hw i).headD 0) 0))

end Sys2Proof.Machine
end

