-- ==== Sys2Proof/Machine/FrontEnd.lean ====
section
/-!
DEFINITION. The front end's events (15_commands R396 to R406, R449): producer indices, record fetches, the node kinds, the end of a
node, queue events, and the host's queue commands.
-/

namespace Sys2Proof.Machine

/-! ### Fetching (15 R397, R398, R399) -/

/-- PROD_UPDATE: the front end reads PROD as an acquire at .x and checks it against CONS and against the slots it has fetched; one
that fails is not used, and posts queue event 4 (15 R397). -/
def execProdUpdate (q : Nat) (s : State) : Host.Outcome State Fault Refusal :=
  match s.queue q with
  | none => .next s
  | some cq =>
    if !s.serving || !cq.running || !s.ctxReady cq then .next s
    else
      let prod := s.ctxQuad cq 1 % 2 ^ 32
      if since32 prod cq.cons ≤ cq.rs ∧ since32 prod cq.fetched ≤ cq.rs then .next (s.setQueue { cq with prod := prod })
      else .next (s.raiseEvent q 4 (cq.slotOf cq.fetched) cq.ctx [])

/-- A node as its record is fetched: notifications that came before count already (15 R399). -/
def CmdQueue.arm (cq : CmdQueue) (slot : Nat) (b : List Byte) (succ : List Nat) : CmdQueue :=
  let n : Node := {
    slot := slot
    record := b
    succ := succ
    ran := 0
    skips := 0
    pending := 0
    fired := false
    result := none
    outcome := none
    task := 0
    iter := 0
    owned := false }
  let cq : CmdQueue := { cq with
    nodes := cq.nodes ++ [{ n with pending := n.pred }]
    fetched := (cq.fetched + 1) % 2 ^ 32
    early := cq.early.filter (fun x => x.1 != slot) }
  cq

/-- The notifications a slot received before its record was fetched. -/
def CmdQueue.earlyAt (cq : CmdQueue) (slot : Nat) : List NodeOutcome := (cq.early.filter (fun x => x.1 == slot)).map (·.2)

/-- Arms a node and gives it its earlier notifications. -/
def CmdQueue.armed (cq : CmdQueue) (slot : Nat) (b : List Byte) (succ : List Nat) : CmdQueue :=
  (cq.earlyAt slot).foldl (fun (x : CmdQueue) o => x.notify slot o) (cq.arm slot b succ)

/-- A malformed record: its slot holds a node that does not fire while queue event 3 waits, and is SKIPPED, or discarded, by its answer (15
Table 15.4). -/
def State.malformedNode (s : State) (cq : CmdQueue) (slot va : Nat) (b : List Byte) (succ : List Nat) : State :=
  let good := succ.filter (fun x => cq.live x && x != slot)
  (s.setQueue (cq.armed slot b good)).raiseEvent cq.q 3 slot va []

/-- An uncorrectable error that the front end met: the unit is lamp-tested (14 R384, R385), and queue event 2 is posted. -/
def State.fetchError (s : State) (cq : CmdQueue) (slot : Nat) (p : Poison) : State :=
  let s := match s.physical cq.unit cq.pasid p.addr with
    | some (pa, _) => s.logError 0 ⟨p.addr, homeSlice pa, 0xFF, 0, 1, p.unit⟩ (memUnit pa p.unit)
    | none => s
  s.raiseEvent cq.q 2 slot p.addr []

/-- A queue has a record to fetch (15 R397, R405). -/
def CmdQueue.fetches (cq : CmdQueue) : Bool := cq.running && cq.fetched != cq.prod

/-- The fetcher's turn is a queue's: it serves round-robin the queues that have a record to fetch (15 R405). -/
def State.fetchTurn (s : State) (q : Nat) : Bool :=
  let key (k : Nat) : Nat := (k + 4095 - s.fetchRR) % 4096
  !s.queues.any (fun x => x.fetches && decide (key x.q < key q))

/-- A successor array that can be read: what the record itself gets wrong leaves it its address (15 R398). -/
def Node.arrayAt (n : Node) : Bool := decide (8 < nsucc n) && n.quad 4 % 2 == 0 && isGlobal (n.quad 4)

/-- RECORD_FETCH: in its turn, the front end reads the next slot's record, then its successor array, checks them and arms the node (15
R397 to R399, R405); a refusal, an error or a malformed record posts its queue event (15 Table 15.4). -/
def execRecordFetch (q : Nat) (s : State) : Host.Outcome State Fault Refusal :=
  match s.queue q with
  | none => .next s
  | some cq =>
    if !s.serving || !cq.fetches || !s.fetchTurn q then .next s
    else
      let s := { s with fetchRR := q }
      let slot := cq.slotOf cq.fetched
      let va := cq.ring + 128 * slot
      match s.qRead cq va 128 with
      | .miss => .next s
      | .refused a => .next ((s.clearRefused cq.unit cq.pasid va 128).raiseEvent q 1 slot a [])
      | .bad p => .next (s.fetchError cq slot p)
      | .ok b =>
        let n : Node := ⟨slot, b, [], 0, 0, 0, false, none, none, 0, 0, false⟩
        if n.headBad && !n.arrayAt then .next (s.malformedNode cq slot va b ((n.succOf []).take 8))
        else
          let len := 2 * (nsucc n - 8)
          match s.qRead cq (n.quad 4) len with
          | .miss => .next s
          | .refused a => .next ((s.clearRefused cq.unit cq.pasid (n.quad 4) len).raiseEvent q 1 slot a [])
          | .bad p => .next (s.fetchError cq slot p)
          | .ok ovf =>
            let succ := n.succOf ovf
            if n.headBad || cq.succBad n succ then .next (s.malformedNode cq slot va b succ)
            else .next (s.setQueue (cq.armed slot b succ))

/-! ### The end of a node (15 R399, R400, R404) -/

/-- The outcome that a node has come to: its work's, or SKIPPED where it fires with only skipped notifications (15 R400). -/
def CmdQueue.cameTo (cq : CmdQueue) (n : Node) : Option NodeOutcome :=
  if n.outcome.isSome then none
  else match n.result with
    | some o => some o
    | none => if cq.ready n && n.skipped then some .skipped else none

/-- A node becomes final: CONS follows the slots that retire. -/
def State.finishNode (s : State) (q slot : Nat) (o : NodeOutcome) : State :=
  match s.queue q with
  | none => s
  | some cq =>
    match cq.node slot with
    | none => s
    | some n =>
      let cq := cq.finalNode n o
      (s.setQueue cq).putCtx cq 16 4 cq.cons

/-- NODE_FINAL: a node's outcome stands; its completion word is written as a release at .x, its successors are notified, and slots
retire (15 R399, R400, R404). A refused completion word posts queue event 5 (14 R448). -/
def execNodeFinal (q : Nat) (slot : Nat) (s : State) : Host.Outcome State Fault Refusal :=
  match s.queue q with
  | none => .next s
  | some cq =>
    match cq.node slot with
    | none => .next s
    | some n =>
      match cq.cameTo n with
      | none => .next s
      | some o =>
        if !s.serving || !s.ctxReady cq then .next s
        else if n.donea = 0 ∨ n.donea % 8 ≠ 0 ∨ !isGlobal n.donea then .next (s.finishNode q slot o)
        else
          let bs := natLE 8 (nodeDone n o)
          match s.writeWord cq.unit cq.pasid n.donea bs with
          | .miss => .next s
          | .refused s => .next ((s.finishNode q slot o).raiseEvent q 5 slot n.donea bs)
          | .ok s => .next (s.finishNode q slot o)

/-! ### Launches (15 R401, R402) -/

/-- LAUNCH (15 R401): enqueued as SPAWN of 13 R354. -/
def execLaunch (q : Nat) (slot : Nat) (s : State) : Host.Outcome State Fault Refusal :=
  match s.firing q slot kLAUNCH with
  | some (cq, n) => .next (s.launchNode cq n)
  | none => .next s

/-- ILAUNCH (15 R401): as SPAWNI, the counts read at firing. -/
def execIlaunch (q : Nat) (slot : Nat) (s : State) : Host.Outcome State Fault Refusal :=
  match s.firing q slot kILAUNCH with
  | some (cq, n) => .next (s.launchNode cq n)
  | none => .next s

/-- OUTING (15 R402): one task over several partitions. -/
def execOuting (q : Nat) (slot : Nat) (s : State) : Host.Outcome State Fault Refusal :=
  match s.firing q slot kOUTING with
  | some (cq, n) => .next (s.launchNode cq n)
  | none => .next s

/-- OUTING_RETRY (15 R402): an outing that fired and is not yet a task is tried again. -/
def execOutingRetry (q : Nat) (slot : Nat) (s : State) : Host.Outcome State Fault Refusal :=
  match s.queue q with
  | none => .next s
  | some cq =>
    match cq.node slot with
    | none => .next s
    | some n =>
      if s.serving && n.kind == kOUTING && n.fired && n.task == 0 && n.result.isNone && n.outcome.isNone then .next (s.launchNode cq n)
      else .next s

/-! ### Copies (15 R401) -/

/-- The copy engine of the front end of a die. -/
def frontEngine (die : Nat) : Nat := 160 + die

/-- COPY_NODE: the record runs under 11 R298 on a front-end channel of the home die; one that fails its checks, or whose read is
refused, gives FAILED and writes no stamp (15 R401, 14 R448). -/
def execCopyNode (q : Nat) (slot : Nat) (s : State) : Host.Outcome State Fault Refusal :=
  match s.firing q slot kCOPY with
  | none => .next s
  | some (cq, n) =>
    let ra := n.p 0
    let e := frontEngine cq.home
    if ra % 64 != 0 || !isGlobal ra then .next (s.fireEnd cq n .failed)
    else
      match s.engRead ⟨e, cq.pasid, 0, engUnit e⟩ ra 64 with
      | .miss => .next s
      | .refused _ => .next ((s.clearRefused (engUnit e) cq.pasid ra 64).fireEnd cq n .failed)
      | .bad _ => .next (s.fireEnd cq n .failed)
      | .ok b =>
        let x := recOf b
        if (x.kind ≠ cpCPY ∧ x.kind ≠ cpCPY2 ∧ x.kind ≠ cpCPYH) ∨ recVerdict x.kind x none 0 0 ≠ .go then .next (s.fireEnd cq n .failed)
        else if 16 ≤ (s.engine e).depth (slot % 4) then .next s
        else
          .next ((s.fire cq n).enqueueCopy e { CopyJob.fresh 0 none (some (q, slot)) cq.pasid (slot % 4) .copy with
            recAddr := ra, record := b })

/-! ### Signals, waits and conditions (15 R401) -/

/-- The bytes of an aligned 8-byte word at a physical address. -/
def State.quadAt (s : State) (pa : Nat) : Nat := leNat (s.mem.readN pa 8)

/-- A SIGNAL's write or atomic at the home slice; on a poisoned granule it is not performed, and is acknowledged (14 R382). -/
def State.signal (s : State) (cq : CmdQueue) (n : Node) (f : Nat → Nat → Nat) : State :=
  match s.nodeWord cq n true with
  | .wait => s
  | .fail => (s.clearRefused cq.unit cq.pasid (n.p 0) 8).fireEnd cq n .failed
  | .at pa =>
    match s.readErr pa with
    | .bad _ => s.fireEnd cq n .done
    | _ => (s.putGranule pa false (natLE 8 (f (s.quadAt pa) (n.p 1)))).fireEnd cq n .done

/-- OP of a SIGNAL. -/
def Node.op (n : Node) : Nat := nbits (n.p 2) 0 2

/-- SIGNAL_STORE: op 0 stores the value; op 3 gives FAILED (15 R401). -/
def execSignalStore (q : Nat) (slot : Nat) (s : State) : Host.Outcome State Fault Refusal :=
  match s.firing q slot kSIGNAL with
  | none => .next s
  | some (cq, n) =>
    if n.op = 0 then .next (s.signal cq n (fun _ v => v))
    else if n.op = 3 then .next (s.fireEnd cq n .failed)
    else .next s

/-- SIGNAL_ADD: op 1, an atomic add .n64 (15 R401). -/
def execSignalAdd (q : Nat) (slot : Nat) (s : State) : Host.Outcome State Fault Refusal :=
  match s.firing q slot kSIGNAL with
  | none => .next s
  | some (cq, n) => if n.op = 1 then .next (s.signal cq n (fun w v => (w + v) % 2 ^ 64)) else .next s

/-- SIGNAL_OR: op 2, an atomic or (15 R401). -/
def execSignalOr (q : Nat) (slot : Nat) (s : State) : Host.Outcome State Fault Refusal :=
  match s.firing q slot kSIGNAL with
  | none => .next s
  | some (cq, n) => if n.op = 2 then .next (s.signal cq n (fun w v => Nat.lor w v)) else .next s

/-- The word that a WAIT or a COND reads, once its read of the home slice is possible (15 R401); an error gives FAILED (DEDUCED, log 65). -/
inductive WordRead where
  | wait
  | fail
  | ok (w : Nat)
deriving DecidableEq, Repr

/-- Reads the word of a WAIT or a COND. -/
def State.nodeValue (s : State) (cq : CmdQueue) (n : Node) : WordRead :=
  match s.nodeWord cq n false with
  | .wait => .wait
  | .fail => .fail
  | .at pa =>
    match s.readErr pa with
    | .bad _ => .fail
    | _ => .ok (s.quadAt pa)

/-- WAIT_NODE: the node fires; its word is then read again until its condition holds (15 R401). -/
def execWaitNode (q : Nat) (slot : Nat) (s : State) : Host.Outcome State Fault Refusal :=
  match s.firing q slot kWAIT with
  | none => .next s
  | some (cq, n) =>
    match s.nodeValue cq n with
    | .wait => .next s
    | .fail => .next ((s.clearRefused cq.unit cq.pasid (n.p 0) 8).fireEnd cq n .failed)
    | .ok _ => .next (s.fire cq n)

/-- WAIT_SATISFIED: a fired WAIT's condition holds; it acquires at .x (15 R401, 05 R158). -/
def execWaitSatisfied (q : Nat) (slot : Nat) (s : State) : Host.Outcome State Fault Refusal :=
  match s.queue q with
  | none => .next s
  | some cq =>
    match cq.node slot with
    | none => .next s
    | some n =>
      if !s.serving || n.kind != kWAIT || !n.fired || n.result.isSome || n.outcome.isSome || cq.events.any (fun x => x.code == 3 && x.slot == slot)
      then .next s
      else match s.nodeValue cq n with
        | .wait => .next s
        | .fail => .next ((s.clearRefused cq.unit cq.pasid (n.p 0) 8).fireEnd cq n .failed)
        | .ok w => if nodeCond n w then .next (s.fireEnd cq n .done) else .next s

/-- COND_NODE: the word is read once; the node is final at once, TSLOT and FSLOT notified as its condition gave (15 R401). -/
def execCondNode (q : Nat) (slot : Nat) (s : State) : Host.Outcome State Fault Refusal :=
  match s.firing q slot kCOND with
  | none => .next s
  | some (cq, n) =>
    match s.nodeValue cq n with
    | .wait => .next s
    | .fail => .next ((s.clearRefused cq.unit cq.pasid (n.p 0) 8).fireEnd cq n .failed)
    | .ok w => .next (s.fireEnd cq { n with iter := if nodeCond n w then 1 else 2 } .done)

/-! ### Loops (15 R403) -/

/-- LOOP_NODE: once its body is fetched, a malformed LOOP posts queue event 3; with N = 0 it is DONE at once; else its first
iteration starts (15 R403). -/
def execLoopNode (q : Nat) (slot : Nat) (s : State) : Host.Outcome State Fault Refusal :=
  match s.firing q slot kLOOP with
  | none => .next s
  | some (cq, n) =>
    if loopBad cq n then .next ((s.fire cq n).raiseEvent q 3 slot (cq.ring + 128 * slot) [])
    else if (loopBody cq n).any (fun b => (cq.node b).isNone) then .next s
    else if loopN n = 0 then .next (s.fireEnd cq n .done)
    else .next (s.setQueue (cq.iterate n 0))

/-- LOOP_ITERATION: EXIT is final; the next iteration starts, or the LOOP is DONE (15 R403). -/
def execLoopIteration (q : Nat) (slot : Nat) (s : State) : Host.Outcome State Fault Refusal :=
  match s.queue q with
  | none => .next s
  | some cq =>
    match cq.node slot with
    | none => .next s
    | some n =>
      let exitFinal := match cq.node (loopExit n) with
        | some m => m.outcome.isSome
        | none => false
      if !s.serving || n.kind != kLOOP || !n.fired || n.result.isSome || n.outcome.isSome || !exitFinal ||
          cq.events.any (fun x => x.code == 3 && x.slot == slot) then .next s
      else if n.iter + 1 < loopN n then .next (s.setQueue (cq.iterate n (n.iter + 1)))
      else .next (s.fireEnd cq n .done)

/-! ### Exception rings (15 R405) -/

/-- Writes a record of 8 quads, its SERIAL and TIME filled (14 Table 14.3). -/
def State.putPosting (s : State) (cq : CmdQueue) (va : Nat) (p : Posting) : State :=
  let q (i : Nat) : Nat := (p.quads.getD i 0#64).toNat
  s.vwrite cq.unit cq.pasid va ((List.range 8).flatMap (fun i =>
    natLE 8 (if i = 5 then q 5 + p.serial % 2 ^ 32 * 2 ^ 32 else if i = 7 then s.clk % 2 ^ 64 else q i)))

/-- QUEUE_EVENT_POST: a STATE that could not be written when it changed is written first, whatever room the ring has; then the oldest
record waiting is written to the exception ring once there is room, EQP is advanced and STATE is written (15 R405, 14 R366). -/
def execQueueEventPost (q : Nat) (s : State) : Host.Outcome State Fault Refusal :=
  match s.queue q with
  | none => .next s
  | some cq =>
    if s.serving && s.ctxReady cq && cq.stateDue then .next (s.putState cq)
    else
    match cq.posts with
    | [] => .next s
    | p :: rest =>
      let va := cq.ering + 64 * (cq.eqp % cq.ers)
      if !s.serving || !s.ctxReady cq then .next s
      else if cq.ers ≤ since32 cq.eqp (s.ctxQuad cq 4 / 2 ^ 32 % 2 ^ 32) then .next s
      else
        match s.span cq.unit cq.pasid va 64 true with
        | .miss => .next s
        | .refused _ => .next (s.clearRefused cq.unit cq.pasid va 64)
        | .ok =>
          let cq' : CmdQueue := { cq with posts := rest, eqp := (cq.eqp + 1) % 2 ^ 32 }
          let s := (s.putPosting cq va p).setQueue cq'
          .next ((s.putCtx cq' 32 4 cq'.eqp).putState cq')

/-! ### Queue commands (15 R449, 22 Table 22.3) -/

/-- A refused management write: it changes nothing and sets PERR (22 R446). -/
def State.refuseWrite (s : State) : State := { s with plat := { s.plat with perr := true } }
/-- An access outside the phase's reach: it counts in DENY (22 R442). -/
def State.denied (s : State) : State := { s with plat := { s.plat with deny := Nat.min (s.plat.deny + 1) 0xFFFF } }
/-- QCMD after an operation: the value written, with DONE (15 R449). -/
def State.qDone (s : State) (val : Word) : State := { s with plat := { s.plat with qcmd := word (bits val 0 16 + 2 ^ 63) } }

/-- Bits that a queue context names (15 Table 15.1). -/
def ctxMasks : List Nat :=
  [2 ^ 60 - 1, 2 ^ 32 - 1, 2 ^ 32 - 1, 2 ^ 60 - 1, 2 ^ 64 - 1, (2 ^ 32 - 1) * 2 ^ 32 + 7, (2 ^ 32 - 1) * 2 ^ 32 + 255, 15 * 2 ^ 60 + 1048575]

/-- A context that breaks R396; `x` holds its quads. -/
def State.ctxBad (s : State) (x : List Nat) : Bool :=
  let q (i : Nat) : Nat := x.getD i 0
  (List.range 8).any (fun i => !onlyBits (q i) (ctxMasks.getD i 0)) ||
  decide (12 < nbits (q 0) 56 4) || decide (8 < nbits (q 3) 56 4) || nbits (q 0) 0 12 != 0 || nbits (q 3) 0 12 != 0 ||
  !isGlobal (nbits (q 0) 0 56) || !isGlobal (nbits (q 3) 0 56) || nbits (q 6) 0 4 != s.partition (nbits (q 6) 4 2)

/-- The quads of a context as a die reads it in an address space. -/
def State.ctxQuads (s : State) (d asid ctx : Nat) : List Nat := (List.range 8).map (fun i => s.vnat (.die d) asid (ctx + 8 * i) 8)

/-- A queue as its context describes it, with nothing fetched (15 R396). -/
def queueOf (q ctx root serial : Nat) (x : List Nat) (cons : Nat) (posts : List Posting) : CmdQueue :=
  let w (i : Nat) : Nat := x.getD i 0
  { q := q
    ctx := ctx
    ring := nbits (w 0) 0 56
    rs := 16 * 2 ^ nbits (w 0) 56 4
    ering := nbits (w 3) 0 56
    ers := 16 * 2 ^ nbits (w 3) 56 4
    pasid := nbits (w 7) 0 20
    cmin := nbits (w 6) 6 2
    home := nbits (w 6) 4 2
    pmask := nbits (w 6) 0 4
    root := root
    state := .run
    stateDue := false
    fetched := cons
    cons := cons
    prod := cons
    eqp := nbits (w 4) 0 32
    serial := serial
    events := []
    posts := posts
    nodes := []
    early := [] }

/-- The places where a context may be read: the address spaces that some die has a root for (DEDUCED, log 62: the context names both). -/
def State.ctxPlaces (s : State) : List (Nat × Nat) := (List.range 4).flatMap (fun d => ((s.die d).roots.map (·.asid)).map (fun a => (d, a)))

/-- A place whose context names it: its own address space and home die. -/
def State.ctxNamed (s : State) (ctx : Nat) (p : Nat × Nat) : Bool :=
  decide (s.span (.die p.1) p.2 ctx 64 true = .ok) &&
  (let x := s.ctxQuads p.1 p.2 ctx; nbits (x.getD 7 0) 0 20 == p.2 && nbits (x.getD 6 0) 4 2 == p.1)

/-- A place whose translation is still to come. -/
def State.ctxWaits (s : State) (ctx : Nat) (p : Nat × Nat) : Bool :=
  (match s.walk p.1 p.2 ctx with
    | .leaf _ => true
    | _ => false) && decide (s.span (.die p.1) p.2 ctx 64 true = .miss)

/-- A queue command: outside READY it is denied (22 R442); a value with another op, or none of a queue in use, is refused. -/
def State.command (s : State) (val : Word) (op : Nat) (k : Nat → Option CmdQueue → Option State) : State :=
  if !s.serving then s.denied
  else if bits val 0 4 ≠ op ∧ (op ≠ 1 ∨ (1 ≤ bits val 0 4 ∧ bits val 0 4 ≤ 4)) then s
  else if bits val 0 4 ≠ op then (s.qDone val).refuseWrite
  else
    let q := bits val 4 12
    match k q (s.queue q) with
    | some s' => s'.qDone val
    | none => (s.qDone val).refuseWrite

/-- Writes ROOT and STATE of a context (15 R396). -/
def State.putRoot (s : State) (cq : CmdQueue) : State := (s.putCtx cq 52 4 cq.root).putState cq

/-- QUEUE_REGISTER: QCMD op 1. The context at QARG0 is read; ROOT is created OPEN and STATE is RUN. Refused where the queue number
is in use or the context breaks R396 (15 R396, R449). It waits while the context is still to be translated. -/
def execQueueRegister (val : Word) (s : State) : Host.Outcome State Fault Refusal :=
  let ctx := s.plat.qarg0.toNat
  let places := if ctx % 64 = 0 ∧ isGlobal ctx then s.ctxPlaces else []
  if s.serving && bits val 0 4 == 1 && (s.queue (bits val 4 12)).isNone && (places.find? (s.ctxNamed ctx)).isNone &&
      places.any (s.ctxWaits ctx) then .next s
  else
    .next (s.command val 1 (fun q old =>
      match old, places.find? (s.ctxNamed ctx) with
      | none, some (d, asid) =>
        let x := s.ctxQuads d asid ctx
        if s.ctxBad x then none
        else
          match s.newScope 0 0 with
          | none => none
          | some (root, s) =>
            let cq := queueOf q ctx root 1 x (nbits (x.getD 2 0) 0 32) []
            some ({ s with queues := s.queues ++ [cq] }.putRoot cq)
      | _, _ => none))

/-- Ops 2 and 3 are accepted: every node that has fired is final and ROOT's subtree holds no task (15 R449). -/
def State.queueQuiet (s : State) (cq : CmdQueue) : Bool :=
  cq.nodes.all (fun n => !n.fired || n.outcome.isSome) && !s.tasks.any (fun t => t.state != .ended && s.under cq.root t.scope)

/-- ROOT is closed, and freed under 13 R343. -/
def State.closeRoot (s : State) (root : Nat) : State :=
  match s.scope root with
  | none => s
  | some x => (s.setScope { x with state := if x.state = .opened then .closed else x.state }).sweep

/-- QUEUE_UNREGISTER: QCMD op 2 (15 R449). -/
def execQueueUnregister (val : Word) (s : State) : Host.Outcome State Fault Refusal :=
  .next (s.command val 2 (fun _ old =>
    match old with
    | none => none
    | some cq => if s.queueQuiet cq then some ({ s with queues := s.queues.filter (fun x => x.q != cq.q) }.closeRoot cq.root) else none))

/-- QUEUE_RESET: QCMD op 3. Nodes that have not fired are discarded; the context is read again, CONS takes its PROD, VALID is
cleared, EQP and EQC stay, a new ROOT is created and STATE is RUN (15 R449). -/
def execQueueReset (val : Word) (s : State) : Host.Outcome State Fault Refusal :=
  match s.queue (bits val 4 12) with
  | some cq =>
    if s.serving && bits val 0 4 == 3 && s.queueQuiet cq && !s.ctxReady cq then .next s
    else
      .next (s.command val 3 (fun q _ =>
        let x := s.ctxQuads cq.home cq.pasid cq.ctx
        if !s.queueQuiet cq || s.ctxBad x then none
        else
          match (s.closeRoot cq.root).newScope 0 0 with
          | none => none
          | some (root, s) =>
            let prod := nbits (x.getD 1 0) 0 32
            let cq' := queueOf q cq.ctx root cq.serial (x.set 4 cq.eqp) prod cq.posts
            let s := (s.setQueue cq').putCtx cq 16 4 prod
            some ((s.putCtx cq 40 1 (nbits (x.getD 5 0) 0 8 % 4)).putRoot { cq' with pasid := cq.pasid, home := cq.home })))
  | none => .next (s.command val 3 (fun _ _ => none))

/-- QUEUE_SNUFF_ROOT: QCMD op 4. ROOT is snuffed as 13 R345 and R346 say, the ack word at QARG1 (15 R406, R449); an ack address
that is misaligned or not global is refused (DEDUCED, log 70). -/
def execQueueSnuffRoot (val : Word) (s : State) : Host.Outcome State Fault Refusal :=
  .next (s.command val 4 (fun _ old =>
    match old with
    | none => none
    | some cq =>
      let ack := s.plat.qarg1.toNat
      if ack % 8 != 0 || !isGlobal ack then none else some (s.snuffRoot cq.root ack cq.pasid cq.q)))

end Sys2Proof.Machine
end

