-- ==== Sys2Proof/Machine/Guards.lean ====
section
/-!
DEFINITION. The guard family (03 R91) and the wick instructions (09 R259).
-/

namespace Sys2Proof.Machine

/-- GSET (03 R91). -/
def execGset (x : GSet) (s : State) : Host.Outcome State Fault Refusal :=
  runGroup .S (.gset x) s (fun r g p =>
    let old := (g.guard x.g.toNat).low
    (g.setGuard x.g.toNat ⟨scalarSrc r g x.sa.toNat, scalarSrc r g x.sb.toNat, x.mode.setWidth 8, false, 0⟩).resultS
      p.seq x.dst.toNat old)

/-- GRD (03 R91). -/
def execGrd (x : GRd) (s : State) : Host.Outcome State Fault Refusal :=
  runGroup .S (.grd x) s (fun _ g p => g.resultS p.seq x.dst.toNat ((g.guard x.g.toNat).sel x.sel.toNat))

/-- GCLR (03 R91). -/
def execGclr (x : R2) (s : State) : Host.Outcome State Fault Refusal :=
  runGroup .S (.gclr x) s (fun r g p =>
    let (v, g) := g.clearGuards (scalarSrc r g x.sa.toNat)
    g.resultS p.seq x.dst.toNat v)

/-- XWAIT (09 R259): its result is the STATUS; it acquires at .c, so the core's L1 is invalidated (06 R180). -/
def execXwait (x : XK) (s : State) : Host.Outcome State Fault Refusal :=
  runPart .S (.xwait x) s (fun s r g p =>
    (s.setGroup r (g.resultS p.seq 63 (word (g.wick x.wk.toNat).status))).inval r.core)

/-- XSTAT (09 R259). -/
def execXstat (x : XS) (s : State) : Host.Outcome State Fault Refusal :=
  runGroup .S (.xstat x) s (fun _ g p => g.resultS p.seq 63 ((g.wick x.wk.toNat).word x.sel.toNat))

/-- XRES (09 R259). -/
def execXres (x : XK) (s : State) : Host.Outcome State Fault Refusal :=
  runGroup .S (.xres x) s (fun _ g _ => g.resumeWick x.wk.toNat)

/-- XDROP (09 R259). -/
def execXdrop (x : XK) (s : State) : Host.Outcome State Fault Refusal :=
  runPart .S (.xdrop x) s (fun s r g _ => s.dropWick r g x.wk.toNat)

end Sys2Proof.Machine
end

