-- ==== Sys2Proof/Machine/Long.lean ====
section
/-!
DEFINITION. The long instructions of the S slot and the events of their sequencers: tensor kinds (09), attention and
key-value kinds (10), collectives (12).
-/

namespace Sys2Proof.Machine

/-- XMM (09 R240, R252). -/
def execXmm (x : XL) (s : State) : Host.Outcome State Fault Refusal :=
  runPart .S (.xmm x) s (fun s r g _ => issueLong s r g opXMM x.wk.toNat x.nd.toNat)

/-- XCONV (09 R240, R254). -/
def execXconv (x : XL) (s : State) : Host.Outcome State Fault Refusal :=
  runPart .S (.xconv x) s (fun s r g _ => issueLong s r g opXCONV x.wk.toNat x.nd.toNat)

/-- XGATH (09 R240, R255). -/
def execXgath (x : XL) (s : State) : Host.Outcome State Fault Refusal :=
  runPart .S (.xgath x) s (fun s r g _ => issueLong s r g opXGATH x.wk.toNat x.nd.toNat)

/-- XSORT (09 R240, R256). -/
def execXsort (x : XL) (s : State) : Host.Outcome State Fault Refusal :=
  runPart .S (.xsort x) s (fun s r g _ => issueLong s r g opXSORT x.wk.toNat x.nd.toNat)

/-- XTOPK (09 R240, R257). -/
def execXtopk (x : XL) (s : State) : Host.Outcome State Fault Refusal :=
  runPart .S (.xtopk x) s (fun s r g _ => issueLong s r g opXTOPK x.wk.toNat x.nd.toNat)

/-- XNORM (09 R240, R258). -/
def execXnorm (x : XL) (s : State) : Host.Outcome State Fault Refusal :=
  runPart .S (.xnorm x) s (fun s r g _ => issueLong s r g opXNORM x.wk.toNat x.nd.toNat)

/-- XATTN (10 R274 to R278). -/
def execXattn (x : XL) (s : State) : Host.Outcome State Fault Refusal :=
  runPart .S (.xattn x) s (fun s r g _ => issueLong s r g opXATTN x.wk.toNat x.nd.toNat)

/-- KVSHOOT (10 R280). -/
def execKvshoot (x : XL) (s : State) : Host.Outcome State Fault Refusal :=
  runPart .S (.kvshoot x) s (fun s r g _ => issueLong s r g opKVSHOOT x.wk.toNat x.nd.toNat)

/-- KVFREQ (10 R283). -/
def execKvfreq (x : XL) (s : State) : Host.Outcome State Fault Refusal :=
  runPart .S (.kvfreq x) s (fun s r g _ => issueLong s r g opKVFREQ x.wk.toNat x.nd.toNat)

/-- KVAPP (10 R281). -/
def execKvapp (x : XL) (s : State) : Host.Outcome State Fault Refusal :=
  runPart .S (.kvapp x) s (fun s r g _ => issueLong s r g opKVAPP x.wk.toNat x.nd.toNat)

/-- KVPRE (10 R282). -/
def execKvpre (x : XL) (s : State) : Host.Outcome State Fault Refusal :=
  runPart .S (.kvpre x) s (fun s r g _ => issueLong s r g opKVPRE x.wk.toNat x.nd.toNat)

/-- CALLRED (12 R317). -/
def execCallred (x : XL) (s : State) : Host.Outcome State Fault Refusal :=
  runPart .S (.callred x) s (fun s r g _ => issueLong s r g opCALLRED x.wk.toNat x.nd.toNat)

/-- CREDSC (12 R317). -/
def execCredsc (x : XL) (s : State) : Host.Outcome State Fault Refusal :=
  runPart .S (.credsc x) s (fun s r g _ => issueLong s r g opCREDSC x.wk.toNat x.nd.toNat)

/-- CGATH (12 R317). -/
def execCgath (x : XL) (s : State) : Host.Outcome State Fault Refusal :=
  runPart .S (.cgath x) s (fun s r g _ => issueLong s r g opCGATH x.wk.toNat x.nd.toNat)

/-- CBCAST (12 R317). -/
def execCbcast (x : XL) (s : State) : Host.Outcome State Fault Refusal :=
  runPart .S (.cbcast x) s (fun s r g _ => issueLong s r g opCBCAST x.wk.toNat x.nd.toNat)

/-- CA2A (12 R317). -/
def execCa2a (x : XL) (s : State) : Host.Outcome State Fault Refusal :=
  runPart .S (.ca2a x) s (fun s r g _ => issueLong s r g opCA2A x.wk.toNat x.nd.toNat)

/-- CSEND (12 R317). -/
def execCsend (x : XL) (s : State) : Host.Outcome State Fault Refusal :=
  runPart .S (.csend x) s (fun s r g _ => issueLong s r g opCSEND x.wk.toNat x.nd.toNat)

/-- CRECV (12 R317). -/
def execCrecv (x : XL) (s : State) : Host.Outcome State Fault Refusal :=
  runPart .S (.crecv x) s (fun s r g _ => issueLong s r g opCRECV x.wk.toNat x.nd.toNat)

/-- CRING (12 R318). -/
def execCring (x : XL) (s : State) : Host.Outcome State Fault Refusal :=
  runPart .S (.cring x) s (fun s r g _ => issueLong s r g opCRING x.wk.toNat x.nd.toNat)

/-- CTOPK (12 R319). -/
def execCtopk (x : XL) (s : State) : Host.Outcome State Fault Refusal :=
  runPart .S (.ctopk x) s (fun s r g _ => issueLong s r g opCTOPK x.wk.toNat x.nd.toNat)

/-! ### Starting a step (09 R243, R244, R247, R249, R251) -/

/-- A wick with its sequencer at work: its group, the wick and the record; the groups seated alone have one. -/
def State.longAt (s : State) (r : GRef) (wk : Nat) : Option (Group × Wick × Sequencer) :=
  if r.slot < 8 then
    match s.group r with
    | some g => ((g.wick wk).seq).map (fun q => (g, g.wick wk, q))
    | none => none
  else none

/-- A BUSY instruction between two steps, which nothing holds at its boundary. -/
def stepReady (w : Wick) (q : Sequencer) : Bool :=
  w.status == stBUSY && q.run.isNone && decide (q.stop = .none) && q.acks.isEmpty

/-- What the re-reading of the block gave (09 R251). -/
inductive Reread where
  | wait
  | stop (status ecode : Nat) (fva : Option (Nat × Bool)) (p : Option Poison)
  | ok (q : Sequencer)
deriving DecidableEq, Repr

/-- Re-reads and re-checks the block at DESC; the block and the lists it names must pass and keep KIND and TOTAL (09 R251). -/
def State.reread (s : State) (c : Nat) (g : Group) (w : Wick) (q : Sequencer) : Reread :=
  match s.longBlocks (seqFor c g) w.kind w.desc with
  | .stop .wait => .wait
  | .stop (.trap 7 _ a) => .stop stFAULT 2 (some (a, false)) none
  | .stop (.trap 8 u a) => .stop stERROR u none (some ⟨u, a⟩)
  | .stop _ => .stop stERROR 0x0100 none none
  | .ok d list aux =>
    if s.longBad c g w.kind w.capt d list aux || (s.longAstray c w.kind w.capt w.desc d list aux).isSome ||
        longTotal w.kind w.capt d list != w.total then .stop stERROR 0x0100 none none
    else
      let f := longFoot w.kind w.capt w.desc d list aux
      .ok { q with desc := d, list := list, aux := aux, reads := f.1, writes := f.2, fresh := false }

/-- Drops the refusals that a step's stop has answered (14 R373). -/
def State.clearStep (s : State) (x : StepAt) : State :=
  ((s.round1 x).needs ++ (s.round2 x (s.stepEntries x)).needs).foldl (fun s y => s.clearRefused y.unit x.g.asid y.va 1) s

/-- Logs what reads corrected by parity, once for each data part (14 R380, R384). -/
def State.logFixed (s : State) (x : StepAt) (l : List ReadAt) : State :=
  let parts := (l.flatMap (fun y => (granules y.va y.n).map (fun z => (y.unit, z.1)))).filterMap (fun y => match s.physical y.1 x.g.asid y.2 with
    | some (pa, false) => if s.readErr pa = .corrected then some (pa / 256, pa, y.2) else none
    | _ => none)
  (parts.foldl (fun (st : List Nat × State) y =>
    if st.1.contains y.1 then st
    else (y.1 :: st.1, st.2.logError x.g.gid.task ⟨y.2.2, homeSlice y.2.1, 0xFF, 0, 0, 1⟩ (memUnit y.2.1 1))) ([], s)).2

/-- The pages that a copy needs: XGATH's table rows are of the second round, after every page of the first (09 R247). -/
def State.copyPages (s : State) (x : StepAt) (y : SeqCopy) (old : Option (Nat × Bool)) : PageRes :=
  let round (l : List Need) : PageRes := s.pageRound x.g.asid (longMan x.w.kind x.q.desc) old l
  match (if x.second y then round (s.round1 { x with w := { x.w with done := y.chunk } }).needs else .ok) with
  | .ok => round (s.copyNeeds x y)
  | p => p

/-- A page that a copy met is a fault of the step whose operands it fetches: step DONE, or the one after a running step (09 R247). -/
def State.faultCopy (s : State) (r : GRef) (x : StepAt) (low : Option (Nat × Bool)) : State :=
  let q := if low.isNone then x.q else if x.q.run.isSome then { x.q with ahead := low } else { x.q with tried := true, faulted := low }
  s.setGroup r (x.g.setWick x.wk { x.w with seq := some q })

/-- A copy of a sequencer completes (09 R243, R247): one that is discarded ends; XGATH's table rows wait for its indices; where a page is
not translated its step has faulted and it waits for the service, or ends without its data where the service is refused or, with MAN = 1,
not asked. -/
def State.completeCopy (s : State) (r : GRef) (x : StepAt) (y : SeqCopy) : State :=
  if isColl x.w.kind then s
  else if !y.live then s.dropCopy r x y
  else if x.second y && x.q.copies.any (fun z => z.live && z.chunk == y.chunk && z.peer == 0) then s
  else if x.second y && !x.q.bufs.any (fun b => b.step == y.chunk && b.copy == 0) then s.dropCopy r x y
  else
    match s.copyPages x y (if x.q.run.isSome then x.q.ahead else x.q.faulted) with
    | .miss low => s.faultCopy r x low
    | .fault _ _ _ => s.dropCopy r x y
    | .ok => (s.logFixed x (x.at ((s.copyReads x y.chunk).getD y.peer []))).fillCopy r x y

/-- A started round of CRING sends its shard to the next member, once (12 R318). -/
def StepAt.ringSend (x : StepAt) (q : Sequencer) : Sequencer :=
  let c := collOf x.q.desc
  if x.w.kind = opCRING ∧ x.k + 1 < c.nm ∧ q.asked ≤ x.k then { q.send x.k [(c.me + 1) % c.nm] with asked := x.k + 1 } else q

/-- A step tried: it starts, waits for a page, fetches its operands anew, or stops its instruction (09 R244, R247, R248); the entries that
it has read stay in the buffers whatever comes of it (10 R271). A started step issues the copies of the next one's operands (09 R243,
18). -/
def State.tryStep (s : State) (r : GRef) (x : StepAt) : State :=
  let t := if s.round1Ok x then s.fillEntries x else s
  let keep (q : Sequencer) : State := t.setGroup r (x.g.setWick x.wk { x.w with seq := some q })
  match s.attempt x with
  | .wait low => keep { x.q with tried := true, faulted := low }
  | .refetch => keep (x.w.again x.q)
  | .fault e va wr => (if e = 2 then t.clearStep x else t).stopWick r x.g x.wk stFAULT e (some (va, wr))
  | .error e p => (p.elim t (t.logStep x)).stopWick r x.g x.wk stERROR e none
  | .run o =>
    let q := x.ringSend { x.q with
      run := some o
      acks := if x.w.kind = opKVSHOOT then s.buffersIn else []
      acked := 0
      dropped := 0
      readyAt := none }
    let w := if isColl x.w.kind then x.w.withCopies q else x.w.fetch q (x.k + 1)
    let t := (t.logFixed x ((s.round1 x).reads ++ (s.round2 x (s.stepEntries x)).reads)).setGroup r (x.g.setWick x.wk w)
    { t with free := t.free + 2 ^ 33 }

/-- A run's next step, its block in order: its copies are issued and complete, it waits for its peers and its panes, and is tried. -/
def State.startStep (s : State) (r : GRef) (x : StepAt) : State :=
  let w := x.w.fetch x.q x.k
  let x := { x with w := w, q := w.seq.getD x.q }
  let keep := s.setGroup r (x.g.setWick x.wk x.w)
  if x.w.total ≤ x.w.done then
    if (collOf x.q.desc).others.all (fun i => x.q.agreed.contains i) then
      s.setGroup r (x.g.setWick x.wk { x.w with status := stDONE })
    else keep
  else if !x.fetchDone || !x.contributed then keep
  else if isArrayKind x.w.kind && !((s.core r.core).panesIdle r.slot x.wk x.w.apane && s.inTurn r.core x.w.apane x.q.readyAt) then keep
  else s.tryStep r x

/-- The service that XRES asked for a wick in FAULT (09 R259): done, still awaited, or refused. -/
def serviceState (s : State) (c asid : Nat) (q : Sequencer) : Trans :=
  match q.service with
  | none => .hit 0 false
  | some (va, wr) => s.translate (seqUnit c) asid va wr

/-- TILE_STEP_START (09 R243 to R251): one copy of the operands completes (`wk.copy`), or the next step of a BUSY instruction between two
steps starts. A run first sees the service it asked for, waits until COUT is 0 and re-reads its block; an array kind holds its panes, or
requests them (08 R222). -/
def execTileStepStart (g : GRef) (wk : WickCopy) (s : State) : Host.Outcome State Fault Refusal :=
  match s.longAt g wk.wk with
  | none => .next s
  | some (x, w, q) =>
    let at_ : StepAt := ⟨g.core, x, wk.wk, w, q⟩
    if !s.serving then .next s
    else
      match wk.copy with
      | some i => .next ((q.copies[i]?).elim s (s.completeCopy g at_))
      | none =>
        if !stepReady w q then .next s
        else
          match serviceState s g.core x.asid q with
          | .miss => .next s
          | .refused =>
            let f := q.service.getD (w.fva, false)
            .next ((s.clearRefused (seqUnit g.core) x.asid f.1 1).stopWick g x wk.wk stFAULT 2 (some f))
          | .hit _ _ =>
            let q := { q with service := none }
            let c := s.core g.core
            let m := w.apane
            if isArrayKind w.kind && !(c.runHolds x g.slot wk.wk m s.clk) then
              .next (s.setCore g.core (c.askRun g.slot wk.wk m s.clk))
            else if q.fresh then
              if w.cout ≠ 0 then .next s
              else
                match s.reread g.core x w q with
                | .wait => .next s
                | .stop st e va p =>
                  let s := va.elim s (fun v => s.clearRefused (seqUnit g.core) x.asid v.1 1)
                  .next ((p.elim s (s.logStep at_)).stopWick g x wk.wk st e va)
                | .ok q => .next (s.startStep g { at_ with q := q })
            else .next (s.startStep g { at_ with q := q })

/-! ### Committing a step (09 R244, 03 R88, R89) -/

/-- A guard in trap mode stops the instruction and records the pending range-guard trap: INFO the guard and the wick, ADDR the
descriptor (03 R88). -/
def Group.pendRange (g : Group) (guard wk desc : Nat) : Group :=
  { g with trap := { g.trap with rangeErr := mergePend g.trap.rangeErr (guard + 16 * wk) desc } }

/-- The counts of a discarded step that are kept: those of its guards in trap mode (03 R88). -/
def Sequencer.trapCounts (q : Sequencer) (o : StepOut) : List (Nat × Nat) :=
  o.guards.filter (fun x => q.guards.any (fun y => y.g == x.1 && y.act == 3))

/-- The sends that a CALLRED chunk formed here starts: one to each other member (12 R314, R317). -/
def StepAt.formedSends (x : StepAt) : List Nat :=
  if x.w.kind = opCALLRED then
    let c := collOf x.q.desc
    if c.former x.k = c.me then c.others else []
  else []

/-- The carry area of the ping buffer takes a form that the spec does not give (10 R277): free bytes. -/
def State.writeCarry (s : State) (r : GRef) (x : StepAt) : State :=
  { s.setCore r.core ((s.core r.core).fillAt s.ids x.carryArea.1 x.carryArea.2 (x.key 6)) with ids := s.ids + 1 }

/-- TILE_STEP_COMMIT's effect: outputs, accumulator rows, guard counts, flags, carry, as one unit, then DONE and LIDX (09 R244);
KVAPP's DONE waits for the buffers (10 R281). DESIGN CHOICE (log 101): a KVAPP's Commit is one event, so a step of another group reads its
block all old or all new. -/
def State.commitStep (s : State) (r : GRef) (x : StepAt) (o : StepOut) : State :=
  let carries := (x.w.kind == opXATTN || x.w.kind == opCRING) && o.live
  let tag := s.ids
  let s := s.putOuts x.eng o.mem
  let s := s.setCore r.core (o.acc.foldl (fun (c : Core) (y : Nat × Word) => c.accSet y.1 y.2) (s.core r.core))
  let s := if carries then s.writeCarry r x else s
  let q := x.q.send x.k x.formedSends
  let q := { q with
    run := none
    carry := o.carry
    carryTag := if carries then some tag else none
    topk := o.topk
    got := if x.w.kind = opCRING then q.got else q.got.filter (fun y => decide (x.k < y.chunk)) }
  let w := { x.w with live := o.live, oob := o.oob }
  let w := if isColl w.kind then w.withCopies q else { w with seq := some q }
  let g := { x.g.countGuards o.guards with fpflags := x.g.fpflags ||| o.flags }
  if w.kind = opKVAPP then s.setGroup r (g.setWick x.wk { w with seq := some { q with acks := s.buffersIn } })
  else s.advance r (g.setWick x.wk w) x.wk

/-- TILE_STEP_COMMIT (09 R244): a started step commits, a round of CRING once its shard has come (12 R318); where a page of its outputs is
no longer translated it is discarded and runs again, or stops as an XDROP or a SNUFF asked (09 R259), an output that would merge into a
granule in error stops the instruction before any is written (09 R248), and a guard in trap mode discards the step and stops the instruction, the counts of guards in trap mode alone
kept (03 R88; log 44). -/
def execTileStepCommit (g : GRef) (wk : Nat) (s : State) : Host.Outcome State Fault Refusal :=
  match s.longAt g wk with
  | none => .next s
  | some (x, w, q) =>
    match q.run with
    | none => .next s
    | some o =>
      let at_ : StepAt := ⟨g.core, x, wk, w, q⟩
      if !s.serving || w.kind == opKVSHOOT || (w.kind == opCRING && !at_.received) then .next s
      else if !s.outReady at_ o then .next (s.boundary g (x.setWick wk { w with seq := some (w.again q) }) wk)
      else
        match s.outMergeErr at_.eng o.mem with
        | some p => .next ((s.logStep at_ p).stopWick g x wk stERROR 2 none)
        | none =>
          match o.trapGuard with
          | some k => .next (s.stopWick g ((x.countGuards (q.trapCounts o)).pendRange k wk w.desc) wk stGUARD k none)
          | none => .next (s.commitStep g at_ o)

/-! ### Buffers of entries (10 R273, R280, R281) -/

/-- The lines that a KVSHOOT, or the current step of a KVAPP, covers. -/
def shootSpan (w : Wick) (q : Sequencer) : Option (Nat × Nat × Nat) :=
  if w.kind = opKVAPP then
    let a := kvAppOf q.desc
    some (a.sq, a.e0 + w.done, 1)
  else (shootOf q.desc).span

/-- BUFFER_ACKNOWLEDGE: one buffer drops its covered lines and acknowledges; after the last one KVAPP's DONE advances (10 R273,
R281). -/
def execBufferAcknowledge (g : GRef) (wk : Nat) (buf : Nat) (s : State) : Host.Outcome State Fault Refusal :=
  match s.longAt g wk with
  | none => .next s
  | some (x, w, q) =>
    if !s.serving || !q.acks.contains buf then .next s
    else
      let (n, s) := s.dropLines buf x.asid (shootSpan w q)
      let q := { q with acks := q.acks.filter (· != buf), acked := q.acked + 1, dropped := q.dropped + n }
      let x := ((s.group g).getD x).setWick wk { w with seq := some q }
      if w.kind = opKVAPP ∧ q.acks = [] then .next (s.advance g x wk) else .next (s.setGroup g x)

/-- KVSHOOT_COMPLETE: every buffer has acknowledged; in one event the ack word is written and the wick is DONE (10 R273). A fault
or an error of the ack word stops it before the write (10 R280). -/
def execKvshootComplete (g : GRef) (wk : Nat) (s : State) : Host.Outcome State Fault Refusal :=
  match s.longAt g wk with
  | none => .next s
  | some (x, w, q) =>
    if !s.serving || w.kind != opKVSHOOT || q.run.isNone || !q.acks.isEmpty then .next s
    else
      let u := seqUnit g.core
      let a := (shootOf q.desc).ack
      match s.span u x.asid a 8 true with
      | .miss => .next s
      | .refused va => .next ((s.clearRefused u x.asid a 8).stopWick g x wk stFAULT 2 (some (va, true)))
      | .ok =>
        match s.mergeErr u x.asid a 8 with
        | some va => .next ((s.logStep ⟨g.core, x, wk, w, q⟩ ⟨2, va⟩).stopWick g x wk stERROR 2 none)
        | none =>
          let s := s.vwrite u x.asid a (natLE 8 (ackWord q.dropped q.acked))
          .next (s.advance g x wk)

/-! ### Collectives (12 R306, R311 to R314) -/

/-- A BUSY collective. -/
def State.collAt (s : State) (r : GRef) (wk : Nat) : Option (Group × Wick × Sequencer) :=
  match s.longAt r wk with
  | some (g, w, q) => if isColl w.kind && w.status == stBUSY && s.serving then some (g, w, q) else none
  | none => none

/-- A collective whose member answers its peers: BUSY, or DONE before them (12 R313). -/
def State.collAnswers (s : State) (r : GRef) (wk : Nat) : Option (Group × Wick × Sequencer) :=
  match s.longAt r wk with
  | some (g, w, q) => if isColl w.kind && (w.status == stBUSY || w.status == stDONE) && s.serving then some (g, w, q) else none
  | none => none

/-- Whether a member asks this one for a chunk: its contribution, or the chunk that is formed here (12 R313, R317, R318). -/
def Coll.asks (x : Coll) (chunk dst : Nat) : Bool :=
  decide (chunk < x.total) && x.others.contains dst &&
  (if x.kind = opCRECV then false
   else if x.kind = opCSEND then true
   else if x.kind = opCRING then dst == (x.me + 1) % x.nm && decide (chunk + 1 < x.nm)
   else if x.kind = opCALLRED then dst == x.former chunk || x.me == x.former chunk
   else (x.needs chunk).contains x.me)

/-- Whether this member sends what it holds, with no read: a chunk of CALLRED formed here, or CRING's shard; none where it must read SRC
(12 R313, R317, R318). -/
def Coll.holds (x : Coll) (q : Sequencer) (done chunk : Nat) : Option Bool :=
  if x.kind = opCRING then some (decide (chunk ≤ done) && (chunk == 0 || q.got.any (fun y => y.chunk + 1 == chunk)))
  else if x.kind = opCALLRED ∧ x.former chunk = x.me then some (decide (chunk < done))
  else none

/-- What a member that answers a request sends of SRC, as it reads it again; what a CSEND sent is what its step needs (12 R313, R317). -/
def StepAt.answer (s : State) (x : StepAt) (chunk dst : Nat) : Sequencer :=
  let c := collOf x.q.desc
  let q := if c.ownSent chunk && decide (x.w.done ≤ chunk) then
      { x.q with got := x.q.got.filter (fun y => !(y.chunk == chunk && y.src == c.me)) ++
          [⟨chunk, c.me, c.ownData (s.engByte false x.eng) chunk dst, 0#6, 0, 0⟩] }
    else x.q
  q.send chunk [dst]

/-- CHUNK_REQUEST: this member answers a peer's request by reading SRC again and sending its contribution, or by sending the chunk that it
formed or holds (12 R313, R317, R318). -/
def execChunkRequest (g : GRef) (wk : Nat) (chunk : Nat) (dst : Nat) (s : State) : Host.Outcome State Fault Refusal :=
  match s.collAnswers g wk with
  | none => .next s
  | some (x, w, q) =>
    let c := collOf q.desc
    let at_ : StepAt := ⟨g.core, x, wk, w, q⟩
    let sent (q : Sequencer) : Host.Outcome State Fault Refusal := .next (s.setGroup g (x.setWick wk (w.withCopies q)))
    let stop (t : State) : Host.Outcome State Fault Refusal := .next (if w.status = stBUSY then t else s)
    if !c.asks chunk dst || q.copies.any (fun y => y.peer == dst && y.chunk == chunk) then .next s
    else
      match c.holds q w.done chunk with
      | some ready => if ready then sent (q.send chunk [dst]) else .next s
      | none =>
        let rds := at_.at (c.ownReads chunk dst)
        match s.pageRound x.asid (longMan w.kind q.desc) none (rds.flatMap (ReadAt.needs false)) with
        | .miss _ => .next s
        | .fault e va wr => stop ((if e = 2 then s.clearRefused (seqUnit g.core) x.asid va 1 else s).stopWick g x wk stFAULT e (some (va, wr)))
        | .ok =>
          match s.readsErr at_ rds with
          | some p => stop ((s.logStep at_ p).stopWick g x wk stERROR p.unit none)
          | none => sent (at_.answer s chunk dst)

/-- Whether a contribution is one that the collective still awaits, of its right length (12 R306, R313); the buffers of two parities take
those of chunk DONE and of the next, so that no later chunk ends what they hold (09 R243, 01 R27), RBUF the shard of the round alone. -/
def Coll.takes (x : Coll) (q : Sequencer) (done : Nat) (m : ChunkMsg) : Bool :=
  decide (done ≤ m.chunk) && decide (m.chunk ≤ if x.kind = opCRING then done else done + 1) && decide (m.chunk < x.total) &&
  m.src != (if isPair x.kind then 2 ^ 18 else x.me) &&
  (x.needs m.chunk).contains m.src && !q.got.any (fun y => y.chunk == m.chunk && y.src == m.src) &&
  (if x.kind = opCRING then
     let a := attnOf (q.aux.take 128)
     m.data.length % (16 + 32 * rowLen a.dh a.kt) == 0 && decide (2 * m.data.length ≤ x.x3)
   else m.data.length == x.contribLen m.chunk)

/-- Where a contribution enters the buffers: the slot of its member among up to 8, in the buffer of the chunk's parity; and whether it
stays there until the chunk is formed (12 R309, R316; log 40). -/
def StepAt.receiveAt (x : StepAt) (m : ChunkMsg) : Nat × Nat × Bool :=
  let needs := (collOf x.q.desc).needs m.chunk
  let b := x.bufferOf m.chunk
  let i := needs.findIdx (· == m.src)
  (b.1 + 16384 * (if isRed x.w.kind then i % 8 else 0), Nat.min m.data.length 16384, (isRed x.w.kind && decide (needs.length ≤ 8)) || needs.length == 1)

/-- A contribution that this member takes (12 R306, R313): its data enters the buffers, and they are lit (05 R142). -/
def State.receive (s : State) (r : GRef) (x : StepAt) (m : ChunkMsg) : State :=
  let at_ := x.receiveAt m
  let fill := if at_.2.2 && m.data.length == at_.2.1 then s.ids else 0
  let flags := if (collOf x.q.desc).taken m.chunk then m.flags else 0#6
  let q := { x.q with got := x.q.got ++ [⟨m.chunk, m.src, m.data, flags, fill, at_.1⟩] }
  let w := { x.w with lidx := lidxOf x.w.kind x.w.capt q x.w.total x.w.done [], seq := some q }
  let s := s.setGroup r (x.g.setWick x.wk w)
  { s.setCore r.core ((s.core r.core).fillAt s.ids at_.1 at_.2.1 (freeKey 7 x.g x.wk x.q m.chunk ++ [m.src])) with ids := s.ids + 1 }

/-- What CRING's shard writes into RBUF (12 R318). -/
def StepAt.shardWrite (x : StepAt) (m : ChunkMsg) : List (Nat × Byte) :=
  (x.shardBytes m.chunk m.data.length).zipIdx.map (fun y => ((collOf x.q.desc).shardAt m.chunk + y.2, y.1))

/-- CRING's shard enters RBUF (12 R318). -/
def State.receiveShard (s : State) (r : GRef) (x : StepAt) (m : ChunkMsg) : State :=
  let q := { x.q with got := x.q.got ++ [⟨m.chunk, m.src, m.data, 0#6, 0, 0⟩] }
  let w := { x.w with lidx := lidxOf x.w.kind x.w.capt q x.w.total x.w.done [], seq := some q }
  (s.setGroup r (x.g.setWick x.wk w)).engWrite x.eng (x.shardWrite m)

/-- CHUNK_RECEIVE: a member's message. Parameters that disagree stop the collective before its first Commit (12 R311); a contribution
still awaited is taken once (12 R306), CRING's shard into RBUF. -/
def execChunkReceive (g : GRef) (wk : Nat) (msg : ChunkMsg) (s : State) : Host.Outcome State Fault Refusal :=
  match s.collAt g wk with
  | none => .next s
  | some (x, w, q) =>
    let c := collOf q.desc
    if !c.others.contains msg.src then .next s
    else if !q.agreed.contains msg.src && decide (msg.params ≠ collParams q.desc q.list) then
      .next (s.stopWick g x wk stERROR 0x0300 none)
    else
      let q := if q.agreed.contains msg.src then q else { q with agreed := insertNat q.agreed msg.src }
      let at_ : StepAt := ⟨g.core, x, wk, { w with seq := some q }, q⟩
      let keep := s.setGroup g (x.setWick wk at_.w)
      if !c.takes q w.done msg then .next keep
      else if c.kind ≠ opCRING then .next (s.receive g at_ msg)
      else
        match s.pageRound x.asid (longMan w.kind q.desc) none (ReadAt.needs true ⟨seqUnit g.core, c.shardAt msg.chunk, msg.data.length⟩) with
        | .miss _ => .next keep
        | .fault e va wr =>
          .next ((if e = 2 then keep.clearRefused (seqUnit g.core) x.asid va 1 else keep).stopWick g (x.setWick wk at_.w) wk stFAULT e (some (va, wr)))
        | .ok =>
          match s.engMergeErr at_.eng (at_.shardWrite msg) with
          | some p => .next ((keep.logStep at_ p).stopWick g (x.setWick wk at_.w) wk stERROR 2 none)
          | none => .next (s.receiveShard g at_ msg)

/-- SEND_ACKNOWLEDGEMENT: a peer has accepted a chunk; CSEQ is the oldest send left (12 R314). -/
def execSendAcknowledgement (g : GRef) (wk : Nat) (chunk : ChunkSend) (s : State) : Host.Outcome State Fault Refusal :=
  match s.longAt g wk with
  | none => .next s
  | some (x, w, q) =>
    match q.copies.find? (fun y => y.chunk == chunk.chunk && y.peer == chunk.peer) with
    | none => .next s
    | some y =>
      if !s.serving then .next s
      else .next (s.setGroup g (x.setWick wk (w.withCopies { q with copies := q.copies.filter (fun z => decide (z ≠ y)) })))

/-- CHUNK_RETRY: a damaged or lost chunk is sent again; retries cost only time (12 R306). -/
def execChunkRetry (_g : GRef) (_wk : Nat) (_chunk : Nat) (s : State) : Host.Outcome State Fault Refusal := .next s

/-- LANE_RETRAIN: what a retraining lane loses is sent again; retries cost only time (12 R306). -/
def execLaneRetrain (_lane : Nat) (s : State) : Host.Outcome State Fault Refusal := .next s

/-- A collective stopped by what became of a peer or of the link; its sends still outstanding are given up (12 R312; DEDUCED, log 69). -/
def State.stopColl (s : State) (r : GRef) (wk ecode : Nat) : State :=
  match s.collAt r wk with
  | none => s
  | some (g, w, q) => s.stopWick r (g.setWick wk (w.withCopies { q with copies := [] })) wk stERROR ecode none

/-- LOST_LINK: a link could not deliver within its retry limit (12 R306, R312). -/
def execLostLink (g : GRef) (wk : Nat) (s : State) : Host.Outcome State Fault Refusal := .next (s.stopColl g wk 0x0302)

/-- PEER_NOTICE: a member's collective became DROPPED or CANCELLED (12 R312). -/
def execPeerNotice (g : GRef) (wk : Nat) (s : State) : Host.Outcome State Fault Refusal := .next (s.stopColl g wk 0x0301)

end Sys2Proof.Machine
end

