-- ==== Sys2Proof/Machine/Matrix.lean ====
section
/-!
DEFINITION. The matrix family (08_matrix R227 to R233), with the array's own events: the grant and the timeout of a lease
(R221, R222), and the start and the Commit of a matrix step (R224 to R226, R232).
-/

namespace Sys2Proof.Machine

/-! ### Configuration and leases -/

/-- MLEASE: the grant lapses, LM is set, and a request is made (08 R228). -/
def execMlease (x : MLe) (s : State) : Host.Outcome State Fault Refusal :=
  runPart .M (.mlease x) s (fun s r g _ =>
    (s.setCore r.core (((s.core r.core).unrequest r.slot).request r.slot x.mask s.clk)).setGroup r { g.lapse with lm := x.mask })

/-- MREL (08 R228). -/
def execMrel (x : M0) (s : State) : Host.Outcome State Fault Refusal :=
  runPart .M (.mrel x) s (fun s r g _ =>
    (s.setCore r.core ((s.core r.core).unrequest r.slot)).setGroup r { g.lapse with lm := 0#4 })

/-- MCFG (08 R229). -/
def execMcfg (x : MN) (s : State) : Host.Outcome State Fault Refusal :=
  runGroup .M (.mcfg x) s (fun _ g _ => { g with mcfg := g.nreg x.nr.toNat })

/-- MCFGR: into an n register and no ember (08 R229, Table 8.6). -/
def execMcfgr (x : MRd) (s : State) : Host.Outcome State Fault Refusal :=
  runPart .M (.mcfgr x) s (fun s r g p => s.setGroup r (g.resultN p.seq x.nr.toNat (mcfgrValue s r g x.sel.toNat)))

/-- MFSET (08 R230). -/
def execMfset (x : MF) (s : State) : Host.Outcome State Fault Refusal :=
  runGroup .M (.mfset x) s (fun _ g _ => g.setF x.fd.toNat (g.nreg x.nr.toNat))

/-- MFADV: by the low 24 bits, signed (08 R230). -/
def execMfadv (x : MF) (s : State) : Host.Outcome State Fault Refusal :=
  runGroup .M (.mfadv x) s (fun _ g _ =>
    g.setF x.fd.toNat (feedAdv (g.freg x.fd.toNat) ((g.nreg x.nr.toNat).setWidth 24).toInt))

/-- MWAIT steps (08 R231). -/
def execMwaitSteps (x : M0) (s : State) : Host.Outcome State Fault Refusal := runGroup .M (.mwaitSteps x) s (fun _ g _ => g)

/-- MWAIT lease (08 R231). -/
def execMwaitLease (x : MWl) (s : State) : Host.Outcome State Fault Refusal := runGroup .M (.mwaitLease x) s (fun _ g _ => g)

/-! ### Steps -/

/-- MSTEP (08 R232). -/
def execMstep (x : MS) (s : State) : Host.Outcome State Fault Refusal :=
  runPart .M (.mstep x) s (fun s r g p => issueStep s r g p.seq p.tw .step (some x))

/-- MSTEPZ (08 R232). -/
def execMstepz (x : MS) (s : State) : Host.Outcome State Fault Refusal :=
  runPart .M (.mstepz x) s (fun s r g p => issueStep s r g p.seq p.tw .zero (some x))

/-- MSTEPT (08 R232). -/
def execMstept (x : MS) (s : State) : Host.Outcome State Fault Refusal :=
  runPart .M (.mstept x) s (fun s r g p => issueStep s r g p.seq p.tw .transposed (some x))

/-- MZERO (08 R233). -/
def execMzero (x : M0) (s : State) : Host.Outcome State Fault Refusal :=
  runPart .M (.mzero x) s (fun s r g p => issueStep s r g p.seq p.tw .clear none)

/-! ### Leases: the array's events -/

/-- The requests among which arbitration picks: the oldest of each group slot (08 R222). -/
def Core.headReqs (c : Core) : List PaneReq :=
  (List.range 8).filterMap (fun k => c.reqs.find? (fun q => q.slot == k))

/-- The priority class of a request: its group's. -/
def Core.reqClass (c : Core) (q : PaneReq) : Nat :=
  match c.slots.getD q.slot none with
  | some g => g.cls
  | none => 4

/-- A pane may be granted: in service, and under no lamp test (08 R223, 14 R385). -/
def State.paneUsable (s : State) (core pane : Nat) : Bool := !s.outOf (.pane core pane)

/-- The panes that a request names are in service (08 R223). -/
def State.panesServe (s : State) (core : Nat) (q : PaneReq) : Bool := (panesOf q.panes.toNat).all (fun p => (s.panesIn core).contains p)

/-- A request waits for one of a higher class that is pending, chosen or not (08 R222). -/
def State.outranked (s : State) (core : Nat) (q : PaneReq) : Bool :=
  let c := s.core core
  c.headReqs.any (fun y => decide (c.reqClass y < c.reqClass q) && s.panesServe core y)

/-- The requests that arbitration may choose next: of the highest class that is pending, on panes in service that no chosen request holds,
and of no slot that has been granted since another of its class came to wait (08 R222; log 39). -/
def State.mayChoose (s : State) (core : Nat) : List PaneReq :=
  let c := s.core core
  (c.headReqs.filter (fun q => !q.chosen)).filter (fun q =>
    !s.outranked core q && s.panesServe core q &&
    !c.headReqs.any (fun y => y.slot != q.slot && c.reqClass y == c.reqClass q && y.passed.contains q.slot) &&
    !c.reqs.any (fun y => y.chosen && (y.panes &&& q.panes) != 0#4))

/-- The request that arbitration picks: round-robin after the slot last granted (08 R222). -/
def State.picked (s : State) (core : Nat) : Option PaneReq :=
  let key (q : PaneReq) : Nat := slotTurn (s.core core).leaseRR q.slot
  match s.mayChoose core with
  | [] => none
  | q :: rest => some (rest.foldl (fun m y => if key y < key m then y else m) q)

/-- The choice of arbitration: the request picked holds its panes as they become free (08 R222). -/
def State.arbitrate (s : State) (core : Nat) : State :=
  match s.picked core with
  | none => s
  | some q =>
    let c := s.core core
    s.setCore core { c with reqs := c.reqs.map (fun y => if y = q then { y with chosen := true } else y) }

/-- A pane is free when no grant covers it and no step is running or waiting on it (08 R222). -/
def Core.paneFree (c : Core) (pane : Nat) : Bool :=
  !(c.slots.any (fun o => match o with
    | some g => g.gm.getLsbD pane
    | none => false)) &&
  !(c.steps.any (fun m => (cfgPMASK m.cfg).testBit pane)) && !(c.runPanes.any (fun q => q.panes.getLsbD pane)) &&
  !c.tileRunning 8 0 pane

/-- The chosen request whose panes are all free; one of a lower class waits for a pending one of a higher class, but where that one itself
needs a pane which a chosen one of a lower class holds (08 R222; log 39). -/
def State.grantable (s : State) (core : Nat) : Option PaneReq :=
  let c := s.core core
  let blocked (y : PaneReq) : Bool :=
    c.reqs.any (fun x => x.chosen && decide (c.reqClass y < c.reqClass x) && (x.panes &&& y.panes) != 0#4)
  let waits (q : PaneReq) : Bool := c.headReqs.any (fun y => decide (c.reqClass y < c.reqClass q) && s.panesServe core y && !blocked y)
  c.reqs.find? (fun q => q.chosen && !waits q && (panesOf q.panes.toNat).all (fun p => c.paneFree p && s.paneUsable core p))

/-- A request leaves the queue, granted: the first of each other slot has been passed by its slot (08 R222). -/
def Core.granting (c : Core) (q : PaneReq) : Core :=
  { c with
    leaseRR := q.slot
    reqs := (c.reqs.filter (fun x => decide (x ≠ q))).map (fun y =>
      if y.slot != q.slot && c.headReqs.contains y then { y with passed := insertNat y.passed q.slot } else y) }

/-- LEASE_GRANT: arbitration makes its next choice, and a chosen request is granted once all its panes are free (08 R221 to R223): a
group's lease, or a tile-step run. -/
def execLeaseGrant (core : Nat) (s : State) : Host.Outcome State Fault Refusal :=
  if !s.serving then .next s
  else
    let s := s.arbitrate core
    match s.grantable core with
    | none => .next s
    | some q =>
      let c := (s.core core).granting q
      match q.wick with
      | some _ => .next (s.setCore core { c with runPanes := c.runPanes ++ [{ q with since := s.clk }] })
      | none =>
        let s := s.setCore core c
        match s.group ⟨core, q.slot⟩ with
        | some g => .next (s.setGroup ⟨core, q.slot⟩ { g with gm := g.lm, budget := Config.leaseBudget, granted := s.clk })
        | none => .next s

/-- LEASE_TIMEOUT: 16,384 clk after its grant a lease lapses (08 R221). -/
def execLeaseTimeout (g : GRef) (s : State) : Host.Outcome State Fault Refusal :=
  match s.group g with
  | some x => if s.serving && leaseExpired s.clk x then .next (s.setGroup g x.lapse) else .next s
  | none => .next s

/-! ### Steps on the array -/

/-- A step leaves the array with its share of its production, completed or failed (08 R226, R227). -/
def State.endStep (s : State) (core : Nat) (m : MatStep) (failed : Bool) : State :=
  let c := s.core core
  (s.setCore core { c with steps := c.steps.filter (fun x => decide (x.id ≠ m.id)) }).mapGroup m.gid (fun g => g.completeProd m.prod failed)

/-- A step may start: it is the oldest of its group waiting on each of its panes, the panes run nothing, and the
productions it consumes have completed (08 R224, R225, 02 R38). -/
def Core.canStart (c : Core) (m : MatStep) : Bool := c.headStep m && c.panesIdle 8 0 (cfgPMASK m.cfg)

/-- The hamper ranges of a step's operand tiles: per pane A and B (08 R213). -/
def MatStep.tileRanges (m : MatStep) : List ((Nat × Nat) × (Nat × Nat)) :=
  let sa := tileA (m.kind == .transposed) (cfgROWS m.cfg) (typeWidth (cfgTA m.cfg))
  let sb := tileB (typeWidth (cfgTB m.cfg))
  (tilesOf m.cfg (m.kind == .transposed) m.fa m.fb).map (fun t => ((t.1, sa), (t.2, sb)))

/-- The uncorrectable error that the feed meets in its tiles (08 R226; the first tile in its order, log 27). -/
def Core.feedError (c : Core) (m : MatStep) : Option Poison :=
  (if m.kind = .clear then [] else m.tileRanges.flatMap (fun t => [t.1, t.2])).findSome? (fun x =>
    (c.padErr x.1 x.2).map (fun a => ⟨3, 0xFF * 2 ^ 48 + a⟩))

/-- MATRIX_STEP_START: the feed reads the operand tiles of every pane (08 R212 to R214, R224), and an error it meets stays the step's
(08 R226). A failed production makes the step complete without effect and fail its own (08 R226). -/
def execMatrixStepStart (core : Nat) (step : Nat) (s : State) : Host.Outcome State Fault Refusal :=
  let c := s.core core
  match c.steps.find? (fun m => m.id == step) with
  | none => .next s
  | some m =>
    if !s.serving || !c.canStart m || !s.waitsDone (some m.gid) m.waits || !s.inTurn core (cfgPMASK m.cfg) m.readyAt then .next s
    else if s.waitsFailed (some m.gid) m.waits then .next (s.endStep core m true)
    else
      let rs := if m.kind = .clear then [] else m.tileRanges
      let rd (x : Nat × Nat) : List Byte := c.hamper.readN x.1 x.2
      let m' := { m with stage := .running, tiles := rs.map (fun t => (rd t.1, rd t.2)), err := c.feedError m }
      .next (s.setCore core { c with steps := c.steps.map (fun x => if x.id = m.id then m' else x) })

/-- The uncorrectable error that a step meets, in its feed read, in an accumulator entry it reads, or in a pane it runs on: its unit
code and its address; of several, the first in this order, entries by pane, row and column (08 R226, 14 Table 14.8; log 27). -/
def Core.stepError (c : Core) (m : MatStep) : Option Poison :=
  let ents := if m.kind = .step ∨ m.kind = .transposed then
      (panesOf (cfgPMASK m.cfg)).flatMap (fun p => (List.range (cfgROWS m.cfg)).flatMap (fun i =>
        (List.range (cfgNCOL m.cfg)).map (fun n => accIx p (cfgRBASE m.cfg + i) n)))
    else []
  m.err <|>
    (if c.accPoison.isEmpty then none
     else (ents.find? (fun k => c.accPoison.contains k)).map (fun k => ⟨4, 0xFE * 2 ^ 48 + 8 * k⟩)) <|>
    c.paneError (cfgPMASK m.cfg)

/-- MATRIX_STEP_COMMIT: every entry of the step's tiles is written at once, its flags are ORed, and its production completes; a
step that met an uncorrectable error is discarded whole (08 R207, R226, R232, R233). -/
def execMatrixStepCommit (core : Nat) (step : Nat) (s : State) : Host.Outcome State Fault Refusal :=
  let c := s.core core
  match c.steps.find? (fun m => m.id == step) with
  | none => .next s
  | some m =>
    if !s.serving || m.stage != .running then .next s
    else
      match c.stepError m with
      | some p =>
        let s := s.logCore m.gid.task core p
        .next ((s.endStep core m true).mapGroup m.gid (fun g => g.pendDataErr p.unit p.addr))
      | none =>
        let out := m.out c
        let c := out.foldl (fun (c : Core) (x : Nat × Word × BitVec 6) => c.accSet x.1 x.2.1) c
        let fl := out.foldl (fun f x => f ||| x.2.2) 0#6
        .next (((s.setCore core c).endStep core m false).mapGroup m.gid (fun g => { g with fpflags := g.fpflags ||| fl }))

end Sys2Proof.Machine
end

