-- ==== Sys2Proof/Machine/Order.lean ====
section
/-!
DEFINITION. The ordering family of the A slot (06_ordering R172 to R174): all but DRAIN and TKW issue at once and hold later
accesses unperformed until their condition has come.
-/

namespace Sys2Proof.Machine

/-- An ordering part that puts one fence into force (06 R173). -/
def runFence (i : Instr) (s : State) (f : Nat → Fence) : Host.Outcome State Fault Refusal :=
  runPart .A i s (fun s r g _ => (s.setGroup r (g.addFence f)).settle r)

/-- MARK: one marker for each named stream (06 R173). -/
def execMark (x : AF) (s : State) : Host.Outcome State Fault Refusal :=
  runPart .A (.mark x) s (fun s r g _ =>
    (s.setGroup r ((maskStreams x.mask).foldl (fun g st => g.addFence (markFence st)) g)).settle r)
/-- FENCE: FENCE.X over every stream (06 R173). -/
def execFence (x : AF) (s : State) : Host.Outcome State Fault Refusal := runFence (.fence x) s (crossFence x.scope.toNat allStreams)
/-- FENCE.X (06 R173). -/
def execFenceX (x : AF) (s : State) : Host.Outcome State Fault Refusal := runFence (.fenceX x) s (crossFence x.scope.toNat x.mask)
/-- ACQ (06 R173). -/
def execAcq (x : AF) (s : State) : Host.Outcome State Fault Refusal := runFence (.acq x) s (acqFence x.scope.toNat x.mask none)
/-- REL (06 R173). -/
def execRel (x : AF) (s : State) : Host.Outcome State Fault Refusal := runFence (.rel x) s (relFence x.scope.toNat x.mask)
/-- ACQREL (06 R173). -/
def execAcqrel (x : AF) (s : State) : Host.Outcome State Fault Refusal := runFence (.acqrel x) s (acqrelFence x.scope.toNat x.mask)
/-- DRAIN: it has waited for the acknowledgements, and later parts for it (06 R173). -/
def execDrain (x : AF) (s : State) : Host.Outcome State Fault Refusal := runGroup .A (.drain x) s (fun _ g _ => g)
/-- TKW: it has waited for the productions; Inval at issue (06 R173). -/
def execTkw (x : AF) (s : State) : Host.Outcome State Fault Refusal :=
  runPart .A (.tkw x) s (fun s r g _ => let s := s.setGroup r g; if scopeInval x.scope.toNat then s.inval r.core else s)

end Sys2Proof.Machine
end

