-- ==== Sys2Proof/Machine/Sha.lean ====
section
/-!
DEFINITION. SHA-256, which 22 R440 and R445 name (FIPS 180-4; PRESUMED, log 34): the hash of the firmware slots. Its constants are
computed from what they stand for, the fractions of square and cube roots of primes, and its eight working words are kept as the last
four values of the two that each step makes.
-/

namespace Sys2Proof.Machine

/-! ### The constants -/

/-- The first n primes from k on, found by trial. -/
def primesFrom : Nat → Nat → Nat → List Nat
  | 0, _, _ => []
  | fuel + 1, n, k =>
    if n = 0 then []
    else if (List.range k).all (fun d => decide (d < 2) || k % d != 0) then k :: primesFrom fuel (n - 1) (k + 1)
    else primesFrom fuel n (k + 1)

/-- The 64 primes up to 311. -/
def shaPrimes : List Nat := primesFrom 312 64 2

/-- The integer k-th root, bit by bit from bit b down. -/
def rootBits (k x : Nat) : Nat → Nat → Nat
  | 0, r => r
  | b + 1, r => rootBits k x b (if (r + 2 ^ b) ^ k ≤ x then r + 2 ^ b else r)

/-- The first 32 bits of the fraction of a prime's k-th root. -/
def rootFraction (k p : Nat) : BitVec 32 := BitVec.ofNat 32 (rootBits k (p * 2 ^ (32 * k)) 40 0)

/-! ### One block -/

/-- The exclusive or of two rotations and of a third turn of a word. -/
def turns (x : BitVec 32) (a b : Nat) (third : BitVec 32) : BitVec 32 := x.rotateRight a ^^^ x.rotateRight b ^^^ third

/-- The working words, newest first: four of the one kind, four of the other; and the 16 words of the schedule, oldest first. -/
structure ShaWork where
  one   : List (BitVec 32)
  other : List (BitVec 32)
  sched : List (BitVec 32)
deriving DecidableEq, Repr

/-- Word i of a list. -/
def wordOf (l : List (BitVec 32)) (i : Nat) : BitVec 32 := l.getD i 0#32

/-- One step with its constant: it uses the oldest word of the schedule and appends the next. -/
def ShaWork.advance (x : ShaWork) (k : BitVec 32) : ShaWork :=
  let p := wordOf x.one
  let q := wordOf x.other
  let w := wordOf x.sched
  let t := q 3 + turns (q 0) 6 11 ((q 0).rotateRight 25) + ((q 0 &&& q 1) ||| (~~~(q 0) &&& q 2)) + k + w 0
  let u := turns (p 0) 2 13 ((p 0).rotateRight 22) + ((p 0 &&& (p 1 ||| p 2)) ||| (p 1 &&& p 2))
  let v := turns (w 14) 17 19 (w 14 >>> 10) + w 9 + turns (w 1) 7 18 (w 1 >>> 3) + w 0
  { one := (t + u) :: x.one.take 3
    other := (p 3 + t) :: x.other.take 3
    sched := x.sched.drop 1 ++ [v] }

/-- A big-endian number of bytes. -/
def beNat (l : List Byte) : Nat := leNat l.reverse

/-- The hash value after one block of 64 bytes. -/
def shaBlock (h : List (BitVec 32)) (block : List Byte) : List (BitVec 32) :=
  let first := (List.range 16).map (fun i => BitVec.ofNat 32 (beNat ((block.drop (4 * i)).take 4)))
  let x := (shaPrimes.map (rootFraction 3)).foldl ShaWork.advance ⟨h.take 4, h.drop 4, first⟩
  List.zipWith (· + ·) h (x.one ++ x.other)

/-! ### A message -/

/-- Pads a message to whole blocks: a set bit, zeros, and its length in bits. -/
def shaPad (l : List Byte) : List Byte :=
  l ++ [0x80#8] ++ List.replicate ((119 - l.length % 64) % 64) 0#8 ++ (natLE 8 (8 * l.length)).reverse

/-- SHA-256 of a message. -/
def sha256 (l : List Byte) : BitVec 256 :=
  let m := shaPad l
  let start := (shaPrimes.take 8).map (rootFraction 2)
  let h := (List.range (m.length / 64)).foldl (fun h i => shaBlock h ((m.drop (64 * i)).take 64)) start
  BitVec.ofNat 256 (h.foldl (fun n (w : BitVec 32) => n * 2 ^ 32 + w.toNat) 0)

end Sys2Proof.Machine
end

