-- ==== Sys2Proof/Machine/TrapEvents.lean ====
section
/-!
DEFINITION. Asynchronous traps as they are taken (14 R363), and the host's answers to fault records and queue events (14 R367, 15
R404, R405).
-/

namespace Sys2Proof.Machine

/-! ### Asynchronous traps (14 R363) -/

/-- Some part of the group raises a synchronous trap in this clk, in which the core's turn is the group's. -/
def State.raisesTrap (s : State) (r : GRef) (g : Group) : Bool :=
  !heldBack s r g && s.hasTurn r && slots.any (fun k => match g.headPart k with
    | some p => comesToTrap s r g k p
    | none => false)

/-- ASYNC_TRAP_TAKEN: a pending trap is taken where the group raises no synchronous one, is in no handler and is not stopped; the
range-guard trap first (14 R363). -/
def execAsyncTrapTaken (g : GRef) (s : State) : Host.Outcome State Fault Refusal :=
  match s.group g with
  | none => .next s
  | some x =>
    if !s.serving || !x.asyncDue || x.headerHolds || s.raisesTrap g x then .next s
    else
      match x.trap.rangeErr, x.trap.dataErr with
      | some t, _ => .next (trapAsync s g { x with trap := { x.trap with rangeErr := none } } 9 t)
      | none, some t => .next (trapAsync s g { x with trap := { x.trap with dataErr := none } } 8 t)
      | none, none => .next s

/-! ### Answers (15 R404) -/

/-- What an answer names: a stopped group, or a queue event. -/
inductive AnswerFor where
  | group (id : GId)
  | event (e : QueueEvent)
deriving DecidableEq, Repr

/-- Every group of the device, seated, draining or saved. -/
def State.allGroups (s : State) : List Group := s.cores.flatMap Core.groups

/-- The record, posted on the queue's ring and waiting, that a SERIAL names (15 R404). -/
def State.answered (s : State) (cq : CmdQueue) (serial : Nat) : Option AnswerFor :=
  if cq.posts.any (fun p => p.serial % 2 ^ 32 == serial) then none
  else
    match s.allGroups.find? (fun g => match g.stop with
        | some x => x.queue == cq.q && x.serial % 2 ^ 32 == serial && x.answer.isNone
        | none => false) with
    | some g => some (.group g.gid)
    | none => (cq.events.find? (fun e => e.serial % 2 ^ 32 == serial)).map .event

/-- The answer that the context holds: its SERIAL and CODE, where VALID is set (15 Table 15.1). -/
def State.ctxAnswer (s : State) (cq : CmdQueue) : Option (Nat × Nat) :=
  let w := s.ctxQuad cq 5
  if w.testBit 2 then some (w / 2 ^ 32 % 2 ^ 32, w % 4) else none

/-- Clears VALID. -/
def State.clearValid (s : State) (cq : CmdQueue) : State := s.putCtx cq 40 1 (s.ctxQuad cq 5 % 4)

/-- An answer takes effect on a stopped group where it stands, or is kept until it is seated again (14 R367, R368). -/
def State.answerGroup (s : State) (id : GId) (a : Answer) : State :=
  let s := s.mapGroup id (fun g => { g with stop := g.stop.map (fun x => { x with answer := some a }) })
  match s.findGroup id with
  | none => s
  | some r =>
    match s.group r with
    | none => s
    | some g =>
      match g.stop with
      | none => s
      | some x => if g.landed then s else s.applyAnswer r g { x with answer := none } a

/-- A queue event is answered: the queue runs again once none waits (15 R405). -/
def CmdQueue.dropEvent (cq : CmdQueue) (e : QueueEvent) : CmdQueue :=
  let cq : CmdQueue := { cq with events := cq.events.filter (fun x => decide (x ≠ e)) }
  { cq with state := if cq.state = .stalled ∧ cq.events.isEmpty then .run else cq.state }

/-- The malformed node of queue event 3 ends as SKIPPED, or, in an aborted queue, never ends (15 Table 15.4, R406). -/
def CmdQueue.endMalformed (cq : CmdQueue) (slot : Nat) (abort : Bool) : CmdQueue :=
  match cq.node slot with
  | none => cq
  | some n => cq.setNode (if abort then { n with record := n.record.set 0 0#8, fired := false } else { n with result := some .skipped })

/-- Abort of a queue (15 R406). -/
def State.abortQueue (s : State) (cq : CmdQueue) (e : QueueEvent) : State :=
  let cq : CmdQueue := { cq with events := cq.events.filter (fun x => decide (x ≠ e)), state := .aborted }
  let cq := if e.code = 3 then cq.endMalformed e.slot true else cq
  (s.setQueue cq).putState cq

/-- Resume or skip of a queue event (15 Table 15.4); none where the word to be written again is still to be translated. -/
def State.answerEvent (s : State) (cq : CmdQueue) (e : QueueEvent) (resume : Bool) : Option State :=
  let cq' := cq.dropEvent e
  let cq' := if e.code = 3 then cq'.endMalformed e.slot false else cq'
  let done (s : State) : State := (s.setQueue cq').putState cq'
  if e.code = 5 ∧ resume then
    match s.writeWord cq.unit cq.pasid e.addr e.word with
    | .miss => none
    | .refused s => some ((done s).raiseEvent cq.q 5 e.slot e.addr e.word)
    | .ok s => some (done s)
  else some (done s)

/-- The front end takes an answer with a CODE: VALID is cleared and the record it names is answered (15 R404). -/
def State.takeAnswer (s : State) (q : Nat) (code : Nat) (a : Answer) : State :=
  match s.queue q with
  | none => s
  | some cq =>
    if !s.serving || !s.ctxReady cq then s
    else
      match s.ctxAnswer cq with
      | none => s
      | some (serial, c) =>
        if c ≠ code then s
        else
          match s.answered cq serial with
          | none => s
          | some (.group id) => (s.clearValid cq).answerGroup id a
          | some (.event e) =>
            if a = .abort then (s.clearValid cq).abortQueue cq e
            else ((s.clearValid cq).answerEvent cq e (decide (a = .resume))).getD s

/-- ANSWER_RESUME: CODE 0 (14 R367, 15 Table 15.4). -/
def execAnswerResume (q : Nat) (s : State) : Host.Outcome State Fault Refusal := .next (s.takeAnswer q 0 .resume)
/-- ANSWER_SKIP: CODE 1 (14 R367, 15 Table 15.4). -/
def execAnswerSkip (q : Nat) (s : State) : Host.Outcome State Fault Refusal := .next (s.takeAnswer q 1 .skip)
/-- ANSWER_ABORT: CODE 2 (14 R367, 15 R406). -/
def execAnswerAbort (q : Nat) (s : State) : Host.Outcome State Fault Refusal := .next (s.takeAnswer q 2 .abort)

/-- ANSWER_INVALID: an answer with CODE 3, or one that names no record waiting on the ring, is dropped; VALID is cleared (15 R404). -/
def execAnswerInvalid (q : Nat) (s : State) : Host.Outcome State Fault Refusal :=
  match s.queue q with
  | none => .next s
  | some cq =>
    if !s.serving || !s.ctxReady cq then .next s
    else
      match s.ctxAnswer cq with
      | none => .next s
      | some (serial, c) => if c = 3 ∨ s.answered cq serial = none then .next (s.clearValid cq) else .next s

end Sys2Proof.Machine
end

