-- ==== Sys2Proof/Machine/Platform.lean ====
section
/-!
DEFINITION. Package, power, firmware and bring-up (22_platform R437 to R446): the management registers, the recovery mailbox,
attestation, the boot phases, and the events of power, heat and PTM.
-/

namespace Sys2Proof.Machine

/-! ### Phases and registers (22 R440, R442, R446, Tables 22.2 to 22.4) -/

def phRESET : Nat := 0
def phROM : Nat := 1
def phAUTH : Nat := 2
def phLOAD : Nat := 3
def phTRAIN : Nat := 4
def phREADY : Nat := 5
def phRECOVERY : Nat := 6
def phHALTED : Nat := 7

/-- Changes the platform. -/
def State.onPlat (s : State) (f : Platform → Platform) : State := { s with plat := f s.plat }

/-- Whether the host reaches an offset in the phase: ID and STATUS always, MBOX in RECOVERY, every register in READY (22 Table 22.2).
Offsets from 0x10000 stand for BAR2 (log 35). -/
def reaches (phase off : Nat) : Bool :=
  phase == phREADY || decide (off < 0x10) || (decide (0x100 ≤ off) && decide (off < 0x140)) ||
  (phase == phRECOVERY && ((decide (0x80 ≤ off) && decide (off < 0x90)) || decide (0x10000 ≤ off)))

/-- Issue cycles are withheld: the sampled power exceeds the rating, or a die stands at 95 °C or more (22 R437, R438); not from a reset on
until the policy processor samples again (Table 22.4: THROT resets to 0; log 68). -/
def State.throttled (s : State) : Bool :=
  (s.plat.phase == phTRAIN || s.plat.phase == phREADY || s.plat.phase == phHALTED) &&
  (s.plat.throt || s.dies.any (fun d => decide (95 ≤ d.temp)))

/-- STATUS (22 Table 22.4). -/
def State.status (s : State) : Word :=
  let p := s.plat
  let b (x : Bool) (k : Nat) : Nat := if x then 2 ^ k else 0
  word (p.deny % 65536 * 2 ^ 32 + b s.throttled 23 + b p.trip 22 + b p.perr 21 + b (!s.withdrawn.isEmpty) 20 + b p.fail1 17 + b p.fail0 16 +
    p.slot % 4 * 2 ^ 8 + p.phase % 8)

/-- CAP (22 Table 22.3). The panes of a core that is out of service count as in service: the spec does not say (DESIGN CHOICE, log 80). -/
def State.cap (s : State) : Word :=
  let n (f : LampUnit → Bool) : Nat := (s.withdrawn.filter f).length
  let cores := ((List.range Config.cores).filter s.coreIn).length
  let panes := Config.cores * Config.panes - n (fun u => match u with
    | .pane _ _ => true
    | _ => false)
  let lanterns := 64 - n (fun u => match u with
    | .lantern _ => true
    | _ => false)
  let channels := n (fun u => match u with
    | .channel _ _ => true
    | _ => false)
  word (cores + panes * 2 ^ 8 + lanterns * 2 ^ 18 + channels * 2 ^ 25)

/-- ID.DEV (22 Table 22.3). -/
def State.idDev (s : State) : Word := word (s.plat.stepping % 256 * 2 ^ 32 + 0xDC9A1152)

/-- MBOX.STAT (22 Table 22.3). -/
def Platform.mboxStat (p : Platform) : Word := word (p.mboxRes % 4 * 2 + if p.mboxBusy then 1 else 0)

/-- A report's fields after its three 32-byte ones, in their order (22 R445). -/
def Report.rest (r : Report) : List Nat :=
  [r.slot, r.version, r.floor, r.rank, r.part.toNat, r.cap.toNat, r.index, r.signature]

/-- Byte i of the report at ATT.REP: the nonce and the two hashes, then the other fields in a layout that is free (22 R445; log 15); zero
where no report stands. -/
def Platform.reportByte (p : Platform) (i : Nat) : Byte :=
  match p.report with
  | none => 0#8
  | some r =>
    let head := [r.nonce, r.booted, r.other]
    if i < 96 then BitVec.ofNat 8 (nbits (head.getD (i / 32) 0#256).toNat (8 * (i % 32)) 8)
    else Config.freeReport (head.map (·.toNat) ++ r.rest) i

/-- The 8 bytes of BAR0 at an aligned offset, as they read in READY; an offset not listed reads zero (22 R446, Table 22.3). -/
def State.bar0At (s : State) (off : Nat) : Word :=
  let p := s.plat
  let part (v : Nat) (base : Nat) : Word := word (nbits v (8 * (off - base)) 64)
  if off = 0 then s.idDev
  else if off = 8 then s.status
  else if off = 0x10 then s.cap
  else if off = 0x18 then p.part
  else if off = 0x20 then word p.rank
  else if 0x28 ≤ off ∧ off < 0x48 then word (p.pth.getD ((off - 0x28) / 8) 0)
  else if off = 0x48 then p.qcmd
  else if off = 0x50 then p.qarg0
  else if off = 0x58 then p.qarg1
  else if off = 0x80 then p.mboxCmd
  else if off = 0x88 then p.mboxStat
  else if 0x100 ≤ off ∧ off < 0x140 then part p.idPub.toNat 0x100
  else if 0x200 ≤ off ∧ off < 0x220 then part p.nonce.toNat 0x200
  else if off = 0x240 then p.attCmd
  else if off = 0x248 then word p.attStat
  else if 0x1000 ≤ off ∧ off < 0x2000 then word (leNat ((List.range 8).map (fun i => p.reportByte (off - 0x1000 + i))))
  else 0#64

/-- A host read of 8 bytes: BAR0, and BAR2 from 0x10000; outside the reach of the phase it reads zero (22 R442, R446, Table 22.2), and
DENIED_ACCESS counts it. -/
def State.hostRead (s : State) (off : Nat) : Word :=
  if !reaches s.plat.phase off then 0#64
  else if 0x10000 ≤ off then word (leNat (s.plat.staging.readN (off - 0x10000) 8))
  else s.bar0At off

/-- A write that READY alone accepts: elsewhere it is denied (22 R442). -/
def State.inReady (s : State) (k : State → State) : State := if s.serving then k s else s.denied

/-- PART's masks: every die's is its own aligned set, and the dies of a set agree (15 R395). -/
def partOk (v : Word) : Bool :=
  (List.range 4).all (fun d =>
    let m := bits v (4 * d) 4
    (m == 2 ^ d || m == 3 * 2 ^ (d / 2 * 2) || m == 15) && (diesOf m).all (fun e => bits v (4 * e) 4 == m))

/-- Dies with a task admitted. -/
def State.dieBusy (s : State) (d : Nat) : Bool :=
  s.tasks.any (fun t => (t.state == .running || t.state == .preempted) && t.cores.any (fun c => dieOf c == d))

/-- PART_WRITE: accepted only while no task is admitted on a die whose partition it changes; masks that are not aligned sets, or that
disagree, are refused (22 R446). The non-volatile store keeps it (log 35). -/
def execPartWrite (val : Word) (s : State) : Host.Outcome State Fault Refusal :=
  .next (s.inReady (fun s =>
    if !partOk val || (List.range 4).any (fun d => bits val (4 * d) 4 != s.partition d && s.dieBusy d) then s.refuseWrite
    else s.onPlat (fun p => { p with part := word (bits val 0 16), nvPart := word (bits val 0 16) })))

/-- A collective that is not final. -/
def Group.collective (g : Group) : Bool := g.wicks.any (fun w => isColl w.kind && (w.status == stBUSY || w.stopped))

/-- RANK_WRITE: accepted only while no collective is non-final on the device (22 R446). The non-volatile store keeps it (log 35). -/
def execRankWrite (val : Word) (s : State) : Host.Outcome State Fault Refusal :=
  .next (s.inReady (fun s =>
    if s.allGroups.any Group.collective then s.refuseWrite
    else s.onPlat (fun p => { p with rank := bits val 0 18, nvRank := bits val 0 18 })))

/-- PTH_WRITE: takes effect at the next pre-emption decision (22 R446). -/
def execPthWrite (p : Nat) (val : Word) (s : State) : Host.Outcome State Fault Refusal :=
  .next (s.inReady (fun s => s.onPlat (fun x => { x with pth := x.pth.set p (bits val 0 32) })))

/-- A write of 8 bytes to BAR2 (22 R443): ignored and counted while an image is verified, and elsewhere than in RECOVERY and READY. -/
def State.bar2Write (s : State) (off : Nat) (val : Word) : State :=
  if s.plat.phase = phRECOVERY ∨ s.plat.phase = phREADY then
    (if s.plat.mboxBusy then s.denied
     else if off + 8 ≤ 2 ^ 20 then s.onPlat (fun p => { p with staging := p.staging.writeN off (natLE 8 val.toNat) }) else s)
  else s.denied

/-- A write to ATT.CMD: the register holds it, and a 1 starts an attestation, none while one runs (22 R445, Table 22.3; DEDUCED, log 68). -/
def State.attCommand (s : State) (val : Word) : State :=
  s.inReady (fun s => s.onPlat (fun p =>
    let p := { p with attCmd := val }
    if val = 1#64 ∧ p.attRun = false then { p with attStat := 0, attRun := true } else p))

/-- MANAGEMENT_REGISTER_WRITE: the registers with no row of their own: QARG0, QARG1, ATT.CMD, STATUS, whose PERR a 1 clears, BAR2, and
those that are read-only or not listed, which ignore the write (22 R442, R446). -/
def execManagementRegisterWrite (reg : MgmtReg) (val : Word) (s : State) : Host.Outcome State Fault Refusal :=
  match reg with
  | .qarg0 => .next (s.inReady (fun s => s.onPlat (fun p => { p with qarg0 := val })))
  | .qarg1 => .next (s.inReady (fun s => s.onPlat (fun p => { p with qarg1 := val })))
  | .other off =>
    if off = 8 then .next (s.onPlat (fun p => { p with perr := p.perr && !val.getLsbD 21 }))
    else if 0x10000 ≤ off then .next (s.bar2Write (off - 0x10000) val)
    else if reaches s.plat.phase off then .next s
    else .next s.denied
  | .attCmd => .next (s.attCommand val)
  | .qcmd | .part | .rank | .pth _ | .mboxCmd | .attNonce => .next s

/-- DENIED_ACCESS: an access outside the reach of the phase reads zero, ignores its write, and counts in DENY (22 R442). -/
def execDeniedAccess (acc : HostAccess) (s : State) : Host.Outcome State Fault Refusal :=
  if reaches s.plat.phase acc.off then .next s else .next s.denied

/-! ### Boot (22 R440, R441) -/

/-- The state that a reset leaves: the non-volatile store, the host's memory, the dies' temperatures and the model's own agenda stay; the
rest is as State.reset has it (log 36). -/
def State.resetDevice (s : State) : State :=
  let z := Platform.reset
  let p := s.plat
  { State.reset with
    host := s.host
    cur := s.cur
    agenda := s.agenda
    free := s.free
    dies := s.dies.map (fun d => { Die.reset with temp := d.temp })
    plat := { z with
      nvFloor := p.nvFloor
      nvKey := p.nvKey
      nvRank := p.nvRank
      nvPart := p.nvPart
      slots := p.slots
      stepping := p.stepping
      idPub := p.idPub } }

/-- RESET: the device is reset, in any phase but RESET; in phase RESET the rails are stable and the fuses read, and ROM begins (22
R440, log 36). -/
def execDeviceReset (s : State) : Host.Outcome State Fault Refusal :=
  if s.plat.phase = phRESET then .next (s.onPlat (fun p => { p with phase := phROM })) else .next s.resetDevice

/-- BOOT_ROM_HASH: both slots are hashed (22 R440). -/
def execBootRomHash (s : State) : Host.Outcome State Fault Refusal :=
  if s.plat.phase = phROM then .next (s.onPlat (fun p => { p with phase := phAUTH })) else .next s

/-- A firmware slot. -/
def Platform.fw (p : Platform) (k : Nat) : FwSlot := p.slots.getD k ⟨[], 0, 0, false⟩

/-- A valid slot: its signature verifies and its VERSION is at least the FLOOR of the non-volatile store (22 R441). -/
def Platform.valid (p : Platform) (k : Nat) : Bool := (p.fw k).signed && decide (p.nvFloor ≤ (p.fw k).version)

/-- The slot that is booted: of two valid ones the higher VERSION, slot 0 when equal (22 R441). -/
def Platform.choose (p : Platform) : Option Nat :=
  if p.valid 0 && p.valid 1 then (if (p.fw 0).version < (p.fw 1).version then some 1 else some 0)
  else if p.valid 0 then some 0
  else if p.valid 1 then some 1
  else none

/-- SLOT_CHOICE: authentication ends; the chosen slot is booted, or the device enters RECOVERY (22 R441). -/
def execSlotChoice (s : State) : Host.Outcome State Fault Refusal :=
  if s.plat.phase ≠ phAUTH then .next s
  else
    .next (s.onPlat (fun p =>
      let p' := { p with fail0 := !p.valid 0, fail1 := !p.valid 1 }
      match p.choose with
      | some k => { p' with slot := k, phase := phLOAD }
      | none => { p' with phase := phRECOVERY }))

/-- FIRMWARE_LOAD: the firmware is loaded and started (22 R440). -/
def execFirmwareLoad (s : State) : Host.Outcome State Fault Refusal :=
  if s.plat.phase = phLOAD then .next (s.onPlat (fun p => { p with phase := phTRAIN })) else .next s

/-- HBM_TRAIN: HBM is trained and every unit lamp-tested, those that failed are withdrawn; rank and partitions come from the
non-volatile store, and READY raises the FLOOR (22 R440, R441, 01 R25). -/
def execHbmTrain (failed : List LampUnit) (s : State) : Host.Outcome State Fault Refusal :=
  if s.plat.phase ≠ phTRAIN then .next s
  else
    .next { s.onPlat (fun p => { p with
      phase := phREADY
      rank := p.nvRank
      part := p.nvPart
      nvFloor := Nat.max p.nvFloor (p.fw p.slot).floor }) with withdrawn := failed.dedup }

/-! ### Recovery (22 R443, Table 22.5) -/

/-- A write to MBOX.CMD: refused in READY, denied outside RECOVERY and while BUSY is set (22 R442, R443). -/
def State.mbox (s : State) (k : State → State) : State :=
  if s.serving then s.onPlat (fun p => { p with mboxRes := 3, perr := true })
  else if s.plat.phase ≠ phRECOVERY ∨ s.plat.mboxBusy = true then s.denied
  else k s

/-- MBOX_NONE: OP 0, the write is ignored (22 Table 22.5). -/
def execMboxNone (val : Word) (s : State) : Host.Outcome State Fault Refusal :=
  if bits val 0 2 = 0 then .next (s.mbox id) else .next s

/-- MBOX.CMD as it holds a value: its reserved bits read zero (00 R8, 22 Table 22.3). -/
def mboxFields (v : Word) : Word := word (bits v 0 3 + bits v 32 32 * 2 ^ 32)

/-- LEN of MBOX.CMD. -/
def mboxLen (v : Word) : Nat := bits v 32 32

/-- MBOX_VERIFY_WRITE: OP 1 starts the verification of the staged image; a LEN of 0 or above 1,048,576 sets RES = 2 (22 R443). -/
def execMboxVerifyWrite (val : Word) (s : State) : Host.Outcome State Fault Refusal :=
  if bits val 0 2 = 1 then
    .next (s.mbox (fun s => s.onPlat (fun p =>
      let p := { p with mboxCmd := mboxFields val }
      if mboxLen val = 0 ∨ 1048576 < mboxLen val then { p with mboxRes := 2 } else { p with mboxBusy := true })))
  else .next s

/-- MBOX_CLEAR: OP 2, RES := 0 (22 Table 22.5). -/
def execMboxClear (val : Word) (s : State) : Host.Outcome State Fault Refusal :=
  if bits val 0 2 = 2 then .next (s.mbox (fun s => s.onPlat (fun p => { p with mboxRes := 0 }))) else .next s

/-- MBOX_REFUSED: OP 3, or any command in READY: RES := 3 (22 R443, Table 22.5). -/
def execMboxRefused (val : Word) (s : State) : Host.Outcome State Fault Refusal :=
  if bits val 0 2 = 3 ∨ s.serving = true then .next (s.mbox (fun s => s.onPlat (fun p => { p with mboxRes := 3 }))) else .next s

/-- The staged image. -/
def Platform.staged (p : Platform) : List Byte := p.staging.readN 0 (mboxLen p.mboxCmd)
/-- The slot that the mailbox names. -/
def Platform.target (p : Platform) : Nat := bits p.mboxCmd 2 1
/-- The staged image as a slot would hold it; what the spec lays out of an image, its signature, VERSION and FLOOR, is free (log 15). -/
def stagedSlot (im : List Byte) : FwSlot := ⟨im, Config.freeVersion im % 2 ^ 32, Config.freeFloor im % 2 ^ 32, Config.freeVerify im⟩
/-- The staged image is valid (22 R441, R443). -/
def Platform.stagedValid (p : Platform) : Bool := let x := stagedSlot p.staged; x.signed && decide (p.nvFloor ≤ x.version)

/-- RECOVERY_IMAGE_VERIFIED: a valid image is written into the named slot, RES = 0, and the device resets itself; otherwise RES = 1
and nothing is written (22 R443). -/
def execRecoveryImageVerified (s : State) : Host.Outcome State Fault Refusal :=
  let p := s.plat
  if p.phase ≠ phRECOVERY ∨ p.mboxBusy = false then .next s
  else if p.stagedValid then .next (s.onPlat (fun p => { p with slots := p.slots.set p.target (stagedSlot p.staged) })).resetDevice
  else .next (s.onPlat (fun p => { p with mboxBusy := false, mboxRes := 1 }))

/-- A slot whose write a power loss cut after k bytes: incomplete, so that its signature fails (22 R443). -/
def Platform.cutSlot (p : Platform) (k : Nat) : FwSlot :=
  { stagedSlot (p.staged.take k ++ (p.fw p.target).image.drop k) with signed := false }

/-- POWER_LOSS: power is lost; whether a valid staged image was then being verified still, or its slot being written, and how far, is
open, and a slot whose write was in progress is left incomplete; a one-time key's index may be skipped where an attestation ran; the
device comes back in reset (22 R443, R444, log 36). -/
def execPowerLoss (s : State) : Host.Outcome State Fault Refusal :=
  let f (k : Nat) : Nat := Config.freeNat (s.free + k)
  let s' := s.onPlat (fun p =>
    let p := if p.phase = phRECOVERY ∧ p.mboxBusy = true ∧ p.stagedValid = true ∧ f 0 % 2 = 1 then
        { p with slots := p.slots.set p.target (p.cutSlot (f 1)) } else p
    if p.attRun = true ∧ p.nvKey < 2 ^ 20 then { p with nvKey := p.nvKey + f 2 % 2 } else p)
  .next ({ s' with free := s.free + 3 }).resetDevice

/-! ### Attestation (22 R444, R445) -/

/-- ATT_NONCE_WRITE: taken, or ignored and counted in DENY while an attestation runs (22 R445). -/
def execAttNonceWrite (nonce : BitVec 256) (s : State) : Host.Outcome State Fault Refusal :=
  .next (s.inReady (fun s => if s.plat.attRun then s.denied else s.onPlat (fun p => { p with nonce := nonce })))

/-- ATTESTATION_REQUEST: ATT.CMD := 1 (22 R445). -/
def execAttestationRequest (s : State) : Host.Outcome State Fault Refusal := .next (s.attCommand 1#64)

/-- The report over the nonce in place at ATT.CMD, signed with the one-time key of its index (22 R445). -/
def State.makeReport (s : State) : Report :=
  let p := s.plat
  let k := p.slot
  let r : Report := {
    nonce := p.nonce
    booted := sha256 (p.fw k).image
    other := sha256 (p.fw (1 - k)).image
    slot := k
    version := (p.fw k).version
    floor := (p.fw k).floor
    rank := p.rank
    part := p.part
    cap := s.cap
    index := p.nvKey
    signature := 0 }
  { r with signature := Config.freeSignature ([r.nonce, r.booted, r.other].map (·.toNat) ++ r.rest) p.nvKey }

/-- ATTESTATION_DONE: the next one-time key's index is committed and the report is signed with it, or STAT = 2 when the 2^20 keys are
spent (22 R444, R445). -/
def execAttestationDone (s : State) : Host.Outcome State Fault Refusal :=
  if !s.serving || !s.plat.attRun then .next s
  else if 2 ^ 20 ≤ s.plat.nvKey then .next (s.onPlat (fun p => { p with attStat := 2, attRun := false }))
  else .next (s.onPlat (fun p => { p with attStat := 1, attRun := false, nvKey := p.nvKey + 1, report := some s.makeReport }))

/-! ### Power, heat and PTM (22 R437 to R439) -/

/-- POWER_SAMPLE: issue cycles are withheld, and THROT is set, while the sample exceeds the rating of 1,800 W (22 R437). Withholding
changes no result (01 R24): the agenda says who issues when. -/
def execPowerSample (watts : Nat) (s : State) : Host.Outcome State Fault Refusal :=
  if s.plat.phase = phTRAIN ∨ s.plat.phase = phREADY then .next (s.onPlat (fun p => { p with throt := decide (1800 < watts) })) else .next s

/-- A die's junction temperature: at 105 °C it trips, and every core stops issuing: TRIP, and PHASE := HALTED until the next reset (22
R438). -/
def State.setTemp (s : State) (die celsius : Nat) : State :=
  if 4 ≤ die then s
  else
    let s := s.setDie die { s.die die with temp := celsius }
    if 105 ≤ celsius then s.onPlat (fun p => { p with trip := true, phase := phHALTED }) else s

/-- THERMAL_TRIP: a die is found at a temperature; from 95 °C issue cycles are withheld (22 R438). -/
def execThermalTrip (die : Nat) (celsius : Nat) (s : State) : Host.Outcome State Fault Refusal := .next (s.setTemp die celsius)

/-- PTM_EXCHANGE: TIME is published beside the host's clock (22 R439). -/
def execPtmExchange (host : Nat) (s : State) : Host.Outcome State Fault Refusal :=
  .next (s.onPlat (fun p => { p with ptm := some (host, s.clk % 2 ^ 64) }))

end Sys2Proof.Machine
end

