-- ==== Sys2Proof/Machine/Scalar.lean ====
section
/-!
DEFINITION. The scalar family: NOPs (02 R30, R54), integer arithmetic, logic and shifts in register and immediate form (04 R119,
R120), compare, select and predicate logic (04 R122 to R124).
-/

namespace Sys2Proof.Machine

/-! ### The values (04 R119, R120) -/

/-- The high half of a signed product. -/
def mulhVal (a b : Word) : Word := BitVec.ofInt 64 (a.toInt * b.toInt / 2 ^ 64)
/-- The high half of an unsigned product. -/
def mulhuVal (a b : Word) : Word := word (a.toNat * b.toNat / 2 ^ 64)
/-- DIV: all ones for a zero divisor, the dividend for the one overflow, else truncated toward zero. -/
def divVal (a b : Word) : Word :=
  if b = 0#64 then 0xFFFFFFFFFFFFFFFF#64
  else if a = 0x8000000000000000#64 ∧ b = 0xFFFFFFFFFFFFFFFF#64 then a
  else BitVec.ofInt 64 (a.toInt.tdiv b.toInt)
/-- DIVU. -/
def divuVal (a b : Word) : Word := if b = 0#64 then 0xFFFFFFFFFFFFFFFF#64 else word (a.toNat / b.toNat)
/-- REM. -/
def remVal (a b : Word) : Word :=
  if b = 0#64 then a
  else if a = 0x8000000000000000#64 ∧ b = 0xFFFFFFFFFFFFFFFF#64 then 0#64
  else BitVec.ofInt 64 (a.toInt - b.toInt * a.toInt.tdiv b.toInt)
/-- REMU. -/
def remuVal (a b : Word) : Word := if b = 0#64 then a else word (a.toNat % b.toNat)
/-- The shift count: bits [5:0] of an operand. -/
def shiftOf (b : Word) : Nat := b.toNat % 64
/-- MIN and MAX on signed values. -/
def minVal (a b : Word) : Word := if a.toInt ≤ b.toInt then a else b
def maxVal (a b : Word) : Word := if a.toInt ≤ b.toInt then b else a
/-- MINU and MAXU. -/
def minuVal (a b : Word) : Word := if a.toNat ≤ b.toNat then a else b
def maxuVal (a b : Word) : Word := if a.toNat ≤ b.toNat then b else a
/-- LUI: the source shifted by fifteen, with the immediate read as unsigned. -/
def luiVal (a : Word) (imm : BitVec 15) : Word := (a <<< 15) ||| imm.setWidth 64

/-! ### Running a scalar part -/

/-- A part with two scalar sources: its value enters e0 and the destination (04 R100, R119). -/
def runR3 (i : Instr) (x : R3) (s : State) (f : Word → Word → Word) : Host.Outcome State Fault Refusal :=
  runGroup .S i s (fun r g p => g.resultS p.seq x.dst.toNat (f (scalarSrc r g x.sa.toNat) (scalarSrc r g x.sb.toNat)))

/-- A part with one scalar source. -/
def runR2 (i : Instr) (x : R2) (s : State) (f : Word → Word) : Host.Outcome State Fault Refusal :=
  runGroup .S i s (fun r g p => g.resultS p.seq x.dst.toNat (f (scalarSrc r g x.sa.toNat)))

/-- A part with a scalar source and an immediate (04 R120). -/
def runRI (i : Instr) (x : RI) (s : State) (f : Word → Word) : Host.Outcome State Fault Refusal :=
  runGroup .S i s (fun r g p => g.resultS p.seq x.dst.toNat (f (scalarSrc r g x.sa.toNat)))

/-! ### NOPs: each issues like any other part and has no effect (02 R30, R32) -/

/-- NOP (02 R54). -/
def execNop (s : State) : Host.Outcome State Fault Refusal := runGroup .S .nop s (fun _ g _ => g)
/-- ANOP (02 R54). -/
def execAnop (s : State) : Host.Outcome State Fault Refusal := runGroup .A .anop s (fun _ g _ => g)
/-- VNOP (02 R54). -/
def execVnop (s : State) : Host.Outcome State Fault Refusal := runGroup .V .vnop s (fun _ g _ => g)
/-- MNOP (02 R54). -/
def execMnop (s : State) : Host.Outcome State Fault Refusal := runGroup .M .mnop s (fun _ g _ => g)
/-- CNOP (02 R54). -/
def execCnop (s : State) : Host.Outcome State Fault Refusal := runGroup .C .cnop s (fun _ g _ => g)
/-- KNOP (02 R54). -/
def execKnop (s : State) : Host.Outcome State Fault Refusal := runGroup .K .knop s (fun _ g _ => g)

/-! ### Register forms (04 R119) -/

/-- ADD (04 R119). -/
def execAdd (x : R3) (s : State) : Host.Outcome State Fault Refusal := runR3 (.add x) x s (fun a b => a + b)
/-- SUB (04 R119). -/
def execSub (x : R3) (s : State) : Host.Outcome State Fault Refusal := runR3 (.sub x) x s (fun a b => a - b)
/-- MUL (04 R119). -/
def execMul (x : R3) (s : State) : Host.Outcome State Fault Refusal := runR3 (.mul x) x s (fun a b => a * b)
/-- MULH (04 R119). -/
def execMulh (x : R3) (s : State) : Host.Outcome State Fault Refusal := runR3 (.mulh x) x s (fun a b => mulhVal a b)
/-- MULHU (04 R119). -/
def execMulhu (x : R3) (s : State) : Host.Outcome State Fault Refusal := runR3 (.mulhu x) x s (fun a b => mulhuVal a b)
/-- DIV (04 R119). -/
def execDiv (x : R3) (s : State) : Host.Outcome State Fault Refusal := runR3 (.div x) x s (fun a b => divVal a b)
/-- DIVU (04 R119). -/
def execDivu (x : R3) (s : State) : Host.Outcome State Fault Refusal := runR3 (.divu x) x s (fun a b => divuVal a b)
/-- REM (04 R119). -/
def execRem (x : R3) (s : State) : Host.Outcome State Fault Refusal := runR3 (.rem x) x s (fun a b => remVal a b)
/-- REMU (04 R119). -/
def execRemu (x : R3) (s : State) : Host.Outcome State Fault Refusal := runR3 (.remu x) x s (fun a b => remuVal a b)
/-- AND (04 R119). -/
def execAnd (x : R3) (s : State) : Host.Outcome State Fault Refusal := runR3 (.and x) x s (fun a b => a &&& b)
/-- OR (04 R119). -/
def execOr (x : R3) (s : State) : Host.Outcome State Fault Refusal := runR3 (.or x) x s (fun a b => a ||| b)
/-- XOR (04 R119). -/
def execXor (x : R3) (s : State) : Host.Outcome State Fault Refusal := runR3 (.xor x) x s (fun a b => a ^^^ b)
/-- ANDN (04 R119). -/
def execAndn (x : R3) (s : State) : Host.Outcome State Fault Refusal := runR3 (.andn x) x s (fun a b => a &&& ~~~b)
/-- SHL (04 R119). -/
def execShl (x : R3) (s : State) : Host.Outcome State Fault Refusal := runR3 (.shl x) x s (fun a b => a <<< shiftOf b)
/-- SHR (04 R119). -/
def execShr (x : R3) (s : State) : Host.Outcome State Fault Refusal := runR3 (.shr x) x s (fun a b => a >>> shiftOf b)
/-- SAR (04 R119). -/
def execSar (x : R3) (s : State) : Host.Outcome State Fault Refusal := runR3 (.sar x) x s (fun a b => a.sshiftRight (shiftOf b))
/-- ROTR (04 R119). -/
def execRotr (x : R3) (s : State) : Host.Outcome State Fault Refusal := runR3 (.rotr x) x s (fun a b => a.rotateRight (shiftOf b))
/-- MIN (04 R119). -/
def execMin (x : R3) (s : State) : Host.Outcome State Fault Refusal := runR3 (.min x) x s (fun a b => minVal a b)
/-- MAX (04 R119). -/
def execMax (x : R3) (s : State) : Host.Outcome State Fault Refusal := runR3 (.max x) x s (fun a b => maxVal a b)
/-- MINU (04 R119). -/
def execMinu (x : R3) (s : State) : Host.Outcome State Fault Refusal := runR3 (.minu x) x s (fun a b => minuVal a b)
/-- MAXU (04 R119). -/
def execMaxu (x : R3) (s : State) : Host.Outcome State Fault Refusal := runR3 (.maxu x) x s (fun a b => maxuVal a b)
/-- CLZ (04 R119). -/
def execClz (x : R2) (s : State) : Host.Outcome State Fault Refusal := runR2 (.clz x) x s (fun a => word (clzN 64 a.toNat))
/-- POPC (04 R119). -/
def execPopc (x : R2) (s : State) : Host.Outcome State Fault Refusal := runR2 (.popc x) x s (fun a => word (popN 64 a.toNat))

/-! ### Immediate forms (04 R120) -/

/-- ADDI (04 R120). -/
def execAddi (x : RI) (s : State) : Host.Outcome State Fault Refusal := runRI (.addi x) x s (fun a => a + sext x.imm)
/-- ANDI (04 R120). -/
def execAndi (x : RI) (s : State) : Host.Outcome State Fault Refusal := runRI (.andi x) x s (fun a => a &&& sext x.imm)
/-- ORI (04 R120). -/
def execOri (x : RI) (s : State) : Host.Outcome State Fault Refusal := runRI (.ori x) x s (fun a => a ||| sext x.imm)
/-- XORI (04 R120). -/
def execXori (x : RI) (s : State) : Host.Outcome State Fault Refusal := runRI (.xori x) x s (fun a => a ^^^ sext x.imm)
/-- SHLI (04 R120). -/
def execShli (x : RI) (s : State) : Host.Outcome State Fault Refusal := runRI (.shli x) x s (fun a => a <<< x.imm.toNat)
/-- SHRI (04 R120). -/
def execShri (x : RI) (s : State) : Host.Outcome State Fault Refusal := runRI (.shri x) x s (fun a => a >>> x.imm.toNat)
/-- SARI (04 R120). -/
def execSari (x : RI) (s : State) : Host.Outcome State Fault Refusal := runRI (.sari x) x s (fun a => a.sshiftRight x.imm.toNat)
/-- LUI (04 R120). -/
def execLui (x : RI) (s : State) : Host.Outcome State Fault Refusal := runRI (.lui x) x s (fun a => luiVal a x.imm)

/-! ### Compare, select and predicate logic (04 R121 to R124) -/

/-- A condition of 04 Table 4.7 on two words, with the flag it raises. -/
def condVal (c : Nat) (a b : Word) : Bool × BitVec 6 :=
  if 6 ≤ c ∧ c ≤ 9 then fcond c (readF 16 false a.toNat) (readF 16 false b.toNat) else (icond c a b, 0#6)

/-- CMP (04 R122). -/
def execCmp (x : Cmp) (s : State) : Host.Outcome State Fault Refusal :=
  runGroup .S (.cmp x) s (fun r g p =>
    let c := condVal x.cond.toNat (scalarSrc r g x.sa.toNat) (scalarSrc r g x.sb.toNat)
    g.resultP p.seq x.pd.toNat c.1 c.2)

/-- CMPI (04 R122). -/
def execCmpi (x : CmpI) (s : State) : Host.Outcome State Fault Refusal :=
  runGroup .S (.cmpi x) s (fun r g p =>
    g.resultP p.seq x.pd.toNat (icond x.cond.toNat (scalarSrc r g x.sa.toNat) (sext x.imm)) 0#6)

/-- SEL (04 R123). -/
def execSel (x : Sel) (s : State) : Host.Outcome State Fault Refusal :=
  runGroup .S (.sel x) s (fun r g p =>
    let t := g.predAt p.seq x.ps.toNat != (x.neg == 1#1)
    g.resultS p.seq x.dst.toNat (scalarSrc r g (if t then x.sa else x.sb).toNat))

/-- PLOG (04 R124). -/
def execPlog (x : PLog) (s : State) : Host.Outcome State Fault Refusal :=
  runGroup .S (.plog x) s (fun _ g p =>
    let i := (if g.predAt p.seq x.pa.toNat then 2 else 0) + (if g.predAt p.seq x.pb.toNat then 1 else 0)
    g.resultP p.seq x.pd.toNat (x.tt.getLsbD i) 0#6)

end Sys2Proof.Machine
end

