-- ==== Sys2Proof/Machine/Scale.lean ====
section
/-!
DEFINITION. The scale loads of the K slot (03_numbers R80 to R85): a write is visible to readers four bundles later.
-/

namespace Sys2Proof.Machine

/-- KLD: 64 bytes of the scratchpad, whatever their lit state (03 R84, R85). -/
def execKld (x : KL) (s : State) : Host.Outcome State Fault Refusal :=
  runPart .K (.kld x) s (fun s r g p =>
    s.setGroup r (g.writeScale p.seq x.cd.toNat (BitVec.ofNat 512 (leNat ((s.core r.core).hamper.readN (kldEa g x % 2 ^ 24) 64)))))

/-- KLDI: the immediate off : src in every byte (03 R84). -/
def execKldi (x : KL) (s : State) : Host.Outcome State Fault Refusal :=
  runGroup .K (.kldi x) s (fun _ g p =>
    g.writeScale p.seq x.cd.toNat (BitVec.ofNat 512 (packElems 8 (List.replicate 64 (x.off.toNat * 16 + x.src.toNat)))))

/-- KMOV: the source is read under 03 R81 as a part of its own bundle (03 R84). -/
def execKmov (x : KM) (s : State) : Host.Outcome State Fault Refusal :=
  runGroup .K (.kmov x) s (fun _ g p => g.writeScale p.seq x.cd.toNat (g.scaleAt p.seq x.src.toNat))

end Sys2Proof.Machine
end

