-- ==== Sys2Proof/Machine/Sched.lean ====
section
/-!
DEFINITION. The scheduler's events (13 R324 to R347): admission, group starts, overlays, pre-emption, retirement, the end of a task,
SNUFF, and lamp tests (14 R385).
-/

namespace Sys2Proof.Machine

/-! ### Admission and group starts (13 R324 to R327, R329, R337) -/

/-- Writes one page-table entry, at an aligned place of device memory that exists. -/
def State.putPte (s : State) (x : PteWrite) : State :=
  if x.pa % 8 = 0 ∧ x.pa + 8 ≤ Config.hbmBytes then s.putGranule x.pa false (natLE 8 x.val.toNat) else s

/-- Writes page-table entries as the memory-management processor makes them, in order. -/
def State.pteWrites (s : State) (l : List PteWrite) : State := l.foldl (fun s x => s.putPte x) s

/-- A walk after page-table writes is the one before, or gives the right to write as well. -/
def walkKept (a b : Walk) : Bool :=
  decide (a = b) || (match a with
    | .leaf e => decide (b = .leaf { e with w := true })
    | .host n _ => decide (b = .host n true)
    | _ => false)

/-- A span of device memory holds what it held, its errors among it. -/
def State.sameSpan (s t : State) (pa n : Nat) : Bool :=
  decide (s.mem.filter (fun x => pa ≤ x.1 && decide (x.1 < pa + n)) = t.mem.filter (fun x => pa ≤ x.1 && decide (x.1 < pa + n))) &&
  decide (s.poison.filter (fun x => pa / 16 ≤ x.1 && decide (x.1 < (pa + n) / 16)) =
    t.poison.filter (fun x => pa / 16 ≤ x.1 && decide (x.1 < (pa + n) / 16)))

/-- What the processor writes takes no mapping and no byte of a mapped frame from a program, but for the places passed over (14 R376). -/
def State.keeps (s t : State) (skip : Nat → Nat → Bool) : Bool :=
  s.leaves.all (fun y => skip y.2.1 y.2.2 || (walkKept (s.walk y.1 y.2.1 y.2.2) (t.walk y.1 y.2.1 y.2.2) &&
    (match s.walk y.1 y.2.1 y.2.2 with
      | .leaf e => s.sameSpan t e.pa (2 ^ e.bits)
      | _ => true)))

/-- Whether a walk of a die gives an address the rights asked. -/
def State.mapped (s : State) (d asid va : Nat) (wr : Bool) : Bool :=
  match s.walk d asid va with
  | .leaf e => !wr || e.w
  | .host _ w => !wr || w
  | _ => false

/-- Every page of a task's declared ranges is mapped with its MODE's rights, on every die: a lantern of any die may translate it (13 R325, 14
R373, 10 R271). -/
def State.resident (s : State) (t : Task) : Bool :=
  t.launch.ranges.all (fun r => (List.range 4).all (fun d => (pagesOf r.base r.size).all (fun a => s.mapped d t.asid a (r.mode.testBit 1))))

/-- Every host-backed page of a task's declared ranges has the host's translation on every die, which the lease has asked for (13 R325, 14
R375). -/
def State.hostReady (s : State) (t : Task) : Bool :=
  t.launch.ranges.all (fun r => (List.range 4).all (fun d => (pagesOf r.base r.size).all (fun a => match s.walk d t.asid a with
    | .host _ _ => (s.die d).granted.any (fun e => e.covers t.asid a && (!r.mode.testBit 1 || e.w))
    | _ => true)))

/-- Drops every L1 of the device (06 R181). -/
def State.flushL1 (s : State) : State := { s with cores := s.cores.map (fun c => { c with l1 := [] }) }

/-- A core takes a task: its hamper division, its groups' rows, a dark and zero scratchpad, and with RELOAD no overlay of the image (05
R142, 13 R325, R337). -/
def Core.seat (c : Core) (t : Task) : Core :=
  let l := t.launch
  let keep (image asid : Nat) : Bool := !(l.reload && image == l.image && asid == t.asid)
  { { c with bnd0 := l.bnd0, bnd1 := l.bnd1, bnd2 := l.bnd2 }.clearPad with
    task := some t.id
    taken := false
    rows := c.windowsFor l l.seats
    store := c.store.filter (fun o => keep o.image o.asid)
    images := c.images.filter (fun o => keep o.image o.asid) }

/-- Refusals that stood against accesses which a lease now covers go (13 R325, 14 R373). -/
def State.dropLeased (s : State) : State :=
  { s with dies := s.dies.map (fun (d : Die) => { d with refused := s.refusals d.refused }) }

/-- ADMISSION: the memory-management processor makes the declared ranges resident (`writes`, which take no mapping in use away), and the
home scheduler commits a choice of cores, `place` naming one for each core instance (13 R324 to R327). -/
def execAdmission (task : Nat) (place : List Nat) (writes : List PteWrite) (s : State) : Host.Outcome State Fault Refusal :=
  match s.task task with
  | none => .next s
  | some t =>
    let s' := s.pteWrites writes
    if !s.serving || t.state != .queued || !s.mayAdmit t || !s.classFirst t || !s.placeOk t place ||
        !s'.resident t || !s'.hostReady t || !s.keeps s' (fun _ _ => false) then .next s
    else
      let per := t.launch.perCore
      let s := s'.flushL1
      let s := place.foldl (fun s c => s.setCore c ((s.core c).seat t)) s
      .next { (s.setTask { t with
          state := .running
          victims := []
          cores := place
          admitted := s.order
          todo := (List.range (place.length * per)).map (fun i => (place.getD (i / Nat.max 1 per) 0, i)) }).dropLeased with
        order := s.order + 1 }

/-- GROUP_START: the next group of a core's task, in ascending leaf order, takes a free slot, its window and its rows (13 R329, R447,
02 Table 2.3). -/
def execGroupStart (core : Nat) (s : State) : Host.Outcome State Fault Refusal :=
  let c := s.core core
  match c.task.bind s.task with
  | none => .next s
  | some t =>
    match t.todo.find? (fun x => x.1 == core), (List.range t.launch.seats).find? (fun k => (c.slots.getD k none).isNone),
        c.freeRows t.launch.arows with
    | some (_, leaf), some k, some wb =>
      if !s.serving || c.taken || c.saved.any (fun g => g.gid.task == t.id) then .next s
      else
        let g := Group.start ⟨t.id, leaf⟩ t.asid wb (spillLimit t.launch) t.launch
        .next ((s.setTask { t with todo := t.todo.filter (fun x => decide (x ≠ (core, leaf))) }).setGroup ⟨core, k⟩ g)
    | _, _, _ => .next s

/-! ### Issue order (13 R330, R358) -/

/-- ISSUE_AGE_PROMOTION: a group that has been ready without issuing for 64 clk is marked to be chosen ahead of the others (13 R330). -/
def execIssueAgePromotion (g : GRef) (s : State) : Host.Outcome State Fault Refusal :=
  match s.group g with
  | none => .next s
  | some x => if groupReady s g x && x.aged s.clk then .next (s.setGroup g { x with promoted := true }) else .next s

/-- YIELD_EXPIRY: 64 clk after its YIELD a group is ready again (13 R358). -/
def execYieldExpiry (g : GRef) (s : State) : Host.Outcome State Fault Refusal :=
  match s.group g with
  | none => .next s
  | some x =>
    match x.yielded with
    | none => .next s
    | some t => if t + 64 ≤ s.clk then .next (s.setGroup g { x with yielded := none, waiters := [] }) else .next s

/-! ### Overlays (13 R337 to R339) -/

/-- A field of an image header. -/
def hdrField (h : List Byte) (off n : Nat) : Nat := leNat ((h.drop off).take n)

/-- A header that breaks 13 R338. -/
def headerBad (h : List Byte) : Bool :=
  hdrField h 0 2 != 1 || hdrField h 2 2 == 0 || decide (4096 < hdrField h 2 2) || hdrField h 4 4 % 32 != 0 ||
  (hdrField h 8 8 != 2 ^ 64 - 1 && hdrField h 8 8 % 32 != 0) || hdrField h 16 4 % 16 != 0 || hdrField h 20 4 != 0 || hdrField h 24 8 != 0

/-- The overlays of a table: START and LEN. -/
def overlaysOf (t : List Byte) : List (Nat × Nat) :=
  (List.range (t.length / 16)).map (fun k => (hdrField t (16 * k) 4, hdrField t (16 * k + 4) 4))

/-- A table that breaks 13 R338, or an ENTRY or a TRAPOFF outside every overlay. -/
def tableBad (h t : List Byte) (entry : Nat) : Bool :=
  let l := overlaysOf t
  let size := hdrField h 4 4
  let ovt := hdrField h 16 4
  let trap := hdrField h 8 8
  let inside (a : Nat) : Bool := l.any (fun x => x.1 ≤ a && decide (a < x.1 + x.2))
  decide (size < ovt + t.length) || decide (ovt < 32) ||
  (List.range l.length).any (fun k =>
    let x := l.getD k (0, 0)
    hdrField t (16 * k + 8) 8 != 0 || x.2 % 32 != 0 || decide (x.2 < 32) || decide (524288 < x.2) || x.1 % 32 != 0 || decide (x.1 < 32) ||
    decide (size < x.1 + x.2) || (decide (x.1 < ovt + t.length) && decide (ovt < x.1 + x.2)) ||
    (decide (0 < k) && decide (x.1 < (l.getD (k - 1) (0, 0)).1 + (l.getD (k - 1) (0, 0)).2))) ||
  !inside entry || (trap != 2 ^ 64 - 1 && !inside trap)

/-- A trap of a fetch, precise at a bundle, once every earlier part has issued (13 R339). -/
def State.fetchTrap (s : State) (r : GRef) (g : Group) (code info addr base : Nat) : State :=
  if !g.allIssued || g.headerHolds then s
  else
    let s := if code = 8 then
        match s.peekPhysical (.core r.core) g.asid addr with
        | some pa => s.logError g.gid.task ⟨addr, homeSlice pa, 0xFF, 0, 1, info⟩ (memUnit pa info)
        | none => s
      else if code = 7 then s.clearRefused (.core r.core) g.asid addr 1
      else s
    trapBundle s r g code info addr base

/-- Goes on with a read of the image, or takes its trap at the bundle to be fetched. -/
def State.fetchRead (s : State) (r : GRef) (g : Group) (va n : Nat) (k : List Byte → State) : State :=
  match s.homeRead (.core r.core) g.asid va n with
  | .miss => s
  | .refused a => s.fetchTrap r g 7 0 a g.pc
  | .bad p => s.fetchTrap r g 8 p.unit p.addr g.pc
  | .ok l => k l

/-- Overlays from which no fetch is in progress: one loaded for a fetch still waiting stays (13 R339). -/
def State.evictable (s : State) (core : Nat) (o : Overlay) : Bool :=
  o.served || !(List.range 8).any (fun k => match s.group ⟨core, k⟩ with
    | some g => g.fetches && o.holds (s.imageOf g) g.asid g.pc
    | none => false)

/-- Evicts the least recently fetched until there is room for n bytes; none where there is not. -/
def makeRoom (ok : Overlay → Bool) (n : Nat) : Nat → List Overlay → Option (List Overlay)
  | 0, l => if (l.map (·.bytes.length)).sum + n ≤ 524288 then some l else none
  | k + 1, l =>
    if (l.map (·.bytes.length)).sum + n ≤ 524288 then some l
    else
      match (l.filter ok) with
      | [] => none
      | o :: rest =>
        let v := rest.foldl (fun (m y : Overlay) => if y.used < m.used then y else m) o
        makeRoom ok n k (l.filter (fun x => decide (x ≠ v)))

/-- The image's first overlay load on a core: header and table are checked, TRAP.VEC is loaded (13 R338, 14 R364). -/
def State.checkImage (s : State) (r : GRef) (g : Group) (t : Task) : State :=
  let image := t.launch.image
  let bad (_ : Unit) : State := s.fetchTrap r { g with trap := { g.trap with vec := 0#64 } } 4 0 0 image
  s.fetchRead r g image 32 (fun h =>
    if headerBad h then bad ()
    else
      s.fetchRead r g (image + hdrField h 16 4) (16 * hdrField h 2 2) (fun tb =>
        if tableBad h tb t.launch.entry then bad ()
        else
          let vec := if hdrField h 8 8 = 2 ^ 64 - 1 then 0 else (image + hdrField h 8 8) % 2 ^ 56
          let s := s.setGroup r { g with started := true, trap := { g.trap with vec := word vec } }
          s.setCore r.core { s.core r.core with images := ⟨image, g.asid, vec⟩ :: (s.core r.core).images }))

/-- An overlay in error goes from the store as it is loaded again, and its error is logged (14 R383, R384). -/
def State.dropBad (s : State) (r : GRef) (g : Group) (image k : Nat) : State :=
  let c := s.core r.core
  let old (o : Overlay) : Bool := o.bad && o.image == image && o.asid == g.asid && o.index == k
  if c.store.any old then
    (s.setCore r.core { c with store := c.store.filter (fun o => !old o) }).logError g.gid.task
      ⟨g.pc, 0xFF, r.core, 0, 1, 7⟩ (.storeBank r.core)
  else s

/-- Loads the overlay that holds a group's next bundle (13 R339). -/
def State.loadOverlay (s : State) (r : GRef) (g : Group) (image : Nat) : State :=
  s.fetchRead r g image 32 (fun h =>
    s.fetchRead r g (image + hdrField h 16 4) (16 * hdrField h 2 2) (fun tb =>
      let l := overlaysOf tb
      match (List.range l.length).find? (fun k =>
          let x := l.getD k (0, 0)
          image + x.1 ≤ g.pc && decide (g.pc + 32 ≤ image + x.1 + x.2)) with
      | none => s.fetchTrap r g 4 0 0 g.pc
      | some k =>
        let x := l.getD k (0, 0)
        let s := s.dropBad r g image k
        s.fetchRead r g (image + x.1) x.2 (fun bs =>
          match makeRoom (s.evictable r.core) x.2 (s.core r.core).store.length (s.core r.core).store with
          | none => s
          | some st => s.setCore r.core { s.core r.core with store := st ++ [⟨image, g.asid, k, image + x.1, bs, s.clk, false, false⟩] })))

/-- OVERLAY_LOAD: a group's fetch waits for its image's check, then for the overlay of its next bundle (13 R337 to R339). -/
def execOverlayLoad (g : GRef) (s : State) : Host.Outcome State Fault Refusal :=
  match s.group g with
  | none => .next s
  | some x =>
    match s.task x.gid.task with
    | none => .next s
    | some t =>
      if !s.serving || decide (8 ≤ g.slot) || x.dispatchHeld || x.asyncDue || !{ x with started := true }.fetches then .next s
      else if !x.started then
        match (s.core g.core).images.find? (fun i => i.image == t.launch.image && i.asid == x.asid) with
        | some i => .next (s.setGroup g { x with started := true, trap := { x.trap with vec := word i.vec } })
        | none => .next (s.checkImage g x t)
      else if (s.residentFor g x).isSome then .next s
      else .next (s.loadOverlay g x t.launch.image)

/-! ### Pre-emption (13 R332 to R336) -/

/-- The deadline order's key. -/
def Task.due (t : Task) : Nat := (t.deadline).getD (2 ^ 80)

/-- Q may pre-empt V: by its class, or within the class by more than the threshold of Q's home partition (13 R332). -/
def State.preempts (s : State) (q v : Task) : Bool :=
  decide (q.launch.cls < v.launch.cls) ||
  (q.launch.cls == v.launch.cls && q.deadline.isSome && s.partTh q.home != 0xFFFFFFFF && decide (q.due + s.partTh q.home < v.due))

/-- A core that holds a pre-empted task's saved state. -/
def Core.keeps (c : Core) (task : Nat) : Bool := c.savedPad.any (fun p => p.task == task)

/-- The cores of a task that may be taken for Q: where its groups' rows would fit, or, for a pre-empted Q, where its own state is saved (13
R327, R332, R336). -/
def State.takable (s : State) (q v : Task) : List Nat :=
  (List.range 160).filter (fun c => (s.core c).task == some v.id && !(s.core c).taken && q.dies.testBit (dieOf c) &&
    (if q.state == .preempted then (s.core c).keeps q.id else s.coreIn c && (s.core c).rowsFit q.launch))

/-- Whether V is a victim before W: the highest class number, then the latest deadline, then the latest admission (13 R332). -/
def Task.firstVictim (v w : Task) : Bool :=
  decide (w.launch.cls < v.launch.cls) || (w.launch.cls == v.launch.cls &&
    (decide (w.due < v.due) || (w.due == v.due && decide (w.admitted ≤ v.admitted))))

/-- Whether Q has the cores it needs among those free, those being vacated, and some more (13 R332; for a pre-empted Q the cores of its
saved groups, R336). -/
def State.suffices (s : State) (q : Task) (more : List Nat) : Bool :=
  let had (c : Nat) : Bool := (s.core c).vacant || (s.core c).taken || more.contains c
  if q.state == .preempted then (List.range 160).all (fun c => !(s.core c).keeps q.id || had c)
  else s.placeable q.outing q.dies q.launch (fun c => s.coreIn c && had c && (s.core c).rowsFit q.launch)

/-- The tasks from which cores may be taken for Q, in their order (13 R332). -/
def State.victimsOf (s : State) (q : Task) : List Task :=
  (s.tasks.filter (fun w => w.id != q.id && s.preempts q w && !(s.takable q w).isEmpty)).insertionSort (fun v w => v.firstVictim w = true)

/-- The first tasks of a list whose cores together suffice for Q; none where all do not (13 R332). -/
def State.enoughOf (s : State) (q : Task) : List Task → List Task → Option (List Task)
  | l, [] => if s.suffices q (l.flatMap (s.takable q)) then some l else none
  | l, w :: rest => if s.suffices q (l.flatMap (s.takable q)) then some l else s.enoughOf q (l ++ [w]) rest

/-- A choice of a victim's cores that takes those Q needs and no others, beside what the other victims may give (13 R332, 20 R431). -/
def State.takesRight (s : State) (q v : Task) (cores : List Nat) : Bool :=
  !s.suffices q [] && !cores.isEmpty && cores.all (s.takable q v).contains &&
  (match s.enoughOf q [] (s.victimsOf q) with
    | none => false
    | some ws =>
      let others := (ws.filter (fun w => w.id != v.id)).flatMap (s.takable q)
      ws.any (fun w => w.id == v.id) && s.suffices q (cores ++ others) && cores.all (fun c => !s.suffices q (cores.erase c ++ others)))

/-- The groups of a task on a core are to land, and the core is to be vacated (13 R332). -/
def Core.take (c : Core) (task : Nat) : Core :=
  { c with
    taken := true
    slots := c.slots.map (fun (o : Option Group) => o.map (fun g => if g.gid.task = task then { g with preempt := true } else g)) }

/-- PREEMPTION_DECISION: a queued task takes from a victim the cores that it needs; every group of the victim on them is to land, and of an
outing every part (13 R332, 15 R402). -/
def execPreemptionDecision (task : Nat) (victim : Nat) (cores : List Nat) (s : State) : Host.Outcome State Fault Refusal :=
  match s.task task, s.task victim with
  | some q, some v =>
    if !s.serving || q.id == v.id || !s.waits q || !s.mayAdmit q || !s.takesRight q v cores then .next s
    else
      let all := if v.outing then (List.range 160).filter (fun c => (s.core c).task == some v.id) else cores
      let s := all.foldl (fun s c => s.setCore c ((s.core c).take v.id)) s
      .next ((s.setTask { v with state := .preempted, wasPreempted := true }).setTask { q with victims := insertNat q.victims v.id })
  | _, _ => .next s

/-- PREEMPTION_LANDING (13 R333, 14 R368). -/
def execPreemptionLanding (g : GRef) (s : State) : Host.Outcome State Fault Refusal :=
  match s.group g with
  | none => .next s
  | some x =>
    if !s.serving || decide (8 ≤ g.slot) || !landsHere s g x || (x.stop.isNone && x.headerHolds) then .next s
    else
      let s := s.setGroup g x.land.haltWicks
      .next (s.setCore g.core ((s.core g.core).unrequest g.slot))

/-- PREEMPTION_SAVE: every group of the victim on the core has landed and is quiet; their states and the scratchpad are written out,
the L1 is invalidated (13 R334). DESIGN CHOICE (log 97): the spill frames are saved as they read; an error mark on the hamper granules of
the slot's spill area stays with those granules. -/
def execPreemptionSave (core : Nat) (s : State) : Host.Outcome State Fault Refusal :=
  let c := s.core core
  let gs := c.slots.filterMap id
  match c.task with
  | none => .next s
  | some t =>
    if !s.serving || !c.taken || !gs.all (fun g => g.landed && c.quiet g) then .next s
    else
      .next (s.setCore core { c with
        slots := List.replicate 8 none
        saved := c.saved ++ gs.map Group.stow
        savedPad := c.savedPad ++ [c.padImage t]
        l1 := []
        task := none
        taken := false
        rows := []
        reqs := []
        runPanes := [] })

/-- The translations that a resumed group's addresses need (13 R336, 14 R377). -/
def State.reissueReady (s : State) (core : Nat) (g : Group) : Bool :=
  (g.loads ++ g.stores).all (fun a => a.pieces.all (fun p => p.done || p.space == .pad || (match
    s.translate (.engine core .access) g.asid p.va a.isWrite with
    | .hit _ _ => true
    | _ => false)))

/-- Saved addresses are translated again as they are issued again. -/
def State.reissue (s : State) (core : Nat) (g : Group) : Group :=
  let f (a : Access) : Access := { a with pieces := a.pieces.map (fun p =>
    if p.done || p.space == .pad then p
    else match s.physical (.engine core .access) g.asid p.va with
      | some (pa, host) => { p with pa := pa, space := if host then .host else .dev }
      | none => p) }
  { g with loads := g.loads.map f, stores := g.stores.map f }

/-- A group whose saved state could not be restored is stopped with a data-error fault record and accepts only abort (14 R383); the
record's ADDR is a free value, its SLOT 7; the error is logged, and the channel that held the state is tested (R384, R385; log 32). -/
def State.stopLost (s : State) (r : GRef) : State :=
  match s.group r with
  | none => s
  | some g =>
    if !g.lost then s
    else
      let cause := causeWord 8 1 false
      let addr := word (Config.freeNat s.free % 2 ^ 56)
      let pa := Config.freeNat (s.free + 1) % Config.hbmBytes
      let skew := skewWord [] 7
      let t := if g.trap.inh then g.trap else { g.trap with pc := g.pc, skew := skew, cause := cause, addr := addr }
      let s := s.logError g.gid.task ⟨addr.toNat, homeSlice pa, 0xFF, 0, 1, 1⟩ (memUnit pa 1)
      stopGroup { s with free := s.free + 2 } r { g with trap := t, lost := false } g.pc skew cause addr g.hskip g.pOld 8 g.trap.inh true

/-- RESUMPTION: a pre-empted task comes back to a core that holds its saved state: the scratchpad, then each group, continuing from
its saved place, its lease requested again (08 R221); it runs again once all its cores are seated (13 R329, R336). -/
def execResumption (task : Nat) (core : Nat) (s : State) : Host.Outcome State Fault Refusal :=
  let c := s.core core
  match s.task task, c.savedPad.find? (fun p => p.task == task) with
  | some t, some p =>
    let mine := c.saved.filter (fun g => g.gid.task == task)
    let byClass := (List.range 4).flatMap (fun k => mine.filter (fun g => g.cls == k))
    if !s.serving || t.state != .preempted || !s.mayAdmit t || !s.classFirst t || c.task.isSome || !c.slots.all (·.isNone) ||
        !byClass.all (s.reissueReady core) || (mine.isEmpty && !c.rowsFit t.launch) then .next s
    else
      let c := { c with
        bnd0 := t.launch.bnd0
        bnd1 := t.launch.bnd1
        bnd2 := t.launch.bnd2
        task := some task
        taken := false
        rows := mine.map (fun g : Group => g.wb) ++ c.windowsFor t.launch (t.launch.seats - mine.length)
        l1 := []
        saved := c.saved.filter (fun g => g.gid.task != task)
        savedPad := c.savedPad.filter (fun x => x.task != task) }
      let c := c.restorePad p
      let gs := byClass.map (fun g => { (s.reissue core g).goWicks with landed := false })
      let c := { c with slots := (List.range 8).map (fun k => gs[k]?) }
      let ask (c : Core) (x : Group × Nat) : Core := if x.1.lm = 0#4 then c else c.request x.2 x.1.lm s.clk
      let s := s.setCore core (gs.zipIdx.foldl ask c)
      let left := s.cores.any (fun x => x.savedPad.any (fun p => p.task == task) || (x.task == some task && x.taken))
      let s := if left then s else s.setTask { t with state := .running, victims := [] }
      .next ((List.range 8).foldl (fun s k => (s.stopLost ⟨core, k⟩).lateAnswer ⟨core, k⟩) s)
  | _, _ => .next s

/-! ### Retirement and the end of a task (13 R340 to R342) -/

/-- No engine of the core works for a group any more (13 R340). -/
def Core.engineIdle (c : Core) (g : Group) : Bool :=
  (c.stepsOf g.gid).isEmpty && !(c.copy.queue ++ c.copy.runs).any (fun j => j.owner == some g.gid) &&
  g.fly.isEmpty && g.stores.isEmpty && g.hostUnacked.isEmpty && g.wicks.all (fun w => w.status != stBUSY && !w.stopped)

/-- A group of a task has retired. -/
def State.retireOne (s : State) (task : Nat) : State :=
  match s.task task with
  | some t => s.setTask { t with left := t.left - 1 }
  | none => s

/-- A yielded group does not wait for a slot that is free again (13 R358). -/
def Group.unwait (k : Nat) (g : Group) : Group :=
  let w := g.waiters.filter (· != k)
  { g with waiters := w, yielded := if g.yielded.isSome && w.isEmpty then none else g.yielded }

/-- GROUP_RETIRE: after END, or a SNUFF, a group's slot, window and rows are freed once its engine queues are empty (13 R340, R345). -/
def execGroupRetire (core : Nat) (eng : Nat) (s : State) : Host.Outcome State Fault Refusal :=
  match (s.core core).slots.getD eng none with
  | none => .next s
  | some g =>
    let c := s.core core
    if !s.serving || !(g.ended || g.snuffed) || !c.engineIdle g then .next s
    else
      let other (q : PaneReq) : Bool := q.slot != eng
      let s := s.setCore core { c with
        slots := (c.slots.set eng none).map (fun (o : Option Group) => o.map (Group.unwait eng))
        reqs := c.reqs.filter other
        runPanes := c.runPanes.filter other
        copy := { c.copy with held := c.copy.held.filter (fun h => h.gid != g.gid) } }
      .next (s.retireOne g.gid.task)

/-- RETIREMENT_TRACKER_DRAIN: a TAILed group's stores, atomics, copies and steps have drained (13 R341). -/
def execRetirementTrackerDrain (core : Nat) (entry : Nat) (s : State) : Host.Outcome State Fault Refusal :=
  let c := s.core core
  match c.tracker[entry]? with
  | none => .next s
  | some g =>
    if !s.serving || !c.engineIdle g then .next s
    else
      let s := s.setCore core { c with
        tracker := c.tracker.eraseIdx entry
        copy := { c.copy with held := c.copy.held.filter (fun h => h.gid != g.gid) } }
      .next (s.retireOne g.gid.task)

/-- The task completion word (13 Table 13.4). -/
def taskDone (t : Task) (now : Nat) : Nat :=
  2 ^ 63 + (if (match t.deadline with
    | some d => decide (d < now)
    | none => false) then 2 ^ 56 else 0) + t.endCode % 256 * 2 ^ 48 + t.id % 2 ^ 32

/-- The number that a queue event about a task's word carries: the node's slot, or all ones (14 R448). -/
def Task.eventSlot (t : Task) : Nat := (t.node.map (·.2)).getD 0xFFFFFFFF

/-- The reservations of a task are given up, its node learns its end, and scopes that are no longer live are freed (13 R342, R343). -/
def State.closeTask (s : State) (t : Task) : State :=
  let s := s.setTask { t with state := .ended, acked := true }
  let s := { s with cores := s.cores.map (fun (c : Core) => if c.task = some t.id then { c with task := none, taken := false, rows := [] } else c) }
  let s := match t.node with
    | none => s
    | some (q, slot) =>
      match s.queue q with
      | none => s
      | some cq =>
        match cq.node slot with
        | none => s
        | some n => s.setQueue (cq.setNode { n with result := some (if t.endCode = 0 then .done else .failed) })
  s.sweep

/-- TASK_END: every group has retired and every tracker entry has drained; the task releases at .p, writes its completion word and
gives up its reservations (13 R342, 06 R181). A refused write posts queue event 5 (14 R448). -/
def execTaskEnd (task : Nat) (s : State) : Host.Outcome State Fault Refusal :=
  match s.task task with
  | none => .next s
  | some t =>
    if !s.serving || t.state == .queued || t.state == .ended || t.left != 0 || !t.todo.isEmpty then .next s
    else
      let s := s.flushL1
      let da := t.launch.donea
      if da = 0 then .next (s.closeTask t)
      else
        let bs := natLE 8 (taskDone t s.clk)
        match s.writeWord (.die t.home) t.asid da bs with
        | .miss => .next s
        | .refused s => .next ((s.closeTask t).raiseEvent t.rootQ 5 t.eventSlot da bs)
        | .ok s => .next (s.closeTask t)

/-! ### SNUFF (13 R345, R346) -/

/-- A SNUFF in progress. -/
def State.snuffAt (s : State) (id : Nat) : Option Snuff := s.snuffs.find? (fun u => u.id == id)
/-- Changes a SNUFF in progress. -/
def State.setSnuff (s : State) (u : Snuff) : State := { s with snuffs := s.snuffs.map (fun x => if x.id = u.id then u else x) }

/-- The barriers that a SNUFF still has to release on a die (13 R348, R351). -/
def State.snuffBarriers (s : State) (u : Snuff) (d : Nat) : List Nat :=
  let under := s.scopes.filter (fun x => u.scopes.contains x.id || (x.state == .opened && u.scopes.any (fun y => s.under y x.id)))
  ((under.flatMap (·.barriers) ++ u.barriers).dedup).filter (fun pa => homeSlice pa / 16 == d)

/-- SNUFF_ARRIVAL: a SNUFF reaches a core, then its copy channels, or a die's class queues and barriers (13 R345, R351). -/
def execSnuffArrival (snuff : Nat) (site : SnuffSite) (s : State) : Host.Outcome State Fault Refusal :=
  match s.snuffAt snuff with
  | none => .next s
  | some u =>
    if !s.serving || u.reached.contains site then .next s
    else
      let u := { u with reached := u.reached ++ [site] }
      match site with
      | .core c =>
        let (n, s) := s.cutCore c u.tasks 1
        .next (s.setSnuff { u with
          stopped := u.stopped + n.stopped, performed := u.performed + n.performed, dropped := u.dropped + n.dropped })
      | .copyChannel c ch =>
        if u.reached.contains (.core c) then
          let (n, s) := s.cutChannel c ch u.tasks u.id
          .next (s.setSnuff { u with cut := u.cut + n })
        else .next s
      | .scheduler d =>
        let bars := s.snuffBarriers u d
        let (n, s) := s.cutQueue d u.tasks 1
        .next ((s.releaseBarriers bars).setSnuff { u with removed := u.removed + n })

/-- A core where a SNUFF has work: seated, saved or unstarted groups of its tasks. -/
def State.snuffWork (s : State) (u : Snuff) (c : Nat) : Bool :=
  (s.core c).groups.any (fun g => u.tasks.contains g.gid.task) ||
  s.tasks.any (fun t => u.tasks.contains t.id && t.todo.any (fun x => x.1 == c))

/-- Every fate of a SNUFF has been met (13 R346). -/
def State.snuffMet (s : State) (u : Snuff) : Bool :=
  (List.range 4).all (fun d => u.reached.contains (.scheduler d)) &&
  (List.range 160).all (fun c => !s.snuffWork u c &&
    !((s.core c).copy.queue ++ (s.core c).copy.runs).any (fun j => match j.owner with
      | some id => u.tasks.contains id.task
      | none => false)) &&
  !s.snuffs.any (fun v => v.id != u.id && decide (v.id < u.id) && s.under u.scope v.scope)

/-- The 32 bytes of an ack word (13 Table 13.8). -/
def ackBytes (removed stopped cut refused performed dropped : Nat) : List Byte :=
  natLE 8 (2 ^ 63 + removed % 2 ^ 24 * 2 ^ 24 + stopped % 2 ^ 24) ++ natLE 8 (cut % 2 ^ 24 * 2 ^ 24 + refused % 2 ^ 24) ++
  natLE 8 (performed % 2 ^ 40) ++ natLE 8 (dropped % 2 ^ 40)

/-- The unit that writes a SNUFF's ack words: the front end of the home die of the queue concerned. -/
def State.ackUnit (s : State) (u : Snuff) : XUnit := .die (((s.queue u.rootQ).map (·.home)).getD 0)

/-- SNUFF_COMPLETE: every fate has been met; the ack word is written as a release at .p, and after it those of the later SNUFFs of
the same scope, with all counts 0 (13 R346, R356). A refused write posts queue event 5 (14 R448). -/
def execSnuffComplete (snuff : Nat) (s : State) : Host.Outcome State Fault Refusal :=
  match s.snuffAt snuff with
  | none => .next s
  | some u =>
    let own := ackBytes u.removed u.stopped u.cut u.refused u.performed u.dropped
    let acks := (u.ack, u.asid, own) :: u.followers.map (fun x => (x.1, x.2, ackBytes 0 0 0 0 0 0))
    let unit := s.ackUnit u
    if !s.serving || !s.snuffMet u || acks.any (fun a => decide (s.span unit a.2.1 a.1 32 true = .miss)) then .next s
    else
      let s := { s with snuffs := s.snuffs.filter (fun x => x.id != u.id) }
      .next (acks.foldl (fun s a => match s.writeWord unit a.2.1 a.1 a.2.2 with
        | .miss => s
        | .refused s => s.raiseEvent u.rootQ 5 0xFFFFFFFF a.1 a.2.2
        | .ok s => s) s)

/-! ### Lamp tests (14 R385) -/

/-- LAMP_TEST: the test of the unit that held the data ends: the event is transient, or lasting and the unit is withdrawn (14 R384,
R385, 01 R25). -/
def execLampTest (unit : LampUnit) (pass : Bool) (s : State) : Host.Outcome State Fault Refusal :=
  match s.lamps.find? (fun j => decide (j.unit = unit)) with
  | none => .next s
  | some j =>
    let s := { s with lamps := s.lamps.erase j }
    let s := match s.task j.task with
      | none => s
      | some t =>
        match t.log.findIdx? (fun e => decide (e = j.entry)) with
        | some i => s.setTask { t with log := t.log.set i { j.entry with cls := if pass then 1 else 2 } }
        | none => s
    .next (if pass then s else s.withdraw unit)

end Sys2Proof.Machine
end

