-- ==== Sys2Proof/Machine/System.lean ====
section
/-!
DEFINITION. The system family (14 R387 to R393): traps, the return from a handler, system state, translation, the error log
and lamp tests.
-/

namespace Sys2Proof.Machine

/-- TRAP (14 R387): its whole bundle has issued; the base is the next bundle, every offset 0. -/
def execTrap (x : TrapF) (s : State) : Host.Outcome State Fault Refusal :=
  runPart .S (.trap x) s (fun s r g p =>
    enterTrap s r g.settleHeaders 13 x.code.toNat 0 ((p.addr + 32) % 2 ^ 56) (skewWord [] 0) 0 false)

/-- BRK (14 R387): its S part has issued; the other slots stand where they are. -/
def execBrk (x : BrkF) (s : State) : Host.Outcome State Fault Refusal :=
  runPart .S (.brk x) s (fun s r g _ => trapPart s r g.settleHeaders .S 12 x.code.toNat 0)

/-- RTT (14 R388). -/
def execRtt (x : RttF) (s : State) : Host.Outcome State Fault Refusal :=
  runPart .S (.rtt x) s (fun s r g _ =>
    let g := g.settleHeaders
    match returnOffs g.trap.skew (x.skip == 1#1) (bits g.trap.cause 0 8 == 13) with
    | some offs => s.setGroup r (g.returnFrom g.trap.pc offs g.trap.hskip)
    | none => s.setGroup r g)

/-- CSRR (14 R389): a STRM.POP pops its stream (05 R137). -/
def execCsrr (x : CsrRd) (s : State) : Host.Outcome State Fault Refusal :=
  runPart .S (.csrr x) s (fun s r g p =>
    let n := x.num.toNat
    let v := s.csr r (g.flagsAt p.seq) n
    let g := if 0x060 ≤ n ∧ n ≤ 0x06F then g.pop (n - 0x060) else g
    s.setGroup r (g.resultS p.seq x.dst.toNat v))

/-- CSRW (14 R389). -/
def execCsrw (x : CsrWr) (s : State) : Host.Outcome State Fault Refusal :=
  runGroup .S (.csrw x) s (fun r g _ => g.setCsr x.num.toNat (scalarSrc r g x.sa.toNat))

/-- CSRS (14 R389). -/
def execCsrs (x : CsrWr) (s : State) : Host.Outcome State Fault Refusal :=
  runPart .S (.csrs x) s (fun s r g _ =>
    s.setGroup r (g.setCsr x.num.toNat (s.csr r g x.num.toNat ||| scalarSrc r g x.sa.toNat)))

/-- CSRC (14 R389). -/
def execCsrc (x : CsrWr) (s : State) : Host.Outcome State Fault Refusal :=
  runPart .S (.csrc x) s (fun s r g _ =>
    s.setGroup r (g.setCsr x.num.toNat (s.csr r g x.num.toNat &&& ~~~(scalarSrc r g x.sa.toNat))))

/-- XLAT (14 R390). -/
def execXlat (x : R2) (s : State) : Host.Outcome State Fault Refusal :=
  runPart .S (.xlat x) s (fun s r g p => s.setGroup r (g.resultS p.seq x.dst.toNat (s.xlat r g (scalarSrc r g x.sa.toNat))))

/-- TCINV (14 R391). -/
def execTcinv (x : TcInv) (s : State) : Host.Outcome State Fault Refusal :=
  runPart .S (.tcinv x) s (fun s r g _ =>
    let va := (scalarSrc r g x.sa.toNat).toNat
    (s.setGroup r g).setCore r.core (((s.setGroup r g).core r.core).dropTrans (fun e =>
      e.asid == g.asid && (x.all == 1#1 || e.covers g.asid va))))

/-- ERRRD (14 R392). -/
def execErrrd (x : ErrRd) (s : State) : Host.Outcome State Fault Refusal :=
  runPart .S (.errrd x) s (fun s r g p =>
    let log := ((s.task g.gid.task).map (·.log)).getD []
    let v := match log[(scalarSrc r g x.sa.toNat).toNat % 16]? with
      | some e => e.quad x.sel.toNat
      | none => 0#64
    s.setGroup r (g.resultS p.seq x.dst.toNat v))

/-- ERRCLR (14 R392). -/
def execErrclr (x : R1) (s : State) : Host.Outcome State Fault Refusal :=
  runPart .S (.errclr x) s (fun s r g p =>
    let old := ((s.task g.gid.task).map (·.errCnt)).getD 0
    let s := match s.task g.gid.task with
      | some t => s.setTask { t with log := [], errCnt := 0 }
      | none => s
    s.setGroup r (g.resultS p.seq x.dst.toNat (word old)))

/-- LAMP (14 R393): the test's outcome is the unit's own (log 16). -/
def execLamp (x : R3) (s : State) : Host.Outcome State Fault Refusal :=
  runPart .S (.lamp x) s (fun s r g p =>
    let (v, s) := s.lampTest r g (scalarSrc r g x.sa.toNat) (scalarSrc r g x.sb.toNat)
    s.setGroup r (g.resultS p.seq x.dst.toNat v))

end Sys2Proof.Machine
end

