-- ==== Sys2Proof/Machine/Tasks.lean ====
section
/-!
DEFINITION. The task, scope and scheduling family (13 R340, R341, R354 to R359): the fourteen S-slot instructions.
-/

namespace Sys2Proof.Machine

/-- SPAWN (13 R354). -/
def execSpawn (x : R2) (s : State) : Host.Outcome State Fault Refusal :=
  runPart .S (.spawn x) s (fun s r g p =>
    let (v, s) := s.spawn r g (scalarSrc r g x.sa.toNat).toNat none
    s.setGroup r (g.resultS p.seq x.dst.toNat v))

/-- SPAWNI (13 R354). -/
def execSpawni (x : R3) (s : State) : Host.Outcome State Fault Refusal :=
  runPart .S (.spawni x) s (fun s r g p =>
    let (v, s) := s.spawn r g (scalarSrc r g x.sa.toNat).toNat (some (scalarSrc r g x.sb.toNat).toNat)
    s.setGroup r (g.resultS p.seq x.dst.toNat v))

/-- SCOPE (13 R355). -/
def execScope (x : R1) (s : State) : Host.Outcome State Fault Refusal :=
  runPart .S (.scope x) s (fun s r g p =>
    match s.newScope (s.ownScope g) g.gid.task with
    | some (id, s) => s.setGroup r (g.resultS p.seq x.dst.toNat (word id))
    | none => s.setGroup r (g.resultS p.seq x.dst.toNat 0#64))

/-- SCLOSE (13 R355). -/
def execSclose (x : R2) (s : State) : Host.Outcome State Fault Refusal :=
  runPart .S (.sclose x) s (fun s r g p =>
    let (v, s) := s.closeScope (s.ownScope g) (scalarSrc r g x.sa.toNat).toNat
    s.setGroup r (g.resultS p.seq x.dst.toNat (word v)))

/-- SNUFF (13 R344 to R347, R356). -/
def execSnuff (x : R3) (s : State) : Host.Outcome State Fault Refusal :=
  runPart .S (.snuff x) s (fun s r g p =>
    let (v, s) := s.snuff (s.ownScope g) (scalarSrc r g x.sa.toNat).toNat (scalarSrc r g x.sb.toNat).toNat g.asid (s.ownQueue g)
    s.setGroup r (g.resultS p.seq x.dst.toNat (word v)))

/-- SNUFFW (13 R356): quad 0 of the ack; an acquire at .p (06 R180). -/
def execSnuffw (x : R2) (s : State) : Host.Outcome State Fault Refusal :=
  runPart .S (.snuffw x) s (fun s r g p =>
    let a := (scalarSrc r g x.sa.toNat).toNat
    (s.setGroup r (g.resultS p.seq x.dst.toNat (word (s.vnat (seqUnit r.core) g.asid a 8)))).inval r.core)

/-- BINIT (13 R349, R357). -/
def execBinit (x : BInit) (s : State) : Host.Outcome State Fault Refusal :=
  runPart .S (.binit x) s (fun s r g p =>
    match s.barRead r g (scalarSrc r g x.sa.toNat) true with
    | .stop _ => s.setGroup r g
    | .at pa =>
      let (v, s) := s.binit g pa x.scope.toNat (scalarSrc r g x.sb.toNat)
      s.setGroup r (g.resultS p.seq x.dst.toNat v))

/-- BARR (13 R350, R357). -/
def execBarr (x : R2) (s : State) : Host.Outcome State Fault Refusal :=
  runPart .S (.barr x) s (fun s r g p =>
    match s.barRead r g (scalarSrc r g x.sa.toNat) true with
    | .stop _ => s.setGroup r g
    | .at pa =>
      let (v, s) := s.barr pa
      s.setGroup r (g.resultS p.seq x.dst.toNat v))

/-- BWAIT (13 R350, R357): word[127:64]; an acquire at the barrier's scope (06 R180). -/
def execBwait (x : R3) (s : State) : Host.Outcome State Fault Refusal :=
  runPart .S (.bwait x) s (fun s r g p =>
    match s.barRead r g (scalarSrc r g x.sa.toNat) false with
    | .stop _ => s.setGroup r g
    | .at pa =>
      let w := s.barrier pa
      let s' := s.setGroup r (g.resultS p.seq x.dst.toNat (word (w / 2 ^ 64)))
      if scopeInval (barScope w) then s'.inval r.core else s')

/-- YIELD (13 R358): not ready until every other group of the core that is ready now has issued once, or 64 clk have
passed. -/
def execYield (x : R0) (s : State) : Host.Outcome State Fault Refusal :=
  runPart .S (.yield x) s (fun s r g _ =>
    let w := ((s.readyGroups r.core).map (·.1)).filter (· != r.slot)
    s.setGroup r (if w.isEmpty then g else { g with yielded := some s.clk, waiters := w }))

/-- PRIO (13 R358). -/
def execPrio (x : R2) (s : State) : Host.Outcome State Fault Refusal :=
  runGroup .S (.prio x) s (fun r g p =>
    { g with cls := (scalarSrc r g x.sa.toNat).toNat }.resultS p.seq x.dst.toNat (word g.cls))

/-- DLINE (13 R358). -/
def execDline (x : R2) (s : State) : Host.Outcome State Fault Refusal :=
  runPart .S (.dline x) s (fun s r g p =>
    let u := bits (scalarSrc r g x.sa.toNat) 0 32
    let old := s.csr r g 0x014
    let s := match s.task g.gid.task with
      | some t => s.setTask { t with deadline := if u = 0 then none else some (s.clk + 1024 * u) }
      | none => s
    s.setGroup r (g.resultS p.seq x.dst.toNat old))

/-- What a group leaves behind at its end: load data and load addresses are discarded (05 R139), its grant lapses (08 R221), its
held latch set goes (13 R359). -/
def Group.finish (g : Group) : Group :=
  { g.lapse with
    ended := true
    loads := []
    ldata := List.replicate 16 []
    held := [.empty, .empty, .empty, .empty]
    lm := 0#4 }

/-- The parked chains of a group end, and their productions complete (11 R299, 13 R340). -/
def State.endParked (s : State) (c : Nat) (id : GId) : State :=
  let e := (s.core c).copy
  let ends (j : CopyJob) : Bool := j.kind == .chain && j.parked && j.owner == some id
  (e.runs.filter ends).foldl (fun s j => s.finishJob j true) (s.setEngine c { e with runs := e.runs.filter (fun j => !ends j) })

/-- END (13 R340): fetch stops, parked chains end, long instructions in a stopped wick become DROPPED. -/
def execEndGroup (x : R0) (s : State) : Host.Outcome State Fault Refusal :=
  runPart .S (.endGroup x) s (fun s r g _ =>
    let g := { g.finish with wicks := g.wicks.map (fun w => if w.stopped then { w with status := stDROPPED } else w) }
    let s := (s.setGroup r g).endParked r.core g.gid
    s.setCore r.core ((s.core r.core).unrequest r.slot))

/-- TAIL (13 R341): the slot and window are free at once; the group drains under an entry of the retirement tracker. -/
def execTail (x : R0) (s : State) : Host.Outcome State Fault Refusal :=
  runPart .S (.tail x) s (fun s r g _ =>
    let c := (s.core r.core).unrequest r.slot
    s.setCore r.core { c with
      slots := c.slots.set r.slot none
      tracker := c.tracker ++ [{ g.finish with tailed := true }] })

end Sys2Proof.Machine
end

