-- ==== Sys2Proof/Machine/TransEvents.lean ====
section
/-!
DEFINITION. The events of address translation (14 R371 to R378): page walks, the service of demand faults, mappings that change, and
the host's ATS and PRI answers.
-/

namespace Sys2Proof.Machine

/-! ### Filling and dropping cache entries (14 R371, R376) -/

/-- Two entries that share an address. -/
def TransEnt.meets (a b : TransEnt) : Bool := a.asid == b.asid && (a.covers b.asid b.va || b.covers a.asid a.va)

/-- A cache after a fill: one that holds the entry is left; else what the new entry meets goes, and the oldest goes where there is no
room (log 18). -/
def fillCache (cap : Nat) (l : List TransEnt) (e : TransEnt) : List TransEnt :=
  if l.contains e then l
  else
    let l := l.filter (fun x => !x.meets e) ++ [e]
    l.drop (l.length - cap)

/-- Fills an entry in a die's cache. -/
def State.fillDie (s : State) (d : Nat) (e : TransEnt) : State :=
  s.setDie d { s.die d with tc := fillCache Config.dieEntries (s.die d).tc e }

/-- Fills an entry in a core's cache. -/
def State.fillCore (s : State) (c : Nat) (e : TransEnt) : State :=
  s.setCore c { s.core c with tc := fillCache Config.coreEntries (s.core c).tc e }

/-- Fills an entry in every cache level of a unit that misses it (14 R371). -/
def State.fillUnit (s : State) (u : XUnit) (e : TransEnt) : State :=
  let f (l : List TransEnt) : List TransEnt := fillCache Config.engineEntries l e
  match u with
  | .die d => s.fillDie d e
  | .core c => (s.fillCore c e).fillDie (dieOf c) e
  | .engine c .access => ((s.setCore c { s.core c with tcAccess := f (s.core c).tcAccess }).fillCore c e).fillDie (dieOf c) e
  | .engine c .copy => ((s.setCore c { s.core c with tcCopy := f (s.core c).tcCopy }).fillCore c e).fillDie (dieOf c) e
  | .engine c .seq => ((s.setCore c { s.core c with tcSeq := f (s.core c).tcSeq }).fillCore c e).fillDie (dieOf c) e
  | .lantern k =>
    let x := s.lanterns.getD k Lantern.idle
    { s with lanterns := s.lanterns.set k { x with tc := f x.tc } }.fillDie (k / 16) e

/-- Drops the entries that a test selects from every cache on the package. -/
def State.dropEntries (s : State) (f : TransEnt → Bool) : State :=
  let k (l : List TransEnt) : List TransEnt := l.filter (fun e => !f e)
  { s with
    cores := s.cores.map (fun c => c.dropTrans f)
    dies := s.dies.map (fun (d : Die) => { d with tc := k d.tc })
    lanterns := s.lanterns.map (fun (x : Lantern) => { x with tc := k x.tc }) }

/-- A unit that the device has. -/
def unitOk : XUnit → Bool
  | .die d => decide (d < 4)
  | .core c => decide (c < 160)
  | .engine c _ => decide (c < 160)
  | .lantern k => decide (k < 64)

/-! ### Walks (14 R372, R373, R375) -/

/-- The host memory that backs a host-backed page of an address space (log 33). -/
def hostFrame (asid va : Nat) : Nat := asid * 2 ^ 56 + va

/-- The walks of a die in flight (14 R373). -/
def Die.walks (d : Die) : List DemandFault := d.faults ++ d.ats ++ d.pri

/-- A miss joins the walk of its page in flight, whatever right it asks (14 R373; log 85). -/
def DemandFault.join (f : DemandFault) (l : List DemandFault) : List DemandFault :=
  l.map (fun x => if x.at f.asid f.va then
    { x with units := x.units ++ f.units.filter (fun u => !x.units.contains u), wr := x.wr || f.wr, rd := x.rd || f.rd } else x)

/-- Whether a list holds a walk of the same page. -/
def DemandFault.among (f : DemandFault) (l : List DemandFault) : Bool := l.any (fun x => x.at f.asid f.va)

/-- Enters a demand fault at its die, in order of arrival (14 R374). -/
def State.demandFault (s : State) (d : Nat) (f : DemandFault) : State :=
  let x := s.die d
  s.setDie d { x with faults := if f.among x.faults then f.join x.faults else x.faults ++ [f] }

/-- The cores whose instructions a unit translates for. -/
def unitCores : XUnit → List Nat
  | .engine c .seq => [c]
  | .lantern _ => List.range 160
  | _ => []

/-- The BUSY instructions that lack a page which a unit translates for them, by their MAN bit (09 R247). -/
def State.lacking (s : State) (u : XUnit) (asid va : Nat) (man : Bool) : Bool :=
  (unitCores u).any (fun c => (s.core c).slots.any (fun o => o.any (fun g => g.asid == asid && (List.range 4).any (fun wk =>
    match (g.wick wk).seq with
    | none => false
    | some q => decide ((g.wick wk).status = stBUSY) && longMan (g.wick wk).kind q.desc == man &&
        (s.stepLacks ⟨c, g, wk, g.wick wk, q⟩).any (fun y => decide (y.unit = u) && page y.va == page va)))))

/-- A part or an XRES of a core waits for a sequencer's read of a page: a long instruction at the head of the S queue, or a service asked
(09 R240, R259). -/
def State.asked (s : State) (c asid va : Nat) : Bool :=
  (s.core c).slots.any (fun o => o.any (fun g => g.asid == asid &&
    ((g.qs.head?.any (fun p => match longOp p.instr with
        | some (op, x) => s.longBlocks (seqFor c g) op (g.nreg x.nd.toNat).toNat == .stop .wait
        | none => false)) ||
     (List.range 4).any (fun wk => (g.wick wk).seq.any (fun q => q.fresh || q.service.any (fun v => page v.1 == page va))))))

/-- No service is asked for a page that only instructions with MAN = 1 need (09 R247). -/
def State.unasked (s : State) (u : XUnit) (asid va : Nat) : Bool :=
  s.lacking u asid va true && !s.lacking u asid va false &&
  (match u with
    | .engine c .seq => !s.asked c asid va
    | _ => true)

/-- PAGE_WALK: a look-up that a farther cache answers fills the nearer ones; a miss of a unit joins the walk of its page in flight, or is
walked where fewer than 256 are: the translation fills the caches, or a demand fault arises, or the host is asked (14 R371 to R375). A read
of a page that is mapped does not wait for the answer to a write which the page forbids (log 85). A frame that does not exist stops the run
(log 12). -/
def execPageWalk (u : XUnit) (asid : Nat) (va : Nat) (wr : Bool) (s : State) : Host.Outcome State Fault Refusal :=
  let f : DemandFault := ⟨[u], asid, va, wr, !wr⟩
  let k := unitDie u
  let d := s.die k
  if !s.serving || !unitOk u || !isGlobal va then .next s
  else
    match s.translate u asid va wr with
    | .hit _ _ => .next ((s.cached u asid va).elim s (s.fillUnit u))
    | .refused => .next s
    | .miss =>
      let ask := if s.unasked u asid va then s
        else if f.among d.walks then s.setDie k { d with faults := f.join d.faults, ats := f.join d.ats, pri := f.join d.pri }
        else s.demandFault k f
      if !f.among d.walks && decide (Config.walks ≤ d.walks.length) then .next s
      else
        match s.walk k asid va with
        | .leaf e => if wr && !e.w then .next ask else .next (s.fillUnit u e)
        | .host _ w =>
          if (wr && !w) || f.among d.walks then .next ask else .next (s.setDie k { d with ats := d.ats ++ [f] })
        | .none => .next ask
        | .absent _ => .fault .absentPhysical

/-- Whether a BUSY instruction's step, which has been tried, or the copies for the step after a running one, wait for the service of a
page and of no other page of the round (09 R247). -/
def State.waitsFor (s : State) (core : Nat) (g : Group) (wk : Nat) (f : DemandFault) : Bool :=
  let w := g.wick wk
  match w.seq with
  | none => false
  | some q =>
    let l := s.stepLacks ⟨core, g, wk, w, q⟩
    decide (w.status = stBUSY) && (if q.run.isSome then q.ahead.isSome else q.tried) && f.asid == g.asid && l.any (fun y => page y.va == page f.va) &&
    l.all (fun y => s.walkGives y.unit g.asid y.va y.wr)

/-- A wick whose instruction begins a new run after a service (09 R251). -/
def Wick.restarted (w : Wick) : Wick :=
  { w with seq := w.seq.map (fun q => if q.run.isSome then w.restartNext q else w.restart q) }

/-- The memory kept for loads after a MONW at .g goes where a frame may take another page (log 92). -/
def Core.forget (c : Core) : Core := { c with slots := c.slots.map (fun (o : Option Group) => o.map (fun (g : Group) => { g with past := none })) }

/-- The restart of the instructions of a unit that waited for a page: each begins a new run, which reads its block again (09 R251). -/
def State.restartRuns (s : State) (f : DemandFault) : State :=
  ((f.units.flatMap unitCores).dedup).foldl (fun (s : State) c =>
    let x := s.core c
    s.setCore c { x with slots := x.slots.map (fun (o : Option Group) => o.map (fun g =>
      (List.range 4).foldl (fun (h : Group) wk =>
        if s.waitsFor c g wk f then h.setWick wk (h.wick wk).restarted else h) g)) })
    { s with cores := s.cores.map Core.forget }

/-- Where a page's 64 KiB lie: device memory at a physical address, or the host's memory. -/
inductive PageAt where
  | dev (pa : Nat)
  | host (a : Nat)
deriving DecidableEq, Repr

/-- The place of a 64 KiB page under a die's page tables. -/
def State.pageAt (s : State) (d asid va : Nat) : Option PageAt :=
  let v := page va * 65536
  match s.walk d asid v with
  | .leaf e => some (.dev (e.pa + v % 2 ^ e.bits))
  | .host _ _ => some (.host (hostFrame asid v))
  | _ => none

/-- The listed bytes of a span, by their offset. -/
def memImage (m : Mem) (a n : Nat) : Mem := (m.filter (fun x => a ≤ x.1 && decide (x.1 < a + n))).map (fun x => (x.1 - a, x.2))

/-- What a 64 KiB page holds: its bytes, and the error of each granule that has one. -/
def State.pageImage (s : State) : PageAt → Mem × List (Nat × Nat)
  | .dev pa => (memImage s.mem pa 65536, (List.range 4096).filterMap (fun i => match s.readErr (pa + 16 * i) with
      | .bad k => some (i, k)
      | _ => none))
  | .host a => (memImage s.host a 65536, [])

/-- A die's page is read-duplicated: a replica that no one writes (14 R378). -/
def State.replica (s : State) (d asid va : Nat) : Bool :=
  match s.walk d asid va with
  | .leaf e => e.rdup && !e.w
  | _ => false

/-- The dies agree on a page: one place, or replicas with the same data (14 R376, R378). -/
def State.diesAgree (s : State) (asid va : Nat) : Bool :=
  (List.range 4).all (fun a => (List.range 4).all (fun b =>
    match s.pageAt a asid va, s.pageAt b asid va with
    | some x, some y => decide (x = y) || (s.replica a asid va && s.replica b asid va && decide (s.pageImage x = s.pageImage y))
    | _, _ => true))

/-- A page-table entry that a service may write: over one that is not valid, or the same leaf, no replica, with the right to write added;
a mapping that programs use changes by MAPPING_CHANGE alone (14 R373, R376, R378). -/
def State.mayService (s : State) (x : PteWrite) : Bool :=
  let old := leNat (s.mem.readN x.pa 8)
  !old.testBit 0 || old == x.val.toNat || (old.testBit 1 && !old.testBit 4 && decide (Nat.lor old 4 = x.val.toNat))

/-- Service writes made in order, each over what the ones before left; none where one may not be made. -/
def State.serviceWrites (s : State) (l : List PteWrite) : Option State :=
  l.foldl (fun o x => o.bind (fun (s : State) => if s.mayService x then some (s.putPte x) else none)) (some s)

/-- The residency leases hold: the declared ranges of each admitted task, pre-empted or not, stay mapped until it ends (13 R325). -/
def State.leasesHold (s : State) (asid : Nat) : Bool :=
  s.tasks.all (fun t => t.asid != asid || !(t.state == .running || t.state == .preempted) || s.resident t)

/-- DEMAND_FAULT_SERVICE: the memory-management processor serves the oldest demand fault of a die: it maps the page with the right
that the accesses merged into it need (`writes`), or refuses it to every unit of the walk (14 R373, R374); what a lease covers it cannot
refuse. No mapping in use changes, no byte of a mapped frame does, and the leases of every task hold (14 R376, 13 R325). -/
def execDemandFaultService (die : Nat) (serviced : Bool) (writes : List PteWrite) (s : State) : Host.Outcome State Fault Refusal :=
  let d := s.die die
  match d.faults with
  | [] => .next s
  | f :: rest =>
    let s1 := s.setDie die { d with faults := rest }
    if !s.serving then .next s
    else if serviced then
      match s1.serviceWrites writes with
      | none => .next s
      | some s2 =>
        if s2.mapped die f.asid f.va f.wr && s2.diesAgree f.asid f.va && s1.keeps s2 (fun _ _ => false) &&
            s2.tasks.all (fun t => s2.leasesHold t.asid) then
          .next (s2.restartRuns f)
        else .next s
    else .next (s1.setDie die { s1.die die with refused := d.refused ++ s.refusals [f] })

/-! ### The host's translations (14 R375) -/

/-- A host-backed page of a walk that asked the host: its entry, where the walk still finds the page host-backed. -/
def State.hostEntry (s : State) (d : Nat) (f : DemandFault) (wr : Bool) : Option TransEnt :=
  match s.walk d f.asid f.va with
  | .host b w =>
    let base := f.va / 2 ^ b * 2 ^ b
    some ⟨f.asid, base, b, hostFrame f.asid base, w && wr, false, true⟩
  | _ => none

/-- ATS_TRANSLATION_RESPONSE: the host's translation is cached with HOST set, for reads alone or for writes too; where it has none,
the walker asks the host for the page (14 R375). -/
def execAtsTranslationResponse (asid : Nat) (va : Nat) (found : Bool) (wr : Bool) (s : State) : Host.Outcome State Fault Refusal :=
  if !s.serving then .next s
  else
    .next ((List.range 4).foldl (fun s k =>
      let d := s.die k
      let mine := d.ats.filter (fun f => f.at asid va)
      let s := s.setDie k { d with ats := d.ats.filter (fun f => !f.at asid va), pri := if found then d.pri else d.pri ++ mine }
      if found then
        mine.foldl (fun (s : State) f => match s.hostEntry k f wr with
          | some e =>
            let t := s.setDie k { s.die k with granted := (s.die k).granted.filter (fun x => !x.meets e) ++ [e] }
            let t := f.units.foldl (fun s u => s.fillUnit u e) t
            if !f.wr || e.w then t
            else (if f.rd then t else s).demandFault k { f with rd := false }
          | none => s) s
      else s) s)

/-- PRI_RESPONSE: the host's answer to a page request: success makes the walker ask ATS again, a failure counts as a refusal; a page
under a lease the host does not deny (14 R375, 13 R325). -/
def execPriResponse (asid : Nat) (va : Nat) (ok : Bool) (s : State) : Host.Outcome State Fault Refusal :=
  if !s.serving || (!ok && (s.leased asid va false || s.leased asid va true)) then .next s
  else
    .next ((List.range 4).foldl (fun s k =>
      let d := s.die k
      let mine := d.pri.filter (fun f => f.at asid va)
      let d : Die := { d with pri := d.pri.filter (fun f => !f.at asid va) }
      s.setDie k (if ok then { d with ats := d.ats ++ mine } else { d with refused := d.refused ++ mine })) s)

/-! ### Work in progress under a translation (14 R376, R377) -/

/-- A range of an address space: its base and its length. -/
structure VaRange where
  asid : Nat
  base : Nat
  len  : Nat
deriving DecidableEq, Repr

/-- Whether a range holds an address. -/
def VaRange.has (x : VaRange) (asid va : Nat) : Bool := x.asid == asid && x.base ≤ va && decide (va < x.base + x.len)

/-- The groups of a core whose accesses are in progress: seated and draining ones. -/
def Core.active (c : Core) : List Group := c.slots.filterMap id ++ c.tracker

/-- An access piece of a range that is not yet performed. -/
def Group.piecesIn (g : Group) (x : VaRange) : List (Bool × Piece) :=
  (g.loads ++ g.stores).flatMap (fun a => (a.pieces.filter (fun p => !p.done && p.space != .pad && x.has g.asid p.va)).map (fun p => (a.isWrite, p)))

/-- A copy's pieces of a range still to be written (11 R289). -/
def CopyJob.putsIn (j : CopyJob) (x : VaRange) : List CopyPut := j.puts.filter (fun p => p.space != .pad && x.has j.asid p.va)

/-- The copy engines of the package. -/
def State.engines (s : State) : List CopyEngine := s.cores.map (·.copy) ++ s.dies.map (·.copy)

/-- The steps of an address space's long instructions that run are discarded, to run again (14 R376, R377); a KVSHOOT's drops go on. -/
def Group.discardRuns (g : Group) (asid : Nat) : Group :=
  if g.asid ≠ asid then g
  else { g with wicks := g.wicks.map (fun w => if w.kind = opKVSHOOT then w else { w with seq := w.seq.map (fun q =>
    if q.run.isSome then w.restart q else q) }) }

/-- Stops that waited for the discarded steps take effect. -/
def State.settleRuns (s : State) : State :=
  (List.range 160).foldl (fun s c => (List.range 8).foldl (fun s k => (List.range 4).foldl (fun s wk =>
    match s.group ⟨c, k⟩ with
    | none => s
    | some g => if (g.wick wk).status = stBUSY ∧ ((g.wick wk).seq.any (fun q => decide (q.stop = .drop ∨ q.stop = .cancel))) = true then
        s.boundary ⟨c, k⟩ g wk else s) s) s) s

/-- Discards the running steps of an address space. -/
def State.discardSteps (s : State) (asid : Nat) : State :=
  { s with cores := s.cores.map (fun (c : Core) =>
      { c with slots := c.slots.map (fun (o : Option Group) => o.map (fun (g : Group) => g.discardRuns asid)) }) }.settleRuns

/-- ATS_INVALIDATION: every cache on the package drops the entry; it is completed once the accesses translated under it have been
performed (14 R375, R376). -/
def execAtsInvalidation (asid : Nat) (va : Nat) (s : State) : Host.Outcome State Fault Refusal :=
  let x : VaRange := ⟨asid, page va * 65536, 65536⟩
  let busy := s.cores.any (fun c => c.active.any (fun g => (g.piecesIn x).any (fun y => y.2.space == .host))) ||
    s.engines.any (fun e => e.runs.any (fun j => (j.putsIn x).any (fun p => p.space == .host)))
  if !s.serving || busy then .next s
  else
    let s := (s.discardSteps asid).dropEntries (fun e => e.host && e.covers asid va)
    .next { s with dies := s.dies.map (fun (d : Die) => { d with granted := d.granted.filter (fun e => !e.covers asid va) }) }

/-! ### Mappings that change (14 R376 to R378) -/

/-- Writes a span of device memory as an image says, every granule whole: its error marks are those of the image. -/
def State.putImage (s : State) (pa n : Nat) (im : Mem × List (Nat × Nat)) : State :=
  let m := im.1.foldl (fun (m : Mem) x => m.write (pa + x.1) x.2) (s.mem.filter (fun x => !(pa ≤ x.1 && decide (x.1 < pa + n))))
  let p := im.2.foldl (fun (p : SMap Nat) x => SMap.set 0 p (pa / 16 + x.1) x.2) (s.poison.filter (fun x => !(pa / 16 ≤ x.1 && decide (x.1 < (pa + n) / 16))))
  let ks := ((List.range (n / 16)).map (pa / 16 + ·)).filter s.heals
  { s with mem := m, poison := p, healed := ks.foldl insertNat s.healed }

/-- Writes a 64 KiB page at its place. -/
def State.putPage (s : State) (at_ : PageAt) (im : Mem × List (Nat × Nat)) : State :=
  match at_ with
  | .dev pa => s.putImage pa 65536 im
  | .host a => { s with host := im.1.foldl (fun (m : Mem) x => m.write (a + x.1) x.2) (s.host.filter (fun x => !(a ≤ x.1 && decide (x.1 < a + 65536)))) }

/-- Step 3's copy of n bytes of device memory, granule by granule. -/
def State.moveBytes (s : State) (src dst n : Nat) : State :=
  s.putImage dst n (memImage s.mem src n, (List.range (n / 16)).filterMap (fun i => match s.readErr (src + 16 * i) with
    | .bad k => some (i, k)
    | _ => none))

/-- The range that a mapping change concerns: the page that holds an address under the tables before it; the largest of the dies. -/
def State.changeRange (s : State) (asid va : Nat) : VaRange :=
  let bits := (List.range 4).map (fun d => match s.walk d asid va with
    | .leaf e => e.bits
    | .host b _ => b
    | _ => 16)
  let b := bits.foldl Nat.max 16
  ⟨asid, va / 2 ^ b * 2 ^ b, 2 ^ b⟩

/-- The 64 KiB pages of a range. -/
def VaRange.pages (x : VaRange) : List Nat := (List.range (x.len / 65536)).map (fun i => x.base + 65536 * i)

/-- The pages whose place changed, on each die: page, place before, place after. -/
def changedPages (s t : State) (x : VaRange) : List (Nat × Nat × Option PageAt × Option PageAt) :=
  (List.range 4).flatMap (fun d => x.pages.filterMap (fun v =>
    let a := s.pageAt d x.asid v
    let b := t.pageAt d x.asid v
    if a = b then none else some (d, v, a, b)))

/-- Pages that move between host memory and device memory are copied by the change. -/
def copyHostPages (s t : State) (l : List (Nat × Nat × Option PageAt × Option PageAt)) : State :=
  l.foldl (fun t y => match y.2.2.1, y.2.2.2 with
    | some (.host a), some (.dev b) => t.putPage (.dev b) (s.pageImage (.host a))
    | some (.dev a), some (.host b) => t.putPage (.host b) (s.pageImage (.dev a))
    | _, _ => t) t

/-- No program reads another value than before: every page of the range that has a place before and after holds what it held, and every
other mapping of the package keeps its entry and its frame (14 R376); the dies agree on the range's pages (R378). -/
def sameData (s t : State) (x : VaRange) (l : List (Nat × Nat × Option PageAt × Option PageAt)) : Bool :=
  l.all (fun y => match y.2.2.1, y.2.2.2 with
    | some a, some b => decide (t.pageImage b = s.pageImage a)
    | _, _ => true) &&
  (List.range 4).all (fun d => x.pages.all (fun v => match s.pageAt d x.asid v with
    | some (.dev a) => decide (t.pageAt d x.asid v ≠ some (.dev a)) || s.sameSpan t a 65536
    | _ => true)) &&
  s.keeps t x.has && x.pages.all (fun v => t.diesAgree x.asid v)

/-- A barrier's tie follows its page (13 R349). -/
def moveTie (l : List (Nat × Nat × Option PageAt × Option PageAt)) (pa : Nat) : Nat :=
  match l.find? (fun y => match y.2.2.1 with
      | some (.dev a) => page a == page pa
      | _ => false) with
  | some y => match y.2.2.2 with
    | some (.dev b) => b + pa % 65536
    | _ => pa
  | none => pa

/-- Barrier ties follow the pages that changed. -/
def State.moveTies (s : State) (l : List (Nat × Nat × Option PageAt × Option PageAt)) : State :=
  { s with
    scopes := s.scopes.map (fun x => { x with barriers := x.barriers.map (moveTie l) })
    snuffs := s.snuffs.map (fun u => { u with barriers := u.barriers.map (moveTie l) }) }

/-- Accesses in progress are translated again (14 R377). -/
def Group.retarget (g : Group) (t : State) (d : Nat) (x : VaRange) : Group :=
  let f (p : Piece) : Piece :=
    if p.done || p.space == .pad || !x.has g.asid p.va then p
    else match t.pageAt d g.asid p.va with
      | some (.dev a) => { p with space := .dev, pa := a + p.va % 65536 }
      | some (.host a) => { p with space := .host, pa := a + p.va % 65536 }
      | none => p
  let h (a : Access) : Access := { a with pieces := a.pieces.map f }
  { g with loads := g.loads.map h, stores := g.stores.map h }

/-- A copy's pieces still to be written are translated again. -/
def CopyEngine.retarget (e : CopyEngine) (t : State) (d : Nat) (x : VaRange) : CopyEngine :=
  { e with runs := e.runs.map (fun j => { j with puts := j.puts.map (fun p =>
      if p.space == .pad || !x.has j.asid p.va then p
      else match t.pageAt d j.asid p.va with
        | some (.dev a) => { p with space := .dev, pa := a + p.va % 65536 }
        | some (.host a) => { p with space := .host, pa := a + p.va % 65536 }
        | none => p) }) }

/-- Retargets every access in progress. -/
def State.retargetAll (s : State) (x : VaRange) : State :=
  { s with
    cores := (List.range s.cores.length).map (fun c =>
      let y := (s.core c).forget
      let f (g : Group) : Group := g.retarget s (dieOf c) x
      { y with slots := y.slots.map (fun (o : Option Group) => o.map f), tracker := y.tracker.map f, copy := y.copy.retarget s (dieOf c) x })
    dies := (List.range s.dies.length).map (fun d => { s.die d with copy := (s.die d).copy.retarget s d x }) }

/-- An access in progress has no place under the new tables. -/
def State.strands (s : State) (x : VaRange) : Bool :=
  (List.range s.cores.length).any (fun c => (s.core c).active.any (fun g => (g.piecesIn x).any (fun y =>
    !(s.mapped (dieOf c) x.asid y.2.va y.1)))) ||
  (List.range s.cores.length).any (fun c => (s.core c).copy.runs.any (fun j => (j.putsIn x).any (fun p => !(s.mapped (dieOf c) x.asid p.va true)))) ||
  (List.range s.dies.length).any (fun d => (s.die d).copy.runs.any (fun j => (j.putsIn x).any (fun p => !(s.mapped d x.asid p.va true))))

/-- L1 sectors of the frames a change concerns go (14 R376). -/
def State.dropFrames (s : State) (l : List (Nat × Nat × Option PageAt × Option PageAt)) : State :=
  let fs := l.flatMap (fun y => [y.2.2.1, y.2.2.2].filterMap (fun (o : Option PageAt) => match o with
    | some (.dev a) => some (page a)
    | _ => none))
  { s with cores := s.cores.map (fun (c : Core) => { c with l1 := c.l1.filter (fun z => !fs.contains (page (z.1 * 32))) }) }

/-- MAPPING_CHANGE: the memory-management processor revokes the old entries, invalidates every cache of the package, copies the data
that moves (`move`: from, to, length) and writes the new entries. It happens where no program can read another value than before,
no access in progress loses its page, and the residency leases hold (14 R376 to R378, 13 R325). -/
def execMappingChange (asid : Nat) (va : Nat) (revoke : List PteWrite) (move : Option (Nat × Nat × Nat)) (install : List PteWrite)
    (s : State) : Host.Outcome State Fault Refusal :=
  let x := s.changeRange asid va
  let t := s.pteWrites revoke
  let t := match move with
    | some (src, dst, n) =>
      if src % 16 = 0 ∧ dst % 16 = 0 ∧ n % 16 = 0 ∧ src + n ≤ Config.hbmBytes ∧ dst + n ≤ Config.hbmBytes then t.moveBytes src dst n else t
    | none => t
  let t := t.pteWrites install
  let l := changedPages s t x
  let t := copyHostPages s t l
  if !s.serving || !sameData s t x l || t.strands x || !t.leasesHold asid then .next s
  else
    .next ((((t.moveTies l).dropFrames l).dropEntries (fun e => e.asid == asid && decide (e.va < x.base + x.len) &&
      decide (x.base < e.va + 2 ^ e.bits))).retargetAll x |>.discardSteps asid)

/-- An address space that a queue or a task which has not ended uses (15 R396, 14 R370). -/
def State.inUse (s : State) (asid : Nat) : Bool :=
  s.tasks.any (fun t => t.asid == asid && t.state != .ended) || s.queues.any (fun q => q.pasid == asid)

/-- The memory-management processor sets, or takes away, a die's root for an address space (14 R372): where the space is in use every
mapping stands as it was and the dies agree on what the root adds; where it is not, its cached entries and the host's grants go (R376). -/
def State.setRoot (s : State) (d asid : Nat) (pa : Option Nat) : State :=
  let x := s.die d
  let rest := x.roots.filter (fun r => r.asid != asid)
  let t := s.setDie d { x with roots := match pa with
    | some a => rest ++ [⟨asid, a⟩]
    | none => rest }
  let agree := t.leaves.all (fun y => y.2.1 != asid || (t.changeRange asid y.2.2).pages.all (fun v => t.diesAgree asid v))
  if s.inUse asid then (if s.keeps t (fun _ _ => false) && agree then t else s)
  else
    let t := t.dropEntries (fun e => e.asid == asid)
    { t with
      cores := t.cores.map (fun (c : Core) => { c with l1 := [] })
      dies := t.dies.map (fun (y : Die) => { y with granted := y.granted.filter (fun e => e.asid != asid) }) }

end Sys2Proof.Machine
end

