-- ==== Sys2Proof/Machine/Dispatch.lean ====
section
/-!
DEFINITION. One arm per constructor of Instr: the meaning it has. Which part or event is run is the agenda's choice
(Machine/Step.lean); each meaning acts on the group, core or unit that the state's cursor or its parameters name.
-/

namespace Sys2Proof.Machine

def exec (i : Instr) (s : State) : Host.Outcome State Fault Refusal :=
  match i with
  | .nop => Sys2Proof.Machine.execNop s
  | .anop => Sys2Proof.Machine.execAnop s
  | .vnop => Sys2Proof.Machine.execVnop s
  | .mnop => Sys2Proof.Machine.execMnop s
  | .cnop => Sys2Proof.Machine.execCnop s
  | .knop => Sys2Proof.Machine.execKnop s
  | .add x => Sys2Proof.Machine.execAdd x s
  | .sub x => Sys2Proof.Machine.execSub x s
  | .mul x => Sys2Proof.Machine.execMul x s
  | .mulh x => Sys2Proof.Machine.execMulh x s
  | .mulhu x => Sys2Proof.Machine.execMulhu x s
  | .div x => Sys2Proof.Machine.execDiv x s
  | .divu x => Sys2Proof.Machine.execDivu x s
  | .rem x => Sys2Proof.Machine.execRem x s
  | .remu x => Sys2Proof.Machine.execRemu x s
  | .and x => Sys2Proof.Machine.execAnd x s
  | .or x => Sys2Proof.Machine.execOr x s
  | .xor x => Sys2Proof.Machine.execXor x s
  | .andn x => Sys2Proof.Machine.execAndn x s
  | .shl x => Sys2Proof.Machine.execShl x s
  | .shr x => Sys2Proof.Machine.execShr x s
  | .sar x => Sys2Proof.Machine.execSar x s
  | .rotr x => Sys2Proof.Machine.execRotr x s
  | .min x => Sys2Proof.Machine.execMin x s
  | .max x => Sys2Proof.Machine.execMax x s
  | .minu x => Sys2Proof.Machine.execMinu x s
  | .maxu x => Sys2Proof.Machine.execMaxu x s
  | .clz x => Sys2Proof.Machine.execClz x s
  | .popc x => Sys2Proof.Machine.execPopc x s
  | .addi x => Sys2Proof.Machine.execAddi x s
  | .andi x => Sys2Proof.Machine.execAndi x s
  | .ori x => Sys2Proof.Machine.execOri x s
  | .xori x => Sys2Proof.Machine.execXori x s
  | .shli x => Sys2Proof.Machine.execShli x s
  | .shri x => Sys2Proof.Machine.execShri x s
  | .sari x => Sys2Proof.Machine.execSari x s
  | .lui x => Sys2Proof.Machine.execLui x s
  | .cmp x => Sys2Proof.Machine.execCmp x s
  | .cmpi x => Sys2Proof.Machine.execCmpi x s
  | .sel x => Sys2Proof.Machine.execSel x s
  | .plog x => Sys2Proof.Machine.execPlog x s
  | .br x => Sys2Proof.Machine.execBr x s
  | .jmp x => Sys2Proof.Machine.execJmp x s
  | .call x => Sys2Proof.Machine.execCall x s
  | .ret x => Sys2Proof.Machine.execRet x s
  | .loop x => Sys2Proof.Machine.execLoop x s
  | .loopi x => Sys2Proof.Machine.execLoopi x s
  | .lbrk x => Sys2Proof.Machine.execLbrk x s
  | .gset x => Sys2Proof.Machine.execGset x s
  | .grd x => Sys2Proof.Machine.execGrd x s
  | .gclr x => Sys2Proof.Machine.execGclr x s
  | .xmm x => Sys2Proof.Machine.execXmm x s
  | .xconv x => Sys2Proof.Machine.execXconv x s
  | .xgath x => Sys2Proof.Machine.execXgath x s
  | .xsort x => Sys2Proof.Machine.execXsort x s
  | .xtopk x => Sys2Proof.Machine.execXtopk x s
  | .xnorm x => Sys2Proof.Machine.execXnorm x s
  | .xwait x => Sys2Proof.Machine.execXwait x s
  | .xstat x => Sys2Proof.Machine.execXstat x s
  | .xres x => Sys2Proof.Machine.execXres x s
  | .xdrop x => Sys2Proof.Machine.execXdrop x s
  | .xattn x => Sys2Proof.Machine.execXattn x s
  | .kvshoot x => Sys2Proof.Machine.execKvshoot x s
  | .kvfreq x => Sys2Proof.Machine.execKvfreq x s
  | .kvapp x => Sys2Proof.Machine.execKvapp x s
  | .kvpre x => Sys2Proof.Machine.execKvpre x s
  | .callred x => Sys2Proof.Machine.execCallred x s
  | .credsc x => Sys2Proof.Machine.execCredsc x s
  | .cgath x => Sys2Proof.Machine.execCgath x s
  | .cbcast x => Sys2Proof.Machine.execCbcast x s
  | .ca2a x => Sys2Proof.Machine.execCa2a x s
  | .csend x => Sys2Proof.Machine.execCsend x s
  | .crecv x => Sys2Proof.Machine.execCrecv x s
  | .cring x => Sys2Proof.Machine.execCring x s
  | .ctopk x => Sys2Proof.Machine.execCtopk x s
  | .spawn x => Sys2Proof.Machine.execSpawn x s
  | .spawni x => Sys2Proof.Machine.execSpawni x s
  | .scope x => Sys2Proof.Machine.execScope x s
  | .sclose x => Sys2Proof.Machine.execSclose x s
  | .snuff x => Sys2Proof.Machine.execSnuff x s
  | .snuffw x => Sys2Proof.Machine.execSnuffw x s
  | .binit x => Sys2Proof.Machine.execBinit x s
  | .barr x => Sys2Proof.Machine.execBarr x s
  | .bwait x => Sys2Proof.Machine.execBwait x s
  | .yield x => Sys2Proof.Machine.execYield x s
  | .prio x => Sys2Proof.Machine.execPrio x s
  | .dline x => Sys2Proof.Machine.execDline x s
  | .endGroup x => Sys2Proof.Machine.execEndGroup x s
  | .tail x => Sys2Proof.Machine.execTail x s
  | .trap x => Sys2Proof.Machine.execTrap x s
  | .rtt x => Sys2Proof.Machine.execRtt x s
  | .csrr x => Sys2Proof.Machine.execCsrr x s
  | .csrw x => Sys2Proof.Machine.execCsrw x s
  | .csrs x => Sys2Proof.Machine.execCsrs x s
  | .csrc x => Sys2Proof.Machine.execCsrc x s
  | .xlat x => Sys2Proof.Machine.execXlat x s
  | .tcinv x => Sys2Proof.Machine.execTcinv x s
  | .errrd x => Sys2Proof.Machine.execErrrd x s
  | .errclr x => Sys2Proof.Machine.execErrclr x s
  | .lamp x => Sys2Proof.Machine.execLamp x s
  | .brk x => Sys2Proof.Machine.execBrk x s
  | .ld x => Sys2Proof.Machine.execLd x s
  | .ldna x => Sys2Proof.Machine.execLdna x s
  | .ldbp x => Sys2Proof.Machine.execLdbp x s
  | .ldg x => Sys2Proof.Machine.execLdg x s
  | .st x => Sys2Proof.Machine.execSt x s
  | .stna x => Sys2Proof.Machine.execStna x s
  | .stbp x => Sys2Proof.Machine.execStbp x s
  | .sts x => Sys2Proof.Machine.execSts x s
  | .pf x => Sys2Proof.Machine.execPf x s
  | .pfna x => Sys2Proof.Machine.execPfna x s
  | .monw x => Sys2Proof.Machine.execMonw x s
  | .atadd x => Sys2Proof.Machine.execAtadd x s
  | .atfadd x => Sys2Proof.Machine.execAtfadd x s
  | .atmin x => Sys2Proof.Machine.execAtmin x s
  | .atmax x => Sys2Proof.Machine.execAtmax x s
  | .atminu x => Sys2Proof.Machine.execAtminu x s
  | .atmaxu x => Sys2Proof.Machine.execAtmaxu x s
  | .atand x => Sys2Proof.Machine.execAtand x s
  | .ator x => Sys2Proof.Machine.execAtor x s
  | .atxor x => Sys2Proof.Machine.execAtxor x s
  | .atswp x => Sys2Proof.Machine.execAtswp x s
  | .atcas x => Sys2Proof.Machine.execAtcas x s
  | .lea x => Sys2Proof.Machine.execLea x s
  | .leax x => Sys2Proof.Machine.execLeax x s
  | .amov x => Sys2Proof.Machine.execAmov x s
  | .ainc x => Sys2Proof.Machine.execAinc x s
  | .mark x => Sys2Proof.Machine.execMark x s
  | .fence x => Sys2Proof.Machine.execFence x s
  | .fenceX x => Sys2Proof.Machine.execFenceX x s
  | .acq x => Sys2Proof.Machine.execAcq x s
  | .rel x => Sys2Proof.Machine.execRel x s
  | .acqrel x => Sys2Proof.Machine.execAcqrel x s
  | .drain x => Sys2Proof.Machine.execDrain x s
  | .tkw x => Sys2Proof.Machine.execTkw x s
  | .vadd x => Sys2Proof.Machine.execVadd x s
  | .vsub x => Sys2Proof.Machine.execVsub x s
  | .vmul x => Sys2Proof.Machine.execVmul x s
  | .vmulh x => Sys2Proof.Machine.execVmulh x s
  | .vdiv x => Sys2Proof.Machine.execVdiv x s
  | .vsqrt x => Sys2Proof.Machine.execVsqrt x s
  | .vmin x => Sys2Proof.Machine.execVmin x s
  | .vmax x => Sys2Proof.Machine.execVmax x s
  | .vabs x => Sys2Proof.Machine.execVabs x s
  | .vneg x => Sys2Proof.Machine.execVneg x s
  | .vfma x => Sys2Proof.Machine.execVfma x s
  | .vfms x => Sys2Proof.Machine.execVfms x s
  | .vfnma x => Sys2Proof.Machine.execVfnma x s
  | .vand x => Sys2Proof.Machine.execVand x s
  | .vor x => Sys2Proof.Machine.execVor x s
  | .vxor x => Sys2Proof.Machine.execVxor x s
  | .vnot x => Sys2Proof.Machine.execVnot x s
  | .vshl x => Sys2Proof.Machine.execVshl x s
  | .vshr x => Sys2Proof.Machine.execVshr x s
  | .vsar x => Sys2Proof.Machine.execVsar x s
  | .vclz x => Sys2Proof.Machine.execVclz x s
  | .vpopc x => Sys2Proof.Machine.execVpopc x s
  | .vcmp x => Sys2Proof.Machine.execVcmp x s
  | .vsel x => Sys2Proof.Machine.execVsel x s
  | .vmov x => Sys2Proof.Machine.execVmov x s
  | .vbcast x => Sys2Proof.Machine.execVbcast x s
  | .vperm x => Sys2Proof.Machine.execVperm x s
  | .vshuf x => Sys2Proof.Machine.execVshuf x s
  | .vrot x => Sys2Proof.Machine.execVrot x s
  | .viota x => Sys2Proof.Machine.execViota x s
  | .vexp2 x => Sys2Proof.Machine.execVexp2 x s
  | .vlog2 x => Sys2Proof.Machine.execVlog2 x s
  | .vrcp x => Sys2Proof.Machine.execVrcp x s
  | .vrsq x => Sys2Proof.Machine.execVrsq x s
  | .vsin x => Sys2Proof.Machine.execVsin x s
  | .vcos x => Sys2Proof.Machine.execVcos x s
  | .vreda x => Sys2Proof.Machine.execVreda x s
  | .vredx x => Sys2Proof.Machine.execVredx x s
  | .vredn x => Sys2Proof.Machine.execVredn x s
  | .vscan x => Sys2Proof.Machine.execVscan x s
  | .vcx x => Sys2Proof.Machine.execVcx x s
  | .vcxs x => Sys2Proof.Machine.execVcxs x s
  | .vins x => Sys2Proof.Machine.execVins x s
  | .vinsm x => Sys2Proof.Machine.execVinsm x s
  | .cvt x => Sys2Proof.Machine.execCvt x s
  | .quantDerive x => Sys2Proof.Machine.execQuantDerive x s
  | .quantApply x => Sys2Proof.Machine.execQuantApply x s
  | .dquant x => Sys2Proof.Machine.execDquant x s
  | .pack x => Sys2Proof.Machine.execPack x s
  | .unpack x => Sys2Proof.Machine.execUnpack x s
  | .mlease x => Sys2Proof.Machine.execMlease x s
  | .mrel x => Sys2Proof.Machine.execMrel x s
  | .mcfg x => Sys2Proof.Machine.execMcfg x s
  | .mcfgr x => Sys2Proof.Machine.execMcfgr x s
  | .mfset x => Sys2Proof.Machine.execMfset x s
  | .mfadv x => Sys2Proof.Machine.execMfadv x s
  | .mwaitSteps x => Sys2Proof.Machine.execMwaitSteps x s
  | .mwaitLease x => Sys2Proof.Machine.execMwaitLease x s
  | .mstep x => Sys2Proof.Machine.execMstep x s
  | .mstepz x => Sys2Proof.Machine.execMstepz x s
  | .mstept x => Sys2Proof.Machine.execMstept x s
  | .mzero x => Sys2Proof.Machine.execMzero x s
  | .cpy x => Sys2Proof.Machine.execCpy x s
  | .cpy2 x => Sys2Proof.Machine.execCpy2 x s
  | .cpyh x => Sys2Proof.Machine.execCpyh x s
  | .cpln x => Sys2Proof.Machine.execCpln x s
  | .accld x => Sys2Proof.Machine.execAccld x s
  | .accst x => Sys2Proof.Machine.execAccst x s
  | .cpyl x => Sys2Proof.Machine.execCpyl x s
  | .stamp x => Sys2Proof.Machine.execStamp x s
  | .gstep x => Sys2Proof.Machine.execGstep x s
  | .cpyq x => Sys2Proof.Machine.execCpyq x s
  | .kld x => Sys2Proof.Machine.execKld x s
  | .kldi x => Sys2Proof.Machine.execKldi x s
  | .kmov x => Sys2Proof.Machine.execKmov x s
  | .bundleDecode g => Sys2Proof.Machine.execBundleDecode g s
  | .loopEnd g => Sys2Proof.Machine.execLoopEnd g s
  | .rotate g => Sys2Proof.Machine.execRotate g s
  | .tagGrant core => Sys2Proof.Machine.execTagGrant core s
  | .loadPerformed g st piece evict => Sys2Proof.Machine.execLoadPerformed g st piece evict s
  | .storePerformed g st piece => Sys2Proof.Machine.execStorePerformed g st piece s
  | .writeAcknowledgement g st => Sys2Proof.Machine.execWriteAcknowledgement g st s
  | .atomicPerformed g st => Sys2Proof.Machine.execAtomicPerformed g st s
  | .monwTest g => Sys2Proof.Machine.execMonwTest g s
  | .pageWalk u asid va wr => Sys2Proof.Machine.execPageWalk u asid va wr s
  | .demandFaultService die serviced writes => Sys2Proof.Machine.execDemandFaultService die serviced writes s
  | .mappingChange asid va revoke move install => Sys2Proof.Machine.execMappingChange asid va revoke move install s
  | .atsInvalidation asid va => Sys2Proof.Machine.execAtsInvalidation asid va s
  | .priResponse asid va ok => Sys2Proof.Machine.execPriResponse asid va ok s
  | .asyncTrapTaken g => Sys2Proof.Machine.execAsyncTrapTaken g s
  | .answerResume q => Sys2Proof.Machine.execAnswerResume q s
  | .answerSkip q => Sys2Proof.Machine.execAnswerSkip q s
  | .answerAbort q => Sys2Proof.Machine.execAnswerAbort q s
  | .answerInvalid q => Sys2Proof.Machine.execAnswerInvalid q s
  | .leaseGrant core => Sys2Proof.Machine.execLeaseGrant core s
  | .leaseTimeout g => Sys2Proof.Machine.execLeaseTimeout g s
  | .matrixStepStart core step => Sys2Proof.Machine.execMatrixStepStart core step s
  | .matrixStepCommit core step => Sys2Proof.Machine.execMatrixStepCommit core step s
  | .tileStepStart g wk => Sys2Proof.Machine.execTileStepStart g wk s
  | .tileStepCommit g wk => Sys2Proof.Machine.execTileStepCommit g wk s
  | .kvshootComplete g wk => Sys2Proof.Machine.execKvshootComplete g wk s
  | .bufferAcknowledge g wk buf => Sys2Proof.Machine.execBufferAcknowledge g wk buf s
  | .chunkRequest g wk chunk dst => Sys2Proof.Machine.execChunkRequest g wk chunk dst s
  | .chunkReceive g wk msg => Sys2Proof.Machine.execChunkReceive g wk msg s
  | .chunkRetry g wk chunk => Sys2Proof.Machine.execChunkRetry g wk chunk s
  | .laneRetrain lane => Sys2Proof.Machine.execLaneRetrain lane s
  | .lostLink g wk => Sys2Proof.Machine.execLostLink g wk s
  | .peerNotice g wk => Sys2Proof.Machine.execPeerNotice g wk s
  | .copyStart eng ch => Sys2Proof.Machine.execCopyStart eng ch s
  | .copyChunk eng run => Sys2Proof.Machine.execCopyChunk eng run s
  | .completionStamp eng run => Sys2Proof.Machine.execCompletionStamp eng run s
  | .chainRecordRead eng run => Sys2Proof.Machine.execChainRecordRead eng run s
  | .chainUnpark eng run => Sys2Proof.Machine.execChainUnpark eng run s
  | .admission task place writes => Sys2Proof.Machine.execAdmission task place writes s
  | .groupStart core => Sys2Proof.Machine.execGroupStart core s
  | .issueAgePromotion g => Sys2Proof.Machine.execIssueAgePromotion g s
  | .yieldExpiry g => Sys2Proof.Machine.execYieldExpiry g s
  | .preemptionDecision task victim cores => Sys2Proof.Machine.execPreemptionDecision task victim cores s
  | .preemptionLanding g => Sys2Proof.Machine.execPreemptionLanding g s
  | .preemptionSave core => Sys2Proof.Machine.execPreemptionSave core s
  | .resumption task core => Sys2Proof.Machine.execResumption task core s
  | .overlayLoad g => Sys2Proof.Machine.execOverlayLoad g s
  | .groupRetire core eng => Sys2Proof.Machine.execGroupRetire core eng s
  | .retirementTrackerDrain core entry => Sys2Proof.Machine.execRetirementTrackerDrain core entry s
  | .taskEnd task => Sys2Proof.Machine.execTaskEnd task s
  | .snuffArrival snuff site => Sys2Proof.Machine.execSnuffArrival snuff site s
  | .snuffComplete snuff => Sys2Proof.Machine.execSnuffComplete snuff s
  | .lampTest unit pass => Sys2Proof.Machine.execLampTest unit pass s
  | .prodUpdate q => Sys2Proof.Machine.execProdUpdate q s
  | .recordFetch q => Sys2Proof.Machine.execRecordFetch q s
  | .nodeFinal q slot => Sys2Proof.Machine.execNodeFinal q slot s
  | .launch q slot => Sys2Proof.Machine.execLaunch q slot s
  | .ilaunch q slot => Sys2Proof.Machine.execIlaunch q slot s
  | .outing q slot => Sys2Proof.Machine.execOuting q slot s
  | .outingRetry q slot => Sys2Proof.Machine.execOutingRetry q slot s
  | .copyNode q slot => Sys2Proof.Machine.execCopyNode q slot s
  | .signalStore q slot => Sys2Proof.Machine.execSignalStore q slot s
  | .signalAdd q slot => Sys2Proof.Machine.execSignalAdd q slot s
  | .signalOr q slot => Sys2Proof.Machine.execSignalOr q slot s
  | .waitNode q slot => Sys2Proof.Machine.execWaitNode q slot s
  | .waitSatisfied q slot => Sys2Proof.Machine.execWaitSatisfied q slot s
  | .condNode q slot => Sys2Proof.Machine.execCondNode q slot s
  | .loopNode q slot => Sys2Proof.Machine.execLoopNode q slot s
  | .loopIteration q slot => Sys2Proof.Machine.execLoopIteration q slot s
  | .queueEventPost q => Sys2Proof.Machine.execQueueEventPost q s
  | .queueRegister val => Sys2Proof.Machine.execQueueRegister val s
  | .queueUnregister val => Sys2Proof.Machine.execQueueUnregister val s
  | .queueReset val => Sys2Proof.Machine.execQueueReset val s
  | .queueSnuffRoot val => Sys2Proof.Machine.execQueueSnuffRoot val s
  | .partWrite val => Sys2Proof.Machine.execPartWrite val s
  | .rankWrite val => Sys2Proof.Machine.execRankWrite val s
  | .pthWrite p val => Sys2Proof.Machine.execPthWrite p val s
  | .managementRegisterWrite reg val => Sys2Proof.Machine.execManagementRegisterWrite reg val s
  | .deniedAccess acc => Sys2Proof.Machine.execDeniedAccess acc s
  | .mboxNone val => Sys2Proof.Machine.execMboxNone val s
  | .mboxVerifyWrite val => Sys2Proof.Machine.execMboxVerifyWrite val s
  | .mboxClear val => Sys2Proof.Machine.execMboxClear val s
  | .mboxRefused val => Sys2Proof.Machine.execMboxRefused val s
  | .recoveryImageVerified => Sys2Proof.Machine.execRecoveryImageVerified s
  | .attNonceWrite nonce => Sys2Proof.Machine.execAttNonceWrite nonce s
  | .attestationRequest => Sys2Proof.Machine.execAttestationRequest s
  | .attestationDone => Sys2Proof.Machine.execAttestationDone s
  | .deviceReset => Sys2Proof.Machine.execDeviceReset s
  | .bootRomHash => Sys2Proof.Machine.execBootRomHash s
  | .slotChoice => Sys2Proof.Machine.execSlotChoice s
  | .firmwareLoad => Sys2Proof.Machine.execFirmwareLoad s
  | .hbmTrain failed => Sys2Proof.Machine.execHbmTrain failed s
  | .powerSample watts => Sys2Proof.Machine.execPowerSample watts s
  | .thermalTrip die celsius => Sys2Proof.Machine.execThermalTrip die celsius s
  | .ptmExchange host => Sys2Proof.Machine.execPtmExchange host s
  | .powerLoss => Sys2Proof.Machine.execPowerLoss s
  | .partCompletion g idx => Sys2Proof.Machine.execPartCompletion g idx s
  | .atsTranslationResponse asid va found wr => Sys2Proof.Machine.execAtsTranslationResponse asid va found wr s
  | .sendAcknowledgement g wk chunk => Sys2Proof.Machine.execSendAcknowledgement g wk chunk s
  | .hostStoreAcknowledgement g st => Sys2Proof.Machine.execHostStoreAcknowledgement g st s

end Sys2Proof.Machine
end

