-- ==== Sys2Proof/Machine/Outside.lean ====
section
/-!
DEFINITION. What the outside world does to the memory of the machine (log 1): the host's writes over PCIe, and errors that arise in
memory cells (14 R379 to R382).
-/

namespace Sys2Proof.Machine

/-- Writes bytes at a physical address, granule by granule; a granule written whole loses its poison (14 R382). -/
def State.physWrite (s : State) (pa : Nat) (bs : List Byte) : State :=
  (granules pa bs.length).foldl (fun st x => st.putGranule x.1 false ((bs.drop (x.1 - pa)).take x.2)) s

/-- A write of the host to its own memory, or to device memory that exists. -/
def State.hostWrite (s : State) (dev : Bool) (addr : Nat) (bs : List Byte) : State :=
  if dev then (if addr + bs.length ≤ Config.hbmBytes then s.physWrite addr bs else s)
  else { s with host := s.host.writeN addr bs }

/-- The address of a main register's row in the register region: where a window lies there is not given (log 56). -/
def State.regionAddr (s : State) (r : GRef) (code : Nat) : Nat :=
  0xFF * 2 ^ 48 + Config.freeOf [6, r.core, r.slot, code] % Nat.max 1 (1024 * (s.core r.core).bnd0)

/-- An uncorrectable error arises (14 R380, R381). An overlay in error is loaded again from its image by the fetch that needs it, unseen
(14 R383). A pane or a lantern errs in the next step that uses it. -/
def State.upset (s : State) : Upset → State
  | .part st n => { s with hbmBad := if s.hbmBad.contains (st, n) then s.hbmBad else s.hbmBad ++ [(st, n)] }
  | .granule k unit => { s with poison := SMap.set 0 s.poison k unit }
  | .pad c k => s.setCore c { s.core c with padPoison := insertNat (s.core c).padPoison k }
  | .acc c k => s.setCore c { s.core c with accPoison := insertNat (s.core c).accPoison k }
  | .vreg r code =>
    match s.group r with
    | some g => if code < g.win then s.setGroup r (g.setV code (g.vreg code).val (some ⟨3, s.regionAddr r code⟩)) else s
    | none => s
  | .store c k => s.setCore c { s.core c with store := (s.core c).store.zipIdx.map (fun x => if x.2 = k then { x.1 with bad := true } else x.1) }
  | .pane c p => s.setCore c { s.core c with paneBad := insertNat (s.core c).paneBad p }
  | .lantern k => { s with lanterns := s.lanterns.set k { s.lanterns.getD k Lantern.idle with bad := true } }
  | .saved c id => s.setCore c { s.core c with saved := (s.core c).saved.map (fun g => if g.gid = id then { g with lost := true } else g) }

end Sys2Proof.Machine
end

