-- ==== Sys2Proof/Machine/Step.lean ====
section
/-!
DEFINITION. THE STEP: one turn of the agenda (log 1), or, where it is empty, the next action of the current group; and the
placing of one instruction where the next step fetches it (log 5).
-/

namespace Sys2Proof.Machine

/-- Whether an instruction is some slot's NOP (02 R30, R54). -/
def isNop : Instr → Bool
  | .nop => true | .anop => true | .vnop => true | .mnop => true | .cnop => true | .knop => true
  | _ => false

/-- The head part of a slot of the current group that may issue or trap now, with its group. -/
def State.readyHead (s : State) (k : Slot) : Option (Group × Part) :=
  match s.headOf k with
  | some (g, p) => if verdict s s.cur g k p p.instr = .wait then none else some (g, p)
  | none => none

/-- The slot whose part the default turn issues: of those ready the oldest, in slot order (log 1). -/
def State.pickSlot (s : State) : Option (Slot × Part) :=
  (slots.filterMap (fun k => (s.readyHead k).map (fun x => (k, x.2)))).foldl (fun m x =>
    match m with
    | none => some x
    | some y => if x.2.seq < y.2.seq then some x else m) none

/-- The parts that a sync names, at the heads of their slots, issue in this clk: every one of them may, the core's turn is the group's, and no
trap comes first (02 R35, 04 R108, 14 R363). -/
def goTogether (s : State) (r : GRef) (g : Group) (k : Slot) (p : Part) : Bool :=
  s.serving && !heldBack s r g && s.hasTurn r && syncGoes s r g k p &&
  (let l := ((k, p) :: syncMates g k p).filter (fun x => raises g x.2 x.2.instr)
   if l.isEmpty then !g.asyncDue else !l.any (fun x => trapsBefore s r g x.1 x.2))

/-- The parts of one bundle, at the heads of the slots named, take their effects one after the other in the same step. -/
def State.issueEach (seq : Nat) : List Slot → State → Host.Outcome State Fault Refusal
  | [], s => .next s
  | k :: rest, s =>
    match s.headOf k with
    | some (_, p) =>
      if p.seq = seq ∧ syncNames p k then
        match exec p.instr s with
        | .next s' => State.issueEach seq rest s'
        | o => o
      else State.issueEach seq rest s
    | none => State.issueEach seq rest s

/-- THE ISSUE OF A SLOT: its head part issues; the parts that a sync names with it issue in the same step, judged together on the state from
before it, each taking its effect once those that read what it writes at once have theirs; where they may not all go, one may trap, or ask for what
it waits for (02 R35, R36; log 64). -/
def State.issueSlot (s : State) (k : Slot) : Host.Outcome State Fault Refusal :=
  match s.headOf k with
  | none => .next s
  | some (g, p) =>
    if (syncMates g k p).isEmpty then exec p.instr s
    else if goTogether s s.cur g k p then
      match State.issueEach p.seq ((List.replicate 6 slots).flatten) { s with joint := some p.seq } with
      | .next t => .next { t with joint := none }
      | o => o
    else if syncGoes s s.cur g k p then .next s
    else State.issueEach p.seq slots s

/-- Whether a part is a NOP, and so are the parts that its sync names. -/
def nopSync (g : Group) (k : Slot) (p : Part) : Bool := isNop p.instr && (syncMates g k p).all (fun x => isNop x.2.instr)

/-- Issues the NOP parts at the heads of the slots (log 1). -/
def State.passNops : List Slot → State → Host.Outcome State Fault Refusal
  | [], s => .next s
  | k :: rest, s =>
    match s.readyHead k with
    | some (g, p) =>
      if nopSync g k p then
        match s.issueSlot k with
        | .next s' => State.passNops rest s'
        | o => o
      else State.passNops rest s
    | none => State.passNops rest s

/-- Issues the next part of the current group, its NOPs first (log 1). -/
def State.issueNext (s : State) : Host.Outcome State Fault Refusal :=
  match s.passNops slots with
  | .next s' =>
    match s'.pickSlot with
    | some (k, _) => s'.issueSlot k
    | none => .next s'
  | o => o

/-- A core's groups and steps as clocks pass: each that is ready now has been so since then at the latest (13 R330, 08 R222). -/
def Core.ages (s : State) (c : Nat) (x : Core) : Core :=
  if x.slots.all (·.isNone) && x.steps.isEmpty then x
  else
    { x with
      steps := x.steps.map (fun m => { m with readyAt := sinceWhen (s.stepRipe c m) m.readyAt s.clk })
      slots := x.slots.zipIdx.map (fun y => y.1.map (fun g =>
        if groupReady s ⟨c, y.2⟩ g then { g.ripen s c y.2 with readySince := some (g.readySince.getD s.clk) }
        else { g.ripen s c y.2 with readySince := none, promoted := false })) }

/-- Clocks pass in which nothing acts (log 7). -/
def State.pass (s : State) (n : Nat) : State :=
  if n = 0 then s else { s with clk := s.clk + n, cores := s.cores.zipIdx.map (fun y => y.1.ages s y.2) }

/-- The turn of the current group where the agenda is empty (log 1): what is in flight completes, header actions are done,
a part issues; where none can, the next bundle is dispatched and its part issues; else a clk passes. -/
def State.defaultTurn (s : State) : Host.Outcome State Fault Refusal :=
  match s.group s.cur with
  | none => .next (s.pass 1)
  | some g =>
    if !g.fly.isEmpty then execPartCompletion s.cur 0 s
    else if g.qh.any g.rotateDue then execRotate s.cur s
    else if g.qh.any g.loopEndDue then execLoopEnd s.cur s
    else if s.pickSlot.isSome then s.issueNext
    else if canDispatch s s.cur g then
      match execBundleDecode s.cur s with
      | .next s' => s'.issueNext
      | o => o
    else .next (s.pass 1)

/-- One act: a slot of a group issues its oldest part, or a device event happens (log 1). -/
def State.act (s : State) : Act → Host.Outcome State Fault Refusal
  | .part g k =>
    { s with cur := g }.issueSlot k
  | .event i => if (slotOf i).isSome then .next s else exec i s
  | .hostWrite dev a bs => .next (s.hostWrite dev a bs)
  | .root d asid pa => .next (s.setRoot d asid pa)
  | .upset u => .next (s.upset u)
  | .evict line => .next (s.llcEvict line)
  | .temperature d t => .next (s.setTemp d t)

/-- THE STEP: the next turn of the agenda acts after its clocks have passed; an empty agenda gives the current group its turn
(log 1, log 7). -/
def step (s : State) : Host.Outcome State Fault Refusal :=
  match s.agenda with
  | t :: rest => ({ s with agenda := rest }.pass t.clk).act t.act
  | [] => s.defaultTurn

/-! ### Placing an instruction (log 5) -/

/-- A launch of nothing but defaults, for a group placed from outside (log 5). -/
def Launch.blank : Launch where
  image := 0
  arows := 0
  win := 256
  cls := 0
  ser := false
  reload := false
  entry := 32
  bnd0 := 2048
  bnd1 := 8192
  bnd2 := 12224
  scope := 0
  deadline := 0
  donea := 0
  levels := [⟨1, 5, 0⟩]
  ranges := []
  args := []
  guards := []

/-- The 256 bits of a bundle that holds one instruction's word in its slot and NOPs elsewhere (02 Table 2.1). -/
def bundleWith (nbits w : Nat) : BitVec 256 :=
  match (decodeTableWord nbits w).bind slotOf with
  | some .S => BitVec.ofNat 256 (w % 2 ^ nbits * 2 ^ 16)
  | some .A => BitVec.ofNat 256 (w % 2 ^ nbits * 2 ^ 56)
  | some .V => BitVec.ofNat 256 (w % 2 ^ nbits * 2 ^ 96)
  | some .M => BitVec.ofNat 256 (w % 2 ^ nbits * 2 ^ 160)
  | some .C => BitVec.ofNat 256 (w % 2 ^ nbits * 2 ^ 192)
  | some .K => BitVec.ofNat 256 (w % 2 ^ nbits * 2 ^ 224)
  | none => 0#256

/-- A group to place an instruction for: the one seated, or one as it starts from a launch of defaults (log 5). -/
def State.placeGroup (s : State) : Group :=
  match s.group s.cur with
  | some g => g
  | none => Group.start ⟨0, 0⟩ 0 0 8192 Launch.blank

/-- The state with one instruction placed where the next step fetches it: the current group stands at a bundle that holds it,
nothing dispatched, and the core's issue turn is its own (log 5). -/
def State.withFetchWord (s : State) (nbits w : Nat) : State :=
  let r := s.cur
  let g := s.placeGroup
  let g := { g.discard with
    fly := [], stop := none, yielded := none, ended := false, snuffed := false, preempt := false, landed := false, fetchHold := false,
    started := true }
  let s1 := { s.setGroup r g with agenda := [], plat := { s.plat with phase := 5 } }
  let c := s1.core r.core
  s1.setCore r.core { c with
    store := ⟨s1.imageOf g, g.asid, 0, g.pc, natLE 32 (bundleWith nbits w).toNat, s.clk, true, false⟩ :: c.store
    lastSlot := r.slot
    lastClk := some s.clk }

end Sys2Proof.Machine
end

