-- ==== Sys2Proof/Safety.lean ====
section
/-!
DEFINITION. The terms of the statements: what it means that a part may issue, what an issue leaves around the part's own effect, the
bytes of the device as a reader sees them, and a safe step.
-/

namespace Sys2Proof.Machine

/-- Nothing but the rule of its own instruction holds back part `p`, at the head of slot `k` of the current group `g`, from issuing as
`i`: the device serves, the group runs and has the core's turn (13 R330), the interlock and the slip limit let the part go (02 R32 to
R34), its predicate holds (02 R37), the parts that its sync names are ready with it, a control part or a wait coming last (02 R35), its token is
free (11 R291), no asynchronous trap is due (14 R363), and none of another part comes before one that it raises (04 R108). -/
def issuable (s : State) (g : Group) (k : Slot) (p : Part) (i : Instr) : Bool :=
  s.joint.isNone && s.serving && !heldBack s s.cur g && s.hasTurn s.cur && !hazard g k p i false && !hazard g k p i true && !leBad g p &&
  g.predOn p i && !atSlipLimit g p && !prodPending g p i && !g.asyncDue &&
  (syncMates g k p).all (fun x => verdictAlone s s.cur g x.1 x.2 x.2.instr true == .go) &&
  (!issuesLast i || (syncMates g k p).isEmpty) && (!raises g p i || !trapsBefore s s.cur g k p)

/-- The current group's issue with an effect on the group alone. -/
def State.issueWith (s : State) (g : Group) : State := (s.setGroup s.cur g).afterIssue s.cur

/-- Part `p` is at the head of slot `k` of the current group `g` and may issue as `i`. -/
def State.ready (s : State) (g : Group) (k : Slot) (p : Part) (i : Instr) : Prop :=
  s.headOf k = some (g, p) ∧ issuable s g k p i = true

/-- It may issue, and every check that the rule of its own instruction names has passed. -/
def State.passes (s : State) (g : Group) (k : Slot) (p : Part) (i : Instr) : Prop :=
  s.ready g k p i ∧ own s s.cur g k p i = .go

/-- It may issue, and no trap of another part that comes first in the order of the clk, and no action of an earlier header, comes before
one that it takes (04 R105, R107, R108). -/
def State.mayTrap (s : State) (g : Group) (k : Slot) (p : Part) (i : Instr) : Prop :=
  s.ready g k p i ∧ g.headerHolds = false ∧ trapsBefore s s.cur g k p = false

/-- The scalar operand with a code, as the current group reads it (02 Table 2.6). -/
def State.operand (s : State) (g : Group) (c : BitVec 6) : Word := scalarSrc s.cur g c.toNat

/-- A byte of device memory, of host memory, of a core's hamper. -/
def State.memByte (s : State) (a : Nat) : Byte := s.mem.read a
def State.hostByte (s : State) (a : Nat) : Byte := s.host.read a
def State.padByte (s : State) (c a : Nat) : Byte := (s.core c).hamper.read a

/-- Every byte of device memory, of host memory and of every hamper reads in `t` as in `s`. -/
def State.sameBytes (s t : State) : Prop :=
  (∀ a, t.memByte a = s.memByte a) ∧ (∀ a, t.hostByte a = s.hostByte a) ∧ ∀ c a, t.padByte c a = s.padByte c a

/-- Device memory and host memory are in their canonical form. -/
def State.memsWf (s : State) : Prop := Memory.wf s.mem = true ∧ Memory.wf s.host = true

end Sys2Proof.Machine

/-- A step that answers a next state. -/
def Sys2Proof.Safe (s : Sys2Proof.Machine.State) : Prop := ∃ t, Sys2Proof.Machine.step s = .next t
end

