-- ==== Sys2Proof/Certificates/Slice0/Obligations.lean ====
section
/-!
DEFINITION. The statements for the provers. Each names the rules of the spec that it formalises; a part "may issue" as Safety says, and
an instruction's effect is the state in which the part has left its queue, its effect is done and the core's turn is taken.
-/

open Sys2Proof Sys2Proof.Machine

namespace Sys2Proof.Claims

/-- The NOP of each slot (02 R30, R54). -/
def nops : List (Slot × Instr) := [(.S, .nop), (.A, .anop), (.V, .vnop), (.M, .mnop), (.C, .cnop), (.K, .knop)]

/-- The two-source integer forms with their values (04 R119), read as numbers. -/
def intRows (x : R3) : List (Instr × (Word → Word → Word)) :=
  [(.add x, fun a b => word (a.toNat + b.toNat)),
   (.sub x, fun a b => BitVec.ofInt 64 (a.toInt - b.toInt)),
   (.mul x, fun a b => word (a.toNat * b.toNat)),
   (.mulh x, fun a b => BitVec.ofInt 64 (a.toInt * b.toInt / 2 ^ 64)),
   (.mulhu x, fun a b => word (a.toNat * b.toNat / 2 ^ 64)),
   (.div x, fun a b => if b.toNat = 0 then word (2 ^ 64 - 1) else if a.toInt = -2 ^ 63 ∧ b.toInt = -1 then a
      else BitVec.ofInt 64 (a.toInt.tdiv b.toInt)),
   (.divu x, fun a b => if b.toNat = 0 then word (2 ^ 64 - 1) else word (a.toNat / b.toNat)),
   (.rem x, fun a b => if b.toNat = 0 then a else if a.toInt = -2 ^ 63 ∧ b.toInt = -1 then 0#64
      else BitVec.ofInt 64 (a.toInt - b.toInt * a.toInt.tdiv b.toInt)),
   (.remu x, fun a b => if b.toNat = 0 then a else word (a.toNat % b.toNat)),
   (.and x, fun a b => a &&& b),
   (.or x, fun a b => a ||| b),
   (.xor x, fun a b => a ^^^ b),
   (.andn x, fun a b => a &&& ~~~b),
   (.shl x, fun a b => word (a.toNat * 2 ^ (b.toNat % 64))),
   (.shr x, fun a b => word (a.toNat / 2 ^ (b.toNat % 64))),
   (.sar x, fun a b => BitVec.ofInt 64 (a.toInt / 2 ^ (b.toNat % 64))),
   (.rotr x, fun a b => word (a.toNat / 2 ^ (b.toNat % 64) + a.toNat * 2 ^ (64 - b.toNat % 64))),
   (.min x, fun a b => BitVec.ofInt 64 (min a.toInt b.toInt)),
   (.max x, fun a b => BitVec.ofInt 64 (max a.toInt b.toInt)),
   (.minu x, fun a b => word (min a.toNat b.toNat)),
   (.maxu x, fun a b => word (max a.toNat b.toNat))]

/-- The one-source forms (04 R119): leading zeros, 64 for zero, and one bits. -/
def unaryRows (x : R2) : List (Instr × (Word → Word)) :=
  [(.clz x, fun a => word (if a.toNat = 0 then 64 else 63 - Nat.log2 a.toNat)),
   (.popc x, fun a => word ((List.range 64).filter (fun i => a.toNat.testBit i)).length)]

/-- The immediate forms (04 R120). -/
def immRows (x : RI) : List (Instr × (Word → Word)) :=
  [(.addi x, fun a => BitVec.ofInt 64 (a.toInt + x.imm.toInt)),
   (.andi x, fun a => a &&& x.imm.signExtend 64),
   (.ori x, fun a => a ||| x.imm.signExtend 64),
   (.xori x, fun a => a ^^^ x.imm.signExtend 64),
   (.shli x, fun a => word (a.toNat * 2 ^ x.imm.toNat)),
   (.shri x, fun a => word (a.toNat / 2 ^ x.imm.toNat)),
   (.sari x, fun a => BitVec.ofInt 64 (a.toInt / 2 ^ x.imm.toNat)),
   (.lui x, fun a => word (a.toNat * 2 ^ 15 ||| x.imm.toNat))]

end Sys2Proof.Claims

/-- 02 R30, R54: each slot's NOP issues like any other part and does nothing else. -/
def Obligations.NopsDoNothing : Prop :=
  ∀ e ∈ Claims.nops, ∀ (s : State) (g : Group) (p : Part), s.ready g e.1 p e.2 →
    exec e.2 s = .next (s.issueWith (issued g e.1 p e.2))

/-- 04 R119, 04 R120: a register form's result is the value of its row, from the operands before the bundle, whatever they are; an immediate
form's result is the value of its row. A result takes the newest ember place at issue, and its record in flight fills that place and names
the destination register, none for `_`; nothing else of the group changes. -/
def Obligations.IntegerForms : Prop :=
  (∀ (x : R3), ∀ e ∈ Claims.intRows x, ∀ (s : State) (g : Group) (p : Part), s.ready g .S p e.1 →
    exec e.1 s = .next (s.issueWith ((issued g .S p e.1).resultS p.seq x.dst.toNat (e.2 (s.operand g x.sa) (s.operand g x.sb))))) ∧
  (∀ (x : R2), ∀ e ∈ Claims.unaryRows x, ∀ (s : State) (g : Group) (p : Part), s.ready g .S p e.1 →
    exec e.1 s = .next (s.issueWith ((issued g .S p e.1).resultS p.seq x.dst.toNat (e.2 (s.operand g x.sa))))) ∧
  (∀ (x : RI), ∀ e ∈ Claims.immRows x, ∀ (s : State) (g : Group) (p : Part), s.ready g .S p e.1 →
    exec e.1 s = .next (s.issueWith ((issued g .S p e.1).resultS p.seq x.dst.toNat (e.2 (s.operand g x.sa))))) ∧
  (∀ (g : Group) (seq dst : Nat) (v : Word), (g.resultS seq dst v).e = (Ember.awaiting g.ids :: g.e).take 16 ∧
    { g.resultS seq dst v with e := g.e, fly := g.fly, ids := g.ids } = g ∧
    ∃ f, (g.resultS seq dst v).fly = g.fly ++ [f] ∧ f.id = g.ids ∧ f.n = (if dst < 16 then some (dst, v) else none) ∧ f.ember = some v ∧
      f.p = none ∧ f.vecs = [] ∧ f.latch = none ∧ f.push = none ∧ f.flags = 0#6)

namespace Sys2Proof.Claims

/-- A binary64 NaN, a signalling one, and the order of what is no NaN, −0 equal to +0 (03 R65, 04 R121). -/
def isNaN64 (w : Word) : Prop := 0x7FF0000000000000 < w.toNat % 2 ^ 63
def isSig64 (w : Word) : Prop := isNaN64 w ∧ w.getLsbD 51 = false
def order64 (w : Word) : Int := if w.toNat < 2 ^ 63 then (w.toNat : Int) else 2 ^ 63 - (w.toNat : Int)

/-- The integer conditions with when they hold (04 Table 4.7). -/
def intConds : List (Nat × (Word → Word → Prop)) :=
  [(0, fun a b => a = b), (1, fun a b => a ≠ b), (2, fun a b => a.toInt < b.toInt), (3, fun a b => b.toInt ≤ a.toInt),
   (4, fun a b => a.toNat < b.toNat), (5, fun a b => b.toNat ≤ a.toNat), (10, fun a b => a &&& b ≠ 0#64), (11, fun a b => a &&& b = 0#64)]

/-- The F-conditions with when they hold and when they raise NV (04 Table 4.7). -/
def floatConds : List (Nat × (Word → Word → Prop) × (Word → Word → Prop)) :=
  [(6, fun a b => ¬ isNaN64 a ∧ ¬ isNaN64 b ∧ order64 a = order64 b, fun a b => isSig64 a ∨ isSig64 b),
   (7, fun a b => ¬ isNaN64 a ∧ ¬ isNaN64 b ∧ order64 a < order64 b, fun a b => isNaN64 a ∨ isNaN64 b),
   (8, fun a b => ¬ isNaN64 a ∧ ¬ isNaN64 b ∧ order64 a ≤ order64 b, fun a b => isNaN64 a ∨ isNaN64 b),
   (9, fun a b => isNaN64 a ∨ isNaN64 b, fun a b => isSig64 a ∨ isSig64 b)]

end Sys2Proof.Claims

/-- 04 R121 to R124: CMP writes to the predicate and the embers whether its condition of Table 4.7 holds, an F-condition with NV as the table
has it, CMPI an integer condition on its immediate, SEL takes sa where its predicate, negated or not, holds, and PLOG looks its two
predicates up in its table. A predicate result takes the newest ember place at issue and completes with its predicate and its flags;
nothing else of the group changes. -/
def Obligations.CompareSelectLogic : Prop :=
  (∀ (x : Cmp), ∀ e ∈ Claims.intConds, x.cond.toNat = e.1 → ∀ (s : State) (g : Group) (p : Part), s.ready g .S p (.cmp x) →
    ∃ c : Bool, exec (.cmp x) s = .next (s.issueWith ((issued g .S p (.cmp x)).resultP p.seq x.pd.toNat c 0#6)) ∧
      (c = true ↔ e.2 (s.operand g x.sa) (s.operand g x.sb))) ∧
  (∀ (x : Cmp), ∀ e ∈ Claims.floatConds, x.cond.toNat = e.1 → ∀ (s : State) (g : Group) (p : Part), s.ready g .S p (.cmp x) →
    ∃ (c : Bool) (fl : BitVec 6), exec (.cmp x) s = .next (s.issueWith ((issued g .S p (.cmp x)).resultP p.seq x.pd.toNat c fl)) ∧
      (c = true ↔ e.2.1 (s.operand g x.sa) (s.operand g x.sb)) ∧
      (e.2.2 (s.operand g x.sa) (s.operand g x.sb) → fl = 1#6) ∧ (¬ e.2.2 (s.operand g x.sa) (s.operand g x.sb) → fl = 0#6)) ∧
  (∀ (x : CmpI), ∀ e ∈ Claims.intConds, x.cond.toNat = e.1 → ∀ (s : State) (g : Group) (p : Part), s.ready g .S p (.cmpi x) →
    ∃ c : Bool, exec (.cmpi x) s = .next (s.issueWith ((issued g .S p (.cmpi x)).resultP p.seq x.pd.toNat c 0#6)) ∧
      (c = true ↔ e.2 (s.operand g x.sa) (x.imm.signExtend 64))) ∧
  (∀ (x : Sel) (s : State) (g : Group) (p : Part), s.ready g .S p (.sel x) →
    exec (.sel x) s = .next (s.issueWith ((issued g .S p (.sel x)).resultS p.seq x.dst.toNat
      (if (issued g .S p (.sel x)).predAt p.seq x.ps.toNat = (x.neg == 1#1) then s.operand g x.sb else s.operand g x.sa)))) ∧
  (∀ (x : PLog) (s : State) (g : Group) (p : Part), s.ready g .S p (.plog x) →
    exec (.plog x) s = .next (s.issueWith ((issued g .S p (.plog x)).resultP p.seq x.pd.toNat
      (x.tt.getLsbD (2 * ((issued g .S p (.plog x)).predAt p.seq x.pa.toNat).toNat +
        ((issued g .S p (.plog x)).predAt p.seq x.pb.toNat).toNat)) 0#6))) ∧
  (∀ (g : Group) (seq pd : Nat) (c : Bool) (fl : BitVec 6), (g.resultP seq pd c fl).e = (Ember.awaiting g.ids :: g.e).take 16 ∧
    { g.resultP seq pd c fl with e := g.e, fly := g.fly, ids := g.ids } = g ∧
    ∃ f, (g.resultP seq pd c fl).fly = g.fly ++ [f] ∧ f.id = g.ids ∧ f.p = some (pd, c) ∧ f.ember = some (if c = true then 1#64 else 0#64) ∧
      f.n = none ∧ f.vecs = [] ∧ f.latch = none ∧ f.push = none ∧ f.flags = fl)

/-- 04 R125, R126: BR goes to its label where its condition holds and else to the next bundle, which dispatch fetches anyway; JMP goes to
an aligned address below 2^56 and leaves the link; another address takes the control-structure trap (code 4). -/
def Obligations.BranchesAndJumps : Prop :=
  (∀ (x : SB) (s : State) (g : Group) (p : Part), s.ready g .S p (.br x) →
    exec (.br x) s = .next (s.issueWith
      (if (x.fn = 0#3 ∨ (x.fn = 1#3 ∧ s.operand g x.sa = 0#64) ∨ (x.fn = 2#3 ∧ s.operand g x.sa ≠ 0#64) ∨
          (x.fn = 3#3 ∧ (s.operand g x.sa).toInt < 0) ∨ (4#3 ≤ x.fn ∧ 0 ≤ (s.operand g x.sa).toInt))
       then { issued g .S p (.br x) with pc := bundleOff p.addr x.off } else issued g .S p (.br x)))) ∧
  (∀ (x : R2) (s : State) (g : Group) (p : Part), s.ready g .S p (.jmp x) →
    (s.operand g x.sa).toNat % 32 = 0 → (s.operand g x.sa).toNat < 2 ^ 56 →
    exec (.jmp x) s = .next (s.issueWith { (issued g .S p (.jmp x)).resultS p.seq x.dst.toNat (word ((p.addr + 32) % 2 ^ 56)) with
      pc := (s.operand g x.sa).toNat })) ∧
  (∀ (x : R2) (s : State) (g : Group) (p : Part), s.mayTrap g .S p (.jmp x) →
    ((s.operand g x.sa).toNat % 32 ≠ 0 ∨ 2 ^ 56 ≤ (s.operand g x.sa).toNat) →
    exec (.jmp x) s = .next (trapPart (s.noteIssue s.cur) s.cur g .S 4 0 0))

/-- 04 R115 to R117: CALL with room in the spill area writes a frame of 256 bytes there and branches; the frame holds the link, the loop
depth, n8 to n15 and the embers, and the burst moves nothing else of the machine (its granules hold no error after it: log 89, the model's);
with no room it takes the spill-exhaustion trap (code 5). RET of a sound frame of its own loop depth restores it; with no frame it takes the
spill-underflow trap (code 6), at another depth the control-structure trap (code 4). -/
def Obligations.CallsAndReturns : Prop :=
  (∀ (x : CallF) (s : State) (g : Group) (p : Part), s.ready g .S p (.call x) → g.spill.length + 256 ≤ g.spillLim →
    exec (.call x) s = .next (((s.spillBurst s.cur (issued g .S p (.call x))).setGroup s.cur { issued g .S p (.call x) with
      spill := g.spill ++ g.frame ((p.addr + 32) % 2 ^ 56), pc := bundleOff p.addr x.off }).afterIssue s.cur)) ∧
  (∀ (g : Group) (link : Nat), link < 2 ^ 64 → g.loops.length < 2 ^ 64 → (g.frame link).length = 256 ∧
    (frameWord (g.frame link) 0).toNat = link ∧ (frameWord (g.frame link) 8).toNat = g.loops.length ∧
    (∀ k, k < 8 → frameWord (g.frame link) (16 + 8 * k) = g.nreg (8 + k)) ∧
    (∀ k w, k < 16 → g.e[k]? = some (.filled w) → frameWord (g.frame link) (80 + 8 * k) = w) ∧
    ∀ i, 208 ≤ i → i < 256 → (g.frame link)[i]? = some 0#8) ∧
  (∀ (s : State) (r : GRef) (g : Group), r.core < s.cores.length → g.spill.length % 16 = 0 →
    ∃ l, s.spillBurst r g = s.setCore r.core { s.core r.core with padPoison := l } ∧
      ∀ k, k ∈ l ↔ k ∈ (s.core r.core).padPoison ∧ (k < (spillBase (s.core r.core) r.slot + g.spill.length) / 16 ∨
        (spillBase (s.core r.core) r.slot + g.spill.length) / 16 + 16 ≤ k)) ∧
  (∀ (x : CallF) (s : State) (g : Group) (p : Part), s.mayTrap g .S p (.call x) → g.spillLim < g.spill.length + 256 →
    exec (.call x) s = .next (trapPart (s.noteIssue s.cur) s.cur g .S 5 0 0)) ∧
  (∀ (x : R0) (s : State) (g : Group) (p : Part), s.ready g .S p (.ret x) → g.spill ≠ [] →
    (s.core s.cur.core).padErr (spillBase (s.core s.cur.core) s.cur.slot + g.spill.length - 256) 256 = none →
    (frameWord g.topFrame 8).toNat = g.loops.length →
    exec (.ret x) s = .next (s.issueWith (issued g .S p (.ret x)).unframe)) ∧
  (∀ (x : R0) (s : State) (g : Group) (p : Part), s.mayTrap g .S p (.ret x) → g.spill = [] →
    exec (.ret x) s = .next (trapPart (s.noteIssue s.cur) s.cur g .S 6 0 0)) ∧
  (∀ (x : R0) (s : State) (g : Group) (p : Part), s.mayTrap g .S p (.ret x) → g.spill ≠ [] →
    (s.core s.cur.core).padErr (spillBase (s.core s.cur.core) s.cur.slot + g.spill.length - 256) 256 = none →
    (frameWord g.topFrame 8).toNat ≠ g.loops.length →
    exec (.ret x) s = .next (trapPart (s.noteIssue s.cur) s.cur g .S 4 0 0))

/-- 04 R115, R117: whatever the callee did to n8 to n15 and to its embers, a return from the frame of a call gives them back as the caller
had them, and goes to the link; n0 to n7 and the rest of the callee's group stay as it left them. -/
def Obligations.ReturnUndoesCall : Prop :=
  ∀ (g c : Group) (link : Nat), g.n.length = 16 → g.e.length = 16 → c.n.length = 16 → g.loops.length < 2 ^ 64 → link < 2 ^ 56 →
    (∀ k, k < 16 → ∃ w, g.e[k]? = some (.filled w)) → c.spill = g.spill ++ g.frame link →
    ∃ h : Group, c.unframe = h ∧ (∀ k, k < 8 → h.nreg k = c.nreg k) ∧ (∀ k, 8 ≤ k → k < 16 → h.nreg k = g.nreg k) ∧ h.e = g.e ∧
      h.spill = g.spill ∧ h.pc = link ∧ { h with n := c.n, e := c.e, spill := c.spill, pc := c.pc } = c

/-- 04 R104, R127, R128: LOOP and LOOPI push START, END, DRAIN, COUNT and INDEX 0 and, with a drain, seed p8 with 1 and p9 to p15 with 0; a
count of 0 skips to the bundle past END and pushes nothing; a count and drain past 0xFFFF_FFFF raise the operand trap (code 2), a seventh loop
the control-structure trap (code 4). LBRK pops its levels and branches, and with fewer open raises the control-structure trap. -/
def Obligations.HardwareLoops : Prop :=
  (∀ (x : SB), ∀ e ∈ ([(.loop x, fun s g => (s.operand g x.sa).toNat), (.loopi x, fun _ _ => x.sa.toNat)] :
      List (Instr × (State → Group → Nat))), ∀ (s : State) (g : Group) (p : Part),
    (s.ready g .S p e.1 → e.2 s g = 0 →
      exec e.1 s = .next (s.issueWith { issued g .S p e.1 with pc := (bundleOff p.addr x.off + 32) % 2 ^ 56 })) ∧
    (s.ready g .S p e.1 → 0 < e.2 s g → e.2 s g + x.fn.toNat ≤ 0xFFFFFFFF → g.loops.length < 6 →
      ∃ h : Group, exec e.1 s = .next (s.issueWith h) ∧
        h.loops = ⟨(p.addr + 32) % 2 ^ 56, bundleOff p.addr x.off, x.fn.toNat, e.2 s g, 0⟩ :: g.loops ∧
        (x.fn = 0#3 → h.p = g.p) ∧
        (x.fn ≠ 0#3 → ∀ k, k < 16 → h.p.getD k false = (if k < 8 then g.p.getD k false else decide (k = 8))) ∧
        { h with loops := g.loops, p := g.p } = issued g .S p e.1) ∧
    (s.mayTrap g .S p e.1 → 0xFFFFFFFF < e.2 s g + x.fn.toNat →
      exec e.1 s = .next (trapPart (s.noteIssue s.cur) s.cur g .S 2 0 0)) ∧
    (s.mayTrap g .S p e.1 → 0 < e.2 s g → e.2 s g + x.fn.toNat ≤ 0xFFFFFFFF → g.loops.length = 6 →
      exec e.1 s = .next (trapPart (s.noteIssue s.cur) s.cur g .S 4 0 0))) ∧
  (∀ (x : LBrk) (s : State) (g : Group) (p : Part), s.ready g .S p (.lbrk x) → x.lv.toNat + 1 ≤ g.loops.length →
    exec (.lbrk x) s = .next (s.issueWith { issued g .S p (.lbrk x) with
      loops := g.loops.drop (x.lv.toNat + 1), pc := bundleOff p.addr x.off })) ∧
  (∀ (x : LBrk) (s : State) (g : Group) (p : Part), s.mayTrap g .S p (.lbrk x) → g.loops.length < x.lv.toNat + 1 →
    exec (.lbrk x) s = .next (trapPart (s.noteIssue s.cur) s.cur g .S 4 0 0))

/-- 04 R106: li k reads the INDEX of the entry at depth k, 0 where none is open; %lcount reads COUNT + DRAIN − INDEX of the innermost, 0
where the stack is empty. -/
def Obligations.LoopIndexOperands : Prop :=
  (∀ (r : GRef) (g : Group) (k : Nat), k < 6 →
    scalarSrc r g (32 + k) = (if h : k < g.loops.length then word (g.loops[g.loops.length - 1 - k]).index else 0#64)) ∧
  (∀ (r : GRef) (g : Group), scalarSrc r g 59 = (match g.loops with
    | [] => 0#64
    | e :: _ => word (e.count + e.drain - e.index)))

namespace Sys2Proof.Claims

/-- The long instructions with their opcodes (09 Table 9.1, 10 R274, 12 R307). -/
def longs (x : XL) : List (Instr × Nat) :=
  [(.xmm x, 0x40), (.xconv x, 0x41), (.xgath x, 0x42), (.xsort x, 0x43), (.xtopk x, 0x44), (.xnorm x, 0x45), (.xattn x, 0x50),
   (.kvshoot x, 0x51), (.kvfreq x, 0x52), (.kvapp x, 0x53), (.kvpre x, 0x54), (.callred x, 0x58), (.credsc x, 0x59),
   (.cgath x, 0x5A), (.cbcast x, 0x5B), (.ca2a x, 0x5C), (.csend x, 0x5D), (.crecv x, 0x5E), (.cring x, 0x5F), (.ctopk x, 0x60)]

/-- StepCount: TOTAL of a long instruction of the block that it read (09 R238, 10 R275 to R283, 12 R307). -/
def totalOf (op : Nat) (mcfg : Word) (d l : List Byte) : Nat :=
  if op < 0x42 then stepCount (descOf d) (captOf true mcfg)
  else if op < 0x46 then stepCount (descOf d) (captOf false mcfg)
  else if op = 0x50 then attnTotal (seqEnts l (attnOf d).ns)
  else if op = 0x53 then (kvAppOf d).total
  else if op = 0x54 then ((shootOf d).count + 63) / 64
  else if op < 0x58 then 1
  else (collOf d).total

/-- The state instructions that write, with the value each writes (14 R389). -/
def stateWrites (x : CsrWr) : List (Instr × (Word → Word → Word)) :=
  [(.csrw x, fun _ v => v), (.csrs x, fun old v => old ||| v), (.csrc x, fun old v => old &&& ~~~v)]

/-- A TRAP.SKEW value with every offset 0 and a source (04 Table 4.3). -/
def skewFrom (src : Nat) : Word := word (src * 2 ^ 24)

end Sys2Proof.Claims

/-- 03 R91: GSET loads a guard, cleared of its record, and answers the old record; bounds that the guard may not take raise the operand
trap (code 2); GRD answers a field; GCLR clears the guards of its mask and answers which of them had tripped. -/
def Obligations.GuardInstructions : Prop :=
  (∀ (x : GSet) (s : State) (g : Group) (p : Part), s.ready g .S p (.gset x) →
    guardBoundsBad (s.operand g x.sa) (s.operand g x.sb) x.mode.toNat = false →
    exec (.gset x) s = .next (s.issueWith (((issued g .S p (.gset x)).setGuard x.g.toNat
      ⟨s.operand g x.sa, s.operand g x.sb, x.mode.setWidth 8, false, 0⟩).resultS p.seq x.dst.toNat (g.guard x.g.toNat).low))) ∧
  (∀ (x : GSet) (s : State) (g : Group) (p : Part), s.mayTrap g .S p (.gset x) →
    guardBoundsBad (s.operand g x.sa) (s.operand g x.sb) x.mode.toNat = true →
    exec (.gset x) s = .next (trapPart (s.noteIssue s.cur) s.cur g .S 2 0 0)) ∧
  (∀ (x : GRd) (s : State) (g : Group) (p : Part), s.ready g .S p (.grd x) →
    exec (.grd x) s = .next (s.issueWith ((issued g .S p (.grd x)).resultS p.seq x.dst.toNat
      (if x.sel = 0#2 then (g.guard x.g.toNat).lower else if x.sel = 1#2 then (g.guard x.g.toNat).upper
       else (g.guard x.g.toNat).low)))) ∧
  (∀ (x : R2) (s : State) (g : Group) (p : Part), s.ready g .S p (.gclr x) →
    ∃ (v : Word) (h : Group),
      exec (.gclr x) s = .next (s.issueWith (h.resultS p.seq x.dst.toNat v)) ∧
      (∀ i, i < 16 → v.getLsbD i = ((s.operand g x.sa).getLsbD i && (g.guard i).sticky)) ∧
      (∀ i, i < 16 → h.guard i = if (s.operand g x.sa).getLsbD i then { g.guard i with sticky := false, count := 0 } else g.guard i) ∧
      { h with guards := g.guards } = issued g .S p (.gclr x))

/-- 09 R240, 09 R259: an issuing S part whose checks pass gives its wick the instruction, with the block's address, BUSY, or DONE at once
where a kind but a collective has no step, and as TOTAL the kind's StepCount of the block it read; an array kind with the fields captured
from MCFG; memory and the other wicks stay; XWAIT answers the STATUS of an instruction that runs no longer and acquires; XSTAT answers a word
of the wick; XRES captures the guards of a stopped instruction anew, starts it again, reads its block anew, and asks service of FVA after a
FAULT, which its next step awaits and whose refusal makes it FAULT again, with ECODE 2; another it leaves; XDROP makes a stopped one DROPPED,
and one that waits between two steps, leaves one that is done, and stops one that runs at its next step boundary, where it is DROPPED with
that step committed. -/
def Obligations.LongInstructions : Prop :=
  (∀ (x : XL), ∀ e ∈ Claims.longs x, ∀ (s : State) (g : Group) (p : Part), s.passes g .S p e.1 → x.wk.toNat < g.wicks.length →
    ∃ t, exec e.1 s = .next t ∧ s.sameBytes t ∧
      ∃ h, t.group s.cur = some h ∧
        (h.wick x.wk.toNat).kind = e.2 ∧ (h.wick x.wk.toNat).desc = (g.nreg x.nd.toNat).toNat ∧ (h.wick x.wk.toNat).done = 0 ∧
        (h.wick x.wk.toNat).ecode = 0 ∧
        (h.wick x.wk.toNat).status = (if (h.wick x.wk.toNat).total = 0 ∧ e.2 < 0x58 then stDONE else stBUSY) ∧
        (∀ d l aux, s.longBlocks (seqFor s.cur.core g) e.2 (g.nreg x.nd.toNat).toNat = .ok d l aux →
          (h.wick x.wk.toNat).total = Claims.totalOf e.2 g.mcfg d l) ∧
        (e.2 < 0x42 → (h.wick x.wk.toNat).apane = g.mcfg.toNat / 2 ^ 10 % 16 ∧ (h.wick x.wk.toNat).arbase = g.mcfg.toNat / 2 ^ 14 % 256 ∧
          (h.wick x.wk.toNat).arows = g.mcfg.toNat / 2 ^ 22 % 256 ∧ (h.wick x.wk.toNat).ncol = g.mcfg.toNat / 2 ^ 30 % 256 ∧
          (h.wick x.wk.toNat).kcnt = g.mcfg.toNat / 2 ^ 38 % 64 ∧ (h.wick x.wk.toNat).psplit = g.mcfg.toNat / 2 ^ 44 % 4 ∧
          (h.wick x.wk.toNat).fz = g.mcfg.getLsbD 56) ∧
        ∀ k, k ≠ x.wk.toNat → h.wick k = g.wick k) ∧
  (∀ (x : XK) (s : State) (g : Group) (p : Part), s.ready g .S p (.xwait x) → (g.wick x.wk.toNat).status ≠ stBUSY →
    (g.wick x.wk.toNat).cout = 0 →
    exec (.xwait x) s = .next (((s.setGroup s.cur ((issued g .S p (.xwait x)).resultS p.seq 63
      (word (g.wick x.wk.toNat).status))).inval s.cur.core).afterIssue s.cur)) ∧
  (∀ (x : XS) (s : State) (g : Group) (p : Part), s.ready g .S p (.xstat x) →
    exec (.xstat x) s = .next (s.issueWith ((issued g .S p (.xstat x)).resultS p.seq 63 ((g.wick x.wk.toNat).word x.sel.toNat)))) ∧
  (∀ (x : XK) (s : State) (g : Group) (p : Part), s.ready g .S p (.xres x) → x.wk.toNat < g.wicks.length →
    ∃ h, exec (.xres x) s = .next (s.issueWith h) ∧
      ((g.wick x.wk.toNat).stopped = false → h = issued g .S p (.xres x)) ∧
      ((g.wick x.wk.toNat).stopped = true → (h.wick x.wk.toNat).status = stBUSY ∧ (h.wick x.wk.toNat).ecode = 0 ∧
        (h.wick x.wk.toNat).done = (g.wick x.wk.toNat).done ∧ (∀ k, k ≠ x.wk.toNat → h.wick k = g.wick k) ∧
        ∀ q, (g.wick x.wk.toNat).seq = some q → ∃ q', (h.wick x.wk.toNat).seq = some q' ∧ q'.fresh = true ∧ q'.stop = .none ∧
          q'.guards = captureGuards g (longTensors (g.wick x.wk.toNat).kind q.desc q.aux) ∧
          q'.service = (if (g.wick x.wk.toNat).status = stFAULT then some ((g.wick x.wk.toNat).fva, q.faultWr) else none))) ∧
  (∀ (s : State) (r : GRef) (g : Group) (wk va : Nat) (wr : Bool) (q : Sequencer), s.serving = true → r.slot < 8 → s.group r = some g →
    (g.wick wk).seq = some q → (g.wick wk).status = stBUSY → q.run = none → q.stop = .none → q.acks = [] → q.service = some (va, wr) →
    (s.translate (seqUnit r.core) g.asid va wr = .miss → exec (.tileStepStart r ⟨wk, none⟩) s = .next s) ∧
    (s.translate (seqUnit r.core) g.asid va wr = .refused → exec (.tileStepStart r ⟨wk, none⟩) s =
      .next ((s.clearRefused (seqUnit r.core) g.asid va 1).stopWick r g wk stFAULT 2 (some (va, wr))))) ∧
  (∀ (x : XK) (s : State) (g : Group) (p : Part), s.ready g .S p (.xdrop x) → (g.wick x.wk.toNat).stopped = true →
    exec (.xdrop x) s = .next ((s.stopWick s.cur (issued g .S p (.xdrop x)) x.wk.toNat stDROPPED 0 none).afterIssue s.cur)) ∧
  (∀ (x : XK) (s : State) (g : Group) (p : Part), s.ready g .S p (.xdrop x) → (g.wick x.wk.toNat).stopped = false →
    (g.wick x.wk.toNat).status ≠ stBUSY →
    exec (.xdrop x) s = .next (s.issueWith (issued g .S p (.xdrop x)))) ∧
  (∀ (x : XK) (s : State) (g : Group) (p : Part) (q : Sequencer), s.ready g .S p (.xdrop x) → x.wk.toNat < g.wicks.length →
    (g.wick x.wk.toNat).status = stBUSY → (g.wick x.wk.toNat).seq = some q →
    ((q.run ≠ none ∨ q.acks ≠ []) → ∃ h, exec (.xdrop x) s = .next (s.issueWith h) ∧
      h.wick x.wk.toNat = { g.wick x.wk.toNat with seq := some { q with stop := .drop } } ∧ { h with wicks := g.wicks } = issued g .S p (.xdrop x) ∧
      ∀ k, k ≠ x.wk.toNat → h.wick k = g.wick k) ∧
    (q.run = none → q.acks = [] → ∃ (t : State) (h : Group), exec (.xdrop x) s = .next t ∧ t.group s.cur = some h ∧ s.sameBytes t ∧
      (h.wick x.wk.toNat).status = stDROPPED ∧ (h.wick x.wk.toNat).done = (g.wick x.wk.toNat).done ∧
      ∀ k, k ≠ x.wk.toNat → h.wick k = g.wick k)) ∧
  (∀ (s : State) (r : GRef) (g : Group) (wk : Nat) (q : Sequencer) (o : StepOut) (x : StepAt), s.serving = true → r.slot < 8 →
    s.group r = some g → wk < g.wicks.length → (g.wick wk).seq = some q → (g.wick wk).status = stBUSY → q.run = some o → q.stop = .drop →
    q.acks = [] → (g.wick wk).kind ≠ opKVSHOOT → (g.wick wk).kind ≠ opKVAPP → x = ⟨r.core, g, wk, g.wick wk, q⟩ →
    ((g.wick wk).kind = opCRING → x.received = true) → s.outMergeErr x.eng o.mem = none → o.trapGuard = none →
    ∃ (t : State) (h : Group), exec (.tileStepCommit r wk) s = .next t ∧ t.group r = some h ∧ (h.wick wk).status = stDROPPED ∧
      (h.wick wk).done = (if s.outReady x o then (g.wick wk).done + 1 else (g.wick wk).done))

/-- 13 R328, R354: SPAWN and SPAWNI that read their record answer the new task's identifier, enqueued under the record's class, or the
status that refuses it in bits 63 to 56: SNUFFED, CLOSED, FOREIGN, MALFORMED, UNPLACEABLE or FULL, the first that holds (what counts as
snuffed once the scope is freed: log 10, the model's). -/
def Obligations.SpawnsEnqueueOrAnswer : Prop :=
  (∀ (x : R2) (s : State) (g : Group) (p : Part), s.passes g .S p (.spawn x) →
    exec (.spawn x) s = .next (((s.spawn s.cur (issued g .S p (.spawn x)) (s.operand g x.sa).toNat none).2.setGroup s.cur
      ((issued g .S p (.spawn x)).resultS p.seq x.dst.toNat
        (s.spawn s.cur (issued g .S p (.spawn x)) (s.operand g x.sa).toNat none).1)).afterIssue s.cur)) ∧
  (∀ (x : R3) (s : State) (g : Group) (p : Part), s.passes g .S p (.spawni x) →
    exec (.spawni x) s = .next (((s.spawn s.cur (issued g .S p (.spawni x)) (s.operand g x.sa).toNat
        (some (s.operand g x.sb).toNat)).2.setGroup s.cur ((issued g .S p (.spawni x)).resultS p.seq x.dst.toNat
        (s.spawn s.cur (issued g .S p (.spawni x)) (s.operand g x.sa).toNat (some (s.operand g x.sb).toNat)).1)).afterIssue s.cur)) ∧
  (∀ (s : State) (r : GRef) (g : Group) (ra : Nat) (sb : Option Nat) (b : List Byte) (counts exempt : List Nat) (gb : List Byte),
    s.spawnRead r g ra sb = .ok b counts exempt gb →
    ((s.spawn r g ra sb).1 = word (s.ids % 2 ^ 32) ∧ ∃ t : Task, (s.spawn r g ra sb).2.tasks = s.tasks ++ [t] ∧ t.id = s.ids ∧
      t.launch = launchOf b counts gb ∧ t.state = .queued ∧ t.asid = g.asid ∧ t.queue = .group g.gid) ∨
    ((s.spawn r g ra sb).2.tasks = s.tasks ∧ ∃ st, 1 ≤ st ∧ st ≤ 6 ∧ (s.spawn r g ra sb).1 = word (st * 2 ^ 56))) ∧
  (∀ (s : State) (own home sc : Nat) (bad unpl : Bool) (l : Launch), sc = (if l.scope = 0 then own else l.scope) →
    (s.inSnuffed sc = true → s.spawnStatus own home bad unpl l = 1) ∧
    (s.inSnuffed sc = false →
      (∀ y, s.scope sc = some y → y.state = .closed → s.spawnStatus own home bad unpl l = 2) ∧
      ((∀ y, s.scope sc = some y → y.state ≠ .closed) → s.under own sc = false → s.spawnStatus own home bad unpl l = 3) ∧
      ((∀ y, s.scope sc = some y → y.state ≠ .closed) → s.under own sc = true →
        s.spawnStatus own home bad unpl l =
          (if bad = true then 4 else if unpl = true then 5 else if 1024 ≤ (s.classQueue home l.cls).length then 6 else 0))))

/-- 13 R343, R344, R355, R356: in a table of unique identifiers that holds no scope that is no longer live: SCOPE makes a live open child of
the group's scope and answers its identifier, or makes none and answers 0 where 65,535 scopes are live or the depth would pass 32; SCLOSE of
an open scope of the group's subtree answers 0 and closes it, freed where it holds no task and no child; SNUFF of a scope of the subtree
that is not snuffed answers 0, snuffs it with its descendants and records the ack for the fates of their tasks, of a snuffed one answers 1
and adds the ack to the SNUFF of it; each other status leaves the table alone, and SNUFF's misplaced ack raises the access trap (code 3);
SNUFFW waits for DONE, answers the ack word that is done, and acquires. -/
def Obligations.Scopes : Prop :=
  (∀ (x : R1) (s : State) (g : Group) (p : Part), s.ready g .S p (.scope x) →
    ((s.scopes.length < 65535 ∧ (s.scopeChain 33 (s.ownScope g)).length ≤ 32) →
      ∃ (id : Nat) (t : State), exec (.scope x) s = .next ((t.setGroup s.cur ((issued g .S p (.scope x)).resultS p.seq x.dst.toNat
          (word id))).afterIssue s.cur) ∧ id ≠ 0 ∧
        t.scopes = s.scopes ++ [⟨id, s.ownScope g, g.gid.task, .opened, []⟩] ∧
        { t with scopes := s.scopes, scopeGen := s.scopeGen, gone := s.gone } = s ∧ ∀ y ∈ s.scopes, y.id % 65536 ≠ id % 65536) ∧
    (¬ (s.scopes.length < 65535 ∧ (s.scopeChain 33 (s.ownScope g)).length ≤ 32) →
      exec (.scope x) s = .next (s.issueWith ((issued g .S p (.scope x)).resultS p.seq x.dst.toNat 0#64)))) ∧
  (∀ (x : R2) (s : State) (g : Group) (p : Part) (a : Nat), s.ready g .S p (.sclose x) → a = (s.operand g x.sa).toNat →
    ((s.scope a = none ∨ s.under (s.ownScope g) a = false) →
      exec (.sclose x) s = .next (s.issueWith ((issued g .S p (.sclose x)).resultS p.seq x.dst.toNat 3#64))) ∧
    (∀ y, s.scope a = some y → s.under (s.ownScope g) a = true →
      (y.state = .closed → exec (.sclose x) s = .next (s.issueWith ((issued g .S p (.sclose x)).resultS p.seq x.dst.toNat 1#64))) ∧
      (y.state = .snuffed → exec (.sclose x) s = .next (s.issueWith ((issued g .S p (.sclose x)).resultS p.seq x.dst.toNat 2#64))) ∧
      (y.state = .opened → (s.scopes.map (·.id)).Nodup → (∀ z ∈ s.scopes, s.deadScope z = false) →
        ∃ t : State, exec (.sclose x) s = .next ((t.setGroup s.cur ((issued g .S p (.sclose x)).resultS p.seq x.dst.toNat 0#64)).afterIssue s.cur) ∧
          { t with scopes := s.scopes, gone := s.gone, snuffs := s.snuffs } = s ∧
          (∀ z ∈ s.scopes, z.state = .opened → z.id ≠ a → z ∈ t.scopes) ∧
          ((s.scopeTasks a = [] ∧ ∀ z ∈ s.scopes, z.parent ≠ a) → ∀ z ∈ t.scopes, z.id ≠ a) ∧
          (¬ (s.scopeTasks a = [] ∧ ∀ z ∈ s.scopes, z.parent ≠ a) →
            t = { s with scopes := s.scopes.map (fun z => if z.id = a then { z with state := .closed } else z) })))) ∧
  (∀ (x : R3) (s : State) (g : Group) (p : Part) (a ack : Nat), s.ready g .S p (.snuff x) → a = (s.operand g x.sa).toNat →
    ack = (s.operand g x.sb).toNat → ack % 8 = 0 → isGlobal ack = true →
    ((s.scope a = none ∨ s.under (s.ownScope g) a = false) →
      exec (.snuff x) s = .next (s.issueWith ((issued g .S p (.snuff x)).resultS p.seq x.dst.toNat 2#64))) ∧
    (∀ y, s.scope a = some y → s.under (s.ownScope g) a = true → y.state = .snuffed →
      ∃ l : List Snuff × Nat, exec (.snuff x) s = .next (((({ s with snuffs := l.1, ids := l.2 } : State)).setGroup s.cur
          ((issued g .S p (.snuff x)).resultS p.seq x.dst.toNat 1#64)).afterIssue s.cur) ∧
        ((∃ u ∈ s.snuffs, a ∈ u.scopes) → l.2 = s.ids ∧ l.1 = s.snuffs.map (fun u =>
          if a ∈ u.scopes then { u with followers := u.followers ++ [(ack, g.asid)] } else u)) ∧
        ((∀ u ∈ s.snuffs, a ∉ u.scopes) → l.2 = s.ids + 1 ∧ ∃ u, l.1 = s.snuffs ++ [u] ∧ u.id = s.ids ∧ u.scope = a ∧ u.ack = ack ∧
          u.asid = g.asid ∧ u.scopes = [] ∧ u.tasks = [])) ∧
    (∀ y, s.scope a = some y → s.under (s.ownScope g) a = true → y.state ≠ .snuffed → (s.scopes.map (·.id)).Nodup →
      ∃ t : State, exec (.snuff x) s = .next ((t.setGroup s.cur ((issued g .S p (.snuff x)).resultS p.seq x.dst.toNat 0#64)).afterIssue s.cur) ∧
        { t with scopes := s.scopes, gone := s.gone, snuffs := s.snuffs, ids := s.ids } = s ∧ t.ids = s.ids + 1 ∧
        (∀ z ∈ t.scopes, s.under a z.id = true → z.state = .snuffed) ∧
        (∀ z ∈ s.scopes, z.state = .opened → s.under a z.id = false → z ∈ t.scopes) ∧
        t.snuffs.length = s.snuffs.length + 1 ∧
        ∃ u ∈ t.snuffs, u.id = s.ids ∧ u.scope = a ∧ u.ack = ack ∧ u.asid = g.asid ∧ u.reached = [] ∧ u.followers = [] ∧
          (∀ k, k ∈ u.scopes ↔ ∃ z ∈ s.scopes, z.id = k ∧ s.under a k = true ∧ z.state ≠ .snuffed) ∧
          (∀ k, k ∈ u.tasks ↔ ∃ z ∈ s.tasks, z.id = k ∧ z.state ≠ .ended ∧ s.under a z.scope = true ∧ ∃ y ∈ s.scopes, y.id = z.scope))) ∧
  (∀ (x : R3) (s : State) (g : Group) (p : Part), s.mayTrap g .S p (.snuff x) →
    ((s.operand g x.sb).toNat % 8 ≠ 0 ∨ isGlobal (s.operand g x.sb).toNat = false) →
    exec (.snuff x) s = .next (trapPart (s.noteIssue s.cur) s.cur g .S 3 0 (s.operand g x.sb).toNat)) ∧
  (∀ (x : R2) (s : State) (g : Group) (p : Part) (a : Nat) (l : List Byte), s.ready g .S p (.snuffw x) → a = (s.operand g x.sa).toNat →
    a % 8 = 0 → isGlobal a = true → s.homeRead (seqUnit s.cur.core) g.asid a 8 = .ok l →
    ((leNat l).testBit 63 = true → exec (.snuffw x) s = .next (((s.setGroup s.cur ((issued g .S p (.snuffw x)).resultS p.seq x.dst.toNat
      (word (leNat l)))).inval s.cur.core).afterIssue s.cur)) ∧
    ((leNat l).testBit 63 = false → exec (.snuffw x) s = .next s)) ∧
  (∀ (x : R2) (s : State) (g : Group) (p : Part), s.mayTrap g .S p (.snuffw x) →
    ((s.operand g x.sa).toNat % 8 ≠ 0 ∨ isGlobal (s.operand g x.sa).toNat = false) →
    exec (.snuffw x) s = .next (trapPart (s.noteIssue s.cur) s.cur g .S 3 0 (s.operand g x.sa).toNat))

namespace Sys2Proof.Claims

/-- A barrier's word lies at an aligned global address that the group's sequencer may read, or write, in device memory, with no error in it
(13 R348). -/
def barAt (s : State) (g : Group) (a : Word) (wr : Bool) (pa : Nat) : Prop :=
  a.toNat % 16 = 0 ∧ isGlobal a.toNat = true ∧ s.translate (seqUnit s.cur.core) g.asid a.toNat wr = .hit pa false ∧
  ∀ k, s.readErr pa ≠ .bad k

/-- Memory in which the 16 bytes from an address hold a number, and every other byte is as before. -/
def onlyWord (s t : State) (pa w : Nat) : Prop :=
  leNat ((List.range 16).map (fun i => t.memByte (pa + i))) = w ∧ (∀ a, (a < pa ∨ pa + 16 ≤ a) → t.memByte a = s.memByte a) ∧
  (∀ a, t.hostByte a = s.hostByte a) ∧ ∀ c a, t.padByte c a = s.padByte c a

end Sys2Proof.Claims

/-- 13 R348 to R350, R357: BINIT with a COUNT and a scope of the group's subtree leaves the word with that COUNT, ARRIVED 0, PHASE unchanged,
its scope field and every other bit 0, ties the barrier to that scope alone and answers 0; with none it answers 2, with the scope's list of
64 full 1, and changes nothing. BARR, once what its bundle releases is done, answers the PHASE before its arrival and leaves the word
arrived at, or answers 0xFFFF_FFFF and leaves a word of COUNT 0; BWAIT answers the upper half once its phase has changed, or SNUFFED, and
acquires, and until then waits. An arrival counts itself; the last one, and every one once SNUFFED, starts the next phase with none arrived. -/
def Obligations.BarrierInstructions : Prop :=
  (∀ (x : BInit) (s : State) (g : Group) (p : Part) (pa sc cnt : Nat), s.ready g .S p (.binit x) → Claims.barAt s g (s.operand g x.sa) true pa →
    cnt = (s.operand g x.sb).toNat % 2 ^ 32 →
    sc = (if (s.operand g x.sb).toNat / 2 ^ 32 = 0 then s.ownScope g else (s.operand g x.sb).toNat / 2 ^ 32) →
    ((cnt = 0 ∨ s.scope sc = none ∨ s.under (s.ownScope g) sc = false) →
      exec (.binit x) s = .next (s.issueWith ((issued g .S p (.binit x)).resultS p.seq x.dst.toNat 2#64))) ∧
    (∀ y, cnt ≠ 0 → s.scope sc = some y → s.under (s.ownScope g) sc = true →
      (pa ∉ y.barriers → 64 ≤ y.barriers.length →
        exec (.binit x) s = .next (s.issueWith ((issued g .S p (.binit x)).resultS p.seq x.dst.toNat 1#64))) ∧
      ((pa ∈ y.barriers ∨ y.barriers.length < 64) → s.memsWf →
        ∃ t : State, exec (.binit x) s = .next ((t.setGroup s.cur ((issued g .S p (.binit x)).resultS p.seq x.dst.toNat 0#64)).afterIssue s.cur) ∧
          Claims.onlyWord s t pa (cnt + barPhase (s.barrier pa) * 2 ^ 64 + x.scope.toNat * 2 ^ 96) ∧
          (∃ z ∈ t.scopes, z.id = sc ∧ pa ∈ z.barriers) ∧ (∀ z ∈ t.scopes, z.id ≠ sc → pa ∉ z.barriers) ∧
          (∀ u ∈ t.snuffs, pa ∉ u.barriers) ∧ t.scopes.map (·.id) = s.scopes.map (·.id) ∧ t.cores = s.cores ∧ t.tasks = s.tasks))) ∧
  (∀ (x : R2) (s : State) (g : Group) (p : Part) (pa : Nat), s.ready g .S p (.barr x) → Claims.barAt s g (s.operand g x.sa) true pa →
    g.storesQuiet p.seq = true → g.readsQuiet p.seq = true → (barScope (s.barrier pa) = 5 → g.hostUnacked = []) → s.memsWf →
    ∃ t : State, exec (.barr x) s = .next ((t.setGroup s.cur ((issued g .S p (.barr x)).resultS p.seq x.dst.toNat
        (word (if barCount (s.barrier pa) = 0 then 0xFFFFFFFF else barPhase (s.barrier pa))))).afterIssue s.cur) ∧
      Claims.onlyWord s t pa (barArrive (s.barrier pa)) ∧ t.cores = s.cores ∧ t.tasks = s.tasks ∧ t.scopes = s.scopes) ∧
  (∀ (x : R2) (s : State) (g : Group) (p : Part) (pa : Nat), s.ready g .S p (.barr x) → Claims.barAt s g (s.operand g x.sa) true pa →
    (g.storesQuiet p.seq = false ∨ g.readsQuiet p.seq = false) → exec (.barr x) s = .next s) ∧
  (∀ (x : R3) (s : State) (g : Group) (p : Part) (pa : Nat), s.ready g .S p (.bwait x) → Claims.barAt s g (s.operand g x.sa) false pa →
    ((barSnuffed (s.barrier pa) = true ∨ barPhase (s.barrier pa) ≠ (s.operand g x.sb).toNat % 2 ^ 32) →
      exec (.bwait x) s = .next (((if scopeInval (barScope (s.barrier pa)) then
        (s.setGroup s.cur ((issued g .S p (.bwait x)).resultS p.seq x.dst.toNat (word (s.barrier pa / 2 ^ 64)))).inval s.cur.core
        else s.setGroup s.cur ((issued g .S p (.bwait x)).resultS p.seq x.dst.toNat (word (s.barrier pa / 2 ^ 64))))).afterIssue s.cur)) ∧
    ((barSnuffed (s.barrier pa) = false ∧ barPhase (s.barrier pa) = (s.operand g x.sb).toNat % 2 ^ 32) → exec (.bwait x) s = .next s)) ∧
  (∀ (i : Instr) (s : State) (g : Group) (p : Part) (a : Word), s.mayTrap g .S p i →
    ((∃ x, i = .binit x ∧ a = s.operand g x.sa) ∨ (∃ x, i = .barr x ∧ a = s.operand g x.sa) ∨ (∃ x, i = .bwait x ∧ a = s.operand g x.sa)) →
    (a.toNat % 16 ≠ 0 ∨ isGlobal a.toNat = false) → exec i s = .next (trapPart (s.noteIssue s.cur) s.cur g .S 3 0 a.toNat)) ∧
  (∀ w : Nat, w < 2 ^ 128 →
    (barCount w = 0 → barArrive w = w) ∧
    (0 < barCount w → barCount (barArrive w) = barCount w ∧ barScope (barArrive w) = barScope w ∧ barSnuffed (barArrive w) = barSnuffed w) ∧
    (0 < barCount w → (barSnuffed w = true ∨ barArrived w + 1 = barCount w) →
      barArrived (barArrive w) = 0 ∧ barPhase (barArrive w) = (barPhase w + 1) % 2 ^ 32) ∧
    (0 < barCount w → barSnuffed w = false → barArrived w + 1 < barCount w →
      barArrived (barArrive w) = barArrived w + 1 ∧ barPhase (barArrive w) = barPhase w))

/-- 13 R358, 13 R340, R341, 05 R139: YIELD holds the group until the others that are ready have issued; PRIO sets the group's class, which
may not be below its task's, and answers the old one; DLINE sets or clears the task's deadline and answers the old one; an operand that
either may not take raises the operand trap (code 2); END ends the group in its slot, clears LM and drops the loads that are not performed
(both the model's: log 60), TAIL frees the slot and leaves the group to the retirement tracker, waits while that is full, and raises the
operand trap while a wick runs or is stopped; data left over in a queue raises the stream-imbalance trap (code 11) at either. -/
def Obligations.SchedulingInstructions : Prop :=
  (∀ (x : R0) (s : State) (g : Group) (p : Part), s.ready g .S p (.yield x) →
    exec (.yield x) s = .next (s.issueWith
      (if ((s.readyGroups s.cur.core).map (·.1)).filter (· != s.cur.slot) = [] then issued g .S p (.yield x)
       else { issued g .S p (.yield x) with
        yielded := some s.clk, waiters := ((s.readyGroups s.cur.core).map (·.1)).filter (· != s.cur.slot) }))) ∧
  (∀ (x : R2) (s : State) (g : Group) (p : Part), s.ready g .S p (.prio x) →
    ((s.task g.gid.task).map (·.launch.cls)).getD 0 ≤ (s.operand g x.sa).toNat → (s.operand g x.sa).toNat ≤ 3 →
    exec (.prio x) s = .next (s.issueWith { (issued g .S p (.prio x)).resultS p.seq x.dst.toNat (word g.cls) with
      cls := (s.operand g x.sa).toNat })) ∧
  (∀ (x : R2) (s : State) (g : Group) (p : Part), s.mayTrap g .S p (.prio x) →
    ((s.operand g x.sa).toNat < ((s.task g.gid.task).map (·.launch.cls)).getD 0 ∨ 3 < (s.operand g x.sa).toNat) →
    exec (.prio x) s = .next (trapPart (s.noteIssue s.cur) s.cur g .S 2 0 0)) ∧
  (∀ (x : R2) (s : State) (g : Group) (p : Part) (t : Task), s.ready g .S p (.dline x) → (s.operand g x.sa).toNat < 2 ^ 32 →
    s.task g.gid.task = some t →
    exec (.dline x) s = .next (((s.setTask { t with
        deadline := if (s.operand g x.sa).toNat = 0 then none else some (s.clk + 1024 * (s.operand g x.sa).toNat) }).setGroup s.cur
      ((issued g .S p (.dline x)).resultS p.seq x.dst.toNat
        (match t.deadline with
          | some d => word d
          | none => 0xFFFFFFFFFFFFFFFF#64))).afterIssue s.cur)) ∧
  (∀ (x : R2) (s : State) (g : Group) (p : Part), s.mayTrap g .S p (.dline x) → 2 ^ 32 ≤ (s.operand g x.sa).toNat →
    exec (.dline x) s = .next (trapPart (s.noteIssue s.cur) s.cur g .S 2 0 0)) ∧
  (∀ (x : R0) (s : State) (g : Group) (p : Part), s.ready g .S p (.endGroup x) → g.imbalance = none →
    ∃ (t : State) (h : Group), exec (.endGroup x) s = .next t ∧ t.group s.cur = some h ∧
      h.ended = true ∧ h.loads = [] ∧ h.lm = 0#4 ∧ (∀ k, h.wick k = (if (g.wick k).stopped then { g.wick k with status := stDROPPED } else g.wick k))) ∧
  (∀ (x : R0) (s : State) (g : Group) (p : Part), s.ready g .S p (.tail x) → g.imbalance = none →
    (∀ w ∈ g.wicks, w.status ≠ stBUSY ∧ w.stopped = false) → (s.core s.cur.core).tracker.length < 8 →
    s.cur.core < s.cores.length → s.cur.slot < 8 →
    ∃ t : State, exec (.tail x) s = .next t ∧ t.group s.cur = none ∧
      (t.core s.cur.core).tracker = (s.core s.cur.core).tracker ++ [{ (issued g .S p (.tail x)).finish with tailed := true }]) ∧
  (∀ (x : R0) (s : State) (g : Group) (p : Part), s.ready g .S p (.tail x) → g.imbalance = none →
    (∀ w ∈ g.wicks, w.status ≠ stBUSY ∧ w.stopped = false) → 8 ≤ (s.core s.cur.core).tracker.length → exec (.tail x) s = .next s) ∧
  (∀ (x : R0) (s : State) (g : Group) (p : Part), s.mayTrap g .S p (.tail x) → (∃ w ∈ g.wicks, w.status = stBUSY ∨ w.stopped = true) →
    exec (.tail x) s = .next (trapPart (s.noteIssue s.cur) s.cur g .S 2 0 0)) ∧
  (∀ (x : R0) (i : Instr) (s : State) (g : Group) (p : Part) (k : Nat), i = .endGroup x ∨ i = .tail x → s.mayTrap g .S p i →
    g.imbalance = some k → (∀ w ∈ g.wicks, w.status ≠ stBUSY ∧ w.stopped = false) →
    exec i s = .next (trapPart (s.noteIssue s.cur) s.cur g .S 11 k 0))

/-- 14 R387, 14 R388: TRAP raises the software trap (code 13) with its base at the next bundle, every offset 0 and SLOT 0 (the S slot: log 54,
the model's); BRK raises the breakpoint (code 12), which stops the group whatever its vector; both after the part itself has issued, and, as
RTT does, after the header actions of the bundles that have issued whole (log 22, the model's); RTT in a handler comes back to TRAP.PC with
each slot at the offset of TRAP.SKEW, one further for the trap's own slot with the skip, clears INH and takes the held latches back; outside
a handler it raises the control-structure trap (code 4). -/
def Obligations.SoftwareTrapsAndReturn : Prop :=
  (∀ (x : TrapF) (s : State) (g : Group) (p : Part), s.ready g .S p (.trap x) →
    exec (.trap x) s = .next ((enterTrap s s.cur (issued g .S p (.trap x)).settleHeaders 13 x.code.toNat 0 ((p.addr + 32) % 2 ^ 56)
      0#64 0 false).afterIssue s.cur)) ∧
  (∀ (x : BrkF) (s : State) (g : Group) (p : Part), s.ready g .S p (.brk x) →
    exec (.brk x) s = .next ((trapPart s s.cur (issued g .S p (.brk x)).settleHeaders .S 12 x.code.toNat 0).afterIssue s.cur)) ∧
  (∀ (s : State) (r : GRef) (g : Group) (info addr base : Nat) (skew : Word) (hskip : Nat) (mult : Bool),
    (s.group r).isSome = true →
    ∃ h, (enterTrap s r g 12 info addr base skew hskip mult).group r = some h ∧ h.stop.isSome = true) ∧
  (∀ (x : RttF) (s : State) (g : Group) (p : Part) (offs : List Nat), s.ready g .S p (.rtt x) → g.trap.inh = true →
    returnOffs g.trap.skew (x.skip == 1#1) (bits g.trap.cause 0 8 == 13) = some offs →
    exec (.rtt x) s = .next (s.issueWith ((issued g .S p (.rtt x)).settleHeaders.returnFrom g.trap.pc offs g.trap.hskip))) ∧
  (∀ (x : RttF) (s : State) (g : Group) (p : Part), s.mayTrap g .S p (.rtt x) → g.trap.inh = false →
    exec (.rtt x) s = .next (trapPart (s.noteIssue s.cur) s.cur g .S 4 0 0)) ∧
  (∀ (g : Group) (base : Nat) (offs : List Nat) (hskip : Nat),
    (g.returnFrom base offs hskip).pc = base ∧ (g.returnFrom base offs hskip).skip = offs ∧
    (g.returnFrom base offs hskip).trap.inh = false ∧ (g.returnFrom base offs hskip).lat = g.held ∧
    (g.returnFrom base offs hskip).n = g.n ∧ (g.returnFrom base offs hskip).e = g.e ∧ (g.returnFrom base offs hskip).loops = g.loops)

namespace Sys2Proof.Claims

/-- The entries of the system state that CSRR reads besides FP.FLAGS and the streams, with their values (02 Table 2.4, 04 R114, 12 R304, 13
Table 13.5, 14 Table 14.4). -/
def csrEntries (s : State) (g : Group) (t : Task) : List (Nat × Word) :=
  [(0x010, word g.gid.leaf), (0x011, word g.gid.task), (0x012, word t.scope), (0x013, word t.launch.cls),
   (0x014, match t.deadline with
     | some d => word d
     | none => 0xFFFFFFFFFFFFFFFF#64),
   (0x015, word g.cls), (0x016, word (s.partTh t.home)), (0x020, word s.clk), (0x040, g.trap.cause), (0x041, g.trap.skew),
   (0x042, word g.trap.pc), (0x043, g.trap.addr), (0x044, g.trap.vec),
   (0x045, word ((if g.trap.inh = true then 1 else 0) + (if g.trap.dataErr.isSome = true then 2 else 0) +
     (if g.trap.rangeErr.isSome = true then 4 else 0))),
   (0x050, word g.spill.length), (0x051, word g.spillLim), (0x070, word s.plat.rank), (0x080, word t.errCnt)] ++
  (List.range 8).map (fun k => (0x048 + k, g.trap.save.getD k 0#64))

/-- The entries that CSRW, CSRS and CSRC write. -/
def writable (n : Nat) : Prop := n = 0x030 ∨ n = 0x042 ∨ n = 0x044 ∨ (0x048 ≤ n ∧ n ≤ 0x04F)

end Sys2Proof.Claims

/-- 14 R389, Table 14.4, 02 R34, 05 R137, R150: CSRR answers the entry's value, of FP.FLAGS the flags from before its bundle, a pop of a
stream takes its oldest entry, and a poisoned one raises the data-error trap with its unit and address; CSRW writes, CSRS sets and CSRC
clears the bits of its operand: FP.FLAGS its six bits, TRAP.SAVE its word, TRAP.VEC its address, TRAP.PC its address with the offsets of
TRAP.SKEW cleared; an address that TRAP.PC or TRAP.VEC does not take raises the operand trap (code 2). An entry written reads back, and every
other entry reads as before, but for the offsets. -/
def Obligations.StateInstructions : Prop :=
  (∀ (x : CsrRd) (s : State) (g : Group) (p : Part) (t : Task), s.ready g .S p (.csrr x) → s.task g.gid.task = some t →
    ∀ e ∈ Claims.csrEntries s g t, x.num.toNat = e.1 →
    exec (.csrr x) s = .next (s.issueWith ((issued g .S p (.csrr x)).resultS p.seq x.dst.toNat e.2))) ∧
  (∀ (x : CsrRd) (s : State) (g : Group) (p : Part), s.ready g .S p (.csrr x) → x.num.toNat = 0x030 →
    exec (.csrr x) s = .next (s.issueWith ((issued g .S p (.csrr x)).resultS p.seq x.dst.toNat (word (match g.pOld with
      | some b => if b.seq = p.seq then b.flags.toNat else g.fpflags.toNat
      | none => g.fpflags.toNat))))) ∧
  (∀ (x : CsrRd) (s : State) (g : Group) (p : Part) (d : DataEnt) (l : List DataEnt), 0x060 ≤ x.num.toNat → x.num.toNat ≤ 0x06F →
    g.ldataOf (x.num.toNat - 0x060) = d :: l →
    (s.ready g .S p (.csrr x) → d.poison = none →
      exec (.csrr x) s = .next (s.issueWith (((issued g .S p (.csrr x)).pop (x.num.toNat - 0x060)).resultS p.seq x.dst.toNat
        (word d.row.toNat)))) ∧
    (∀ q, s.mayTrap g .S p (.csrr x) → d.poison = some q →
      exec (.csrr x) s = .next (trapPart (s.noteIssue s.cur) s.cur g .S 8 q.unit q.addr))) ∧
  (∀ (g : Group) (k : Nat), k < g.ldata.length → (g.pop k).ldataOf k = (g.ldataOf k).tail ∧ (∀ j, j ≠ k → (g.pop k).ldataOf j = g.ldataOf j) ∧
    { g.pop k with ldata := g.ldata } = g) ∧
  (∀ (x : CsrWr), ∀ e ∈ Claims.stateWrites x, ∀ (s : State) (g : Group) (p : Part) (v : Word), s.ready g .S p e.1 →
    v = e.2 (s.csr s.cur g x.num.toNat) (s.operand g x.sa) →
    (x.num.toNat = 0x030 → exec e.1 s = .next (s.issueWith { issued g .S p e.1 with fpflags := v.setWidth 6 })) ∧
    (x.num.toNat = 0x044 → v.toNat % 32 = 0 → v.toNat < 2 ^ 56 →
      exec e.1 s = .next (s.issueWith { issued g .S p e.1 with trap := { g.trap with vec := v } })) ∧
    (∀ k, k < 8 → x.num.toNat = 0x048 + k →
      exec e.1 s = .next (s.issueWith { issued g .S p e.1 with trap := { g.trap with save := g.trap.save.set k v } })) ∧
    (x.num.toNat = 0x042 → v.toNat % 32 = 0 → v.toNat < 2 ^ 56 →
      ∃ h, exec e.1 s = .next (s.issueWith h) ∧ h.trap.pc = v.toNat ∧ h.trap.skew = word (g.trap.skew.toNat / 2 ^ 24 % 8 * 2 ^ 24) ∧
        { h.trap with pc := g.trap.pc, skew := g.trap.skew, hskip := g.trap.hskip, pOld := g.trap.pOld } = g.trap ∧
        { h with trap := g.trap, toks := g.toks, loads := g.loads, stores := g.stores } = issued g .S p e.1 ∧
        h.toks.map (fun t => { t with rel := none }) = g.toks.map (fun t => { t with rel := none }) ∧
        h.loads.map (fun a => { a with rel := none }) = g.loads.map (fun a => { a with rel := none }) ∧
        h.stores.map (fun a => { a with rel := none }) = g.stores.map (fun a => { a with rel := none }))) ∧
  (∀ (x : CsrWr), ∀ e ∈ Claims.stateWrites x, ∀ (s : State) (g : Group) (p : Part) (v : Word), s.mayTrap g .S p e.1 →
    v = e.2 (s.csr s.cur g x.num.toNat) (s.operand g x.sa) → (x.num.toNat = 0x042 ∨ x.num.toNat = 0x044) →
    (v.toNat % 32 ≠ 0 ∨ 2 ^ 56 ≤ v.toNat) → exec e.1 s = .next (trapPart (s.noteIssue s.cur) s.cur g .S 2 0 0)) ∧
  (∀ (s : State) (r : GRef) (g : Group) (n : Nat) (v : Word), Claims.writable n → g.trap.save.length = 8 →
    s.csr r (g.setCsr n v) n = (if n = 0x030 then v &&& 0x3F#64 else v) ∧
    ∀ m, m ≠ n → ¬ (n = 0x042 ∧ m = 0x041) → s.csr r (g.setCsr n v) m = s.csr r g m)

namespace Sys2Proof.Claims

/-- What XLAT's value says of a translation: its bits by the fields of 14 Table 14.11. -/
def xlatSays (v : Word) (decl w rdup host : Bool) (size home : Nat) : Prop :=
  v.toNat < 2 ^ 13 ∧ v.getLsbD 12 = decl ∧ v.toNat / 2 ^ 10 % 4 = size ∧ v.getLsbD 9 = rdup ∧ v.getLsbD 8 = host ∧ v.getLsbD 7 = w ∧
  v.getLsbD 6 = true ∧ v.toNat % 64 = home

/-- Whether an address lies in a declared range of the group's task (14 Table 14.11). -/
def declaredFor (s : State) (g : Group) (va : Nat) : Bool :=
  match s.task g.gid.task with
  | some t => t.launch.declared va
  | none => false

/-- The units that LAMP names by sa (14 R393). -/
def lampUnits (c : Nat) (sb : Word) : List (Nat × LampUnit) :=
  [(0, .pane c 0), (1, .pane c 1), (2, .pane c 2), (3, .pane c 3), (4, .vector c), (5, .copyEngine c), (0x10, bankAt c sb.toNat)]

end Sys2Proof.Claims

/-- 14 R390 to R393: XLAT answers the fields of the translation that the caches hold (its slot's are the sequencers': log 21, the model's), or
else the walk finds, 0 outside the global space and where there is none, and neither walks nor traps; TCINV drops the core's translations of a page or of the whole address space and nothing
else; ERRRD reads a quad of the task's log, an index past 15 raises the operand trap (code 2), ERRCLR empties the log and answers the count;
LAMP answers 2 of a unit that it may not test, and of another what the test found, 1 withdrawing it (the finding is a free value: log 16;
which bank of the hamper an offset lies in is one too: log 55); another sa raises the operand trap. -/
def Obligations.SystemInstructions : Prop :=
  (∀ (x : R2) (s : State) (g : Group) (p : Part) (va : Nat), s.ready g .S p (.xlat x) → va = (s.operand g x.sa).toNat →
    ∃ v, exec (.xlat x) s = .next (s.issueWith ((issued g .S p (.xlat x)).resultS p.seq x.dst.toNat v)) ∧
      (isGlobal va = false → v = 0#64) ∧
      (isGlobal va = true →
        (∀ e, (s.cached (seqUnit s.cur.core) g.asid va = some e ∨
            (s.cached (seqUnit s.cur.core) g.asid va = none ∧ s.walk (dieOf s.cur.core) g.asid va = .leaf e ∧ e.host = false)) →
          Claims.xlatSays v (Claims.declaredFor s g va) e.w e.rdup e.host (if e.bits = 16 then 0 else if e.bits = 21 then 1 else 2)
            (if e.host = true then 0 else homeSlice (e.pa + va % 2 ^ e.bits))) ∧
        (s.cached (seqUnit s.cur.core) g.asid va = none →
          (∀ b w, s.walk (dieOf s.cur.core) g.asid va = .host b w →
            Claims.xlatSays v (Claims.declaredFor s g va) w false true (if b = 16 then 0 else if b = 21 then 1 else 2) 0) ∧
          (s.walk (dieOf s.cur.core) g.asid va = .none → v = 0#64)))) ∧
  (∀ (x : TcInv) (s : State) (g : Group) (p : Part), s.ready g .S p (.tcinv x) → s.cur.core < s.cores.length →
    ∃ l : List TransEnt × List TransEnt × List TransEnt × List TransEnt,
      exec (.tcinv x) s = .next ((s.setCore s.cur.core { s.core s.cur.core with
        tcAccess := l.1, tcCopy := l.2.1, tcSeq := l.2.2.1, tc := l.2.2.2 }).issueWith (issued g .S p (.tcinv x))) ∧
      ∀ y ∈ [(l.1, (s.core s.cur.core).tcAccess), (l.2.1, (s.core s.cur.core).tcCopy), (l.2.2.1, (s.core s.cur.core).tcSeq),
          (l.2.2.2, (s.core s.cur.core).tc)],
        ∀ e : TransEnt, e ∈ y.1 ↔ e ∈ y.2 ∧ ¬ (e.asid = g.asid ∧ (x.all = 1#1 ∨ e.covers g.asid (s.operand g x.sa).toNat = true))) ∧
  (∀ (x : ErrRd) (s : State) (g : Group) (p : Part) (k : Task), s.ready g .S p (.errrd x) → (s.operand g x.sa).toNat < 16 →
    s.task g.gid.task = some k →
    exec (.errrd x) s = .next (s.issueWith ((issued g .S p (.errrd x)).resultS p.seq x.dst.toNat
      (if h : (s.operand g x.sa).toNat < k.log.length then (k.log[(s.operand g x.sa).toNat]).quad x.sel.toNat else 0#64)))) ∧
  (∀ (x : ErrRd) (s : State) (g : Group) (p : Part), s.mayTrap g .S p (.errrd x) →
    16 ≤ (s.operand g x.sa).toNat → exec (.errrd x) s = .next (trapPart (s.noteIssue s.cur) s.cur g .S 2 0 0)) ∧
  (∀ (x : R1) (s : State) (g : Group) (p : Part) (k : Task), s.ready g .S p (.errclr x) → s.task g.gid.task = some k →
    exec (.errclr x) s = .next (((s.setTask { k with log := [], errCnt := 0 }).setGroup s.cur
      ((issued g .S p (.errclr x)).resultS p.seq x.dst.toNat (word k.errCnt))).afterIssue s.cur)) ∧
  (∀ (x : R3) (s : State) (g : Group) (p : Part), ∀ e ∈ Claims.lampUnits s.cur.core (s.operand g x.sb), s.ready g .S p (.lamp x) →
    (s.operand g x.sa).toNat = e.1 →
    ((e.2 ∈ s.withdrawn ∨ (e.1 < 4 ∧ g.gm.getLsbD e.1 = false)) →
      exec (.lamp x) s = .next (s.issueWith ((issued g .S p (.lamp x)).resultS p.seq x.dst.toNat 2#64))) ∧
    (e.2 ∉ s.withdrawn → (e.1 < 4 → g.gm.getLsbD e.1 = true ∧ (s.core s.cur.core).stepsOf g.gid = []) →
      ∃ (t : State) (v : Word), exec (.lamp x) s = .next ((t.setGroup s.cur ((issued g .S p (.lamp x)).resultS p.seq x.dst.toNat v)).afterIssue s.cur) ∧
        { t with withdrawn := s.withdrawn, free := s.free } = s ∧
        ((v = 0#64 ∧ t.withdrawn = s.withdrawn) ∨ (v = 1#64 ∧ t.withdrawn = s.withdrawn ++ [e.2])))) ∧
  (∀ (x : R3) (s : State) (g : Group) (p : Part), s.mayTrap g .S p (.lamp x) →
    (∀ e ∈ Claims.lampUnits s.cur.core (s.operand g x.sb), (s.operand g x.sa).toNat ≠ e.1) →
    exec (.lamp x) s = .next (trapPart (s.noteIssue s.cur) s.cur g .S 2 0 0))


namespace Sys2Proof.Claims

/-- The loads and the stores with the kind of access each makes (05 Table 5.3). -/
def loads (x : AM) : List (Instr × AccKind) := [(.ld x, .load), (.ldna x, .loadNA), (.ldbp x, .loadBP), (.ldg x, .loadG)]
def stores (x : AM) : List (Instr × AccKind) := [(.st x, .store), (.stna x, .storeNA), (.stbp x, .storeBP), (.sts x, .storeS)]

/-- The atomics with the value each leaves in the word (05 Table 5.5), on numbers below 2^(8n): n the size, m the old value, v and c the
operands. -/
def atomics (x : AX) : List (Instr × Nat) :=
  [(.atadd x, 0x10), (.atfadd x, 0x11), (.atmin x, 0x12), (.atmax x, 0x13), (.atminu x, 0x14), (.atmaxu x, 0x15), (.atand x, 0x16),
   (.ator x, 0x17), (.atxor x, 0x18), (.atswp x, 0x19), (.atcas x, 0x1A)]

/-- The address arithmetic with its values (05 R163): aa, sa and the immediate. -/
def addresses (x : AR) : List (Instr × (Word → Word → Word)) :=
  [(.lea x, fun a v => a + v + x.imm.signExtend 64),
   (.leax x, fun a v => word (a.toNat + v.toNat * 2 ^ (x.imm.toNat % 16))),
   (.amov x, fun _ v => v + x.imm.signExtend 64),
   (.ainc x, fun a v => word (a.toNat / 2 ^ (v.toNat % 64) * 2 ^ (v.toNat % 64) +
      (a.toNat + (x.imm.signExtend 64).toNat) % 2 ^ (v.toNat % 64)))]

/-- The ordering parts that put one fence into force (06 R173): what it waits for, the streams it selects, the streams it holds and
whether it holds their loads, whether it invalidates the L1, and whether it waits for the host. -/
def fences (x : AF) : List (Instr × (Nat → Fence)) :=
  [(.fence x, fun o => ⟨o, .released, 0xFFFF#16, none, x.scope == 5#3, 0xFFFF#16, true, false, x.scope != 0#3⟩),
   (.fenceX x, fun o => ⟨o, .released, x.mask, none, x.scope == 5#3, x.mask, true, false, x.scope != 0#3⟩),
   (.acq x, fun o => ⟨o, .reads, x.mask, none, false, 0xFFFF#16, true, false, x.scope != 0#3⟩),
   (.rel x, fun o => ⟨o, .released, x.mask, none, x.scope == 5#3, 0xFFFF#16, false, false, false⟩),
   (.acqrel x, fun o => ⟨o, .released, x.mask, none, x.scope == 5#3, 0xFFFF#16, true, false, x.scope != 0#3⟩)]

/-- An access of n bytes at an address may go ahead (05 R131, R135, R141, R143, R149): in the scratchpad, within the task's part of it and
aligned to its size, 1,024 bytes to 16; in the global window, with every page translated for it; an access that must be aligned to its size
(`strict`) reaches no host memory, and .wl, .dk and STS name the scratchpad alone. -/
def accessGoes (s : State) (g : Group) (ea n : Nat) (strict wr lit sts : Bool) : Prop :=
  (isPadWin ea = true ∧ (s.core s.cur.core).bnd0 * 1024 ≤ ea % 2 ^ 48 ∧ ea % 2 ^ 48 + n ≤ (s.core s.cur.core).bnd1 * 1024 ∧
    (strict = true ∨ n ≠ 1024 → ea % n = 0) ∧ (strict = false → n = 1024 → ea % 16 = 0)) ∨
  (isPadWin ea = false ∧ isGlobal ea = true ∧ isGlobal (ea + n - 1) = true ∧ lit = false ∧ sts = false ∧
    (strict = true → ea % n = 0) ∧ (strict = false → n = 1024 → ea % 16 = 0) ∧
    (∀ a ∈ pagesOf ea n, ∃ pa h, s.translate (.engine s.cur.core .access) g.asid a wr = .hit pa h ∧ (strict = true → h = false)))

/-- An access in the scratchpad's window of which a byte lies outside BND0 × 1,024 to BND1 × 1,024 − 1 of the core (05 R131). -/
def padAstray (s : State) (ea n : Nat) : Prop :=
  isPadWin ea = true ∧ (ea % 2 ^ 48 < (s.core s.cur.core).bnd0 * 1024 ∨ (s.core s.cur.core).bnd1 * 1024 < ea % 2 ^ 48 + n)

/-- A prefetch is dropped (05 R156): its span leaves the global window or the task's declared ranges, a page has no translation to device
memory, or fewer than 64 read tags are free. -/
def pfDropped (s : State) (g : Group) (ea n : Nat) : Prop :=
  isGlobal ea = false ∨ isGlobal (ea + n - 1) = false ∨
  (∀ t, s.task g.gid.task = some t → t.launch.declared ea = false ∨ t.launch.declared (ea + n - 1) = false) ∨
  (∃ a ∈ pagesOf ea n, s.peekPhysical (.engine s.cur.core .access) g.asid a = none) ∨
  Config.readTags < (s.core s.cur.core).tagsHeld false + 64

end Sys2Proof.Claims

/-- 05 R153, R135, 05 R155, R138, R131, R141, R143, R149, R150: a load whose checks pass enters the load-address queue of its stream, last in order, with its pieces and
where it delivers; the group is otherwise as its issue leaves it, and no byte changes; a store whose checks pass enters the store-address
queue of its stream with the data it reads, or with none, and then the oldest of its stream without data takes the oldest entry of the
stream's store-data queue; no byte changes yet. The checks pass where the access may go ahead (05 R131, R141, R143, R149), its queue has room,
and a store's register holds no poison (05 R150). -/
def Obligations.AccessesEnterTheirQueues : Prop :=
  (∀ (x : AM), ∀ e ∈ Claims.loads x, ∀ (s : State) (g : Group) (p : Part), s.passes g .A p e.1 →
    ∃ h a, exec e.1 s = .next (s.issueWith h) ∧ s.sameBytes (s.issueWith h) ∧ h.loads = g.loads ++ [a] ∧
      { h with loads := g.loads, ord := g.ord } = issued g .A p e.1 ∧ h.ord = g.ord + 1 ∧
      a.ord = g.ord ∧ a.stream = x.st.toNat ∧ a.kind = e.2 ∧ a.ea = (g.areg x.base.toNat + x.off.signExtend 64 * word (accessBytes x.size)).toNat ∧
      a.size = accessBytes x.size ∧ a.pieces = s.pieces s.cur g a.ea a.size ∧ a.dst = loadDst x ∧ a.wl = x.qual.getLsbD 0 ∧
      a.dk = x.qual.getLsbD 1 ∧ a.granted = isPadWin a.ea) ∧
  (∀ (x : AM), ∀ e ∈ Claims.stores x, ∀ (s : State) (g : Group) (p : Part), s.passes g .A p e.1 →
    ∃ a, exec e.1 s = .next (s.issueWith (((issued g .A p e.1).pushStore a).matchStore x.st.toNat)) ∧
      s.sameBytes (s.issueWith (((issued g .A p e.1).pushStore a).matchStore x.st.toNat)) ∧
      a.ord = g.ord ∧ a.stream = x.st.toNat ∧ a.kind = e.2 ∧
      a.ea = (g.areg x.base.toNat + x.off.signExtend 64 * word (accessBytes x.size)).toNat ∧ a.size = accessBytes x.size ∧
      a.pieces = s.pieces s.cur g a.ea a.size ∧
      a.data = (if x.data.toNat < 0x110 then some (g.vreg x.data.toNat).val
        else if 0x1C0 ≤ x.data.toNat then some (rowOf 64 (List.replicate 128 (scalarSrc s.cur g (x.data.toNat - 0x1C0)).toNat))
        else none)) ∧
  (∀ (x : AM), ∀ e ∈ Claims.loads x, ∀ (s : State) (g : Group) (p : Part), s.ready g .A p e.1 →
    Claims.accessGoes s g (g.areg x.base.toNat + x.off.signExtend 64 * word (accessBytes x.size)).toNat (accessBytes x.size) false false
      (x.qual.getLsbD 0 || x.qual.getLsbD 1) false → g.loadQ x.st.toNat < Config.addrDepth → s.passes g .A p e.1) ∧
  (∀ (x : AM), ∀ e ∈ Claims.stores x, ∀ (s : State) (g : Group) (p : Part), s.ready g .A p e.1 →
    Claims.accessGoes s g (g.areg x.base.toNat + x.off.signExtend 64 * word (accessBytes x.size)).toNat (accessBytes x.size) false true
      false (decide (e.2 = .storeS)) → g.storeQ x.st.toNat < Config.addrDepth →
    (x.data.toNat < 0x110 → (g.vreg x.data.toNat).poison = none) → s.passes g .A p e.1)

/-- 05 R131, R141, R143, 05 R154, R161: a load, a store or an atomic takes the access trap (code 3) with its address, precise at the part, at an
address outside the global window and the scratchpad, at one in the scratchpad's window of which a byte lies outside BND0 to BND1 (as every
one with VA[47:24] nonzero does on a core whose BND1 lies in its hamper), and where it is misaligned; a .wl or .dk load and an STS take it
outside the scratchpad. -/
def Obligations.AccessTraps : Prop :=
  (∀ (x : AM), ∀ e ∈ Claims.loads x ++ Claims.stores x, ∀ (s : State) (g : Group) (p : Part), s.mayTrap g .A p e.1 →
    (¬ isGlobal (g.eaAM x) ∧ ¬ isPadWin (g.eaAM x)) ∨
      (isPadWin (g.eaAM x) = true ∧ accessBytes x.size < 1024 ∧ g.eaAM x % accessBytes x.size ≠ 0) ∨
      (accessBytes x.size = 1024 ∧ g.eaAM x % 16 ≠ 0) ∨
      Claims.padAstray s (g.eaAM x) (accessBytes x.size) →
    exec e.1 s = .next (trapPart (s.noteIssue s.cur) s.cur g .A 3 0 (g.eaAM x))) ∧
  (∀ (x : AM), ∀ e ∈ Claims.loads x, ∀ (s : State) (g : Group) (p : Part), s.mayTrap g .A p e.1 →
    (x.qual.getLsbD 0 = true ∨ x.qual.getLsbD 1 = true) → isPadWin (g.eaAM x) = false →
    exec e.1 s = .next (trapPart (s.noteIssue s.cur) s.cur g .A 3 0 (g.eaAM x))) ∧
  (∀ (x : AM) (s : State) (g : Group) (p : Part), s.mayTrap g .A p (.sts x) → isPadWin (g.eaAM x) = false →
    exec (.sts x) s = .next (trapPart (s.noteIssue s.cur) s.cur g .A 3 0 (g.eaAM x))) ∧
  (∀ (x : AX), ∀ e ∈ Claims.atomics x, ∀ (s : State) (g : Group) (p : Part) (ea : Nat), s.mayTrap g .A p e.1 →
    ea = (g.areg x.base.toNat).toNat →
    (¬ isGlobal ea ∧ ¬ isPadWin ea) ∨ ea % accessBytes x.size ≠ 0 ∨ Claims.padAstray s ea (accessBytes x.size) →
    exec e.1 s = .next (trapPart (s.noteIssue s.cur) s.cur g .A 3 0 ea)) ∧
  (∀ (s : State) (ea n : Nat), 0 < n → isPadWin ea = true → (s.core s.cur.core).bnd1 ≤ 2 ^ 14 → ea / 2 ^ 24 % 2 ^ 24 ≠ 0 → Claims.padAstray s ea n)

/-- 05 R163, 05 R156: address arithmetic writes its value to ad at issue, wrapping in 64 bits; AINC keeps the bits above the ring; a
prefetch that is dropped does nothing (one of which the first or the last byte is undeclared is: log 83, the model's choice); every other one
changes no byte and no register, but brings its lines into the LLC, and PF alone their sectors into the core's L1, but those with an
uncorrectable error (log 83); what its reads meet is logged. -/
def Obligations.AddressFormsAndPrefetches : Prop :=
  (∀ (x : AR), ∀ e ∈ Claims.addresses x, ∀ (s : State) (g : Group) (p : Part), s.ready g .A p e.1 →
    exec e.1 s = .next (s.issueWith { issued g .A p e.1 with
      a := g.a.set x.ad.toNat (e.2 (g.areg x.aa.toNat) (s.operand g x.sa)) })) ∧
  (∀ (x : AM), ∀ i ∈ [Instr.pf x, .pfna x], ∀ (s : State) (g : Group) (p : Part), s.ready g .A p i →
    (Claims.pfDropped s g (g.eaAM x) (accessBytes x.size) → exec i s = .next (s.issueWith (issued g .A p i))) ∧
    ∃ (t : State) (c : Core), exec i s = .next (t.issueWith (issued g .A p i)) ∧ s.sameBytes t ∧
      { t with cores := s.cores, llc := s.llc, poison := s.poison, healed := s.healed, free := s.free, tasks := s.tasks, lamps := s.lamps } = s ∧
      ((s.tasks.map (·.id)).Nodup → t.tasks.map (fun k => { k with log := [], errCnt := 0 }) = s.tasks.map (fun k => { k with log := [], errCnt := 0 })) ∧
      t.cores = (s.setCore s.cur.core c).cores ∧ { c with l1 := (s.core s.cur.core).l1 } = s.core s.cur.core ∧
      (i = .pfna x → c.l1 = (s.core s.cur.core).l1) ∧
      (∀ pa, SMap.wfFrom 0 none s.llc = true → ¬ Claims.pfDropped s g (g.eaAM x) (accessBytes x.size) →
        s.peekPhysical (.engine s.cur.core .access) g.asid ((g.eaAM x + accessBytes x.size - 1) / 128 * 128 + 96) = some pa →
        t.llcHas pa = true ∧
        (i = .pf x → (s.core s.cur.core).bnd1 < (s.core s.cur.core).bnd2 → (∀ u, t.readErr (32 * (pa / 32)) ≠ .bad u) →
          (∀ u, t.readErr (32 * (pa / 32) + 16) ≠ .bad u) → c.l1Get (pa / 32) = some (s.sectorVal (pa / 32))))) ∧
  (∀ (x : AM) (g : Group), g.eaAM x = (g.areg x.base.toNat + x.off.signExtend 64 * word (accessBytes x.size)).toNat)

/-- 05 R161, R162, R131, R141, R143, R149: an atomic whose checks pass enters the queues of its stream with its operation and operands, after the release and before the
acquire of its scope; no byte changes yet; its checks pass where its word may be reached and its queues have room. -/
def Obligations.AtomicsEnterTheirQueue : Prop :=
  (∀ (x : AX), ∀ e ∈ Claims.atomics x, ∀ (s : State) (g : Group) (p : Part), s.passes g .A p e.1 →
    ∃ t h a, exec e.1 s = .next t ∧ s.sameBytes t ∧ t.group s.cur = some h ∧ h.stores = g.stores ++ [a] ∧ h.loads = g.loads ∧
      h.n = g.n ∧ h.a = g.a ∧ h.vregs = g.vregs ∧ h.ldata = g.ldata ∧
      a.kind = .atomic e.2 (x.ret == 1#1) ∧ a.stream = x.st.toNat ∧ a.ea = (g.areg x.base.toNat).toNat ∧ a.size = accessBytes x.size ∧
      a.cmp = atomicVal s.cur g x.size x.cmp ∧ a.val = atomicVal s.cur g x.size x.val ∧
      a.ord = g.ord + (if x.scope = 0#3 then 0 else 1)) ∧
  (∀ (x : AX), ∀ e ∈ Claims.atomics x, ∀ (s : State) (g : Group) (p : Part), s.ready g .A p e.1 →
    Claims.accessGoes s g (g.areg x.base.toNat).toNat (accessBytes x.size) true true false false →
    g.storeQ x.st.toNat < Config.addrDepth → (x.ret = 1#1 → g.loadQ x.st.toNat < Config.addrDepth) → s.passes g .A p e.1)

/-- 06 R173: an ordering part issues at once and puts its fence into force at the group's next place in order; MARK one for each
stream it names; no byte changes; DRAIN stays unissued until every store and atomic of its streams is acknowledged, TKW until the latest
productions of its tokens have completed; each then issues, and TKW invalidates the L1 at a scope above .g. -/
def Obligations.OrderingParts : Prop :=
  (∀ (x : AF), ∀ e ∈ Claims.fences x, ∀ (s : State) (g : Group) (p : Part), s.ready g .A p e.1 →
    exec e.1 s = .next (((s.setGroup s.cur ((issued g .A p e.1).addFence e.2)).settle s.cur).afterIssue s.cur)) ∧
  (∀ (x : AF) (s : State) (g : Group) (p : Part), s.passes g .A p (.mark x) →
    exec (.mark x) s = .next (((s.setGroup s.cur ((maskStreams x.mask).foldl (fun g st => g.addFence (markFence st))
      (issued g .A p (.mark x)))).settle s.cur).afterIssue s.cur)) ∧
  (∀ (s : State) (g : Group) (f : Nat → Fence), s.group s.cur = some g →
    s.sameBytes ((s.setGroup s.cur (g.addFence f)).settle s.cur) ∧
    ∃ h, ((s.setGroup s.cur (g.addFence f)).settle s.cur).group s.cur = some h ∧
      h.fences = (g.fences ++ [f g.ord]).filter (fun x => !(g.addFence f).fenceOpen x) ∧
      { h with fences := g.fences, ord := g.ord } = g) ∧
  (∀ (x : AF) (s : State) (g : Group) (p : Part), s.ready g .A p (.drain x) → (∀ a ∈ g.stores, x.mask.getLsbD a.stream = false) →
    exec (.drain x) s = .next (s.issueWith (issued g .A p (.drain x)))) ∧
  (∀ (x : AF) (s : State) (g : Group) (p : Part), s.ready g .A p (.drain x) → (∃ a ∈ g.stores, x.mask.getLsbD a.stream = true) →
    exec (.drain x) s = .next s) ∧
  (∀ (x : AF) (s : State) (g : Group) (p : Part), s.ready g .A p (.tkw x) →
    (∀ k t, k ∈ tkwTokens x.mask → g.latestProd k p.seq = some t → t.left = 0) →
    exec (.tkw x) s = .next ((if x.scope = 0#3 then s.setGroup s.cur (issued g .A p (.tkw x))
      else (s.setGroup s.cur (issued g .A p (.tkw x))).inval s.cur.core).afterIssue s.cur)) ∧
  (∀ (x : AF) (s : State) (g : Group) (p : Part) (k : Nat) (t : Prod), s.ready g .A p (.tkw x) → k ∈ tkwTokens x.mask →
    g.latestProd k p.seq = some t → t.left ≠ 0 → exec (.tkw x) s = .next s)
namespace Sys2Proof.Claims

/-- The integer lane forms of the V slot (07 R194 to R196) on numbers below 2^w, w the width of the elements: the result of the elements
of va, vb and vc. -/
def intLanes (x : VR) : List (Instr × (Nat → Nat → Nat → Nat)) :=
  let n := 2 ^ x.w
  let sg (a : Nat) : Int := if isSignedT x.ty.toNat && decide (n ≤ 2 * a) then (a : Int) - n else a
  [(.vadd x, fun a b _ => (a + b) % n),
   (.vsub x, fun a b _ => (a + (n - b)) % n),
   (.vmul x, fun a b _ => a * b % n),
   (.vmulh x, fun a b _ => ((sg a * sg b / n) % n).toNat),
   (.vfma x, fun a b c => (a * b + c) % n),
   (.vfms x, fun a b c => (a * b + (n - c)) % n),
   (.vfnma x, fun a b c => (c + (n - a * b % n)) % n),
   (.vmin x, fun a b _ => if sg a ≤ sg b then a else b),
   (.vmax x, fun a b _ => if sg a ≤ sg b then b else a),
   (.vabs x, fun a _ _ => (sg a).natAbs % n),
   (.vneg x, fun a _ _ => (n - a) % n)]

/-- The bit forms (07 R196), of any type. -/
def bitLanes (x : VR) : List (Instr × (Nat → Nat → Nat)) :=
  let n := 2 ^ x.w
  [(.vand x, fun a b => a &&& b),
   (.vor x, fun a b => a ||| b),
   (.vxor x, fun a b => a ^^^ b),
   (.vnot x, fun a _ => n - 1 - a),
   (.vshl x, fun a b => if b < x.w then a * 2 ^ b % n else 0),
   (.vshr x, fun a b => if b < x.w then a / 2 ^ b else 0),
   (.vsar x, fun a b => (((if n ≤ 2 * a then (a : Int) - n else a) / 2 ^ min b x.w) % n).toNat),
   (.vclz x, fun a _ => if a = 0 then x.w else x.w - 1 - Nat.log2 a),
   (.vpopc x, fun a _ => ((List.range x.w).filter (fun i => a.testBit i)).length)]

/-- The forms that move elements (07 R198 to R200), by the place of the result's element: the source rows, va and vb where they are
scalar values, the table of VPERM. -/
def moveLanes (x : VR) (tab : List Row) : List (Instr × (Row → Row → Row → Word → Word → Nat → Nat)) :=
  let w := x.w
  let n := 8192 / w
  [(.vsel x, fun a b c _ _ j => if elem c w j ≠ 0 then elem a w j else elem b w j),
   (.vmov x, fun a _ _ _ _ j => elem a w j),
   (.vbcast x, fun a _ _ _ v _ => elem a w (v.toNat % n)),
   (.vrot x, fun a _ _ _ v j => elem a w ((j + v.toNat) % n)),
   (.viota x, fun _ _ _ u v j => ((u.toInt + j * v.toInt) % 2 ^ w).toNat),
   (.vperm x, fun _ b _ _ _ j => if elem b w j < tab.length * n then elem (tab.getD (elem b w j / n) 0) w (elem b w j % n) else 0),
   (.vshuf x, fun a b _ _ _ j =>
      if x.fn.toNat % 8 = 0 then (if j % 2 = 0 then elem a w (j / 2) else elem b w (j / 2))
      else if x.fn.toNat % 8 = 1 then (if j % 2 = 0 then elem a w (n / 2 + j / 2) else elem b w (n / 2 + j / 2))
      else if x.fn.toNat % 8 = 2 then (if j < n / 2 then elem a w (2 * j) else elem b w (2 * (j - n / 2)))
      else if x.fn.toNat % 8 = 3 then (if j < n / 2 then elem a w (2 * j + 1) else elem b w (2 * (j - n / 2) + 1))
      else elem a w (n - 1 - j))]

/-- The forms whose result is a number format's (07 R194, R195, R197, R201 to R205): the registers they write and the flags they raise,
by the operands that they fetch and the values of their scalar fields. -/
def roundedForms (x : VR) (g : Group) : List (Instr × (Row → Row → Row → Word → VRes)) :=
  [(.vadd x, fun a b c _ => vArith .add x.sat x a b c),
   (.vsub x, fun a b c _ => vArith .sub x.sat x a b c),
   (.vmul x, fun a b c _ => vArith .mul x.sat x a b c),
   (.vdiv x, fun a b c _ => vArith .div false x a b c),
   (.vsqrt x, fun a b c _ => vArith .sqrt false x a b c),
   (.vfma x, fun a b c _ => vArith .fma false x a b c),
   (.vfms x, fun a b c _ => vArith .fms false x a b c),
   (.vfnma x, fun a b c _ => vArith .fnma false x a b c),
   (.vmin x, fun a b _ _ => vMinMax false x a b),
   (.vmax x, fun a b _ _ => vMinMax true x a b),
   (.vabs x, fun a _ _ _ => vAbsNeg false x a),
   (.vneg x, fun a _ _ _ => vAbsNeg true x a),
   (.vcmp x, fun a b _ _ => vCmp x a b),
   (.vexp2 x, fun a _ _ _ => vFunc exp2F x a),
   (.vlog2 x, fun a _ _ _ => vFunc log2F x a),
   (.vrcp x, fun a _ _ _ => vFunc rcpF x a),
   (.vrsq x, fun a _ _ _ => vFunc rsqF x a),
   (.vsin x, fun a _ _ _ => vFunc sinF x a),
   (.vcos x, fun a _ _ _ => vFunc cosF x a),
   (.vreda x, fun a _ _ v => vReduce .add x a v),
   (.vredx x, fun a _ _ v => vReduce .max x a v),
   (.vredn x, fun a _ _ v => vReduce .min x a v),
   (.vscan x, fun a b _ _ => vScan x a b),
   (.vcx x, fun a _ _ _ => vCx x (vGroup (.vcx x)).1 (groupOr g a x.va (vGroup (.vcx x)).1) (groupOr g a x.va (vGroup (.vcx x)).1)),
   (.vcxs x, fun a b _ _ => vCx x (vGroup (.vcxs x)).1 (groupOr g a x.va (vGroup (.vcxs x)).1) (groupOr g b x.vb (vGroup (.vcxs x)).1)),
   (.vins x, fun a b _ _ => vInsert x a a (elem b x.w 0) (elem b x.w 0)),
   (.vinsm x, fun a b c _ => vInsert x a b (elem c x.w 0) (elem c x.w 1))]

/-- The conversions (03 R93 to R98) with the widths at which their first two operands are fetched. -/
def conversions (x : VR) (g : Group) : List (Instr × Nat × Nat × (Row → Row → VRes)) :=
  [(.cvt x, typeWidth x.st, x.w, fun a _ => vCvt x a (keptDest g x.vd)),
   (.quantDerive x, typeWidth x.st, x.w, fun a _ => vDerive x a),
   (.quantApply x, typeWidth x.st, 8, fun a b => vQuant x a b (keptDest g x.vd)),
   (.dquant x, typeWidth x.st, 8, fun a b => vDquant x a b),
   (.pack x, typeWidth x.st, typeWidth x.st, fun a b => vPack x a b),
   (.unpack x, typeWidth x.st, x.w, fun a _ => vUnpack x a)]

/-- A result of one row with the elements and the flags of a list of element results: element j is the value of f j, and the flags are those
of all the elements, ORed (07 R189, 03 R72). -/
def lanes (w : Nat) (r : VRes) (f : Nat → Nat × BitVec 6) : Prop :=
  ∃ row, r.rows = [row] ∧ (∀ j, j < 8192 / w → elem row w j = (f j).1 % 2 ^ w) ∧
    ∀ k, r.flags.getLsbD k = true ↔ ∃ j, j < 8192 / w ∧ (f j).2.getLsbD k = true

/-- The integer that a code of a type reads as (03 R64). -/
def int (t v : Nat) : Int := if isSignedT t = true ∧ 2 ^ typeWidth t ≤ 2 * v then (v : Int) - 2 ^ typeWidth t else v

/-- An integer held to the range of a type, SAT where it was outside (03 R71). -/
def clamped (t : Nat) (v : Int) : Nat × BitVec 6 :=
  let w := typeWidth t
  let lo : Int := if isSignedT t then -2 ^ (w - 1) else 0
  let hi : Int := if isSignedT t then 2 ^ (w - 1) - 1 else 2 ^ w - 1
  ((max lo (min hi v) % 2 ^ w).toNat, if v < lo ∨ hi < v then 0x20#6 else 0#6)

/-- The saturating integer forms (07 R194, R195). -/
def satLanes (x : VR) (a b c : Row) : List (VRes × (Int → Int → Int → Int)) :=
  [(vArith .add true x a b c, fun p q _ => p + q), (vArith .sub true x a b c, fun p q _ => p - q),
   (vArith .mul true x a b c, fun p q _ => p * q), (vArith .fma true x a b c, fun p q r => p * q + r),
   (vArith .fms true x a b c, fun p q r => p * q - r), (vArith .fnma true x a b c, fun p q r => r - p * q)]

/-- The float forms: the exact value that each element rounds once (07 R194). -/
def floatLanes (x : VR) (a b c : Row) : List (VRes × (FVal → FVal → FVal → Exact)) :=
  let rm := x.rm.toNat
  [(vArith .add false x a b c, fun p q _ => addF rm p q), (vArith .sub false x a b c, fun p q _ => addF rm p q.neg),
   (vArith .mul false x a b c, fun p q _ => mulF p q), (vArith .fma false x a b c, fun p q r => fmaF rm p q r),
   (vArith .fms false x a b c, fun p q r => fmaF rm p q r.neg), (vArith .fnma false x a b c, fun p q r => fmaF rm p.neg q r),
   (vArith .sqrt false x a b c, fun p _ _ => sqrtF p)]

/-- The conditions of VCMP with the flags (07 Table 7.5), on floats and on integers. -/
def vFloatConds (c : Nat) (a b : FVal) : Bool × BitVec 6 :=
  let nan := a.isNan || b.isNan
  let sig : BitVec 6 := if a.isSig || b.isSig then 1#6 else 0#6
  let any : BitVec 6 := if nan then 1#6 else 0#6
  [(!nan && decide (a.order b = 0), sig), (nan || decide (a.order b ≠ 0), sig), (!nan && decide (a.order b < 0), any),
   (!nan && decide (a.order b ≤ 0), any), (!nan && decide (0 < a.order b), any), (!nan && decide (0 ≤ a.order b), any),
   (nan, sig), (!nan, sig)].getD c (false, 0#6)
def vIntConds (c : Nat) (a b : Int) : Bool :=
  [decide (a = b), decide (a ≠ b), decide (a < b), decide (a ≤ b), decide (b < a), decide (b ≤ a)].getD c false

/-- The functions of a .f32 element with their exact cases: an operand's code, the result's code and its flags (07 Table 7.7). -/
def specialCases : List ((Nat → Nat → FVal → Nat × BitVec 6) × List (Nat × Nat × BitVec 6)) :=
  [(exp2F, [(0x7F800000, 0x7F800000, 0#6), (0xFF800000, 0, 0#6), (0, 0x3F800000, 0#6), (0x80000000, 0x3F800000, 0#6), (0x40400000, 0x41000000, 0#6)]),
   (log2F, [(0, 0xFF800000, 2#6), (0x80000000, 0xFF800000, 2#6), (0xBF800000, 0x7FC00000, 1#6), (0xFF800000, 0x7FC00000, 1#6),
     (0x7F800000, 0x7F800000, 0#6), (0x3F800000, 0, 0#6), (0x41000000, 0x40400000, 0#6)]),
   (rcpF, [(0, 0x7F800000, 2#6), (0x80000000, 0xFF800000, 2#6), (0x7F800000, 0, 0#6), (0xFF800000, 0x80000000, 0#6),
     (0x40000000, 0x3F000000, 0#6)]),
   (rsqF, [(0, 0x7F800000, 2#6), (0x80000000, 0xFF800000, 2#6), (0xBF800000, 0x7FC00000, 1#6), (0xFF800000, 0x7FC00000, 1#6),
     (0x7F800000, 0, 0#6), (0x40800000, 0x3F000000, 0#6)]),
   (sinF, [(0x7F800000, 0x7FC00000, 1#6), (0xFF800000, 0x7FC00000, 1#6), (0, 0, 0#6), (0x80000000, 0x80000000, 0#6)]),
   (cosF, [(0x7F800000, 0x7FC00000, 1#6), (0xFF800000, 0x7FC00000, 1#6), (0, 0x3F800000, 0#6)])]

/-- The matrix steps (08 R232, R233). -/
def steps (x : MS) : List (Instr × StepKind × Bool) :=
  [(.mstep x, .step, true), (.mstepz x, .zero, true), (.mstept x, .transposed, true), (.mzero ⟨x.pred⟩, .clear, false)]

/-- The copy forms (11 R298). -/
def copies (x : CC) : List Instr := [.cpy x, .cpy2 x, .cpyh x, .cpln x, .accld x, .accst x, .gstep x]

end Sys2Proof.Claims

/-- 07 R194, R195 (integer types 03 R64), 07 R196: an unsaturated integer form of the V slot writes, element by element, the value of its
row modulo 2^w, and raises no flag; a bit form works on the bits of each element, whatever the type; a shift by the width or more gives 0,
or the sign's bits. -/
def Obligations.VectorLanes : Prop :=
  (∀ (x : VR), ∀ e ∈ Claims.intLanes x, ∀ (s : State) (g : Group) (p : Part), s.passes g .V p e.1 →
    1 ≤ x.ty.toNat → x.ty.toNat ≤ 9 → x.sat = false →
    ∀ (a b c : Row) (h : Group), fetch3 s.cur (issued g .V p e.1) x x.w x.w = (a, b, c, h) →
    ∃ r : Row, exec e.1 s = .next (s.issueWith (h.resultV p.seq x.vd ⟨[r], 0#6⟩)) ∧
      ∀ j, j < 8192 / x.w → elem r x.w j = e.2 (elem a x.w j) (elem b x.w j) (elem c x.w j)) ∧
  (∀ (x : VR), ∀ e ∈ Claims.bitLanes x, ∀ (s : State) (g : Group) (p : Part), s.passes g .V p e.1 →
    ∀ (a b c : Row) (h : Group), fetch3 s.cur (issued g .V p e.1) x x.w x.w = (a, b, c, h) →
    ∃ r : Row, exec e.1 s = .next (s.issueWith (h.resultV p.seq x.vd ⟨[r], 0#6⟩)) ∧
      ∀ j, j < 8192 / x.w → elem r x.w j = e.2 (elem a x.w j) (elem b x.w j))

/-- 07 R198 to R200: a form that moves elements writes at each place the element that its row names. -/
def Obligations.VectorMoveLanes : Prop :=
  ∀ (x : VR) (s : State) (g : Group) (p : Part) (a b c : Row) (h : Group) (k : Nat) (i : Instr)
    (f : Row → Row → Row → Word → Word → Nat → Nat),
    fetch3 s.cur (issued g .V p i) x x.w x.w = (a, b, c, h) →
    (Claims.moveLanes x (groupOr (issued g .V p i) a x.va (vGroup (.vperm x)).1))[k]? = some (i, f) → s.passes g .V p i →
    ∃ r : Row, exec i s = .next (s.issueWith (h.resultV p.seq x.vd ⟨[r], 0#6⟩)) ∧
      ∀ j, j < 8192 / x.w → elem r x.w j = f a b c (scalarField s.cur (issued g .V p i) x.va) (scalarField s.cur (issued g .V p i) x.vb) j

/-- 07 R189, R194 to R205, 03 R92 to R98, 03 R64, R69, R71, 02 R40, R46: every other form of the V slot fetches its operands, popping the streams it
names, before it writes its result to vd and to b0, with the flags of its elements ORed; the conversions, each with its sources at the width
of the source type, and the scales at 8 bits; a V result takes the newest latch place at issue, and nothing else of the group changes but
its record in flight, which names vd's registers or its stream's queue. The values are spelled out element by element: each float form
rounds its exact value once, integers saturate to the range of the type, the conditions of VCMP, the special cases of the functions, the tree
of a reduction and of a scan, the exchanges of VCX and VCXS, the place of VINS and VINSM, and the elements and scales of each conversion. -/
def Obligations.VectorForms : Prop :=
  (∀ (x : VR) (s : State) (g : Group) (p : Part) (a b c : Row) (h : Group) (k : Nat) (i : Instr) (f : Row → Row → Row → Word → VRes),
    fetch3 s.cur (issued g .V p i) x x.w x.w = (a, b, c, h) →
    (Claims.roundedForms x (issued g .V p i))[k]? = some (i, f) → s.passes g .V p i →
    exec i s = .next (s.issueWith (h.resultV p.seq x.vd (f a b c (scalarField s.cur (issued g .V p i) x.vb))))) ∧
  (∀ (x : VR) (s : State) (g : Group) (p : Part) (a b c : Row) (h : Group) (k : Nat) (i : Instr) (wa wb : Nat) (f : Row → Row → VRes),
    fetch3 s.cur (issued g .V p i) x wa wb = (a, b, c, h) →
    (Claims.conversions x (issued g .V p i))[k]? = some (i, wa, wb, f) → s.passes g .V p i →
    exec i s = .next (s.issueWith (h.resultV p.seq x.vd (f a b)))) ∧
  (∀ (g : Group) (seq : Nat) (vd : BitVec 9) (x : VRes),
    (g.resultV seq vd x).lat = (Latch.awaiting g.ids :: g.lat).take 4 ∧
    { g.resultV seq vd x with lat := g.lat, fly := g.fly, ids := g.ids } = g ∧
    ∃ f, (g.resultV seq vd x).fly = g.fly ++ [f] ∧ f.id = g.ids ∧ f.flags = x.flags ∧ f.n = none ∧ f.p = none ∧ f.ember = none ∧
      (∀ c r, (c, r) ∈ f.vecs → vd.toNat ≤ c ∧ c < vd.toNat + x.rows.length) ∧
      (0x110 ≤ vd.toNat → f.vecs = [])) ∧
  (∀ (x : VR) (a b c : Row), ∀ e ∈ Claims.floatLanes x a b c, 13 ≤ x.ty.toNat → x.ty.toNat ≤ 16 →
    Claims.lanes x.w e.1 (fun j => roundFP x.ty.toNat x.rm.toNat (x.fz == 1#1)
      (e.2 (readF x.ty.toNat (x.fz == 1#1) (elem a x.w j)) (readF x.ty.toNat (x.fz == 1#1) (elem b x.w j))
        (readF x.ty.toNat (x.fz == 1#1) (elem c x.w j))))) ∧
  (∀ (x : VR) (a b c : Row), 13 ≤ x.ty.toNat → x.ty.toNat ≤ 16 →
    Claims.lanes x.w (vArith .div false x a b c) (fun j =>
      let q := divF (readF x.ty.toNat (x.fz == 1#1) (elem a x.w j)) (readF x.ty.toNat (x.fz == 1#1) (elem b x.w j))
      ((roundFP x.ty.toNat x.rm.toNat (x.fz == 1#1) q.1).1, (roundFP x.ty.toNat x.rm.toNat (x.fz == 1#1) q.1).2 ||| q.2))) ∧
  (∀ (rm : Nat) (s t : Bool) (m n : Nat) (e f : Int), 0 < n → 0 < m →
    mulF (.fin s m e) (.fin t n f) = .fin (s != t) (m * n) (e + f) false ∧
    (let v := signedM s m * 2 ^ (e - min e f).toNat + signedM t n * 2 ^ (f - min e f).toNat
     v ≠ 0 → addF rm (.fin s m e) (.fin t n f) = .fin (decide (v < 0)) v.natAbs (min e f) false) ∧
    (∃ (q : Nat) (k : Nat), divF (.fin s m e) (.fin t n f) = (.fin (s != t) q (e - f - k) (decide (q * n ≠ m * 2 ^ k)), 0#6) ∧
      q * n ≤ m * 2 ^ k ∧ m * 2 ^ k < (q + 1) * n) ∧
    (∃ (q : Nat) (k : Nat), (e - k) % 2 = 0 ∧ sqrtF (.fin false m e) = .fin false q ((e - k) / 2) (decide (q * q ≠ m * 2 ^ k)) ∧
      q * q ≤ m * 2 ^ k ∧ m * 2 ^ k < (q + 1) * (q + 1))) ∧
  (∀ (neg : Bool) (m k : Nat) (e : Int), 0 < k →
    (roundTo 0 neg m e (e + k) false).2 = decide (m % 2 ^ k ≠ 0) ∧
    (let r := (roundTo 0 neg m e (e + k) false).1
     2 * (r * 2 ^ k) ≤ 2 * m + 2 ^ k ∧ 2 * m ≤ 2 * (r * 2 ^ k) + 2 ^ k ∧
      (2 * (r * 2 ^ k) = 2 * m + 2 ^ k ∨ 2 * m = 2 * (r * 2 ^ k) + 2 ^ k → r % 2 = 0)) ∧
    (roundTo 1 neg m e (e + k) false).1 = m / 2 ^ k ∧
    (roundTo 2 neg m e (e + k) false).1 = (if neg = true then (m + 2 ^ k - 1) / 2 ^ k else m / 2 ^ k) ∧
    (roundTo 3 neg m e (e + k) false).1 = (if neg = true then m / 2 ^ k else (m + 2 ^ k - 1) / 2 ^ k)) ∧
  (∀ (x : VR) (a b c : Row), ∀ e ∈ Claims.satLanes x a b c, 1 ≤ x.ty.toNat → x.ty.toNat ≤ 9 →
    Claims.lanes x.w e.1 (fun j => Claims.clamped x.ty.toNat (e.2 (Claims.int x.ty.toNat (elem a x.w j)) (Claims.int x.ty.toNat (elem b x.w j))
      (Claims.int x.ty.toNat (elem c x.w j))))) ∧
  (∀ (x : VR) (a : Row), 1 ≤ x.ty.toNat → x.ty.toNat ≤ 9 → x.sat = true →
    Claims.lanes x.w (vAbsNeg true x a) (fun j => Claims.clamped x.ty.toNat (-Claims.int x.ty.toNat (elem a x.w j))) ∧
    Claims.lanes x.w (vAbsNeg false x a) (fun j => Claims.clamped x.ty.toNat (Claims.int x.ty.toNat (elem a x.w j)).natAbs)) ∧
  (∀ (x : VR) (a b : Row) (k : Bool), 13 ≤ x.ty.toNat → x.ty.toNat ≤ 16 →
    Claims.lanes x.w (vMinMax k x a b) (fun j => minMaxF x.ty.toNat (x.fz == 1#1) k (elem a x.w j) (elem b x.w j)) ∧
    Claims.lanes x.w (vAbsNeg k x a) (fun j => absNegElem k x.ty.toNat (x.fz == 1#1) x.sat (elem a x.w j)) ∧
    ∀ u v, (readF x.ty.toNat (x.fz == 1#1) u).isNan = true →
      minMaxF x.ty.toNat (x.fz == 1#1) k u v = (nanCode x.ty.toNat,
        if (readF x.ty.toNat (x.fz == 1#1) u).isSig = true ∨ (readF x.ty.toNat (x.fz == 1#1) v).isSig = true then 1#6 else 0#6) ∧
      absNegElem k x.ty.toNat (x.fz == 1#1) x.sat u = (nanCode x.ty.toNat,
        if (readF x.ty.toNat (x.fz == 1#1) u).isSig = true then 1#6 else 0#6)) ∧
  (∀ (t u v : Nat) (k : Bool), 13 ≤ t → t ≤ 16 → (readF t false u).isNan = false → (readF t false v).isNan = false →
    u % signBit t ≠ 0 → v % signBit t ≠ 0 →
    ((readF t false u).order (readF t false v) < 0 → minMaxF t false k u v = (if k = true then v else u, 0#6)) ∧
    (0 < (readF t false u).order (readF t false v) → minMaxF t false k u v = (if k = true then u else v, 0#6))) ∧
  (∀ (x : VR) (a b : Row), Claims.lanes x.w (vCmp x a b) (fun j =>
    if 10 ≤ x.ty.toNat then
      let r := Claims.vFloatConds (x.fn.toNat % 8) (readF x.ty.toNat (x.fz == 1#1) (elem a x.w j)) (readF x.ty.toNat (x.fz == 1#1) (elem b x.w j))
      (if r.1 = true then 2 ^ x.w - 1 else 0, r.2)
    else (if x.ty.toNat ≠ 0 ∧ x.fn.toNat % 8 < 6 ∧ Claims.vIntConds (x.fn.toNat % 8) (Claims.int x.ty.toNat (elem a x.w j)) (Claims.int x.ty.toNat (elem b x.w j)) = true
      then 2 ^ x.w - 1 else 0, 0#6)) ∨ x.ty.toNat = 0 ∨ (x.ty.toNat < 10 ∧ 6 ≤ x.fn.toNat % 8)) ∧
  (∀ (x : VR) (a : Row) (f : Nat → Nat → FVal → Nat × BitVec 6),
    Claims.lanes 32 (vFunc f x a) (fun j => f 15 x.rm.toNat (readF 15 false (elem a 32 j)))) ∧
  (∀ e ∈ Claims.specialCases, ∀ (rm : Nat), (∀ c ∈ e.2, e.1 15 rm (readF 15 false c.1) = c.2) ∧
    e.1 15 rm (.nan true) = (0x7FC00000, 1#6) ∧ e.1 15 rm (.nan false) = (0x7FC00000, 0#6)) ∧
  (∀ (x : VR) (a : Row) (n : Word), 1 ≤ x.ty.toNat → x.ty.toNat ≤ 9 →
    Claims.lanes x.w (vReduce .add x a n) (fun j =>
      (if j = 0 then ((List.range (min n.toNat (8192 / x.w))).map (fun i => elem a x.w i)).sum % 2 ^ x.w else 0, 0#6)) ∧
    (∀ op, op = RedOp.max ∨ op = RedOp.min → ∃ row, vReduce op x a n = ⟨[row], 0#6⟩ ∧
      (∀ i, i < min n.toNat (8192 / x.w) → if op = .max then Claims.int x.ty.toNat (elem a x.w i) ≤ Claims.int x.ty.toNat (elem row x.w 0)
        else Claims.int x.ty.toNat (elem row x.w 0) ≤ Claims.int x.ty.toNat (elem a x.w i)) ∧
      (n = 0#64 → Claims.int x.ty.toNat (elem row x.w 0) =
        (if op = .max then (if isSignedT x.ty.toNat then -2 ^ (x.w - 1) else 0)
         else if isSignedT x.ty.toNat then 2 ^ (x.w - 1) - 1 else 2 ^ x.w - 1)) ∧
      (n ≠ 0#64 → ∃ i, i < min n.toNat (8192 / x.w) ∧ elem row x.w 0 = elem a x.w i) ∧ ∀ j, 0 < j → j < 8192 / x.w → elem row x.w j = 0)) ∧
  (∀ (op : RedOp) (t rm : Nat) (fz : Bool) (l : List (Option Nat)) (i : Nat),
    (treeLevel op t rm fz l).1[i]? = (match l[2 * i]?, l[2 * i + 1]? with
      | some (some u), some (some v) => some (some (redElem op t rm fz u v).1)
      | some (some u), _ => some (some u)
      | some none, some v => some v
      | some none, none => some none
      | none, _ => none)) ∧
  (∀ (x : VR) (a b : Row), 1 ≤ x.ty.toNat → x.ty.toNat ≤ 9 → x.fn.toNat % 4 = 0 →
    Claims.lanes x.w (vScan x a b) (fun j =>
      ((elem b x.w 0 + ((List.range (if x.fn.getLsbD 2 = true then j else j + 1)).map (fun i => elem a x.w i)).sum) % 2 ^ x.w, 0#6))) ∧
  (∀ (f : Nat → Nat → Nat × BitVec 6) (k : Nat) (y : List Nat) (i : Nat) (v : Nat), y[i]? = some v →
    (scanLevel f k y)[i]? = some (if i < 2 ^ k then (v, 0#6) else f (y.getD (i - 2 ^ k) 0) v)) ∧
  (∀ (less : Nat → Nat → Bool) (j k i : Nat) (d : Bool) (ks e : List Nat), i + 2 ^ j < e.length → i.testBit j = false →
    (cxStage less j k d ks e).length = e.length ∧
    (let up := (!i.testBit k) != d
     let sw := if up then less (ks.getD (i + 2 ^ j) 0) (ks.getD i 0) else less (ks.getD i 0) (ks.getD (i + 2 ^ j) 0)
     (cxStage less j k d ks e).getD i 0 = (if sw = true then e.getD (i + 2 ^ j) 0 else e.getD i 0) ∧
     (cxStage less j k d ks e).getD (i + 2 ^ j) 0 = (if sw = true then e.getD i 0 else e.getD (i + 2 ^ j) 0))) ∧
  (∀ (x : VR) (g : Nat) (keys pay : List Row) (q j : Nat), pay.length = g → q < g → j < 8192 / x.w →
    ∃ row, (vCx x g keys pay).rows[q]? = some row ∧ (vCx x g keys pay).flags = 0#6 ∧
      elem row x.w j = (cxStage (keyLess x.ty.toNat) (x.fn.toNat / 8 % 16) (x.vc.toNat % 32) (x.vc.getLsbD 5)
        (keys.flatMap (fun r => elems r x.w)) (pay.flatMap (fun r => elems r x.w))).getD (q * (8192 / x.w) + j) 0 % 2 ^ x.w) ∧
  (∀ (x : VR) (ks s : Row) (u v : Nat), 2 ^ (x.fn.toNat % 16) ≤ 8192 / x.w → ∃ pos,
    pos = ((List.range (2 ^ (x.fn.toNat % 16))).filter (fun i =>
      if x.fn.getLsbD 4 = true then !keyLess x.ty.toNat u (elem ks x.w i) else !keyLess x.ty.toNat (elem ks x.w i) u)).length ∧
    Claims.lanes x.w (vInsert x ks s u v) (fun j =>
      (if j = pos ∧ pos < 2 ^ (x.fn.toNat % 16) then v else if pos < j ∧ j < 2 ^ (x.fn.toNat % 16) then elem s x.w (j - 1) else elem s x.w j, 0#6))) ∧
  (∀ (x : VR) (a old : Row), x.w < typeWidth x.st → (8192 / typeWidth x.st) * (x.part + 1) ≤ 8192 / x.w →
    ∃ row, (vCvt x a old).rows = [row] ∧ ∀ j, j < 8192 / x.w →
      elem row x.w j = (if (8192 / typeWidth x.st) * x.part ≤ j ∧ j < (8192 / typeWidth x.st) * (x.part + 1)
        then (convert x.ty.toNat x.st x.rm.toNat (x.fz == 1#1) (elem a (typeWidth x.st) (j - (8192 / typeWidth x.st) * x.part))).1 % 2 ^ x.w
        else elem old x.w j)) ∧
  (∀ (x : VR) (a old : Row), typeWidth x.st ≤ x.w →
    Claims.lanes x.w (vCvt x a old) (fun j =>
      convert x.ty.toNat x.st x.rm.toNat (x.fz == 1#1) (elem a (typeWidth x.st) (8192 / x.w * x.part + j)))) ∧
  (∀ (x : VR) (a b : Row),
    Claims.lanes x.w (vPack x a b) (fun j =>
      convert x.ty.toNat x.st x.rm.toNat (x.fz == 1#1) (elem (if j % 2 = 0 then a else b) (typeWidth x.st) (j / 2))) ∧
    Claims.lanes x.w (vUnpack x a) (fun j =>
      convert x.ty.toNat x.st x.rm.toNat (x.fz == 1#1) (elem a (typeWidth x.st) (2 * j + x.part % 2))) ∧
    Claims.lanes x.w (vDquant x a b) (fun j =>
      roundAny x.ty.toNat x.rm.toNat (x.fz == 1#1) true (scaled (readAny x.st (x.fz == 1#1)
        (elem a (typeWidth x.st) (8192 / x.w * x.part + j))) (elem b 8 (j / 32)) ((elem b 8 (j / 32) : Int) - 127)))) ∧
  (∀ (x : VR) (a b old : Row), x.w ≤ typeWidth x.st → (8192 / typeWidth x.st) * (x.part + 1) ≤ 8192 / x.w →
    ∃ row, (vQuant x a b old).rows = [row] ∧ ∀ j, j < 8192 / x.w →
      elem row x.w j = (if (8192 / typeWidth x.st) * x.part ≤ j ∧ j < (8192 / typeWidth x.st) * (x.part + 1)
        then (roundAny x.ty.toNat x.rm.toNat (x.fz == 1#1) true (scaled (readAny x.st (x.fz == 1#1)
            (elem a (typeWidth x.st) (j - (8192 / typeWidth x.st) * x.part)))
          (elem b 8 ((j - (8192 / typeWidth x.st) * x.part) / 32)) (127 - (elem b 8 ((j - (8192 / typeWidth x.st) * x.part) / 32) : Int)))).1 % 2 ^ x.w
        else elem old x.w j)) ∧
  (∀ (s : Bool) (m : Nat) (e f : Int) (c : Nat), c ≠ 255 → scaled (.fin s m e false) c f = .fin s m (f + e) false ∧
    scaled (.fin s m e false) 255 f = .nan false) ∧
  (∀ (t m : Nat) (e : Int), 10 ≤ t → t ≤ 12 → 0 < m →
    scaleCode t (.fin false m e) ≤ 254 ∧
    (scaleCode t (.fin false m e) < 254 →
      cmpDyadic m (e + 127 - scaleCode t (.fin false m e)) (maxFin t).1 (maxFin t).2 ≤ 0) ∧
    (0 < scaleCode t (.fin false m e) → 0 < cmpDyadic m (e + 128 - scaleCode t (.fin false m e)) (maxFin t).1 (maxFin t).2))

/-- 08 R228 to R231, 08 R217, R219, R221, R224, R232, R233: the configuration and the lease of the array: MLEASE gives the grant back and
asks for its panes, MREL gives it back, MCFG and MFSET load their registers, MFADV advances a feed register, MCFGR answers, each MWAIT
issues once what it waits for has come; a step whose checks pass is captured with MCFG and its feed offsets to wait at the array, takes one
unit of the grant's budget, the last of which gives the grant back, and writes no byte. -/
def Obligations.ArrayAndStepsIssue : Prop :=
  (∀ (x : MLe) (s : State) (g : Group) (p : Part), s.ready g .M p (.mlease x) → leaseExpired s.clk g = false →
    (∀ k ∈ panesOf x.mask.toNat, k ∈ s.panesIn s.cur.core) →
    exec (.mlease x) s = .next ((s.setCore s.cur.core (((s.core s.cur.core).unrequest s.cur.slot).request s.cur.slot x.mask s.clk)).issueWith
      { issued g .M p (.mlease x) with gm := 0#4, budget := 0, lm := x.mask })) ∧
  (∀ (x : M0) (s : State) (g : Group) (p : Part), s.ready g .M p (.mrel x) → leaseExpired s.clk g = false →
    exec (.mrel x) s = .next ((s.setCore s.cur.core ((s.core s.cur.core).unrequest s.cur.slot)).issueWith
      { issued g .M p (.mrel x) with gm := 0#4, budget := 0, lm := 0#4 })) ∧
  (∀ (x : MN) (s : State) (g : Group) (p : Part), s.ready g .M p (.mcfg x) → leaseExpired s.clk g = false →
    (g.nreg x.nr.toNat).toNat < 2 ^ 57 →
    exec (.mcfg x) s = .next (s.issueWith { issued g .M p (.mcfg x) with mcfg := g.nreg x.nr.toNat })) ∧
  (∀ (x : MRd) (s : State) (g : Group) (p : Part), s.ready g .M p (.mcfgr x) → leaseExpired s.clk g = false →
    exec (.mcfgr x) s = .next (s.issueWith ((issued g .M p (.mcfgr x)).resultN p.seq x.nr.toNat
      (mcfgrValue s s.cur g x.sel.toNat)))) ∧
  (∀ (x : MF) (s : State) (g : Group) (p : Part), s.ready g .M p (.mfset x) → leaseExpired s.clk g = false →
    feedOk (g.nreg x.nr.toNat) = true →
    exec (.mfset x) s = .next (s.issueWith { issued g .M p (.mfset x) with f := g.f.set x.fd.toNat (g.nreg x.nr.toNat) })) ∧
  (∀ (x : MF) (s : State) (g : Group) (p : Part), s.ready g .M p (.mfadv x) → leaseExpired s.clk g = false →
    exec (.mfadv x) s = .next (s.issueWith { issued g .M p (.mfadv x) with
      f := g.f.set x.fd.toNat (feedAdv (g.freg x.fd.toNat) ((g.nreg x.nr.toNat).setWidth 24).toInt) })) ∧
  (∀ (x : M0) (s : State) (g : Group) (p : Part), s.ready g .M p (.mwaitSteps x) → leaseExpired s.clk g = false →
    (s.core s.cur.core).stepsOf g.gid = [] →
    exec (.mwaitSteps x) s = .next (s.issueWith (issued g .M p (.mwaitSteps x)))) ∧
  (∀ (x : MWl) (s : State) (g : Group) (p : Part), s.ready g .M p (.mwaitLease x) → leaseExpired s.clk g = false →
    g.covers g.lm.toNat = true →
    exec (.mwaitLease x) s = .next (s.issueWith (issued g .M p (.mwaitLease x)))) ∧
  (∀ (x : MS), ∀ e ∈ Claims.steps x, ∀ (s : State) (g : Group) (p : Part), s.passes g .M p e.1 →
    ∃ t m h, exec e.1 s = .next t ∧ s.sameBytes t ∧ (t.core s.cur.core).steps = (s.core s.cur.core).steps ++ [m] ∧
      m.kind = e.2.1 ∧ m.gid = g.gid ∧ m.cfg = g.mcfg ∧ m.stage = .waiting ∧
      m.fa = (if e.2.2 then feedOffset (g.freg x.fa.toNat) else 0) ∧ m.fb = (if e.2.2 then feedOffset (g.freg x.fb.toNat) else 0) ∧
      t.group s.cur = some h ∧ h.n = g.n ∧ h.mcfg = g.mcfg ∧ (t.core s.cur.core).acc = (s.core s.cur.core).acc ∧
      (2 ≤ g.budget → h.budget = g.budget - 1 ∧ h.gm = g.gm) ∧ (g.budget ≤ 1 → h.budget = 0 ∧ h.gm = 0#4))

/-- 11 R298, R285, 11 R299, R301, R302: a copy form whose record passes its checks enters its channel's queue, last, with the record
captured, its start byte and its address space; it writes no byte; CPYL enters the head of a chain, or with no head completes at once; STAMP
enters its word's address and its sequence; CPYQ answers a channel's status, or the address that a stopped copy holds, in an n register. -/
def Obligations.CopiesEnterTheirChannel : Prop :=
  (∀ (x : CC), ∀ i ∈ Claims.copies x, ∀ (s : State) (g : Group) (p : Part) (l : List Byte), s.passes g .C p i →
    s.copyRead s.cur g (g.nreg x.na.toNat).toNat = .ok l →
    ∃ t j, exec i s = .next t ∧ s.sameBytes t ∧
      (s.cur.core < 160 → (t.core s.cur.core).copy.queue = (s.core s.cur.core).copy.queue ++ [j]) ∧
      j.record = l ∧ j.recAddr = (g.nreg x.na.toNat).toNat ∧ j.ch = x.ch.toNat ∧ j.kind = .copy ∧ j.owner = some g.gid ∧ j.asid = g.asid ∧
      j.start = (if x.useR = 1#1 then (g.nreg x.nb.toNat).toNat else 0) ∧ j.next = j.start ∧ j.ended = none) ∧
  (∀ (x : CL) (s : State) (g : Group) (p : Part), s.passes g .C p (.cpyl x) → g.nreg x.na.toNat ≠ 0#64 → s.cur.core < 160 →
    ∃ t j, exec (.cpyl x) s = .next t ∧ s.sameBytes t ∧ (t.core s.cur.core).copy.queue = (s.core s.cur.core).copy.queue ++ [j] ∧
      j.recAddr = (g.nreg x.na.toNat).toNat ∧ j.ch = x.ch.toNat ∧ j.kind = .chain ∧ j.owner = some g.gid ∧ j.asid = g.asid) ∧
  (∀ (x : CL) (s : State) (g : Group) (p : Part), s.passes g .C p (.cpyl x) → g.nreg x.na.toNat = 0#64 →
    (s.core s.cur.core).copy.parkedAt g.gid x.ch.toNat = none → twProduces p.tw = 0 →
    exec (.cpyl x) s = .next (s.issueWith (issued g .C p (.cpyl x)))) ∧
  (∀ (x : CS) (s : State) (g : Group) (p : Part), s.passes g .C p (.stamp x) → s.cur.core < 160 →
    ∃ t j, exec (.stamp x) s = .next t ∧ s.sameBytes t ∧ (t.core s.cur.core).copy.queue = (s.core s.cur.core).copy.queue ++ [j] ∧
      j.recAddr = (g.nreg x.na.toNat).toNat ∧ j.start = (g.nreg x.nb.toNat).toNat % 2 ^ 16 ∧ j.ch = x.ch.toNat ∧ j.kind = .stamp ∧
      j.owner = some g.gid ∧ j.asid = g.asid) ∧
  (∀ (x : CQ) (s : State) (g : Group) (p : Part), s.ready g .C p (.cpyq x) →
    exec (.cpyq x) s = .next (s.issueWith ((issued g .C p (.cpyq x)).resultN p.seq x.nd.toNat (word
      (if x.sel = 0#2 then (s.core s.cur.core).copy.status g.gid x.ch.toNat
       else match (s.core s.cur.core).copy.held.find? (fun h => h.gid == g.gid && h.ch == x.ch.toNat) with
        | some h => h.addr
        | none => 0))))) ∧
  (∀ (g : Group) (seq k : Nat) (v : Word), { g.resultN seq k v with fly := g.fly, ids := g.ids } = g ∧
    ∃ f, (g.resultN seq k v).fly = g.fly ++ [f] ∧ f.id = g.ids ∧ f.n = some (k, v) ∧ f.ember = none ∧ f.p = none ∧ f.vecs = [] ∧
      f.latch = none ∧ f.push = none ∧ f.flags = 0#6)

/-- 03 R81, R84, R85: KLD, KLDI and KMOV write a scale register, which a reader of a bundle four or more later sees; KLD reads 64 bytes of
the scratchpad, KLDI repeats its immediate. -/
def Obligations.ScaleLoads : Prop :=
  (∀ (x : KL) (s : State) (g : Group) (p : Part), s.passes g .K p (.kld x) →
    exec (.kld x) s = .next (s.issueWith ((issued g .K p (.kld x)).writeScale p.seq x.cd.toNat
      (BitVec.ofNat 512 (leNat ((List.range 64).map (fun i =>
        s.padByte s.cur.core ((g.areg x.src.toNat + word (64 * x.off.toNat)).toNat % 2 ^ 24 + i)))))))) ∧
  (∀ (x : KL) (s : State) (g : Group) (p : Part), s.ready g .K p (.kldi x) →
    ∃ v : Scales, exec (.kldi x) s = .next (s.issueWith ((issued g .K p (.kldi x)).writeScale p.seq x.cd.toNat v)) ∧
      ∀ j, j < 64 → (v.extractLsb' (8 * j) 8).toNat = 16 * x.off.toNat + x.src.toNat) ∧
  (∀ (x : KM) (s : State) (g : Group) (p : Part), s.ready g .K p (.kmov x) → g.scaleWait p.seq = false →
    exec (.kmov x) s = .next (s.issueWith ((issued g .K p (.kmov x)).writeScale p.seq x.cd.toNat (g.scaleAt p.seq x.src.toNat)))) ∧
  (∀ (g : Group) (seq k q : Nat) (v : Scales), (seq + 4 ≤ q → (g.writeScale seq k v).scaleAt q k = v) ∧
    (q < seq + 4 → g.cbuf = [] → ∀ j, (g.writeScale seq k v).scaleAt q j = g.scaleAt q j))

/-- 02 R31, R32, 04 R102: BUNDLE_DECODE dispatches the bundle at the pc: each part to the end of its slot's queue under the bundle's place
in program order, the pc to the next bundle; an illegal bundle waits until every earlier part has issued, then traps at the bundle (code 1), and a vector
register outside the window (code 2) likewise. -/
def Obligations.BundlesDispatch : Prop :=
  (∀ (s : State) (r : GRef) (g : Group) (o : Overlay) (b : Bundle), s.group r = some g → canDispatch s r g = true →
    s.residentFor r g = some o → decodeBundle (o.bundleAt g.pc) = .ok b → (∀ c ∈ b.windowRegs, c < g.win) →
    exec (.bundleDecode r) s = .next ((s.setCore r.core ((s.core r.core).touch o s.clk)).setGroup r (g.tidy.dispatch (o.bundleAt g.pc) b))) ∧
  (∀ (g : Group) (w : BitVec 256) (b : Bundle) (k : Slot), g.skip = [0, 0, 0, 0, 0, 0] →
    (g.dispatch w b).pc = (g.pc + 32) % 2 ^ 56 ∧ (g.dispatch w b).seq = g.seq + 1 ∧ (g.dispatch w b).n = g.n ∧ (g.dispatch w b).p = g.p ∧
    ∃ q : Part, (g.dispatch w b).slotQ k = g.slotQ k ++ [q] ∧ q.addr = g.pc ∧ q.seq = g.seq ∧ q.hdr = b.hdr ∧ q.tw = b.tw ∧
      q.word = bundlePart w k) ∧
  (∀ (s : State) (r : GRef) (g : Group) (o : Overlay) (info : Nat), s.group r = some g → canDispatch s r g = true →
    s.residentFor r g = some o → decodeBundle (o.bundleAt g.pc) = .error info →
    g.allIssued = true ∧
    exec (.bundleDecode r) s = .next (trapBundle (s.setCore r.core ((s.core r.core).touch o s.clk)) r g 1 info 0 g.pc)) ∧
  (∀ (s : State) (r : GRef) (g : Group) (o : Overlay) (b : Bundle) (c : Nat), s.group r = some g → canDispatch s r g = true →
    s.residentFor r g = some o → decodeBundle (o.bundleAt g.pc) = .ok b → c ∈ b.windowRegs → g.win ≤ c →
    g.allIssued = true ∧
    exec (.bundleDecode r) s = .next (trapBundle (s.setCore r.core ((s.core r.core).touch o s.clk)) r g 2 0 0 g.pc))

/-- 04 R105, 04 R107, 02 R36: after its end bundle a loop goes back to its START with the next INDEX while iterations remain, and else is left
at the bundle past its END; an end bundle that comes up with no loop open, or at another address than the innermost loop's END, takes the
control-structure trap (code 4) at the bundle, with SLOT 6 and no offset, none of its parts issuing; the rotation moves p8 to p14 up by one
and sets p8 while the innermost loop's source iterations go on, as the loop stack stood when the bundle was fetched (the model's choice, log
22). -/
def Obligations.LoopEndsAndRotations : Prop :=
  (∀ (s : State) (r : GRef) (g : Group) (h : HdrEntry) (e : LoopEntry) (rest : List LoopEntry), s.group r = some g →
    g.qh.find? g.loopEndDue = some h → g.loops = e :: rest →
    exec (.loopEnd r) s = .next (s.setGroup r
      (if e.index + 1 < e.count + e.drain then
        { g with loops := { e with index := e.index + 1 } :: rest, pc := e.start, qh := g.qh.filter (fun x => decide (x.seq ≠ h.seq)) }
       else { g with loops := rest, pc := (e.stop + 32) % 2 ^ 56, qh := g.qh.filter (fun x => decide (x.seq ≠ h.seq)) }))) ∧
  (∀ (i : Instr) (s : State) (g : Group) (p : Part), slotOf i = some .S → s.headOf .S = some (g, p) → s.joint = none → s.serving = true →
    heldBack s s.cur g = false → s.hasTurn s.cur = true → hazard g .S p i true = false →
    (∀ x ∈ syncMates g .S p, verdictAlone s s.cur g x.1 x.2 x.2.instr true ≠ .wait) → hdrLE p.hdr = true →
    (g.loops = [] ∨ ∃ e rest, g.loops = e :: rest ∧ e.stop ≠ p.addr) →
    exec i s = .next (trapBundle (s.noteIssue s.cur) s.cur g 4 0 0 p.addr)) ∧
  (∀ (s : State) (r : GRef) (g : Group) (h : HdrEntry), s.group r = some g → g.qh.find? g.rotateDue = some h →
    ∃ t, exec (.rotate r) s = .next (s.setGroup r t) ∧
      (∀ k, k < 8 → t.p.getD k false = g.p.getD k false) ∧
      (∀ k, 9 ≤ k → k < 16 → t.p.getD k false = g.p.getD (k - 1) false) ∧
      t.p.getD 8 false = h.p8 ∧ { t with p := g.p, qh := g.qh, pOld := g.pOld } = g ∧ (t.qh.find? (fun x => x.seq == h.seq)).map (·.rotated) = some true) ∧
  (∀ (g : Group) (w : BitVec 256) (b : Bundle), (g.dispatch w b).qh = g.qh ∨ ∃ h, (g.dispatch w b).qh = g.qh ++ [h] ∧ h.seq = g.seq ∧
    h.addr = g.pc ∧ h.rs = hdrRS b.hdr ∧ h.le = hdrLE b.hdr ∧
    h.p8 = (match g.loops with
      | e :: _ => decide (e.index + 1 < e.count)
      | [] => false)) ∧
  (∀ (g : Group) (w : BitVec 256) (b : Bundle), hdrRS b.hdr = true ∨ hdrLE b.hdr = true →
    ((g.dispatch w b).qh.find? (fun h => h.seq == g.seq)).isSome = true)

/-- 04 R100, 02 R40, 02 R34, 03 R73, 05 R138: a part that completes writes its n register, its predicate (p0 excepted) and its vector
registers, fills the ember and the latch places that it took and that are still its own, held ones too, gives its row to its stream's
store-data queue, and ORs its flags; what is kept from before a bundle takes the results of earlier parts; nothing else of the group but its
record changes, where it pushes no stream, and else its oldest store without data takes the stream's oldest entry. -/
def Obligations.PartCompletionWrites : Prop :=
  (∀ (s : State) (r : GRef) (g : Group) (idx : Nat) (f : InFlight), s.group r = some g → g.fly[idx]? = some f → f.push = none →
    exec (.partCompletion r idx) s = .next (s.setGroup r (g.complete f))) ∧
  (∀ (s : State) (r : GRef) (g : Group) (idx : Nat) (f : InFlight) (k : Nat) (row : Row), s.group r = some g → g.fly[idx]? = some f →
    f.push = some (k, row) → earlierPush g idx f = false →
    exec (.partCompletion r idx) s = .next (s.setGroup r ((g.complete f).matchStore k))) ∧
  (∀ (g : Group) (f : InFlight),
    (g.complete f).n = (match f.n with
      | some (k, v) => g.n.set k v
      | none => g.n) ∧
    (g.complete f).p = (match f.p with
      | some (k, b) => if k = 0 then g.p else g.p.set k b
      | none => g.p) ∧
    (g.complete f).e = (match f.ember with
      | some w => g.e.map (fun x => if x = .awaiting f.id then .filled w else x)
      | none => g.e) ∧
    (g.complete f).lat = (match f.latch with
      | some r => g.lat.map (fun x => if x = .awaiting f.id then .filled r else x)
      | none => g.lat) ∧
    (g.complete f).held = (match f.latch with
      | some r => g.held.map (fun x => if x = .awaiting f.id then .filled r else x)
      | none => g.held) ∧
    (SMap.wfFrom VReg.zero none g.vregs = true → ∀ c, (g.complete f).vreg c = (match (f.vecs.filter (fun x => decide (x.1 = c))).getLast? with
      | some x => ⟨x.2, none⟩
      | none => g.vreg c)) ∧
    (g.complete f).sdata = (match f.push with
      | some (k, row) => g.sdata.set k (g.sdata.getD k [] ++ [row])
      | none => g.sdata) ∧
    (g.complete f).fpflags = g.fpflags ||| f.flags ∧
    (g.complete f).pOld = g.pOld.map (fun (x : Before) => if f.seq < x.seq then
      { x with
        flags := x.flags ||| f.flags
        p := (match f.p with
          | some (k, b) => x.p.set k b
          | none => x.p) } else x) ∧
    (g.complete f).fly = g.fly.filter (fun x => decide (x.id ≠ f.id)) ∧
    { g.complete f with
      n := g.n, p := g.p, e := g.e, lat := g.lat, held := g.held, vregs := g.vregs, sdata := g.sdata, fpflags := g.fpflags
      pOld := g.pOld, fly := g.fly } = g)

/-- 05 R136, R141, R143, R150, 17 R418: a load piece that may be performed reads its bytes, and the last one delivers the whole: to its vector
register, to its stream's load-data queue, or nowhere; a load writes no byte. The events whose numbers go on from the count of its pieces
are those of a load after a MONW at .g that reads memory as it stood before (log 92, the model's). -/
def Obligations.LoadsDeliver : Prop :=
  ∀ (s : State) (r : GRef) (st piece n : Nat) (evict : List Nat) (g : Group) (a b : Access) (rd : Piece → List Byte × Option Poison),
    s.group r = some g → g.headLoad st = some a → s.serving = true → isMonw a = false → a.granted = true → g.fenced a = false →
    g.dataRoom a = true → g.pieceReady (s.core r.core) a piece = true →
    ((n = piece ∧ rd = s.readPiece r a) ∨
      (n = a.pieces.length + piece ∧ ∃ m, g.pastFor a = some m ∧ rd = fun y => (m.readN y.pa y.len, (s.readPiece r a y).2))) →
    b = ((a.together piece).foldl (fun (x : Access) y => x.take y (rd y)) a).doPieces (a.together piece) →
    ∃ t h, exec (.loadPerformed r st n evict) s = .next t ∧ s.sameBytes t ∧ t.group r = some h ∧ h.n = g.n ∧ h.e = g.e ∧ h.a = g.a ∧
      h.stores = g.stores ∧
      (b.performed = false → h.vregs = g.vregs ∧ h.ldata = g.ldata ∧ h.loads = g.loads.map (fun x => if x.ord = a.ord then b else x)) ∧
      (b.performed = true → h.loads = g.loads.filter (fun x => decide (x.ord ≠ a.ord)) ∧
        (∀ c, a.dst = .reg c → h.ldata = g.ldata ∧ h.vregs = (g.setV c b.got b.poison).vregs) ∧
        (a.dst = .queue → h.vregs = g.vregs ∧ h.ldata = g.ldata.set a.stream (g.ldataOf a.stream ++ [⟨b.got, b.poison⟩])) ∧
        (a.dst = .discard → h.vregs = g.vregs ∧ h.ldata = g.ldata))

/-- 05 R155, 14 R382: a store piece that is performed writes its bytes of the row at its own place, and no other byte of any memory; one
that would merge into a granule with an uncorrectable error writes none and leaves an asynchronous data-error trap, and one that
covers its granule leaves it readable, where it comes into the LLC or no lamp test of its channel runs. -/
def Obligations.StorePerformedWritesItsBytes : Prop :=
  ∀ (s : State) (r : GRef) (st piece : Nat) (g : Group) (a : Access) (y : Piece) (row : Row), s.memsWf →
    Memory.wf (s.core r.core).hamper = true → s.group r = some g → g.headStore st = some a → a.pieces[piece]? = some y →
    s.serving = true → a.isAtomic = false → a.granted = true → a.data = some row → g.fenced a = false → y.done = false →
    ∃ t, exec (.storePerformed r st piece) s = .next t ∧
      (y.space = .dev → ((∀ u, s.readErr y.pa ≠ .bad u) ∨ (y.pa % 16 = 0 ∧ y.len = 16)) →
        (∀ i, i < y.len → t.memByte (y.pa + i) = row.extractLsb' (8 * (y.off + i)) 8) ∧
        (∀ x, (x < y.pa ∨ y.pa + y.len ≤ x) → t.memByte x = s.memByte x) ∧ (∀ x, t.hostByte x = s.hostByte x) ∧
        ∀ c x, t.padByte c x = s.padByte c x) ∧
      (y.space = .dev → ∀ u, s.readErr y.pa = .bad u → ¬ (y.pa % 16 = 0 ∧ y.len = 16) →
        s.sameBytes t ∧ ∃ h, t.group r = some h ∧ h.trap.dataErr.isSome = true) ∧
      (y.space = .dev → y.pa % 16 = 0 → y.len = 16 → SMap.wfFrom 0 none s.poison = true →
        (a.kind.allocates = true ∨ ∀ j ∈ s.lamps, j.unit ≠ partUnit y.pa) → ∀ u, t.readErr y.pa ≠ .bad u) ∧
      (y.space = .host → (∀ i, i < y.len → t.hostByte (y.pa + i) = row.extractLsb' (8 * (y.off + i)) 8) ∧
        (∀ x, (x < y.pa ∨ y.pa + y.len ≤ x) → t.hostByte x = s.hostByte x) ∧ (∀ x, t.memByte x = s.memByte x) ∧
        ∀ c x, t.padByte c x = s.padByte c x) ∧
      (y.space = .pad → (∀ i, i < y.len → t.padByte r.core (y.pa + i) = row.extractLsb' (8 * (y.off + i)) 8) ∧
        (∀ x, (x < y.pa ∨ y.pa + y.len ≤ x) → t.padByte r.core x = s.padByte r.core x) ∧
        (∀ c x, c ≠ r.core → t.padByte c x = s.padByte c x) ∧ (∀ x, t.memByte x = s.memByte x) ∧ ∀ x, t.hostByte x = s.hostByte x)

/-- 05 R140, 06 R165, R170: the next pair in turn whose access can take all its tags is granted them; an access performed at its home leaves
its stream's queue at its acknowledgement; one to a host-backed page then waits for the host's, which the host gives. -/
def Obligations.TagsAndAcknowledgements : Prop :=
  (∀ (s : State) (c slot st : Nat) (a : Access) (g : Group), (s.core c).nextGrant = some (slot, st, a) → s.serving = true →
    (s.core c).tagsHeld a.isWrite + a.tags ≤ (if a.isWrite then Config.writeTags else Config.readTags) → slot < 8 →
    s.group ⟨c, slot⟩ = some g →
    ∃ t h, exec (.tagGrant c) s = .next t ∧ t.group ⟨c, slot⟩ = some h ∧ s.sameBytes t ∧
      h.loads = g.loads.map (fun b => if b.ord = a.ord then { b with granted := true } else b) ∧
      h.stores = g.stores.map (fun b => if b.ord = a.ord then { b with granted := true } else b) ∧
      { h with loads := g.loads, stores := g.stores } = g ∧ (t.core c).tagRR = 16 * slot + st) ∧
  (∀ (s : State) (r : GRef) (st : Nat) (g : Group) (a : Access), s.group r = some g → s.serving = true →
    g.stores.find? (fun x => x.stream == st) = some a → a.performed = true →
    exec (.writeAcknowledgement r st) s = .next ((s.setGroup r { g with
      stores := g.stores.filter (fun b => decide (b.ord ≠ a.ord))
      hostUnacked := if a.pieces.any (fun y => y.space == .host) then g.hostUnacked ++ [st] else g.hostUnacked }).settle r)) ∧
  (∀ (s : State) (r : GRef) (st : Nat) (g : Group), s.group r = some g → s.serving = true → st ∈ g.hostUnacked →
    exec (.hostStoreAcknowledgement r st) s = .next ((s.setGroup r { g with hostUnacked := g.hostUnacked.erase st }).settle r))

/-- 05 R161, Table 5.5: an atomic reads its word and writes the value of its operation in one event, changes no other byte,
and with return delivers the old value to its stream's load-data queue; the operations, as sums modulo the width, signed and unsigned
extremes, bits, exchange and compare-exchange. -/
def Obligations.AtomicsReadAndWrite : Prop :=
  (∀ (s : State) (r : GRef) (st op : Nat) (ret : Bool) (g : Group) (a : Access) (y : Piece), s.memsWf → s.group r = some g →
    g.headStore st = some a → a.kind = .atomic op ret → a.pieces = [y] → s.serving = true → a.granted = true → g.fenced a = false →
    g.dataRoom a = true → (ret = true → ∀ b ∈ g.loads, b.stream = st → a.ord ≤ b.ord) →
    y.space = .dev → y.len = a.size → (s.atomicRead r y).2 = none → st < g.ldata.length →
    ∃ t h, exec (.atomicPerformed r st) s = .next t ∧ t.group r = some h ∧
      leNat (t.mem.readN y.pa y.len) = atomicOp op a.size (leNat (s.mem.readN y.pa y.len)) (a.val.toNat % 2 ^ (8 * a.size))
        (a.cmp.toNat % 2 ^ (8 * a.size)) % 2 ^ (8 * a.size) ∧
      (∀ x, (x < y.pa ∨ y.pa + y.len ≤ x) → t.memByte x = s.memByte x) ∧ (∀ x, t.hostByte x = s.hostByte x) ∧
      (∀ c x, t.padByte c x = s.padByte c x) ∧
      (ret = true → h.ldataOf st = g.ldataOf st ++ [⟨BitVec.ofNat 8192 (leNat (s.mem.readN y.pa y.len)), none⟩]) ∧
      (ret = false → h.ldata = g.ldata)) ∧
  (∀ (z m v c : Nat), 0 < z → m < 2 ^ (8 * z) → v < 2 ^ (8 * z) → c < 2 ^ (8 * z) →
    atomicOp 0x10 z m v c = (m + v) % 2 ^ (8 * z) ∧
    atomicOp 0x12 z m v c = (if (m + 2 ^ (8 * z - 1)) % 2 ^ (8 * z) ≤ (v + 2 ^ (8 * z - 1)) % 2 ^ (8 * z) then m else v) ∧
    atomicOp 0x13 z m v c = (if (m + 2 ^ (8 * z - 1)) % 2 ^ (8 * z) ≤ (v + 2 ^ (8 * z - 1)) % 2 ^ (8 * z) then v else m) ∧
    atomicOp 0x14 z m v c = min m v ∧ atomicOp 0x15 z m v c = max m v ∧
    atomicOp 0x16 z m v c = m &&& v ∧ atomicOp 0x17 z m v c = m ||| v ∧ atomicOp 0x18 z m v c = m ^^^ v ∧
    atomicOp 0x19 z m v c = v ∧ atomicOp 0x1A z m v c = (if m = c then v else m) ∧
    ∀ op, op ≠ 0x11 → atomicOp op z m v c < 2 ^ (8 * z))

/-- 05 R158, R159: a MONW whose checks pass takes its place in load order, without a turn of the core, and waits there; once its word was found to satisfy it,
it leaves the queue, issues, and acquires at its scope; MONW's word is read when its place in load order has come, and its condition is the
masked comparison. One at .g before which the group has no access outstanding keeps memory as it stands, for the load after it (log 92, the
model's). -/
def Obligations.MonwWaitsItsTurn : Prop :=
  (∀ (x : AX) (s : State) (g : Group) (p : Part), s.headOf .A = some (g, p) → s.joint = none → s.serving = true → heldBack s s.cur g = false →
    hazard g .A p (.monw x) false = false → leBad g p = false → g.predOn p (.monw x) = true → g.monwAt p.seq = none →
    monwReady s s.cur g x = true →
    ∃ h a, exec (.monw x) s = .next (s.setGroup s.cur h) ∧ h.loads = g.loads ++ [a] ∧ { h with loads := g.loads, ord := g.ord, past := g.past } = g ∧
      h.past = (if x.scope = 0#3 ∧ g.loads = [] ∧ g.stores = [] ∧ g.fences = [] then some ⟨g.ord, p.seq, x.st.toNat, s.mem⟩ else none) ∧
      isMonw a = true ∧ a.seq = p.seq ∧ a.ea = (g.areg x.base.toNat).toNat ∧ a.cmp = (s.operand g x.cmp).setWidth 128 ∧
      a.val = (s.operand g x.val).setWidth 128 ∧ a.sat = false) ∧
  (∀ (x : AX) (s : State) (g : Group) (p : Part) (a : Access), s.ready g .A p (.monw x) → g.monwAt p.seq = some a → a.poison = none →
    a.sat = true →
    exec (.monw x) s = .next (((s.setGroup s.cur (issueMonw (issued g .A p (.monw x)) p.seq x)).settle s.cur).afterIssue s.cur)) ∧
  (∀ (s : State) (r : GRef) (g : Group) (a : Access) (y : Piece), s.group r = some g → g.loads.find? isMonw = some a →
    g.headLoad a.stream = some a → a.pieces = [y] → s.serving = true → a.granted = true → g.fenced a = false → a.sat = false →
    a.poison = none → (s.atomicRead r y).2 = none →
    ∃ t h, exec (.monwTest r) s = .next t ∧ s.sameBytes t ∧ t.group r = some h ∧
      h.loads = g.loads.map (fun b => if b.ord = a.ord then { a with
        sat := decide (Nat.land (s.atomicRead r y).1 (a.cmp.toNat % 2 ^ (8 * a.size)) = a.val.toNat % 2 ^ (8 * a.size)) != a.ne } else b) ∧
      { h with loads := g.loads } = g) ∧
  (∀ (x : AX) (s : State) (g : Group), Claims.accessGoes s g (g.areg x.base.toNat).toNat (accessBytes x.size) true
      (s.asWrite s.cur g ⟨(g.areg x.base.toNat).toNat, accessBytes x.size, true, false, false, false⟩) false false →
    g.loadQ x.st.toNat < Config.addrDepth → monwReady s s.cur g x = true)


namespace Sys2Proof.Claims

/-- The job of a started copy or chain record that comes to its chunk's next reads: nothing of the chunk is written yet, and the pages of its
index words and of its destination are translated (11 R288, R294). -/
def chunkDue (s : State) (eng run : Nat) (j : CopyJob) : Prop :=
  (s.engine eng).runs[run]? = some j ∧ s.serving = true ∧ j.kind ≠ .stamp ∧ j.loaded = true ∧ j.ended = none ∧ j.puts = [] ∧
  s.spanOf (engUnit eng) j.asid false (j.xrec.idxVas j.chunk) = .ok ∧
  s.spanOf (engUnit eng) j.asid true (j.chunk.map (fun i => (j.xrec.at (fun _ => 0) i).2)) = .ok

/-- The source bytes of a chunk whose index words are read. -/
def sources (j : CopyJob) : List Nat := (j.moves.flatMap (fun m => m.1.vas)).dedup

/-- The reads of the chunk still to come: its index words first, then its source bytes, whose pages are translated (11 R288). -/
def readsLeft (s : State) (eng : Nat) (j : CopyJob) (left : List Nat) : Prop :=
  left ≠ [] ∧ (left = j.unread (j.xrec.idxVas j.chunk) ∨ (j.unread (j.xrec.idxVas j.chunk) = [] ∧ left = j.unread (sources j) ∧
    s.spanOf (engUnit eng) j.asid false (sources j) = .ok))

end Sys2Proof.Claims

/-- 11 R288, R289, R293, R294: a copy moves its next 4 KiB by pieces: each read piece is a granule, or in global memory a sector, that it
reads at one instant; with every byte read its writes stand ready, one piece for each granule, and nothing is written before; each write piece
changes the bytes of its granule in one event, in no fixed order, and after the last BDONE's next byte has advanced by the chunk, and the copy has
ended once all is moved, CANCELLED where a SNUFF has reached it. An uncorrectable error among the bytes read, or in a granule that a write
would merge into, found before any of the chunk's writes (log 84, the model's), stops it as ERROR with ECODE 1 or 2 and the bytes of the
chunks before, and a refused page as FAULT with ECODE 3; none of them writes a byte. A chunk that met a demand fault runs from its start once
its pages are there. -/
def Obligations.CopyChunksMove : Prop :=
  (∀ (s : State) (eng run piece : Nat) (j : CopyJob) (left mine : List Nat), Claims.chunkDue s eng run j → j.faulted = false →
    Claims.readsLeft s eng j left →
    mine = left.filter (fun a => (j.on eng).pieceOf a ==
      ((left.map (j.on eng).pieceOf).dedup).getD (piece % ((left.map (j.on eng).pieceOf).dedup).length) 0) →
    ∃ (t : State) (k : CopyJob), exec (.copyChunk eng ⟨run, piece⟩) s = .next t ∧ s.sameBytes t ∧ (t.engine eng).runs[run]? = some k ∧
      (mine.findSome? (s.engErr true (j.on eng)) = none →
        k.got = j.got ++ mine.map (fun a => (a, s.engByte true (j.on eng) a)) ∧ { k with got := j.got } = j) ∧
      (∀ q, mine.findSome? (s.engErr true (j.on eng)) = some q → k = { j with ended := some ⟨1, 1, j.next⟩, got := [], puts := [] })) ∧
  (∀ (s : State) (eng run piece : Nat) (j : CopyJob) (ws : List (Nat × Byte)), Claims.chunkDue s eng run j → j.faulted = false →
    j.unread (j.xrec.idxVas j.chunk) = [] → s.spanOf (engUnit eng) j.asid false (Claims.sources j) = .ok → j.unread (Claims.sources j) = [] →
    ws = (j.chunk.map (j.xrec.at j.idxOf)).map (fun m => (m.2, m.1.val j.gotAt)) →
    ∃ (t : State) (k : CopyJob), exec (.copyChunk eng ⟨run, piece⟩) s = .next t ∧ s.sameBytes t ∧ (t.engine eng).runs[run]? = some k ∧
      (s.engMergeErr (j.on eng) ws = none → k.got = [] ∧ k.puts = s.putsOf (j.on eng) ws ∧ k.next = j.next ∧ k.ended = none ∧
        { k with got := j.got, puts := j.puts, oob := j.oob } = j) ∧
      (∀ q, s.engMergeErr (j.on eng) ws = some q → k = { j with ended := some ⟨1, 2, j.next⟩, got := [], puts := [] })) ∧
  (∀ (s : State) (eng run piece : Nat) (j : CopyJob) (p : CopyPut), (s.engine eng).runs[run]? = some j → s.serving = true →
    j.kind ≠ .stamp → j.loaded = true → j.ended = none → j.puts[piece % j.puts.length]? = some p →
    ∃ (t : State) (k : CopyJob), exec (.copyChunk eng ⟨run, piece⟩) s = .next t ∧ (t.engine eng).runs[run]? = some k ∧
      t.mem = (if p.space = .dev then p.bytes.foldl (fun m x => m.write (p.pa + x.1 % 16) x.2) s.mem else s.mem) ∧
      t.host = (if p.space = .host then p.bytes.foldl (fun m x => m.write (p.pa + x.1 % 16) x.2) s.host else s.host) ∧
      (∀ c, c ≠ eng ∨ p.space ≠ .pad ∨ isAccWin p.va = true → (t.core c).hamper = (s.core c).hamper) ∧
      (p.space = .pad → isAccWin p.va = false → eng < 160 → (s.core eng).savedPad = [] → (s.core eng).task = some j.taskOf →
        (t.core eng).hamper = p.bytes.foldl (fun m x => m.write (p.va % 2 ^ 48 + x.1 % 16) x.2) (s.core eng).hamper) ∧
      (2 ≤ j.puts.length → k = { j with puts := j.puts.eraseIdx (piece % j.puts.length) }) ∧
      (j.puts.length = 1 → k = { j with
        puts := []
        next := j.next + j.chunk.length
        ended := if j.cut.isSome = true then some ⟨3, 0, j.next + j.chunk.length⟩
          else if j.next + j.chunk.length = j.xrec.len then some ⟨0, 0, j.xrec.len⟩ else none })) ∧
  (∀ (s : State) (eng run piece a : Nat) (j : CopyJob), (s.engine eng).runs[run]? = some j → s.serving = true → j.kind ≠ .stamp →
    j.loaded = true → j.ended = none → j.puts = [] →
    (s.spanOf (engUnit eng) j.asid false (j.xrec.idxVas j.chunk) = .refused a ∨
      s.spanOf (engUnit eng) j.asid true (j.chunk.map (fun i => (j.xrec.at (fun _ => 0) i).2)) = .refused a) →
    ∃ (t : State) (k : CopyJob), exec (.copyChunk eng ⟨run, piece⟩) s = .next t ∧ s.sameBytes t ∧ (t.engine eng).runs[run]? = some k ∧
      k = { j with ended := some ⟨2, 3, j.next⟩, got := [], puts := [], faulted := false }) ∧
  (∀ (s : State) (eng run piece : Nat) (j : CopyJob), Claims.chunkDue s eng run j →
    j.unread (j.xrec.idxVas j.chunk) = [] →
    (j.faulted = true → s.spanOf (engUnit eng) j.asid false (Claims.sources j) = .ok →
      exec (.copyChunk eng ⟨run, piece⟩) s = .next (s.mapRun eng run (fun k => { k with faulted := false, got := [] }))) ∧
    (∀ a ∈ Claims.sources j, isGlobal a = true → s.spanOf (engUnit eng) j.asid false (Claims.sources j) = .miss →
      s.translate (engUnit eng) j.asid a false = .miss → s.walkGives (engUnit eng) j.asid a false = false →
      exec (.copyChunk eng ⟨run, piece⟩) s = .next (s.mapRun eng run (fun k => { k with faulted := true })))) ∧
  (∀ (s : State) (w : EngFor) (l : List (Nat × Byte)) (p : CopyPut), p ∈ s.putsOf w l →
    p.va % 16 = 0 ∧ p.bytes = l.filter (fun x => x.1 / 16 == p.va / 16) ∧ (isGlobal p.va = false ↔ p.space = .pad) ∧
    (p.space ≠ .pad → s.physical w.unit w.asid p.va = some (p.pa, decide (p.space = .host))))

/-- 11 R285, R290 to R292, R299, R300: the head of a channel's queue starts once the productions it consumes have completed
and no chain is on the channel: it leaves the queue and joins the started entries, ended at once as SKIPPED (status 4) where a production
failed; an entry that has ended writes its stamp where it has one, a chain's record giving back its OWN bit first, in the same event (log 30,
the model's choice), and one that failed its checks keeping it; then the entry ends, or its chain, where its record completed and names a
next one, goes on to that. -/
def Obligations.CopiesStartAndEnd : Prop :=
  (∀ (s : State) (eng ch : Nat) (j : CopyJob), (s.engine eng).queue.find? (fun x => x.ch == ch) = some j → s.serving = true →
    (s.engine eng).chained ch = false → s.waitsDone j.owner j.waits = true →
    (s.waitsFailed j.owner j.waits = false ∨ j.kind ≠ .chain →
      ∃ k, exec (.copyStart eng ch) s = .next (s.setEngine eng { s.engine eng with
          queue := (s.engine eng).queue.filter (fun x => decide (x.id ≠ j.id)), runs := (s.engine eng).runs ++ [k] }) ∧
        k.record = j.record ∧ k.ch = j.ch ∧ k.kind = j.kind ∧
        (s.waitsFailed j.owner j.waits = true → k.ended.map (·.status) = some 4) ∧
        (s.waitsFailed j.owner j.waits = false → j.kind = .copy → j.start ≠ j.xrec.len →
          k.next = j.start ∧ k.loaded = true ∧ k.ended = none)) ∧
    (s.waitsFailed j.owner j.waits = true → j.kind = .chain →
      exec (.copyStart eng ch) s = .next ((s.setEngine eng { s.engine eng with
        queue := (s.engine eng).queue.filter (fun x => decide (x.id ≠ j.id)) }).finishJob j false))) ∧
  (∀ (s t : State) (eng run : Nat) (j : CopyJob) (e : CopyEnd), (s.engine eng).runs[run]? = some j → j.ended = some e → s.serving = true →
    j.kind ≠ .chain → j.noStamp = false → (j.kind = .stamp ∨ j.xrec.skip = false) →
    s.smallWrite eng j j.stampAt.1 (natLE 8 (stampWord e.status j.stampAt.2 e.ecode e.bdone j.oob)) = .ok t →
    exec (.completionStamp eng run) s = .next ((t.dropRun eng run).finishJob j (e.status == 0))) ∧
  (∀ (s : State) (eng run : Nat) (j : CopyJob) (e : CopyEnd), (s.engine eng).runs[run]? = some j → j.ended = some e → s.serving = true →
    j.kind = .copy → j.xrec.skip = true →
    exec (.completionStamp eng run) s = .next ((s.dropRun eng run).finishJob j (e.status == 0))) ∧
  (∀ (s t : State) (eng run : Nat) (j : CopyJob) (e : CopyEnd), (s.engine eng).runs[run]? = some j → j.ended = some e → s.serving = true →
    j.kind = .chain → j.keepOwn = false → j.xrec.skip = true →
    s.smallWrite eng j (j.recAddr + 1) [(j.record.getD 1 0#8) &&& 0xFE#8] = .ok t →
    exec (.completionStamp eng run) s = .next (t.afterStamp eng run j true)) ∧
  (∀ (s t u : State) (eng run : Nat) (j : CopyJob) (e : CopyEnd), (s.engine eng).runs[run]? = some j → j.ended = some e → s.serving = true →
    j.kind = .chain → j.noStamp = false → j.xrec.skip = false →
    s.spanOf (engUnit eng) j.asid true ((List.range 8).map (j.stampAt.1 + ·)) ≠ .miss →
    (j.keepOwn = false → s.smallWrite eng j (j.recAddr + 1) [(j.record.getD 1 0#8) &&& 0xFE#8] = .ok t) → (j.keepOwn = true → t = s) →
    t.smallWrite eng j j.stampAt.1 (natLE 8 (stampWord e.status j.stampAt.2 e.ecode e.bdone j.oob)) = .ok u →
    exec (.completionStamp eng run) s = .next (u.afterStamp eng run j true)) ∧
  (∀ (s : State) (eng run : Nat) (j : CopyJob) (e : CopyEnd), j.ended = some e → j.kind = .chain →
    (e.status = 0 → j.cut = none → j.xrec.next ≠ 0 → s.afterStamp eng run j true = s.mapRun eng run (fun k => { k with
      recAddr := k.xrec.next, record := [], next := 0, loaded := false, ended := none, oob := false, got := [], puts := [], faulted := false })) ∧
    ((e.status ≠ 0 ∨ j.xrec.next = 0) → s.afterStamp eng run j true = (s.dropRun eng run).finishJob j (e.status == 0)))

/-- 11 R299, R300: a chain reads the record it has reached: with OWN clear it parks and moves nothing, with OWN set it takes the record up
and acquires; a parked one reads again once a write has changed its record's first granule, and not before. -/
def Obligations.ChainsReadTheirRecords : Prop :=
  (∀ (s : State) (eng run : Nat) (j : CopyJob) (l : List Byte), (s.engine eng).runs[run]? = some j → s.serving = true → j.kind = .chain →
    j.loaded = false → j.parked = false → j.ended = none → s.engRead (j.on eng) j.recAddr 64 = .ok l →
    ((recOf l).own = false → ∃ u, s.sameBytes u ∧ u.cores = s.cores ∧
      exec (.chainRecordRead eng run) s = .next (u.mapRun eng run (fun k => { k with parked := true, seen := l.take 16 }))) ∧
    ((recOf l).own = true → chainBad (recOf l) (s.engBnd (j.on eng)) (s.jobWin j).1 (s.jobWin j).2 = false →
      ∃ u, s.sameBytes u ∧ exec (.chainRecordRead eng run) s = .next (u.mapRun eng run (fun k => { k with
        record := l, loaded := true, next := 0, ended := if (recOf l).len = 0 then some ⟨0, 0, 0⟩ else none })))) ∧
  (∀ (s : State) (eng run : Nat) (j : CopyJob) (l : List Nat), (s.engine eng).runs[run]? = some j → s.serving = true → j.parked = true →
    l = (List.range 16).map (j.recAddr + ·) →
    (s.spanOf (engUnit eng) j.asid false l = .ok → l.map (s.engByte false (j.on eng)) ≠ j.seen →
      exec (.chainUnpark eng run) s = .next (s.mapRun eng run (fun k => { k with parked := false }))) ∧
    (l.map (s.engByte false (j.on eng)) = j.seen → exec (.chainUnpark eng run) s = .next s))

/-- 08 R221 to R223, 08 R224 to R226, R232, R233: arbitration chooses, of the requests that each group made first, one of the highest class
that asks for panes in service which no chosen one holds (the order within a class, and when a chosen one of a lower class yields: log 39, the
model's), and grants a chosen request once all its panes are free and no request of a higher class waits that could be served: a group's lease
with its whole budget, or a tile-step run; a lease lapses 16,384 clk after its grant; the oldest step of its panes, in its turn among the steps
that are ready there (log 39), starts when they run nothing and reads its operand tiles, with the errors it meets (log 38, the model's reading:
R224 to R226 do not say when); it commits all its entries at once, over the entries as they then stand (log 38), and completes its production;
one that met an error in its tiles writes no entry and leaves the array; a production it consumes that failed lets it leave without effect. -/
def Obligations.LeasesAndMatrixSteps : Prop :=
  (∀ (s : State) (c : Nat) (q : PaneReq) (g : Group), (s.arbitrate c).grantable c = some q → s.serving = true → q.wick = none →
    s.group ⟨c, q.slot⟩ = some g →
    exec (.leaseGrant c) s = .next (((s.arbitrate c).setCore c (((s.arbitrate c).core c).granting q)).setGroup ⟨c, q.slot⟩
      { g with gm := g.lm, budget := Config.leaseBudget, granted := s.clk })) ∧
  (∀ (s : State) (c k : Nat) (q : PaneReq), (s.arbitrate c).grantable c = some q → s.serving = true → q.wick = some k →
    exec (.leaseGrant c) s = .next ((s.arbitrate c).setCore c { ((s.arbitrate c).core c).granting q with
      runPanes := (s.core c).runPanes ++ [{ q with since := s.clk }] })) ∧
  (∀ (s : State) (c : Nat), s.serving = true → (s.arbitrate c).grantable c = none → exec (.leaseGrant c) s = .next (s.arbitrate c)) ∧
  (∀ (s : State) (c : Nat), s.arbitrate c = s ∨ ∃ q ∈ (s.core c).reqs, q.chosen = false ∧
    (s.core c).reqs.find? (fun y => y.slot == q.slot) = some q ∧
    (∀ p ∈ panesOf q.panes.toNat, p ∈ s.panesIn c ∧ ∀ y ∈ (s.core c).reqs, y.chosen = true → y.panes.getLsbD p = false) ∧
    (∀ k y, k < 8 → (s.core c).reqs.find? (fun z => z.slot == k) = some y → (∀ p ∈ panesOf y.panes.toNat, p ∈ s.panesIn c) →
      (s.core c).reqClass q ≤ (s.core c).reqClass y) ∧
    s.arbitrate c = s.setCore c { s.core c with reqs := (s.core c).reqs.map (fun y => if y = q then { y with chosen := true } else y) }) ∧
  (∀ (s : State) (c : Nat) (q : PaneReq), s.grantable c = some q → q ∈ (s.core c).reqs ∧ q.chosen = true ∧
    (∀ p ∈ panesOf q.panes.toNat, s.outOf (.pane c p) = false ∧ (∀ g, some g ∈ (s.core c).slots → g.gm.getLsbD p = false) ∧
      (∀ m ∈ (s.core c).steps, (cfgPMASK m.cfg).testBit p = false) ∧ (∀ y ∈ (s.core c).runPanes, y.panes.getLsbD p = false)) ∧
    (∀ k y, k < 8 → (s.core c).reqs.find? (fun z => z.slot == k) = some y → (∀ p ∈ panesOf y.panes.toNat, p ∈ s.panesIn c) →
      (s.core c).reqClass y < (s.core c).reqClass q →
      ∃ x ∈ (s.core c).reqs, x.chosen = true ∧ (s.core c).reqClass y < (s.core c).reqClass x ∧ x.panes &&& y.panes ≠ 0#4) ∧
    ((s.core c).granting q).leaseRR = q.slot ∧
    ((s.core c).granting q).reqs.map (fun y => { y with passed := [] }) =
      ((s.core c).reqs.filter (fun y => decide (y ≠ q))).map (fun y => { y with passed := [] })) ∧
  (∀ (s : State) (c : Nat) (q : PaneReq) (g : Group), c < s.cores.length → (s.core c).reqs = [q] → q.chosen = false → q.wick = none →
    q.passed = [] → q.slot < 8 → s.serving = true → s.group ⟨c, q.slot⟩ = some g →
    (∀ p ∈ panesOf q.panes.toNat, p ∈ s.panesIn c ∧ s.outOf (.pane c p) = false ∧ (s.core c).paneFree p = true) →
    exec (.leaseGrant c) s = .next ((s.setCore c { s.core c with reqs := [], leaseRR := q.slot }).setGroup ⟨c, q.slot⟩
      { g with gm := g.lm, budget := 64, granted := s.clk })) ∧
  (∀ (s : State) (r : GRef) (g : Group), s.group r = some g → s.serving = true → g.gm ≠ 0#4 → g.granted + 16384 ≤ s.clk →
    exec (.leaseTimeout r) s = .next (s.setGroup r { g with gm := 0#4, budget := 0 })) ∧
  (∀ (s : State) (c k : Nat) (m : MatStep), (s.core c).steps.find? (fun x => x.id == k) = some m → s.serving = true →
    (s.core c).canStart m = true → s.inTurn c (cfgPMASK m.cfg) m.readyAt = true → s.waitsDone (some m.gid) m.waits = true →
    s.waitsFailed (some m.gid) m.waits = false →
    ∃ m' : MatStep, exec (.matrixStepStart c k) s = .next (s.setCore c { s.core c with
        steps := (s.core c).steps.map (fun x => if x.id = m.id then m' else x) }) ∧
      { m' with stage := m.stage, tiles := m.tiles, err := m.err } = m ∧ m'.stage = .running ∧
      ((∀ t ∈ m.tileRanges, (s.core c).padErr t.1.1 t.1.2 = none ∧ (s.core c).padErr t.2.1 t.2.2 = none) → m'.err = none) ∧
      (∀ t ∈ m.tileRanges, m.kind ≠ .clear → (s.core c).padErr t.1.1 t.1.2 ≠ none ∨ (s.core c).padErr t.2.1 t.2.2 ≠ none →
        m'.err ≠ none) ∧
      m'.tiles = (if m.kind = .clear then [] else m.tileRanges.map (fun t =>
        ((s.core c).hamper.readN t.1.1 t.1.2, (s.core c).hamper.readN t.2.1 t.2.2)))) ∧
  (∀ (s : State) (c k : Nat) (m : MatStep), (s.core c).steps.find? (fun x => x.id == k) = some m → s.serving = true →
    (s.core c).canStart m = true → s.inTurn c (cfgPMASK m.cfg) m.readyAt = true → s.waitsDone (some m.gid) m.waits = true →
    s.waitsFailed (some m.gid) m.waits = true → exec (.matrixStepStart c k) s = .next (s.endStep c m true)) ∧
  (∀ (s : State) (c k : Nat) (m y : MatStep) (t : Nat), (s.core c).steps.find? (fun x => x.id == k) = some m → y ∈ (s.core c).steps →
    (s.core c).headStep y = true → s.waitsDone (some y.gid) y.waits = true → y.readyAt = some t → (∀ u, m.readyAt = some u → t < u) →
    (m.readyAt = none → t < s.clk) → Nat.land (cfgPMASK y.cfg) (cfgPMASK m.cfg) ≠ 0 → exec (.matrixStepStart c k) s = .next s) ∧
  (∀ (s : State) (c k : Nat) (m : MatStep), (s.core c).steps.find? (fun x => x.id == k) = some m → s.serving = true →
    m.stage = .running → (s.core c).stepError m = none → c < s.cores.length → SMap.wfFrom 0#64 none (s.core c).acc = true →
    ((m.out (s.core c)).map (·.1)).Nodup →
    ∃ t, exec (.matrixStepCommit c k) s = .next t ∧ s.sameBytes t ∧
      (∀ x, (t.core c).accGet x = (match (m.out (s.core c)).find? (fun y => y.1 == x) with
        | some y => y.2.1
        | none => (s.core c).accGet x)) ∧
      ∀ y ∈ (t.core c).steps, y.id ≠ m.id) ∧
  (∀ (c : Core) (m : MatStep), m.err = none → c.accPoison = [] → c.paneBad = [] → c.stepError m = none) ∧
  (∀ (s : State) (c k : Nat) (m : MatStep) (e : Poison), (s.core c).steps.find? (fun x => x.id == k) = some m → s.serving = true →
    m.stage = .running → m.err = some e → c < s.cores.length →
    ∃ t, exec (.matrixStepCommit c k) s = .next t ∧ s.sameBytes t ∧ (t.core c).acc = (s.core c).acc ∧
      ∀ y ∈ (t.core c).steps, y.id ≠ m.id)

/-- 09 R243 to R251, 03 R88, 10 R273, R280, R281: a copy of the operands, one for each tensor that the step reads, that completes leaves the
bytes that its addresses held, kept by address (both the model's: log 40); a BUSY instruction with its block in order, its panes held and its
turn come there, its copies complete and its data read starts its next step, which is not seen until it commits; an array kind that does not
hold its panes asks for them; a started step commits its outputs as one unit and DONE advances; one whose output page is gone runs again with
none of its effect; one that would merge into an error stops the instruction (ERROR, ECODE 2) before any output; a guard in trap mode stops
the instruction as GUARD with its number, and no guard in another mode counts; each buffer
acknowledges once and drops the lines covered; after the last one the acknowledgement word is written and the wick's step is done. -/
def Obligations.TileSteps : Prop :=
  (∀ (s : State) (r : GRef) (wk : Nat) (g : Group) (w : Wick) (q : Sequencer), s.longAt r wk = some (g, w, q) → s.serving = true →
    stepReady w q = true → q.service = none → q.fresh = false →
    (isArrayKind w.kind = true → (s.core r.core).runHolds g r.slot wk w.apane s.clk = true) →
    exec (.tileStepStart r ⟨wk, none⟩) s = .next (s.startStep r ⟨r.core, g, wk, w, q⟩)) ∧
  (∀ (s : State) (r : GRef) (wk : Nat) (g : Group) (w : Wick) (q : Sequencer), s.longAt r wk = some (g, w, q) → s.serving = true →
    stepReady w q = true → q.service = none → isArrayKind w.kind = true → (s.core r.core).runHolds g r.slot wk w.apane s.clk = false →
    exec (.tileStepStart r ⟨wk, none⟩) s = .next (s.setCore r.core ((s.core r.core).askRun r.slot wk w.apane s.clk))) ∧
  (∀ (s : State) (r : GRef) (wk : Nat) (g : Group) (w : Wick) (q : Sequencer) (o : StepOut), s.longAt r wk = some (g, w, q) →
    s.serving = true → stepReady w q = true → q.service = none → q.fresh = false → wk < g.wicks.length →
    (isArrayKind w.kind = true → (s.core r.core).runHolds g r.slot wk w.apane s.clk = true ∧
      (s.core r.core).panesIdle r.slot wk w.apane = true ∧ s.inTurn r.core w.apane q.readyAt = true) → w.done < w.total → (w.done < q.asked ∨ isColl w.kind = true) →
    (∀ y ∈ q.copies, y.live = true → y.chunk ≠ w.done) → (⟨r.core, g, wk, w, q⟩ : StepAt).contributed = true →
    s.attempt ⟨r.core, g, wk, w, q⟩ = .run o →
    ∃ t h q', exec (.tileStepStart r ⟨wk, none⟩) s = .next t ∧ s.sameBytes t ∧ t.group r = some h ∧ (h.wick wk).seq = some q' ∧
      q'.run = some o ∧ (h.wick wk).done = w.done ∧ (h.wick wk).status = w.status) ∧
  (∀ (s : State) (r : GRef) (wk i : Nat) (g : Group) (w : Wick) (q : Sequencer) (y : SeqCopy), s.longAt r wk = some (g, w, q) →
    s.serving = true → q.copies[i]? = some y → y.live = true → isColl w.kind = false → (w.kind = opXGATH → y.peer ≠ 1) → wk < g.wicks.length →
    s.pageRound g.asid (longMan w.kind q.desc) none (s.copyNeeds ⟨r.core, g, wk, w, q⟩ y) = .ok →
    ∃ t h q' b, exec (.tileStepStart r ⟨wk, some i⟩) s = .next t ∧ t.group r = some h ∧ (h.wick wk).seq = some q' ∧
      q'.bufs = q.bufs ++ [b] ∧ q'.copies = q.copies.filter (fun z => decide (z ≠ y)) ∧ b.step = y.chunk ∧ b.copy = y.peer ∧
      (∀ z ∈ b.data, z.2 = s.engByte false (seqFor r.core g) z.1) ∧ (h.wick wk).done = w.done ∧
      (∀ a, t.memByte a = s.memByte a) ∧ (∀ a, t.hostByte a = s.hostByte a) ∧ ∀ c a, c ≠ r.core → t.padByte c a = s.padByte c a) ∧
  (∀ (s : State) (r : GRef) (x : StepAt) (o : StepOut), s.attempt x = .run o → s.group r = some x.g → x.core = r.core →
    x.wk < x.g.wicks.length → r.slot < 8 →
    s.sameBytes (s.tryStep r x) ∧ ∃ h q, (s.tryStep r x).group r = some h ∧ (h.wick x.wk).seq = some q ∧ q.run = some o ∧
      (h.wick x.wk).done = x.w.done ∧ (h.wick x.wk).status = x.w.status) ∧
  (∀ (s : State) (r : GRef) (wk : Nat) (g : Group) (w : Wick) (q : Sequencer) (o : StepOut), s.longAt r wk = some (g, w, q) →
    q.run = some o → s.serving = true → w.kind ≠ opKVSHOOT → (w.kind = opCRING → (⟨r.core, g, wk, w, q⟩ : StepAt).received = true) →
    s.outReady ⟨r.core, g, wk, w, q⟩ o = true →
    s.outMergeErr (seqFor r.core g) o.mem = none → o.trapGuard = none →
    exec (.tileStepCommit r wk) s = .next (s.commitStep r ⟨r.core, g, wk, w, q⟩ o)) ∧
  (∀ (s : State) (r : GRef) (wk : Nat) (g : Group) (w : Wick) (q : Sequencer) (o : StepOut), s.longAt r wk = some (g, w, q) →
    q.run = some o → s.serving = true → wk < g.wicks.length → q.stop = .none → q.acks = [] → s.outReady ⟨r.core, g, wk, w, q⟩ o = true →
    s.outMergeErr (seqFor r.core g) o.mem = none → o.trapGuard = none →
    (∀ k ∈ [opKVSHOOT, opKVAPP, opXATTN, opCRING], w.kind ≠ k) →
    ∃ t h, exec (.tileStepCommit r wk) s = .next t ∧ (s.putOuts (seqFor r.core g) o.mem).sameBytes t ∧ t.group r = some h ∧
      (h.wick wk).done = w.done + 1 ∧ (h.wick wk).status = (if w.done + 1 = w.total then stDONE else w.status) ∧
      h.fpflags = g.fpflags ||| o.flags ∧ h.n = g.n ∧ h.vregs = g.vregs) ∧
  (∀ (s : State) (r : GRef) (wk : Nat) (g : Group) (w : Wick) (q : Sequencer) (o : StepOut), s.longAt r wk = some (g, w, q) →
    q.run = some o → s.serving = true → w.kind ≠ opKVSHOOT → q.stop = .none → (w.kind = opCRING → (⟨r.core, g, wk, w, q⟩ : StepAt).received = true) →
    s.outReady ⟨r.core, g, wk, w, q⟩ o = false →
    exec (.tileStepCommit r wk) s = .next (s.setGroup r (g.setWick wk { w with seq := some (w.again q) }))) ∧
  (∀ (s : State) (r : GRef) (wk : Nat) (g : Group) (w : Wick) (q : Sequencer) (o : StepOut) (e : Poison), s.longAt r wk = some (g, w, q) →
    q.run = some o → s.serving = true → w.kind ≠ opKVSHOOT → (w.kind = opCRING → (⟨r.core, g, wk, w, q⟩ : StepAt).received = true) →
    s.outReady ⟨r.core, g, wk, w, q⟩ o = true →
    s.outMergeErr (seqFor r.core g) o.mem = some e → wk < g.wicks.length →
    ∃ t h, exec (.tileStepCommit r wk) s = .next t ∧ s.sameBytes t ∧ t.group r = some h ∧ (h.wick wk).status = stERROR ∧
      (h.wick wk).ecode = 2 ∧ (h.wick wk).done = w.done) ∧
  (∀ (s : State) (r : GRef) (wk k : Nat) (g : Group) (w : Wick) (q : Sequencer) (o : StepOut), s.longAt r wk = some (g, w, q) →
    q.run = some o → s.serving = true → w.kind ≠ opKVSHOOT → (w.kind = opCRING → (⟨r.core, g, wk, w, q⟩ : StepAt).received = true) →
    s.outReady ⟨r.core, g, wk, w, q⟩ o = true →
    s.outMergeErr (seqFor r.core g) o.mem = none → o.trapGuard = some k → wk < g.wicks.length →
    ∃ t h, exec (.tileStepCommit r wk) s = .next t ∧ s.sameBytes t ∧ t.group r = some h ∧ (h.wick wk).status = stGUARD ∧
      (h.wick wk).ecode = k ∧ (h.wick wk).done = w.done ∧ h.trap.rangeErr.isSome = true ∧ h.fpflags = g.fpflags ∧
      ∀ j, (∀ y ∈ q.guards, y.g = j → y.act ≠ 3) → h.guard j = g.guard j) ∧
  (∀ (s : State) (r : GRef) (g : Group) (w : Wick) (wk : Nat) (q : Sequencer), r.slot < 8 → s.group r = some g → wk < g.wicks.length →
    g.wick wk = w → w.seq = some q → q.stop = .none → q.acks = [] →
    ∃ h, (s.advance r g wk).group r = some h ∧ (h.wick wk).done = w.done + 1 ∧
      (h.wick wk).status = (if w.done + 1 = w.total then stDONE else w.status)) ∧
  (∀ (s : State) (r : GRef) (wk buf : Nat) (g : Group) (w : Wick) (q : Sequencer), s.longAt r wk = some (g, w, q) → s.serving = true →
    buf ∈ q.acks → w.kind = opKVSHOOT → wk < g.wicks.length →
    ∃ t h q', exec (.bufferAcknowledge r wk buf) s = .next t ∧ s.sameBytes t ∧ t.group r = some h ∧ (h.wick wk).seq = some q' ∧
      q'.acks = q.acks.filter (· != buf) ∧ q'.acked = q.acked + 1 ∧ q'.dropped = q.dropped + (s.dropLines buf g.asid (shootSpan w q)).1 ∧
      (h.wick wk).done = w.done) ∧
  (∀ (s : State) (r : GRef) (wk : Nat) (g : Group) (w : Wick) (q : Sequencer), s.longAt r wk = some (g, w, q) → s.serving = true →
    w.kind = opKVSHOOT → q.run ≠ none → q.acks = [] →
    s.span (seqUnit r.core) g.asid (shootOf q.desc).ack 8 true = .ok →
    s.mergeErr (seqUnit r.core) g.asid (shootOf q.desc).ack 8 = none →
    exec (.kvshootComplete r wk) s = .next ((s.vwrite (seqUnit r.core) g.asid (shootOf q.desc).ack
      (natLE 8 (ackWord q.dropped q.acked))).advance r g wk))

namespace Sys2Proof.Claims

/-- Where a member's contribution enters: the buffer of the chunk's parity, for a reduction 16 KiB apart by the member's place among up to 8 of
those that the chunk needs (12 R309, R316; log 40). -/
def memberPlace (q : Sequencer) (kind : Nat) (m : ChunkMsg) : Nat :=
  let c := collOf q.desc
  c.ping + (if m.chunk % 2 = 0 then 0 else c.plen) +
    (if isRed kind = true then 16384 * ((c.needs m.chunk).findIdx (· == m.src) % 8) else 0)

end Sys2Proof.Claims

/-- 12 R306, R309, R311 to R314, R316, R318: a member's message, a parameter of its event (log 52, the model's), that is still awaited is taken
once and kept in the sequencer, its bytes entering the buffer of its chunk's parity at the place of its member, CRING's shard the part of RBUF
of its round (their layouts: logs 40, 52, the model's); parameters that disagree stop the collective (ECODE 300H), a member that asks for a
chunk is sent it, a chunk that its peer acknowledges leaves the outstanding sends, a lost link (302H) and a peer that is gone (301H) stop it,
the sends outstanding given up (log 69, the model's); a retry and a retrained lane cost only time. -/
def Obligations.CollectivesExchange : Prop :=
  (∀ (s : State) (r : GRef) (wk : Nat) (m : ChunkMsg) (g : Group) (w : Wick) (q : Sequencer), s.collAt r wk = some (g, w, q) →
    m.src ∈ (collOf q.desc).others → m.src ∉ q.agreed → m.params ≠ collParams q.desc q.list →
    exec (.chunkReceive r wk m) s = .next (s.stopWick r g wk stERROR 0x0300 none)) ∧
  (∀ (s : State) (r : GRef) (wk : Nat) (m : ChunkMsg) (g : Group) (w : Wick) (q : Sequencer), s.collAt r wk = some (g, w, q) →
    m.src ∈ (collOf q.desc).others → m.src ∈ q.agreed → (collOf q.desc).takes q w.done m = true → (collOf q.desc).kind ≠ opCRING →
    wk < g.wicks.length →
    ∃ t h q' y, exec (.chunkReceive r wk m) s = .next t ∧ t.group r = some h ∧ (h.wick wk).seq = some q' ∧
      q'.got = q.got ++ [y] ∧ y.chunk = m.chunk ∧ y.src = m.src ∧ y.data = m.data ∧ y.off = ((⟨r.core, g, wk, w, q⟩ : StepAt).receiveAt m).1 ∧
      y.off = Claims.memberPlace q w.kind m ∧ (h.wick wk).done = w.done ∧ (∀ a, t.memByte a = s.memByte a) ∧ (∀ a, t.hostByte a = s.hostByte a) ∧
      ∀ c a, (c ≠ r.core ∨ a < Claims.memberPlace q w.kind m ∨ Claims.memberPlace q w.kind m + min m.data.length 16384 ≤ a) →
        t.padByte c a = s.padByte c a) ∧
  (∀ (s : State) (r : GRef) (wk : Nat) (m : ChunkMsg) (g : Group) (w : Wick) (q : Sequencer) (x : StepAt), s.collAt r wk = some (g, w, q) →
    x = ⟨r.core, g, wk, w, q⟩ → m.src ∈ (collOf q.desc).others → m.src ∈ q.agreed → (collOf q.desc).takes q w.done m = true →
    (collOf q.desc).kind = opCRING → wk < g.wicks.length →
    s.pageRound g.asid (longMan w.kind q.desc) none (ReadAt.needs true ⟨seqUnit r.core, (collOf q.desc).shardAt m.chunk, m.data.length⟩) = .ok →
    s.engMergeErr x.eng (x.shardWrite m) = none →
    m.chunk = w.done ∧ ∃ t h q' y, exec (.chunkReceive r wk m) s = .next t ∧ t.group r = some h ∧ (h.wick wk).seq = some q' ∧
      q'.got = q.got ++ [y] ∧ y.chunk = m.chunk ∧ y.src = m.src ∧ y.data = m.data ∧ (h.wick wk).done = w.done ∧
      (s.engWrite x.eng (x.shardWrite m)).sameBytes t ∧ (x.shardWrite m).map (·.1) =
        (List.range m.data.length).map ((collOf q.desc).shardAt m.chunk + ·)) ∧
  (∀ (s : State) (r : GRef) (wk chunk dst : Nat) (g : Group) (w : Wick) (q : Sequencer), s.collAnswers r wk = some (g, w, q) →
    (collOf q.desc).asks chunk dst = true → (∀ y ∈ q.copies, ¬ (y.peer = dst ∧ y.chunk = chunk)) → wk < g.wicks.length →
    ((collOf q.desc).kind = opCRING ∧ chunk ≤ w.done ∧ (chunk = 0 ∨ ∃ y ∈ q.got, y.chunk + 1 = chunk)) ∨
      ((collOf q.desc).kind = opCALLRED ∧ (collOf q.desc).former chunk = (collOf q.desc).me ∧ chunk < w.done) ∨
      ((collOf q.desc).kind ≠ opCRING ∧ ¬ ((collOf q.desc).kind = opCALLRED ∧ (collOf q.desc).former chunk = (collOf q.desc).me) ∧
        (∀ y ∈ (collOf q.desc).ownReads chunk dst, isGlobal y.1 = true → ∀ a ∈ pagesOf y.1 y.2,
          ∃ pa h, s.translate (seqUnit r.core) g.asid a false = .hit pa h) ∧
        s.readsErr ⟨r.core, g, wk, w, q⟩ ((⟨r.core, g, wk, w, q⟩ : StepAt).at ((collOf q.desc).ownReads chunk dst)) = none) →
    ∃ t h, exec (.chunkRequest r wk chunk dst) s = .next t ∧ s.sameBytes t ∧ t.group r = some h ∧
      (h.wick wk).cout = (q.copies.length + 1) % 2 ^ 16 ∧ (h.wick wk).done = w.done ∧ (h.wick wk).status = w.status) ∧
  (∀ (s : State) (r : GRef) (wk chunk peer : Nat) (g : Group) (w : Wick) (q : Sequencer) (y : SeqCopy), s.longAt r wk = some (g, w, q) →
    s.serving = true → q.copies.find? (fun y => y.chunk == chunk && y.peer == peer) = some y →
    exec (.sendAcknowledgement r wk ⟨chunk, peer⟩) s = .next (s.setGroup r (g.setWick wk (w.withCopies
      { q with copies := q.copies.filter (fun z => decide (z ≠ y)) })))) ∧
  (∀ (w : Wick) (q : Sequencer), (w.withCopies q).seq = some q ∧ (w.withCopies q).cout = q.copies.length % 2 ^ 16 ∧
    (q.copies = [] → (w.withCopies q).cseq = q.nextNum % 2 ^ 32) ∧
    (∀ y l, q.copies = y :: l → (w.withCopies q).cseq = y.num % 2 ^ 32) ∧ { w.withCopies q with cout := w.cout, cseq := w.cseq, seq := w.seq } = w) ∧
  (∀ (s : State) (r : GRef) (wk : Nat) (g : Group) (w : Wick) (q : Sequencer), s.collAt r wk = some (g, w, q) → wk < g.wicks.length →
    (∃ t h, exec (.lostLink r wk) s = .next t ∧ s.sameBytes t ∧ t.group r = some h ∧ (h.wick wk).status = stERROR ∧
      (h.wick wk).ecode = 0x0302) ∧
    ∃ t h, exec (.peerNotice r wk) s = .next t ∧ s.sameBytes t ∧ t.group r = some h ∧ (h.wick wk).status = stERROR ∧
      (h.wick wk).ecode = 0x0301) ∧
  (∀ (s : State) (r : GRef) (wk chunk : Nat), exec (.chunkRetry r wk chunk) s = .next s) ∧
  (∀ (s : State) (lane : Nat), exec (.laneRetrain lane) s = .next s)

namespace Sys2Proof.Claims

/-- The field of a word that holds its part's predicate (02 R44). -/
def predBits : PartWord → BitVec 5
  | .s w => w.extractLsb' 8 5
  | .a w => w.extractLsb' 8 5
  | .v w => w.extractLsb' 8 5
  | .m w => w.extractLsb' 8 5
  | .c w => w.extractLsb' 8 5
  | .k _ => 0#5

/-- Words written out from the spec's encodings, the highest field first, with the instructions that they stand for. -/
def words : List (PartWord × Instr) :=
  [-- SR (02 Table 2.8, 04 Table 4.6): fn[39:31] sb[30:25] sa[24:19] dst[18:13] predicate[12:8] op[7:0]: add n1, n2, n3
   (.s 0b0000000000000110000100000010000000000001#40, .add ⟨3#6, 2#6, 1#6, 0#5⟩),
   -- SI (04 R120): imm15[39:25] sa[24:19] dst[18:13] predicate op: !p2: addi _, n5, -1
   (.s 0b1111111111111110001011111111001000011000#40, .addi ⟨0x7FFF#15, 5#6, 63#6, 0b10010#5⟩),
   -- the NOP of the K slot (02 R54)
   (.k 0#16, .knop)]

end Sys2Proof.Claims

/-- 02 R47 to R54: three words read as the instructions that they stand for. -/
def Obligations.DecodeWords : Prop := ∀ e ∈ Claims.words, decodePart e.1 = .ok e.2

/-- 02 R47 to R53: the decoder gives back every well-formed instruction that has a word, with every operand; and a word that decodes is
the word of the instruction it gives, which is well-formed, so that no bit of a word is dropped. -/
def Obligations.DecodeEncode : Prop :=
  (∀ (i : Instr) (w : PartWord), i.wf = true → encodePart i = some w → decodePart w = .ok i) ∧
  (∀ (i : Instr) (w : PartWord), decodePart w = .ok i → i.wf = true ∧ encodePart i = some w)

/-- 02 R44, R37, R38, R40: bits [12:8] of a part of the S, A, V, M and C slots name its predicate, bit 12 negates it, the zero field is p0, always
true, and a K part has none; a part executes when the predicate, after any negation, is true: one whose predicate is true may issue with every check
of its own passed, where it is not one of a sync's parts in the midst of their issue and no other part's trap comes before one that it raises; one
whose predicate is false leaves its queue and does nothing but complete its share of the bundle's token, and switch the V slot's latch set as its
header says (log 9: the switch is the model's reading). -/
def Obligations.PredicatesGovernParts : Prop :=
  (∀ (w : PartWord) (i : Instr), decodePart w = .ok i → predOf i = Claims.predBits w) ∧
  (∀ (g : Group) (p : Part) (i : Instr),
    g.predOn p i = ((g.predAt p.seq ((predOf i).extractLsb' 0 4).toNat) != (predOf i).getLsbD 4)) ∧
  (∀ (g : Group) (seq : Nat), g.predField seq 0#5 = true) ∧
  (∀ (s : State) (g : Group) (k : Slot) (p : Part) (i : Instr), slotOf i = some k → s.headOf k = some (g, p) → s.serving = true →
    s.hasTurn s.cur = true → heldBack s s.cur g = false → g.asyncDue = false → s.joint = none → verdict s s.cur g k p i = .go →
    g.predOn p i = false →
    exec i s = .next ((s.setGroup s.cur ((((g.switchV k p).retire k).passToken p i).dropOld)).noteIssue s.cur)) ∧
  (∀ (s : State) (g : Group) (k : Slot) (p : Part) (i : Instr), slotOf i = some k → s.headOf k = some (g, p) → s.serving = true →
    s.hasTurn s.cur = true → heldBack s s.cur g = false → g.asyncDue = false → s.joint = none → verdict s s.cur g k p i = .go →
    g.predOn p i = true → (raises g p i = true → trapsBefore s s.cur g k p = false) → s.passes g k p i)

/-- 02 R31, R32, R35, R36, log 1, log 7, log 64: a step takes the agenda's next turn after its clocks have passed (the agenda, the default turn and the rounds
are the model's own, logs 1, 7 and 64). The turn of a slot runs the instruction that the head of its queue holds. Where a sync names other parts of its
bundle (02 R35, R36), all of them issue in that step if all may, judged on the state from before it, in six rounds of the slots in which one whose
effect comes after another's that has not issued waits; where no trap holds them back but something else does, none issues; where one does not go, each
in turn waits or traps. An event runs as its instruction. With an empty agenda the current group, once nothing is in flight, decodes its next bundle
and its oldest part issues, as the instruction that the decoder reads from its word. Clocks that pass change no byte and no register of a group, but
for the marks of how long it, and a step of its long instructions, has been ready. -/
def Obligations.StepRunsDecoded : Prop :=
  (∀ (s u : State) (r : GRef) (k : Slot) (c : Nat) (rest : List Turn) (g : Group) (p : Part) (i : Instr),
    s.agenda = ⟨c, .part r k⟩ :: rest → u = { ({ s with agenda := rest } : State).pass c with cur := r } → u.headOf k = some (g, p) →
    decodePart p.word = .ok i →
    (syncMates g k p = [] → step s = exec i u) ∧
    (syncMates g k p ≠ [] → goTogether u u.cur g k p = true →
      ∀ t, State.issueEach p.seq ((List.replicate 6 slots).flatten) { u with joint := some p.seq } = .next t →
        step s = .next { t with joint := none }) ∧
    (syncMates g k p ≠ [] → goTogether u u.cur g k p = false → syncGoes u u.cur g k p = true → step s = .next u) ∧
    (syncMates g k p ≠ [] → syncGoes u u.cur g k p = false → step s = State.issueEach p.seq slots u)) ∧
  (∀ (s : State) (seq : Nat) (k : Slot) (rest : List Slot) (g : Group) (p : Part) (i : Instr), s.headOf k = some (g, p) →
    decodePart p.word = .ok i →
    (p.seq = seq → syncNames p k = true →
      ∀ t, exec i s = .next t → State.issueEach seq (k :: rest) s = State.issueEach seq rest t) ∧
    (p.seq ≠ seq ∨ syncNames p k = false → State.issueEach seq (k :: rest) s = State.issueEach seq rest s)) ∧
  (∀ (s : State) (k : Slot) (g : Group) (p : Part) (i : Instr), slotOf i = some k → s.headOf k = some (g, p) → s.joint = some p.seq →
    syncNames p k = true → matesFirst g k p i = true → exec i s = .next s) ∧
  (∀ (s : State) (n : Nat), (s.pass n).clk = s.clk + n ∧ s.sameBytes (s.pass n) ∧ s.pass 0 = s ∧
    ∀ r g, s.group r = some g → ∃ h : Group, (s.pass n).group r = some h ∧
      { h with readySince := g.readySince, promoted := g.promoted, wicks := g.wicks } = g ∧
      h.wicks.map (fun (w : Wick) => { w with seq := w.seq.map (fun (q : Sequencer) => { q with readyAt := none }) }) =
        g.wicks.map (fun (w : Wick) => { w with seq := w.seq.map (fun (q : Sequencer) => { q with readyAt := none }) })) ∧
  (∀ (s : State) (i : Instr) (c : Nat) (rest : List Turn), s.agenda = ⟨c, .event i⟩ :: rest → slotOf i = none →
    step s = exec i (({ s with agenda := rest } : State).pass c)) ∧
  (∀ (s : State) (g : Group) (k : Slot) (p : Part) (i : Instr), s.agenda = [] → s.group s.cur = some g → g.fly = [] →
    g.qh.any g.rotateDue = false → g.qh.any g.loopEndDue = false → s.pickSlot = some (k, p) → decodePart p.word = .ok i →
    (∀ j h q, s.readyHead j = some (h, q) → isNop q.instr = false) → syncMates g k p = [] →
    step s = exec i s) ∧
  (∀ (s t : State) (g : Group), s.agenda = [] → s.group s.cur = some g → g.fly = [] → g.qh.any g.rotateDue = false →
    g.qh.any g.loopEndDue = false → s.pickSlot = none → canDispatch s s.cur g = true → exec (.bundleDecode s.cur) s = .next t →
    step s = t.issueNext) ∧
  (∀ (w : BitVec 256) (b : Bundle) (k : Slot), decodeBundle w = .ok b → decodePart (bundlePart w k) = .ok (b.part k))

/-- 22 R440, Table 22.2 to 22.4, 02 Table 2.4, 13 R343, 14 R371, 15 R396: after reset PHASE is RESET, no slot is booted, no flag of STATUS
is set, PTH0 to PTH3 are all ones, TIME is zero, and nothing lives: no task, scope, queue or group, no cached translation. The contents of
memory and the registers that the spec gives no reset value are the model's choice (log 3, log 4, log 20) and stand in no clause. -/
def Obligations.ResetState : Prop :=
  State.reset.status = word (3 * 2 ^ 8) ∧ State.reset.plat.pth = List.replicate 4 0xFFFFFFFF ∧ State.reset.clk = 0 ∧
  State.reset.tasks = [] ∧ State.reset.scopes = [] ∧ State.reset.queues = [] ∧ State.reset.snuffs = [] ∧ State.reset.memsWf ∧
  (∀ r : GRef, State.reset.group r = none) ∧ (∀ (u : XUnit) (l : List TransEnt), l ∈ State.reset.tcLevels u → l = [])

/-- 05 R146 (the canonical form is the model's own): every step keeps device memory and host memory in their canonical form. -/
def Obligations.StepKeepsCanonical : Prop := ∀ s t : State, s.memsWf → step s = .next t → t.memsWf

/-- 05 R135, R146, 06 R165, 13 R350: whatever a slot part does as it issues, waits or traps, no byte of device memory, host memory or a
hamper changes, but for a barrier's word under BINIT and BARR: stores, copies and long instructions write when their events happen. The 256 bytes
that CALL writes in the spill area (04 R114, R117) are among a hamper's bytes in the spec; the model holds a group's frames with the group
(`Group.spill`, log 19), so that CALL changes them there and they are no byte that this statement speaks of. -/
def Obligations.IssuesWriteNoMemory : Prop :=
  ∀ (i : Instr) (s t : State), (slotOf i).isSome = true → (∀ x, i ≠ .binit x) → (∀ x, i ≠ .barr x) → exec i s = .next t → s.sameBytes t

/-- 14 R362 to R366, 04 R109: taking a trap saves the base PC, the skew, the cause and the address, holds the latches, discards every part
not issued and goes to TRAP.VEC; with TRAP.VEC zero, for a breakpoint and in a handler the group stops with a fault record, and a nested trap
leaves TRAP.*; the registers, the bytes of memory and the accesses stay, but for a MONW that waits and each access's distance from the base
(`Access.rel`, the model's own). A trap precise at a part has for its base the oldest bundle with an unissued part, and
in its skew the part's slot and each slot's distance from the base in bundles; one precise at a bundle, slot 6 and no distance; one taken
asynchronously, slot 7. -/
def Obligations.TrapEntry : Prop :=
  (∀ (s : State) (r : GRef) (g : Group) (code info addr base : Nat) (skew : Word) (hskip : Nat) (mult : Bool), (s.group r).isSome = true →
    s.sameBytes (enterTrap s r g code info addr base skew hskip mult) ∧
    ∃ h, (enterTrap s r g code info addr base skew hskip mult).group r = some h ∧
      h.n = g.n ∧ h.e = g.e ∧ h.p = g.p ∧ h.a = g.a ∧ h.f = g.f ∧ h.vregs = g.vregs ∧ h.loops = g.loops ∧ h.spill = g.spill ∧
      h.guards = g.guards ∧ h.wicks = g.wicks ∧ h.mcfg = g.mcfg ∧ h.fpflags = g.fpflags ∧ h.ldata = g.ldata ∧ h.sdata = g.sdata ∧
      h.stores.map (fun (a : Access) => { a with rel := none }) = g.stores.map (fun (a : Access) => { a with rel := none }) ∧
      h.loads.map (fun (a : Access) => { a with rel := none }) = (g.loads.filter (fun a => !isMonw a)).map (fun (a : Access) => { a with rel := none }) ∧
      h.fly = g.fly ∧ (∀ k, h.slotQ k = []) ∧
      (g.trap.inh = false → h.trap.pc = base ∧ h.trap.skew = skew ∧ h.trap.cause = causeWord code info mult ∧
        h.trap.addr = word (addr % 2 ^ 56) ∧ h.held = g.lat ∧ h.trap.save = g.trap.save ∧ h.trap.vec = g.trap.vec ∧
        (code ≠ 12 → g.trap.vec ≠ 0#64 → h.trap.inh = true ∧ h.pc = g.trap.vec.toNat ∧ h.stop = g.stop) ∧
        (code = 12 ∨ g.trap.vec = 0#64 → h.trap.inh = false ∧ ∃ x, h.stop = some x ∧ x.base = base ∧ x.skew = skew ∧ x.code = code)) ∧
      (g.trap.inh = true → h.trap = g.trap ∧ ∃ x, h.stop = some x ∧ x.base = base ∧ x.skew = skew ∧ x.code = code)) ∧
  (∀ (s : State) (r : GRef) (g : Group) (k : Slot) (code info addr base : Nat), (∀ j, base ≤ g.nextAddr j) → (∃ j, base = g.nextAddr j) →
    ∃ (skew : Word) (hskip : Nat), trapPart s r g k code info addr = enterTrap s r g code info addr base skew hskip false ∧
      ((∀ j, (g.nextAddr j - base) / 32 < 16) → bits skew 24 3 = k.num ∧
        ∀ j : Slot, bits skew (4 * j.num) 4 = (g.nextAddr j - base) / 32)) ∧
  (∀ (s : State) (r : GRef) (g : Group) (code base : Nat) (t : PendTrap), (∀ j, base ≤ g.nextAddr j) → (∃ j, base = g.nextAddr j) →
    ∃ (skew : Word) (hskip : Nat), trapAsync s r g code t = enterTrap s r g code t.info t.addr base skew hskip t.mult ∧
      ((∀ j, (g.nextAddr j - base) / 32 < 16) → bits skew 24 3 = 7 ∧
        ∀ j : Slot, bits skew (4 * j.num) 4 = (g.nextAddr j - base) / 32)) ∧
  (∀ (s : State) (r : GRef) (g : Group) (code info addr base : Nat),
    trapBundle s r g code info addr base = enterTrap s r g code info addr base (word (6 * 2 ^ 24)) 0 false) ∧
  (∀ (g : Group) (k : Slot), g.nextAddr k = (match (g.slotQ k).head? with
    | some p => p.addr
    | none => g.pc + 32 * g.skip.getD k.num 0))


namespace Sys2Proof.Claims

/-- The processor's copy of a page that moves, where its places exist (14 R376). -/
def moved (s : State) : Option (Nat × Nat × Nat) → State
  | none => s
  | some (a, b, n) =>
    if a % 16 = 0 ∧ b % 16 = 0 ∧ n % 16 = 0 ∧ a + n ≤ Config.hbmBytes ∧ b + n ≤ Config.hbmBytes then s.moveBytes a b n else s

/-- The answers with their CODE (15 Table 15.1). -/
def answers (q : Nat) : List (Instr × Nat × Answer) :=
  [(.answerResume q, 0, .resume), (.answerSkip q, 1, .skip), (.answerAbort q, 2, .abort)]

/-- A die's walk of a page gives no translation with the right asked (14 R373). -/
def unmapped (s : State) (u : XUnit) (asid va : Nat) (wr : Bool) : Prop :=
  s.walk (unitDie u) asid va = .none ∨
    (wr = true ∧ ((∃ e, s.walk (unitDie u) asid va = .leaf e ∧ e.w = false) ∨ ∃ b, s.walk (unitDie u) asid va = .host b false))

end Sys2Proof.Claims

/-- 14 R371 to R376, 13 R325, log 18, log 33, log 46, log 85: a look-up that a farther cache answers fills the nearer ones; a miss joins the walk
of its page, whatever right it asks (that a read of a mapped page does not wait for the answer to a write is the model's reading, log 85), and waits
where 256 are in flight; else the walk fills the caches, or raises a demand fault, or asks the host; the processor serves the oldest fault of a
die, where it takes no mapping from a program and every lease holds, or refuses it to every unit that joined, but for what a lease covers (log 46: how
a refusal stands is the model's reading); the host's answers end its requests, and its invalidation and a mapping change leave no entry of the pages
concerned. -/
def Obligations.TranslationEvents : Prop :=
  (∀ (s : State) (u : XUnit) (asid va : Nat) (wr : Bool), s.serving = true → unitOk u = true → isGlobal va = true →
    (∀ pa h e, s.translate u asid va wr = .hit pa h → s.cached u asid va = some e →
      exec (.pageWalk u asid va wr) s = .next (s.fillUnit u e)) ∧
    (s.translate u asid va wr = .miss → (∃ x ∈ (s.die (unitDie u)).walks, x.asid = asid ∧ page x.va = page va) →
      (∀ e, s.walk (unitDie u) asid va = .leaf e → (wr = true → e.w = true) → exec (.pageWalk u asid va wr) s = .next (s.fillUnit u e)) ∧
      (Claims.unmapped s u asid va wr ∨ (∃ b w, s.walk (unitDie u) asid va = .host b w) →
        (s.unasked u asid va = true → exec (.pageWalk u asid va wr) s = .next s) ∧
        (s.unasked u asid va = false →
          ∃ d : Die, exec (.pageWalk u asid va wr) s = .next (s.setDie (unitDie u) d) ∧
            { d with faults := (s.die (unitDie u)).faults, ats := (s.die (unitDie u)).ats, pri := (s.die (unitDie u)).pri } = s.die (unitDie u) ∧
            d.walks.length = (s.die (unitDie u)).walks.length ∧
            ∀ x ∈ d.walks, x.asid = asid → page x.va = page va →
              u ∈ x.units ∧ (wr = true → x.wr = true) ∧ (wr = false → x.rd = true)))) ∧
    (s.translate u asid va wr = .miss → (∀ x ∈ (s.die (unitDie u)).walks, ¬ (x.asid = asid ∧ page x.va = page va)) →
      (256 ≤ (s.die (unitDie u)).walks.length → exec (.pageWalk u asid va wr) s = .next s) ∧
      ((s.die (unitDie u)).walks.length < 256 →
        (∀ e, s.walk (unitDie u) asid va = .leaf e → (wr = true → e.w = true) → exec (.pageWalk u asid va wr) s = .next (s.fillUnit u e)) ∧
        (∀ b w, s.walk (unitDie u) asid va = .host b w → (wr = true → w = true) →
          exec (.pageWalk u asid va wr) s = .next (s.setDie (unitDie u) { s.die (unitDie u) with
            ats := (s.die (unitDie u)).ats ++ [⟨[u], asid, va, wr, !wr⟩] })) ∧
        (Claims.unmapped s u asid va wr →
          (s.unasked u asid va = false →
            exec (.pageWalk u asid va wr) s = .next (s.setDie (unitDie u) { s.die (unitDie u) with
              faults := (s.die (unitDie u)).faults ++ [⟨[u], asid, va, wr, !wr⟩] })) ∧
          (s.unasked u asid va = true → exec (.pageWalk u asid va wr) s = .next s))))) ∧
  (∀ (s u : State) (d : Nat) (writes : List PteWrite) (f : DemandFault) (rest : List DemandFault), (s.die d).faults = f :: rest →
    s.serving = true →
    ((s.setDie d { s.die d with faults := rest }).serviceWrites writes = some u → u.mapped d f.asid f.va f.wr = true →
      u.diesAgree f.asid f.va = true → (s.setDie d { s.die d with faults := rest }).keeps u (fun _ _ => false) = true →
      (∀ t ∈ u.tasks, u.leasesHold t.asid = true) →
      exec (.demandFaultService d true writes) s = .next (u.restartRuns f)) ∧
    (exec (.demandFaultService d false writes) s =
      .next (s.setDie d { s.die d with faults := rest, refused := (s.die d).refused ++ s.refusals [f] }))) ∧
  (∀ (s : State) (f : DemandFault),
    ((∀ wr, s.leased f.asid f.va wr = false) → (f.wr || f.rd) = true → s.refusals [f] = [f]) ∧
    ((∀ wr, s.leased f.asid f.va wr = true) → s.refusals [f] = [])) ∧
  (∀ (s u : State), s.serviceWrites [] = some s ∧
    ∀ (x : PteWrite) (l : List PteWrite), s.serviceWrites (x :: l) = some u →
      (s.putPte x).serviceWrites l = some u ∧
      ((leNat (s.mem.readN x.pa 8)).testBit 0 = false ∨ leNat (s.mem.readN x.pa 8) = x.val.toNat ∨
        ((leNat (s.mem.readN x.pa 8)).testBit 1 = true ∧ (leNat (s.mem.readN x.pa 8)).testBit 4 = false ∧
          x.val.toNat = leNat (s.mem.readN x.pa 8) ||| 4))) ∧
  (∀ (s : State) (asid va d : Nat) (wr : Bool) (f : DemandFault) (u : XUnit) (e : TransEnt) (a b : State), s.serving = true →
    s.dies.length = 4 → d < 4 → (s.die d).ats = [f] → (∀ k, k ≠ d → (s.die k).ats = []) → f.asid = asid → page f.va = page va →
    f.units = [u] → s.hostEntry d f wr = some e → a = s.setDie d { s.die d with ats := [] } →
    b = (s.setDie d { s.die d with
      ats := [], granted := (s.die d).granted.filter (fun x => !x.meets e) ++ [e] }).fillUnit u e →
    ((f.wr = true → e.w = true) → exec (.atsTranslationResponse asid va true wr) s = .next b) ∧
    (f.wr = true → e.w = false →
      exec (.atsTranslationResponse asid va true wr) s = .next ((if f.rd = true then b else a).demandFault d { f with rd := false }))) ∧
  (∀ (s : State) (asid va : Nat) (wr : Bool), s.serving = true →
    ∃ t, exec (.atsTranslationResponse asid va false wr) s = .next t ∧ ∀ k, k < 4 →
      (t.die k).ats = (s.die k).ats.filter (fun f => !f.at asid va) ∧
      (t.die k).pri = (s.die k).pri ++ (s.die k).ats.filter (fun f => f.at asid va)) ∧
  (∀ (s : State) (asid va : Nat) (ok : Bool), s.serving = true → (ok = false → ∀ wr, s.leased asid va wr = false) →
    ∃ t, exec (.priResponse asid va ok) s = .next t ∧ ∀ k, k < 4 →
      (t.die k).pri = (s.die k).pri.filter (fun f => !f.at asid va) ∧
      (t.die k).ats = (s.die k).ats ++ (if ok = true then (s.die k).pri.filter (fun f => f.at asid va) else []) ∧
      (t.die k).refused = (s.die k).refused ++ (if ok = true then [] else (s.die k).pri.filter (fun f => f.at asid va))) ∧
  (∀ (s : State) (asid va : Nat), s.serving = true →
    (∀ c ∈ s.cores, ∀ g ∈ c.active, ∀ y ∈ g.piecesIn ⟨asid, page va * 65536, 65536⟩, y.2.space ≠ .host) →
    (∀ e ∈ s.engines, ∀ j ∈ e.runs, ∀ p ∈ j.putsIn ⟨asid, page va * 65536, 65536⟩, p.space ≠ .host) →
    ∃ t, exec (.atsInvalidation asid va) s = .next t ∧
      ∀ u l e, l ∈ t.tcLevels u → e ∈ l → ¬ (e.host = true ∧ e.covers asid va = true)) ∧
  (∀ (s t : State) (asid va : Nat) (revoke install : List PteWrite) (move : Option (Nat × Nat × Nat))
      (l : List (Nat × Nat × Option PageAt × Option PageAt)), s.serving = true →
    t = (Claims.moved (s.pteWrites revoke) move).pteWrites install → l = changedPages s t (s.changeRange asid va) →
    sameData s (copyHostPages s t l) (s.changeRange asid va) l = true → (copyHostPages s t l).strands (s.changeRange asid va) = false →
    (copyHostPages s t l).leasesHold asid = true →
    ∃ w, exec (.mappingChange asid va revoke move install) s = .next w ∧ w.mem = (copyHostPages s t l).mem ∧
      ∀ u k e, k ∈ w.tcLevels u → e ∈ k → ¬ (e.asid = asid ∧ e.va < (s.changeRange asid va).base + (s.changeRange asid va).len ∧
        (s.changeRange asid va).base < e.va + 2 ^ e.bits))

/-- 14 R363, R367, R368, 15 R404 to R406: a pending asynchronous trap is taken, the range guard's first; an answer clears VALID and takes
effect on the stopped group or the queue event that its SERIAL names, and one that names none is dropped; resume goes on at the stopped
point, abort of a queue event aborts the queue. -/
def Obligations.AnswersAndAsyncTraps : Prop :=
  (∀ (s : State) (r : GRef) (g : Group) (t : PendTrap), s.group r = some g → s.serving = true → g.asyncDue = true →
    g.headerHolds = false → s.raisesTrap r g = false →
    (g.trap.rangeErr = some t →
      exec (.asyncTrapTaken r) s = .next (trapAsync s r { g with trap := { g.trap with rangeErr := none } } 9 t)) ∧
    (g.trap.rangeErr = none → g.trap.dataErr = some t →
      exec (.asyncTrapTaken r) s = .next (trapAsync s r { g with trap := { g.trap with dataErr := none } } 8 t))) ∧
  (∀ (q : Nat), ∀ e ∈ Claims.answers q, ∀ (s : State) (cq : CmdQueue) (serial : Nat), s.queue q = some cq → s.serving = true →
    s.ctxReady cq = true → s.ctxAnswer cq = some (serial, e.2.1) →
    (∀ id, s.answered cq serial = some (.group id) → exec e.1 s = .next ((s.clearValid cq).answerGroup id e.2.2)) ∧
    (∀ ev, s.answered cq serial = some (.event ev) → e.2.2 = .abort → exec e.1 s = .next ((s.clearValid cq).abortQueue cq ev)) ∧
    (∀ ev t, s.answered cq serial = some (.event ev) → e.2.2 ≠ .abort →
      (s.clearValid cq).answerEvent cq ev (decide (e.2.2 = .resume)) = some t → exec e.1 s = .next t)) ∧
  (∀ (q : Nat) (s : State) (cq : CmdQueue) (serial c : Nat), s.queue q = some cq → s.serving = true → s.ctxReady cq = true →
    s.ctxAnswer cq = some (serial, c) → (c = 3 ∨ s.answered cq serial = none) → exec (.answerInvalid q) s = .next (s.clearValid cq)) ∧
  (∀ (s : State) (r : GRef) (g : Group) (x : StopRec), s.group r = some g → x.abortOnly = false → g.trap.inh = false →
    (s.applyAnswer r g x .resume).group r = some (({ g with stop := none } : Group).returnFrom x.base (skewOffs x.skew) x.hskip)) ∧
  (∀ (s : State) (cq : CmdQueue) (e : QueueEvent), s.queue cq.q = some cq →
    ∃ k, (s.abortQueue cq e).queue cq.q = some k ∧ k.state = .aborted ∧ k.running = false ∧ k.cons = cq.cons)

/-- 13 R323 to R329, R331, R340 to R342, R447, 02 Table 2.3, log 28: a task that no other stands before, whose declared ranges are resident with the rights
of their modes, is admitted: it runs on the cores chosen, which it then holds, and no refusal stands against what its lease covers; of two waiting
tasks of one class the pre-empted one is before, then the one with the earlier deadline, then the one enqueued first, and no task is before itself
by any chain (that a task for which cores of its class were taken comes first is the model's reading, log 28); the next group of a core starts with
its arguments, zero registers and its guards; a group retires once its engines are idle; the task's end writes its completion word and frees its
cores. -/
def Obligations.TasksRunAndEnd : Prop :=
  (∀ (s : State) (task : Nat) (place : List Nat) (writes : List PteWrite) (t : Task), s.task task = some t → s.serving = true →
    t.state = .queued → s.mayAdmit t = true → s.classFirst t = true → s.placeOk t place = true →
    s.keeps (s.pteWrites writes) (fun _ _ => false) = true →
    (∀ x ∈ t.launch.ranges, ∀ d, d < 4 → ∀ a ∈ pagesOf x.base x.size,
      (∃ e, (s.pteWrites writes).walk d t.asid a = .leaf e ∧ (x.mode.testBit 1 = true → e.w = true)) ∨
      (∃ b w e, (s.pteWrites writes).walk d t.asid a = .host b w ∧ (x.mode.testBit 1 = true → w = true) ∧
        e ∈ ((s.pteWrites writes).die d).granted ∧ e.covers t.asid a = true ∧ (x.mode.testBit 1 = true → e.w = true))) →
    (∀ c ∈ place, c < s.cores.length) →
    ∃ u k, exec (.admission task place writes) s = .next u ∧ u.task task = some k ∧ k.state = .running ∧ k.cores = place ∧
      k.launch = t.launch ∧ k.victims = [] ∧ (∀ d, (u.die d).refused = u.refusals (s.die d).refused) ∧ (∀ i x, (k.todo[i]? = some x) ↔
        (i < place.length * t.launch.perCore ∧ x = (place.getD (i / Nat.max 1 t.launch.perCore) 0, i))) ∧
      ∀ c ∈ place, ∃ y, u.core c = Core.seat y t ∧ y.store = (s.core c).store ∧ y.slots = (s.core c).slots ∧ y.l1 = []) ∧
  (∀ (s : State) (a b : Task),
    (a.state = .preempted → s.rank a = 1) ∧ (s.rank a = 0 → a.state = .queued) ∧ s.rank a ≤ 2 ∧
    (s.rank a < s.rank b → s.before a b = true) ∧
    (s.rank a = s.rank b → (s.before a b = true ↔ (a.deadline.getD (2 ^ 80) < b.deadline.getD (2 ^ 80) ∨
      (a.deadline.getD (2 ^ 80) = b.deadline.getD (2 ^ 80) ∧ a.order < b.order)))) ∧
    (∀ c, s.before a b = true → s.before b c = true → s.before a c = true) ∧ s.before a a = false) ∧
  (∀ (c : Core) (t : Task), (c.seat t).task = some t.id ∧ (c.seat t).taken = false ∧
    (c.seat t).bnd0 = t.launch.bnd0 ∧ (c.seat t).bnd1 = t.launch.bnd1 ∧ (c.seat t).bnd2 = t.launch.bnd2 ∧
    (∀ a, t.launch.bnd0 * 1024 ≤ a → a < t.launch.bnd1 * 1024 →
      (∀ x ∈ (c.seat t).hamper, x.1 ≠ a) ∧ ((c.seat t).lit.contains (a / 16) = false)) ∧
    (∀ o ∈ (c.seat t).store, o ∈ c.store ∧ ¬ (t.launch.reload = true ∧ o.image = t.launch.image ∧ o.asid = t.asid))) ∧
  (∀ (s : State) (core leaf k wb : Nat) (t : Task), (s.core core).task.bind s.task = some t → s.serving = true →
    (s.core core).taken = false → (∀ g ∈ (s.core core).saved, g.gid.task ≠ t.id) → t.todo.find? (fun x => x.1 == core) = some (core, leaf) →
    (List.range t.launch.seats).find? (fun k => ((s.core core).slots.getD k none).isNone) = some k →
    (s.core core).freeRows t.launch.arows = some wb →
    exec (.groupStart core) s = .next ((s.setTask { t with todo := t.todo.filter (fun x => decide (x ≠ (core, leaf))) }).setGroup ⟨core, k⟩
      (Group.start ⟨t.id, leaf⟩ t.asid wb (spillLimit t.launch) t.launch))) ∧
  (∀ (c : Core) (n wb : Nat), c.freeRows n = some wb → wb ∈ c.rows ∧ rowsOpen c.rowsHeld wb n = true) ∧
  (∀ (id : GId) (asid wb lim : Nat) (l : Launch) (g : Group), g = Group.start id asid wb lim l →
    (∀ k, k < 6 → g.nreg k = l.args.getD k 0#64) ∧ (∀ k, 6 ≤ k → g.nreg k = 0#64) ∧ (∀ k, g.preg k = decide (k = 0)) ∧
    (∀ k, g.areg k = 0#64) ∧ (∀ k, g.freg k = 0#64) ∧ (∀ c, g.vreg c = VReg.zero) ∧ g.e = List.replicate 16 (.filled 0#64) ∧
    g.loops = [] ∧ g.spill = [] ∧ g.fpflags = 0#6 ∧ (∀ k, k < 16 → g.guard k = startGuard l k)) ∧
  (∀ (s : State) (core k : Nat) (g : Group), (s.core core).slots.getD k none = some g → s.serving = true →
    (g.ended = true ∨ g.snuffed = true) → (s.core core).engineIdle g = true →
    ∃ t, exec (.groupRetire core k) s = .next t ∧ (t.core core).slots.getD k none = none ∧
      ∀ x, s.task g.gid.task = some x → t.task g.gid.task = some { x with left := x.left - 1 }) ∧
  (∀ (s : State) (core e : Nat) (g : Group), (s.core core).tracker[e]? = some g → s.serving = true →
    (s.core core).engineIdle g = true →
    ∃ t, exec (.retirementTrackerDrain core e) s = .next t ∧ (t.core core).tracker = (s.core core).tracker.eraseIdx e ∧
      ∀ x, s.task g.gid.task = some x → t.task g.gid.task = some { x with left := x.left - 1 }) ∧
  (∀ (s : State) (task : Nat) (t : Task), s.task task = some t → s.serving = true → t.state ≠ .queued → t.state ≠ .ended → t.left = 0 →
    t.todo = [] →
    (t.launch.donea = 0 → exec (.taskEnd task) s = .next (s.flushL1.closeTask t)) ∧
    (∀ u, t.launch.donea ≠ 0 →
      s.flushL1.writeWord (.die t.home) t.asid t.launch.donea (natLE 8 (taskDone t s.clk)) = .ok u →
      exec (.taskEnd task) s = .next (u.closeTask t))) ∧
  (∀ (s : State) (t : Task) (c : Nat), ((s.closeTask t).core c).task ≠ some t.id)

/-- 13 R330, R332 to R336, R358, 08 R221, log 63, log 67, log 96, log 97: the clk count since when each group is ready, and one that is ready for 64 is promoted; a yielded
group is ready again after 64; a pre-emption takes the cores of its victims that the task needs and no others (the model's reading, log 63); the
victim's groups land, the parts of the bundle at which they land to be fetched again (log 67), and are saved with the scratchpad once nothing of
them that can be performed is in flight (log 96; what their spill areas hold in error is log 97), and come back to the core where they stood, their
leases requested again. -/
def Obligations.PreemptionEvents : Prop :=
  (∀ (s : State) (r : GRef) (g : Group), s.group r = some g →
    (groupReady s r g = true → (∃ t, g.readySince = some t ∧ t + 64 ≤ s.clk) →
      exec (.issueAgePromotion r) s = .next (s.setGroup r { g with promoted := true })) ∧
    (groupReady s r g = false ∨ (g.promoted = false ∧ ∀ t, g.readySince = some t → s.clk < t + 64) →
      exec (.issueAgePromotion r) s = .next s)) ∧
  (∀ (s : State) (n : Nat) (r : GRef) (g : Group), s.group r = some g → r.slot < 8 → 0 < n →
    (groupReady s r g = false → (s.pass n).group r = some { g.ripen s r.core r.slot with readySince := none, promoted := false }) ∧
    (groupReady s r g = true →
      (s.pass n).group r = some { g.ripen s r.core r.slot with readySince := some (g.readySince.getD s.clk) })) ∧
  (∀ (s : State) (core slot wk : Nat) (g : Group) (q : Sequencer), wk < g.wicks.length → (g.wick wk).seq = some q →
    ((g.ripen s core slot).wick wk).seq = some { q with
      readyAt := if StepAt.ripe s slot ⟨core, g, wk, g.wick wk, q⟩ = true then some (q.readyAt.getD s.clk) else none }) ∧
  (∀ (s : State) (r : GRef) (g : Group) (t : Nat), s.group r = some g → g.yielded = some t → t + 64 ≤ s.clk →
    exec (.yieldExpiry r) s = .next (s.setGroup r { g with yielded := none, waiters := [] })) ∧
  (∀ (s : State) (q w : Task), s.preempts q w = true ↔ (q.launch.cls < w.launch.cls ∨ (q.launch.cls = w.launch.cls ∧
    ∃ d, q.deadline = some d ∧ s.partTh q.home ≠ 0xFFFFFFFF ∧ d + s.partTh q.home < w.deadline.getD (2 ^ 80)))) ∧
  (∀ (s : State) (task victim : Nat) (cores others all : List Nat) (ws : List Task) (q v : Task), s.task task = some q →
    s.task victim = some v → s.serving = true → q.id ≠ v.id → s.waits q = true → s.mayAdmit q = true → s.suffices q [] = false → cores ≠ [] →
    (∀ c ∈ cores, c ∈ s.takable q v) → s.enoughOf q [] (s.victimsOf q) = some ws → v ∈ ws →
    others = (ws.filter (fun w => w.id != v.id)).flatMap (s.takable q) →
    s.suffices q (cores ++ others) = true → (∀ c ∈ cores, s.suffices q (cores.erase c ++ others) = false) →
    (v.outing = false → all = cores) → (v.outing = true → ∀ c, c ∈ all ↔ (c < 160 ∧ (s.core c).task = some v.id)) →
    ∃ u, exec (.preemptionDecision task victim cores) s = .next u ∧
      u.task victim = some { v with state := .preempted, wasPreempted := true } ∧
      u.task task = some { q with victims := insertNat q.victims v.id } ∧
      ∀ c, (c ∉ all → u.core c = s.core c) ∧ (c ∈ all → (u.core c).taken = true ∧ ∀ k g, (s.core c).slots.getD k none = some g →
        (u.core c).slots.getD k none = some (if g.gid.task = v.id then { g with preempt := true } else g))) ∧
  (∀ (s : State) (task victim : Nat) (cores : List Nat) (q v : Task), s.task task = some q → s.task victim = some v →
    (∀ w ∈ s.tasks, w.id = victim → w = v) → (s.suffices q [] = true ∨ s.preempts q v = false ∨ s.mayAdmit q = false) →
    exec (.preemptionDecision task victim cores) s = .next s) ∧
  (∀ (s : State) (r : GRef) (g : Group), s.group r = some g → s.serving = true → r.slot < 8 → landsHere s r g = true →
    (g.stop = none → g.headerHolds = false) →
    ∃ t h, exec (.preemptionLanding r) s = .next t ∧ t.group r = some h ∧ h.landed = true ∧ h.n = g.n ∧ h.e = g.e ∧ h.vregs = g.vregs ∧
      (g.stop = none → h.pc = g.basePC ∧ ∀ k, h.slotQ k = []) ∧
      (∀ q ∈ (t.core r.core).reqs, ¬ (q.slot = r.slot ∧ q.wick = none))) ∧
  (∀ (s : State) (core t : Nat), (s.core core).task = some t → s.serving = true → (s.core core).taken = true →
    (∀ g ∈ (s.core core).slots.filterMap id, g.landed = true ∧ (s.core core).quiet g = true) →
    exec (.preemptionSave core) s = .next (s.setCore core { s.core core with
      slots := List.replicate 8 none
      saved := (s.core core).saved ++ ((s.core core).slots.filterMap id).map Group.stow
      savedPad := (s.core core).savedPad ++ [(s.core core).padImage t]
      l1 := []
      task := none
      taken := false
      rows := []
      reqs := []
      runPanes := [] })) ∧
  (∀ (s : State) (task core : Nat) (t : Task) (p : PadImage), s.task task = some t →
    (s.core core).savedPad.find? (fun p => p.task == task) = some p → s.serving = true → t.state = .preempted → s.mayAdmit t = true →
    s.classFirst t = true → (s.core core).task = none → (∀ x ∈ (s.core core).slots, x = none) →
    ((∀ g ∈ (s.core core).saved, g.gid.task ≠ task) → (s.core core).rowsFit t.launch = true) →
    (∀ g ∈ (s.core core).saved, s.reissueReady core g = true ∧ g.lost = false ∧ g.stop = none ∧ g.cls < 4) → core < s.cores.length →
    (s.core core).saved.length ≤ 8 →
    ∃ u, exec (.resumption task core) s = .next u ∧ (u.core core).task = some task ∧ (u.core core).taken = false ∧
      (u.core core).saved = (s.core core).saved.filter (fun g => g.gid.task != task) ∧
      (∀ g ∈ (s.core core).saved, g.gid.task = task →
        ∃ k h, k < 8 ∧ u.group ⟨core, k⟩ = some h ∧ h.gid = g.gid ∧ h.pc = g.pc ∧ h.n = g.n ∧ h.e = g.e ∧ h.vregs = g.vregs ∧
          h.landed = false ∧ (g.lm ≠ 0#4 → ∃ q ∈ (u.core core).reqs, q.slot = k ∧ q.wick = none)) ∧
      ((∀ x ∈ u.cores, (∀ p ∈ x.savedPad, p.task ≠ task) ∧ ¬ (x.task = some task ∧ x.taken = true)) →
        ∃ k, u.task task = some k ∧ k.state = .running))

/-- 13 R337 to R339, R345, R346, 14 R385, log 58, log 59: a group's fetch checks its image once, at its first fetch, and takes TRAP.VEC then (the
model's reading, log 59), and then loads the overlay of its next bundle; a SNUFF stops the groups of a core that it reaches, cuts a channel's copies
after them, removes a home's queued tasks, and writes its ack word once every fate is met (that a core comes before its channels, and what the counts
take in, is log 58); a lamp test that fails withdraws its unit. -/
def Obligations.OverlaysAndSnuffs : Prop :=
  (∀ (s : State) (r : GRef) (g : Group) (t : Task), s.group r = some g → s.task g.gid.task = some t → s.serving = true → r.slot < 8 →
    g.dispatchHeld = false → g.asyncDue = false → ({ g with started := true } : Group).fetches = true →
    (∀ i, g.started = false → (s.core r.core).images.find? (fun i => i.image == t.launch.image && i.asid == g.asid) = some i →
      exec (.overlayLoad r) s = .next (s.setGroup r { g with started := true, trap := { g.trap with vec := word i.vec } })) ∧
    (∀ h, g.started = false → (s.core r.core).images.find? (fun i => i.image == t.launch.image && i.asid == g.asid) = none →
      s.homeRead (.core r.core) g.asid t.launch.image 32 = .ok h → headerBad h = true → g.allIssued = true → g.headerHolds = false →
      exec (.overlayLoad r) s =
        .next (trapBundle s r { g with trap := { g.trap with vec := 0#64 } } 4 0 0 t.launch.image)) ∧
    (∀ h tb k x bs st, g.started = true → s.residentFor r g = none → s.homeRead (.core r.core) g.asid t.launch.image 32 = .ok h →
      s.homeRead (.core r.core) g.asid (t.launch.image + hdrField h 16 4) (16 * hdrField h 2 2) = .ok tb →
      (List.range (overlaysOf tb).length).find? (fun k => t.launch.image + ((overlaysOf tb).getD k (0, 0)).1 ≤ g.pc &&
        decide (g.pc + 32 ≤ t.launch.image + ((overlaysOf tb).getD k (0, 0)).1 + ((overlaysOf tb).getD k (0, 0)).2)) = some k →
      x = (overlaysOf tb).getD k (0, 0) → s.homeRead (.core r.core) g.asid (t.launch.image + x.1) x.2 = .ok bs →
      (∀ o ∈ (s.core r.core).store, ¬ (o.bad = true ∧ o.image = t.launch.image ∧ o.asid = g.asid ∧ o.index = k)) →
      makeRoom (s.evictable r.core) x.2 (s.core r.core).store.length (s.core r.core).store = some st →
      exec (.overlayLoad r) s = .next (s.setCore r.core { s.core r.core with
        store := st ++ [⟨t.launch.image, g.asid, k, t.launch.image + x.1, bs, s.clk, false, false⟩] }))) ∧
  (∀ (s : State) (id c : Nat) (u : Snuff), s.snuffAt id = some u → s.serving = true → SnuffSite.core c ∉ u.reached →
    ∃ t v, exec (.snuffArrival id (.core c)) s = .next t ∧ t.snuffAt id = some v ∧ v.reached = u.reached ++ [.core c] ∧
      ∀ k g, k < 8 → s.group ⟨c, k⟩ = some g → g.gid.task ∈ u.tasks → g.ended = false → g.snuffed = false →
        ∃ h, t.group ⟨c, k⟩ = some h ∧ h.snuffed = true ∧ h.loads = [] ∧ ∀ j, h.slotQ j = []) ∧
  (∀ (s : State) (id c ch : Nat) (u : Snuff), s.snuffAt id = some u → s.serving = true → SnuffSite.core c ∈ u.reached →
    SnuffSite.copyChannel c ch ∉ u.reached →
    ∃ t v, exec (.snuffArrival id (.copyChannel c ch)) s = .next t ∧ t.snuffAt id = some v ∧ v.reached = u.reached ++ [.copyChannel c ch] ∧
      v.cut = u.cut + (s.cutChannel c ch u.tasks u.id).1) ∧
  (∀ (s : State) (id d : Nat) (u : Snuff), s.snuffAt id = some u → s.serving = true → SnuffSite.scheduler d ∉ u.reached →
    ∃ t v, exec (.snuffArrival id (.scheduler d)) s = .next t ∧ t.snuffAt id = some v ∧ v.reached = u.reached ++ [.scheduler d] ∧
      v.removed = u.removed + (s.tasks.filter (fun x => u.tasks.contains x.id && x.home == d && x.state == .queued)).length ∧
      ∀ x ∈ t.tasks, x.id ∈ u.tasks → x.home = d → x.state ≠ .queued) ∧
  (∀ (s t : State) (id : Nat) (u : Snuff), s.snuffAt id = some u → s.serving = true → s.snuffMet u = true → u.followers = [] →
    ({ s with snuffs := s.snuffs.filter (fun x => x.id != u.id) } : State).writeWord (s.ackUnit u) u.asid u.ack
      (ackBytes u.removed u.stopped u.cut u.refused u.performed u.dropped) = .ok t →
    exec (.snuffComplete id) s = .next t) ∧
  (∀ (s : State) (unit : LampUnit) (pass : Bool) (j : LampJob), s.lamps.find? (fun j => decide (j.unit = unit)) = some j →
    ∃ t, exec (.lampTest unit pass) s = .next t ∧ t.lamps = s.lamps.erase j ∧ (pass = true → t.withdrawn = s.withdrawn) ∧
      (pass = false → unit ∈ t.withdrawn) ∧ s.sameBytes t)

/-- 15 R397 to R400, R404, R405, 14 R366, log 65, log 70: PROD is taken where it agrees with CONS and the slots fetched, else queue event 4 is posted;
the next record of the queue in turn is armed with the notifications that came before, a malformed one posts queue event 3 (the turns by queue number
are the model's choice, log 70; the successors that a malformed node keeps are log 65); an event stalls its queue, STATE written at once or, where the
context cannot be written then, due; a final node writes its completion word and is final; and the oldest posting goes to the exception ring once a
STATE that was due is written. -/
def Obligations.QueuesFetchAndFinish : Prop :=
  (∀ (s : State) (q : Nat) (cq : CmdQueue), s.queue q = some cq → s.serving = true → cq.running = true → s.ctxReady cq = true →
    exec (.prodUpdate q) s = .next
      (if since32 (s.ctxQuad cq 1 % 2 ^ 32) cq.cons ≤ cq.rs ∧ since32 (s.ctxQuad cq 1 % 2 ^ 32) cq.fetched ≤ cq.rs
       then s.setQueue { cq with prod := s.ctxQuad cq 1 % 2 ^ 32 } else s.raiseEvent q 4 (cq.fetched % cq.rs) cq.ctx [])) ∧
  (∀ (s u : State) (q slot : Nat) (cq : CmdQueue) (b ovf : List Byte) (n : Node), s.queue q = some cq → s.serving = true →
    cq.running = true → cq.fetched ≠ cq.prod →
    (∀ x ∈ s.queues, x.running = true → x.fetched ≠ x.prod → (q + 4095 - s.fetchRR) % 4096 ≤ (x.q + 4095 - s.fetchRR) % 4096) →
    u = { s with fetchRR := q } → slot = cq.fetched % cq.rs → u.qRead cq (cq.ring + 128 * slot) 128 = .ok b →
    n = ⟨slot, b, [], 0, 0, 0, false, none, none, 0, 0, false⟩ →
    (n.headBad = true → ¬ (8 < nsucc n ∧ n.quad 4 % 2 = 0 ∧ isGlobal (n.quad 4) = true) →
      exec (.recordFetch q) s = .next (u.malformedNode cq slot (cq.ring + 128 * slot) b ((n.succOf []).take 8))) ∧
    ((n.headBad = false ∨ (8 < nsucc n ∧ n.quad 4 % 2 = 0 ∧ isGlobal (n.quad 4) = true)) →
      u.qRead cq (n.quad 4) (2 * (nsucc n - 8)) = .ok ovf →
      (n.headBad = true ∨ cq.succBad n (n.succOf ovf) = true →
        exec (.recordFetch q) s = .next (u.malformedNode cq slot (cq.ring + 128 * slot) b (n.succOf ovf))) ∧
      (n.headBad = false → cq.succBad n (n.succOf ovf) = false →
        exec (.recordFetch q) s = .next (u.setQueue (cq.armed slot b (n.succOf ovf)))))) ∧
  (∀ (s : State) (q code slot addr : Nat) (w : List Byte) (cq : CmdQueue), s.queue q = some cq →
    ∃ k e, (s.raiseEvent q code slot addr w).queue q = some k ∧ k.events = cq.events ++ [e] ∧ e.code = code ∧ e.slot = slot ∧
      e.addr = addr ∧ k.running = false ∧ k.nodes = cq.nodes ∧ k.posts.length = cq.posts.length + 1 ∧
      (k.stateDue = false ↔ s.ctxReady cq = true)) ∧
  (∀ (s : State) (q : Nat) (cq : CmdQueue), s.queue q = some cq → s.serving = true → s.ctxReady cq = true → cq.stateDue = true →
    exec (.queueEventPost q) s = .next (s.putState cq)) ∧
  (∀ (s : State) (q slot : Nat) (cq : CmdQueue) (n : Node) (o : NodeOutcome), s.queue q = some cq → cq.node slot = some n →
    cq.cameTo n = some o → s.serving = true → s.ctxReady cq = true →
    (n.donea = 0 → exec (.nodeFinal q slot) s = .next (s.finishNode q slot o)) ∧
    (∀ t, n.donea ≠ 0 → n.donea % 8 = 0 → isGlobal n.donea = true →
      s.writeWord cq.unit cq.pasid n.donea (natLE 8 (nodeDone n o)) = .ok t →
      exec (.nodeFinal q slot) s = .next (t.finishNode q slot o))) ∧
  (∀ (cq : CmdQueue) (slot : Nat) (o : NodeOutcome) (n : Node), cq.node slot = some n →
    ∃ m, (cq.notify slot o).node slot = some m ∧ m.pending = n.pending - 1 ∧ m.ran + m.skips = n.ran + n.skips + 1 ∧
      (m.ran = n.ran + 1 ↔ o = .done ∨ (o = .failed ∧ n.fskip = false))) ∧
  (∀ (s : State) (q : Nat) (cq cq' : CmdQueue) (p : Posting) (rest : List Posting), s.queue q = some cq → cq.posts = p :: rest →
    s.serving = true → s.ctxReady cq = true → cq.stateDue = false → since32 cq.eqp (s.ctxQuad cq 4 / 2 ^ 32 % 2 ^ 32) < cq.ers →
    s.span cq.unit cq.pasid (cq.ering + 64 * (cq.eqp % cq.ers)) 64 true = .ok →
    cq' = { cq with posts := rest, eqp := (cq.eqp + 1) % 2 ^ 32 } →
    exec (.queueEventPost q) s = .next (((((s.putPosting cq (cq.ering + 64 * (cq.eqp % cq.ers)) p).setQueue cq').putCtx cq' 32 4
      cq'.eqp)).putState cq'))

/-- 15 R399 to R403, log 65: a node that fires performs its kind: a launch enqueues its task or fails, a copy enters a front-end channel (its number,
the slot's modulo 4, is the model's choice, log 65), a SIGNAL leaves its word at the home slice, a WAIT fires and ends once its condition holds, a
COND reads its word once and as it becomes final notifies TSLOT as ran and FSLOT as skipped where its condition holds, and else FSLOT as ran and TSLOT
as skipped, a LOOP runs its iterations. -/
def Obligations.NodesPerformTheirKind : Prop :=
  (∀ (q slot : Nat), ∀ e ∈ [(Instr.launch q slot, 1), (.ilaunch q slot, 7), (.outing q slot, 8)],
    ∀ (s : State) (cq : CmdQueue) (n : Node), s.firing q slot e.2 = some (cq, n) →
    exec e.1 s = .next (s.launchNode cq n)) ∧
  (∀ (s : State) (q slot : Nat) (cq : CmdQueue) (n : Node), s.queue q = some cq → cq.node slot = some n → s.serving = true →
    n.kind = 8 → n.fired = true → n.task = 0 → n.result = none → n.outcome = none →
    exec (.outingRetry q slot) s = .next (s.launchNode cq n)) ∧
  (∀ (s : State) (cq : CmdQueue) (n : Node) (b : List Byte) (counts exempt : List Nat) (gb : List Byte) (l : Launch) (m : Nat),
    s.queue cq.q = some cq → cq.node n.slot = some n → s.nodeRead cq n = .ok b counts exempt gb →
    (s.nodeStatus cq n b counts exempt gb = (some 0, l, m) →
      ∃ t k, (s.launchNode cq n).tasks = s.tasks ++ [t] ∧ t.launch = l ∧ t.id = s.ids ∧ t.state = .queued ∧ t.node = some (cq.q, n.slot) ∧
        t.asid = cq.pasid ∧ ((s.launchNode cq n).queue cq.q).bind (·.node n.slot) = some k ∧ k.fired = true ∧ k.task = s.ids) ∧
    (s.nodeStatus cq n b counts exempt gb = (none, l, m) → s.launchNode cq n = s.fireEnd cq n .failed)) ∧
  (∀ (s : State) (q slot : Nat) (cq : CmdQueue) (n : Node) (b : List Byte), s.firing q slot 2 = some (cq, n) → n.p 0 % 64 = 0 →
    isGlobal (n.p 0) = true → s.engRead ⟨160 + cq.home, cq.pasid, 0, .die cq.home⟩ (n.p 0) 64 = .ok b →
    ((recOf b).kind = cpCPY ∨ (recOf b).kind = cpCPY2 ∨ (recOf b).kind = cpCPYH) → recVerdict (recOf b).kind (recOf b) none 0 0 = .go →
    (s.engine (160 + cq.home)).depth (slot % 4) < 16 →
    exec (.copyNode q slot) s = .next ((s.fire cq n).enqueueCopy (160 + cq.home)
      { CopyJob.fresh 0 none (some (q, slot)) cq.pasid (slot % 4) .copy with recAddr := n.p 0, record := b })) ∧
  (∀ (q slot : Nat), ∀ e ∈ ([(.signalStore q slot, 0, fun _ v => v), (.signalAdd q slot, 1, fun w v => (w + v) % 2 ^ 64),
      (.signalOr q slot, 2, fun w v => w ||| v)] : List (Instr × Nat × (Nat → Nat → Nat))), ∀ (s : State) (cq : CmdQueue) (n : Node) (pa : Nat),
    s.firing q slot 3 = some (cq, n) → n.op = e.2.1 → s.nodeWord cq n true = .at pa → (∀ k, s.readErr pa ≠ .bad k) →
    exec e.1 s = .next ((s.putGranule pa false (natLE 8 (e.2.2 (s.quadAt pa) (n.p 1)))).fireEnd cq n .done)) ∧
  (∀ (s : State) (q slot w : Nat) (cq : CmdQueue) (n : Node), s.firing q slot 4 = some (cq, n) → s.nodeValue cq n = .ok w →
    exec (.waitNode q slot) s = .next (s.fire cq n)) ∧
  (∀ (s : State) (q slot w : Nat) (cq : CmdQueue) (n : Node), s.queue q = some cq → cq.node slot = some n → s.serving = true →
    n.kind = 4 → n.fired = true → n.result = none → n.outcome = none → (∀ x ∈ cq.events, ¬ (x.code = 3 ∧ x.slot = slot)) →
    s.nodeValue cq n = .ok w → exec (.waitSatisfied q slot) s = .next (if nodeCond n w = true then s.fireEnd cq n .done else s)) ∧
  (∀ (s : State) (q slot w : Nat) (cq : CmdQueue) (n : Node), s.firing q slot 6 = some (cq, n) → s.nodeValue cq n = .ok w →
    exec (.condNode q slot) s = .next (s.fireEnd cq { n with iter := if nodeCond n w = true then 1 else 2 } .done)) ∧
  (∀ (s : State) (q slot : Nat) (cq : CmdQueue) (n : Node) (o : NodeOutcome), s.queue q = some cq → cq.node slot = some n →
    s.finishNode q slot o = (s.setQueue (cq.finalNode n o)).putCtx (cq.finalNode n o) 16 4 (cq.finalNode n o).cons) ∧
  (∀ (cq c : CmdQueue) (n : Node) (a b : Nat), n.kind = 6 → n.condSlots = [a, b] →
    (∀ x ∈ n.succ ++ [a, b], cq.live x = true ∧ x ≠ n.slot) →
    c = n.succ.foldl (fun (c : CmdQueue) x => c.notify x .done) (cq.setNode { n with outcome := some .done, result := some .done }) →
    (n.iter = 1 → cq.finalNode n .done = ((c.notify a .done).notify b .skipped).retire) ∧
    (n.iter = 2 → cq.finalNode n .done = ((c.notify a .skipped).notify b .done).retire)) ∧
  (∀ (n : Node), n.kind = 6 → n.condSlots = [nbits (n.p 4) 0 16, nbits (n.p 4) 16 16]) ∧
  (∀ (s : State) (q slot : Nat) (cq : CmdQueue) (n : Node), s.firing q slot 5 = some (cq, n) → loopBad cq n = false →
    (∀ b ∈ loopBody cq n, cq.node b ≠ none) →
    exec (.loopNode q slot) s = .next (if loopN n = 0 then s.fireEnd cq n .done else s.setQueue (cq.iterate n 0))) ∧
  (∀ (s : State) (q slot : Nat) (cq : CmdQueue) (n m : Node), s.queue q = some cq → cq.node slot = some n → s.serving = true →
    n.kind = 5 → n.fired = true → n.result = none → n.outcome = none → (∀ x ∈ cq.events, ¬ (x.code = 3 ∧ x.slot = slot)) →
    cq.node (loopExit n) = some m → m.outcome ≠ none →
    exec (.loopIteration q slot) s =
      .next (if n.iter + 1 < loopN n then s.setQueue (cq.iterate n (n.iter + 1)) else s.fireEnd cq n .done))

/-- 15 R396, R406, R449, 22 R442, log 70: QCMD registers a queue with an open ROOT and STATE RUN, gives a quiet one up, resets one to its PROD with a
new ROOT, and snuffs a ROOT, one that an earlier SNUFF left without a task among them; a context that breaks R396, ops 2 and 3 on a queue that is not
quiet, and (the model's reading, log 70) an op on an unknown queue and an ack address that is misaligned or not global are refused; a refused
operation changes nothing but DONE and sets PERR; outside READY the write changes nothing and counts in DENY. -/
def Obligations.QueueCommands : Prop :=
  (∀ (s t : State) (val : Word) (d asid root : Nat) (x : List Nat), s.serving = true → bits val 0 4 = 1 →
    s.queue (bits val 4 12) = none → s.plat.qarg0.toNat % 64 = 0 → isGlobal s.plat.qarg0.toNat = true →
    s.ctxPlaces.find? (s.ctxNamed s.plat.qarg0.toNat) = some (d, asid) → x = s.ctxQuads d asid s.plat.qarg0.toNat →
    s.ctxBad x = false → s.newScope 0 0 = some (root, t) →
    exec (.queueRegister val) s = .next ((({ t with
      queues := t.queues ++ [queueOf (bits val 4 12) s.plat.qarg0.toNat root 1 x (nbits (x.getD 2 0) 0 32) []] } : State).putRoot
        (queueOf (bits val 4 12) s.plat.qarg0.toNat root 1 x (nbits (x.getD 2 0) 0 32) [])).qDone val)) ∧
  (∀ (s : State) (val : Word), s.serving = true → bits val 0 4 = 1 → (s.queue (bits val 4 12)).isSome = true →
    exec (.queueRegister val) s = .next ((s.qDone val).refuseWrite)) ∧
  (∀ (s : State) (val : Word) (cq : CmdQueue), s.serving = true → bits val 0 4 = 2 → s.queue (bits val 4 12) = some cq →
    s.queueQuiet cq = true →
    exec (.queueUnregister val) s = .next ((({ s with queues := s.queues.filter (fun x => x.q != cq.q) } : State).closeRoot
      cq.root).qDone val)) ∧
  (∀ (s : State) (val : Word) (cq : CmdQueue) (root : Nat) (u : State), s.serving = true → bits val 0 4 = 3 →
    s.queue (bits val 4 12) = some cq → s.queueQuiet cq = true → s.ctxReady cq = true →
    s.ctxBad (s.ctxQuads cq.home cq.pasid cq.ctx) = false → (s.closeRoot cq.root).newScope 0 0 = some (root, u) →
    ∃ t k, exec (.queueReset val) s = .next t ∧ t.queue (bits val 4 12) = some k ∧ k.nodes = [] ∧ k.early = [] ∧ k.state = .run ∧
      k.root = root ∧ k.serial = cq.serial ∧ k.posts = cq.posts ∧ k.cons = (s.ctxQuad cq 1) % 2 ^ 32 ∧ k.prod = k.cons ∧
      k.fetched = k.cons) ∧
  (∀ (s : State) (val : Word) (cq : CmdQueue), s.serving = true → bits val 0 4 = 4 → s.queue (bits val 4 12) = some cq →
    s.plat.qarg1.toNat % 8 = 0 → isGlobal s.plat.qarg1.toNat = true →
    ((s.scope cq.root).isSome = true →
      exec (.queueSnuffRoot val) s = .next ((s.snuff cq.root cq.root s.plat.qarg1.toNat cq.pasid cq.q).2.qDone val)) ∧
    (s.scope cq.root = none →
      exec (.queueSnuffRoot val) s = .next ((s.snuffAgain cq.root s.plat.qarg1.toNat cq.pasid cq.q).qDone val))) ∧
  (∀ (s : State) (root ack asid q : Nat), ∃ u ∈ (s.snuffAgain root ack asid q).snuffs,
    (u.ack = ack ∧ u.asid = asid) ∨ (ack, asid) ∈ u.followers) ∧
  (∀ (s : State) (val : Word), s.serving = true → bits val 0 4 = 4 →
    (s.plat.qarg1.toNat % 8 ≠ 0 ∨ isGlobal s.plat.qarg1.toNat = false) →
    exec (.queueSnuffRoot val) s = .next ((s.qDone val).refuseWrite)) ∧
  (∀ (s : State) (val : Word) (cq : CmdQueue), s.serving = true → s.queue (bits val 4 12) = some cq → s.queueQuiet cq = false →
    (bits val 0 4 = 2 → exec (.queueUnregister val) s = .next ((s.qDone val).refuseWrite)) ∧
    (bits val 0 4 = 3 → exec (.queueReset val) s = .next ((s.qDone val).refuseWrite))) ∧
  (∀ (s : State) (val : Word) (d asid : Nat), s.serving = true → bits val 0 4 = 1 → s.queue (bits val 4 12) = none →
    s.plat.qarg0.toNat % 64 = 0 → isGlobal s.plat.qarg0.toNat = true →
    s.ctxPlaces.find? (s.ctxNamed s.plat.qarg0.toNat) = some (d, asid) → s.ctxBad (s.ctxQuads d asid s.plat.qarg0.toNat) = true →
    exec (.queueRegister val) s = .next ((s.qDone val).refuseWrite)) ∧
  (∀ (val : Word), ∀ e ∈ [(Instr.queueUnregister val, 2), (.queueReset val, 3), (.queueSnuffRoot val, 4)], ∀ (s : State),
    s.serving = true → bits val 0 4 = e.2 → s.queue (bits val 4 12) = none → exec e.1 s = .next ((s.qDone val).refuseWrite)) ∧
  (∀ (val : Word), ∀ i ∈ [Instr.queueRegister val, .queueUnregister val, .queueReset val, .queueSnuffRoot val], ∀ (s : State),
    s.serving = false → exec i s = .next s.denied) ∧
  (∀ (s : State), s.refuseWrite = { s with plat := { s.plat with perr := true } } ∧
    s.denied = { s with plat := { s.plat with deny := min (s.plat.deny + 1) 0xFFFF } }) ∧
  (∀ (s : State) (val : Word) (k : Nat), (s.qDone val).plat.qcmd.getLsbD k = ((decide (k < 16) && val.getLsbD k) || k == 63)) ∧
  (∀ (s : State) (cq : CmdQueue), s.queueQuiet cq = true ↔ ((∀ n ∈ cq.nodes, n.fired = true → n.outcome ≠ none) ∧
    ∀ t ∈ s.tasks, t.state ≠ .ended → s.under cq.root t.scope = false))

/-- 22 R440, R441, R443, Tables 22.2 and 22.5, log 36: DEVICE_RESET in phase RESET begins the boot ROM and elsewhere resets the device (the model's
reading of one event for both, log 36); a reset runs the phases in order to READY or RECOVERY; of two valid slots the higher VERSION
is booted, slot 0 when equal; READY raises the FLOOR; the mailbox verifies an image, which is written and resets the device where valid, and
else leaves RES = 1. -/
def Obligations.BootAndRecovery : Prop :=
  (∀ s : State, (s.plat.phase = 0 → exec .deviceReset s = .next (s.onPlat (fun p => { p with phase := 1 }))) ∧
    (s.plat.phase ≠ 0 → exec .deviceReset s = .next s.resetDevice) ∧
    (s.plat.phase = 1 → exec .bootRomHash s = .next (s.onPlat (fun p => { p with phase := 2 }))) ∧
    (s.plat.phase = 3 → exec .firmwareLoad s = .next (s.onPlat (fun p => { p with phase := 4 })))) ∧
  (∀ s : State, s.resetDevice.plat.phase = 0 ∧ s.resetDevice.tasks = [] ∧ s.resetDevice.plat.nvFloor = s.plat.nvFloor ∧
    s.resetDevice.plat.nvKey = s.plat.nvKey ∧ s.resetDevice.plat.slots = s.plat.slots) ∧
  (∀ s : State, s.plat.phase = 2 → ∃ p, exec .slotChoice s = .next { s with plat := p } ∧ p.fail0 = !s.plat.valid 0 ∧
    p.fail1 = !s.plat.valid 1 ∧
    (s.plat.valid 0 = true → (s.plat.valid 1 = true → (s.plat.fw 1).version ≤ (s.plat.fw 0).version) → p.phase = 3 ∧ p.slot = 0) ∧
    (s.plat.valid 1 = true → (s.plat.valid 0 = true → (s.plat.fw 0).version < (s.plat.fw 1).version) → p.phase = 3 ∧ p.slot = 1) ∧
    (s.plat.valid 0 = false → s.plat.valid 1 = false → p.phase = 6)) ∧
  (∀ (s : State) (failed : List LampUnit), s.plat.phase = 4 →
    ∃ t, exec (.hbmTrain failed) s = .next t ∧ t.plat.phase = 5 ∧ t.plat.rank = s.plat.nvRank ∧ t.plat.part = s.plat.nvPart ∧
      s.plat.nvFloor ≤ t.plat.nvFloor ∧ (s.plat.fw s.plat.slot).floor ≤ t.plat.nvFloor ∧ (∀ u, u ∈ t.withdrawn ↔ u ∈ failed)) ∧
  (∀ (s : State) (val : Word), s.plat.phase = 6 → s.plat.mboxBusy = false →
    (bits val 0 2 = 0 → exec (.mboxNone val) s = .next s) ∧
    (bits val 0 2 = 1 → (bits val 32 32 = 0 ∨ 1048576 < bits val 32 32) →
      exec (.mboxVerifyWrite val) s = .next (s.onPlat (fun p => { p with mboxCmd := mboxFields val, mboxRes := 2 }))) ∧
    (bits val 0 2 = 1 → bits val 32 32 ≠ 0 → bits val 32 32 ≤ 1048576 →
      exec (.mboxVerifyWrite val) s = .next (s.onPlat (fun p => { p with mboxCmd := mboxFields val, mboxBusy := true }))) ∧
    (bits val 0 2 = 2 → exec (.mboxClear val) s = .next (s.onPlat (fun p => { p with mboxRes := 0 }))) ∧
    (bits val 0 2 = 3 → exec (.mboxRefused val) s = .next (s.onPlat (fun p => { p with mboxRes := 3 })))) ∧
  (∀ (val : Word) (k : Nat), k < 64 → (mboxFields val).getLsbD k = ((decide (k < 3) || decide (32 ≤ k)) && val.getLsbD k)) ∧
  (∀ (s : State) (val : Word), s.serving = true →
    exec (.mboxRefused val) s = .next (s.onPlat (fun p => { p with mboxRes := 3, perr := true })) ∧
    (bits val 0 2 = 1 → exec (.mboxVerifyWrite val) s = .next (s.onPlat (fun p => { p with mboxRes := 3, perr := true })))) ∧
  (∀ s : State, s.plat.phase = 6 → s.plat.mboxBusy = true →
    (s.plat.stagedValid = false →
      exec .recoveryImageVerified s = .next (s.onPlat (fun p => { p with mboxBusy := false, mboxRes := 1 }))) ∧
    (s.plat.stagedValid = true → ∃ t, exec .recoveryImageVerified s = .next t ∧ t.plat.phase = 0 ∧
      t.plat.slots = s.plat.slots.set (bits s.plat.mboxCmd 2 1) (stagedSlot (s.plat.staging.readN 0 (bits s.plat.mboxCmd 32 32))))) ∧
  (∀ s : State, ∃ t, exec .powerLoss s = .next t ∧ t.plat.phase = 0 ∧ t.plat.nvFloor = s.plat.nvFloor ∧
    s.plat.nvKey ≤ t.plat.nvKey ∧ t.plat.nvKey ≤ s.plat.nvKey + 1 ∧
    (t.plat.slots = s.plat.slots ∨ (s.plat.phase = 6 ∧ s.plat.mboxBusy = true ∧ s.plat.stagedValid = true ∧
      ∃ x : FwSlot, t.plat.slots = s.plat.slots.set (bits s.plat.mboxCmd 2 1) x ∧ x.signed = false)))

/-- 22 R437 to R439, R442, R444 to R446, Table 22.3, log 35, log 68: PART takes aligned masks on dies with no task admitted and RANK a value while no
collective runs, else the write changes nothing and sets PERR; an access outside the phase's reach counts in DENY; an attestation commits its
key's index before it signs, and ends as exhausted when none is left; 105 degrees halt the device, a power sample above 1,800 W sets THROT and one
at or below it clears it, PTM publishes TIME. The model's own: PART and RANK stand in the non-volatile store (log 35), ATT.CMD keeps any value written
to it, power is sampled in TRAIN and READY, and THROT reads 1 in TRAIN, READY and HALTED alone (log 68). -/
def Obligations.ManagementEvents : Prop :=
  (∀ (s : State) (val : Word), s.serving = true →
    (partOk val = true → (∀ d, d < 4 → bits val (4 * d) 4 = s.partition d ∨ s.dieBusy d = false) →
      exec (.partWrite val) s = .next (s.onPlat (fun p => { p with part := word (bits val 0 16), nvPart := word (bits val 0 16) }))) ∧
    (partOk val = false ∨ (∃ d, d < 4 ∧ bits val (4 * d) 4 ≠ s.partition d ∧ s.dieBusy d = true) →
      exec (.partWrite val) s = .next s.refuseWrite) ∧
    ((∀ g ∈ s.allGroups, g.collective = false) →
      exec (.rankWrite val) s = .next (s.onPlat (fun p => { p with rank := bits val 0 18, nvRank := bits val 0 18 }))) ∧
    ((∃ g ∈ s.allGroups, g.collective = true) → exec (.rankWrite val) s = .next s.refuseWrite) ∧
    (∀ k, exec (.pthWrite k val) s = .next (s.onPlat (fun x => { x with pth := x.pth.set k (bits val 0 32) }))) ∧
    exec (.managementRegisterWrite .qarg0 val) s = .next (s.onPlat (fun p => { p with qarg0 := val })) ∧
    exec (.managementRegisterWrite .qarg1 val) s = .next (s.onPlat (fun p => { p with qarg1 := val })) ∧
    exec (.managementRegisterWrite (.other 8) val) s = .next (s.onPlat (fun p => { p with perr := p.perr && !val.getLsbD 21 }))) ∧
  (∀ (s : State) (acc : HostAccess), reaches s.plat.phase acc.off = false →
    ∃ t, exec (.deniedAccess acc) s = .next t ∧ t = { s with plat := { s.plat with deny := min (s.plat.deny + 1) 0xFFFF } }) ∧
  (∀ (s : State) (nonce : BitVec 256), s.serving = true →
    (s.plat.attRun = false → exec (.attNonceWrite nonce) s = .next (s.onPlat (fun p => { p with nonce := nonce }))) ∧
    (s.plat.attRun = true → exec (.attNonceWrite nonce) s = .next s.denied)) ∧
  (∀ s : State, s.serving = true → s.plat.attRun = false →
    exec .attestationRequest s = .next (s.onPlat (fun p => { p with attCmd := 1#64, attStat := 0, attRun := true }))) ∧
  (∀ s : State, s.serving = true → s.plat.attRun = true →
    (s.plat.nvKey < 2 ^ 20 → ∃ p r, exec .attestationDone s = .next { s with plat := p } ∧ p.report = some r ∧ r.index = s.plat.nvKey ∧
      r.nonce = s.plat.nonce ∧ p.nvKey = s.plat.nvKey + 1 ∧ p.attStat = 1 ∧ p.attRun = false) ∧
    (2 ^ 20 ≤ s.plat.nvKey →
      exec .attestationDone s = .next (s.onPlat (fun p => { p with attStat := 2, attRun := false })))) ∧
  (∀ (s : State) (val : Word), s.serving = true →
    (val ≠ 1#64 ∨ s.plat.attRun = true →
      exec (.managementRegisterWrite .attCmd val) s = .next (s.onPlat (fun p => { p with attCmd := val }))) ∧
    exec (.managementRegisterWrite .attCmd 1#64) s = exec .attestationRequest s) ∧
  (∀ s : State, (∀ off, reaches s.plat.phase off = false → s.hostRead off = 0#64) ∧
    s.hostRead 0 = s.idDev ∧ s.hostRead 8 = s.status ∧
    (s.serving = true → s.hostRead 0x10 = s.cap ∧ s.hostRead 0x18 = s.plat.part ∧ s.hostRead 0x20 = word s.plat.rank ∧
      s.hostRead 0x48 = s.plat.qcmd ∧ s.hostRead 0x50 = s.plat.qarg0 ∧ s.hostRead 0x58 = s.plat.qarg1 ∧ s.hostRead 0x240 = s.plat.attCmd ∧
      s.hostRead 0x248 = word s.plat.attStat ∧ (∀ k, k < 4 → s.hostRead (0x28 + 8 * k) = word (s.plat.pth.getD k 0)) ∧
      (∀ k, k < 8 → s.hostRead (0x100 + 8 * k) = word (nbits s.plat.idPub.toNat (64 * k) 64)) ∧
      (∀ k, k < 4 → s.hostRead (0x200 + 8 * k) = word (nbits s.plat.nonce.toNat (64 * k) 64)) ∧
      (∀ off, (0x60 ≤ off ∧ off < 0x80) ∨ (0x140 ≤ off ∧ off < 0x200) ∨ (0x250 ≤ off ∧ off < 0x1000) ∨ (0x2000 ≤ off ∧ off < 0x10000) →
        s.hostRead off = 0#64)) ∧
    (s.plat.report = none → ∀ i, s.plat.reportByte i = 0#8)) ∧
  (∀ s : State, s.status.getLsbD 23 = true ↔ ((s.plat.phase = 4 ∨ s.plat.phase = 5 ∨ s.plat.phase = 7) ∧
    (s.plat.throt = true ∨ ∃ d ∈ s.dies, 95 ≤ d.temp))) ∧
  (∀ (s : State) (w : Nat), s.plat.phase = 4 ∨ s.plat.phase = 5 →
    exec (.powerSample w) s = .next (s.onPlat (fun p => { p with throt := decide (1800 < w) }))) ∧
  (∀ (s : State) (d c : Nat), d < 4 →
    (105 ≤ c → ∃ t, exec (.thermalTrip d c) s = .next t ∧ t.plat.trip = true ∧ t.plat.phase = 7 ∧ t.serving = false) ∧
    (c < 105 → exec (.thermalTrip d c) s = .next (s.setDie d { s.die d with temp := c }))) ∧
  (∀ (s : State) (h : Nat), exec (.ptmExchange h) s = .next (s.onPlat (fun p => { p with ptm := some (h, s.clk % 2 ^ 64) })))
end

