-- ==== Sys2Proof/Laws/Exec.lean ====
section
/-!
SUPPORT. Each arm of the dispatch as an equation, so that no later proof unfolds the whole match.
-/

namespace Sys2Proof.Machine

theorem exec_nop (s : State) : exec .nop s = execNop s := rfl
theorem exec_anop (s : State) : exec .anop s = execAnop s := rfl
theorem exec_vnop (s : State) : exec .vnop s = execVnop s := rfl
theorem exec_mnop (s : State) : exec .mnop s = execMnop s := rfl
theorem exec_cnop (s : State) : exec .cnop s = execCnop s := rfl
theorem exec_knop (s : State) : exec .knop s = execKnop s := rfl
theorem exec_add (x : R3) (s : State) : exec (.add x) s = execAdd x s := rfl
theorem exec_sub (x : R3) (s : State) : exec (.sub x) s = execSub x s := rfl
theorem exec_mul (x : R3) (s : State) : exec (.mul x) s = execMul x s := rfl
theorem exec_mulh (x : R3) (s : State) : exec (.mulh x) s = execMulh x s := rfl
theorem exec_mulhu (x : R3) (s : State) : exec (.mulhu x) s = execMulhu x s := rfl
theorem exec_div (x : R3) (s : State) : exec (.div x) s = execDiv x s := rfl
theorem exec_divu (x : R3) (s : State) : exec (.divu x) s = execDivu x s := rfl
theorem exec_rem (x : R3) (s : State) : exec (.rem x) s = execRem x s := rfl
theorem exec_remu (x : R3) (s : State) : exec (.remu x) s = execRemu x s := rfl
theorem exec_and (x : R3) (s : State) : exec (.and x) s = execAnd x s := rfl
theorem exec_or (x : R3) (s : State) : exec (.or x) s = execOr x s := rfl
theorem exec_xor (x : R3) (s : State) : exec (.xor x) s = execXor x s := rfl
theorem exec_andn (x : R3) (s : State) : exec (.andn x) s = execAndn x s := rfl
theorem exec_shl (x : R3) (s : State) : exec (.shl x) s = execShl x s := rfl
theorem exec_shr (x : R3) (s : State) : exec (.shr x) s = execShr x s := rfl
theorem exec_sar (x : R3) (s : State) : exec (.sar x) s = execSar x s := rfl
theorem exec_rotr (x : R3) (s : State) : exec (.rotr x) s = execRotr x s := rfl
theorem exec_min (x : R3) (s : State) : exec (.min x) s = execMin x s := rfl
theorem exec_max (x : R3) (s : State) : exec (.max x) s = execMax x s := rfl
theorem exec_minu (x : R3) (s : State) : exec (.minu x) s = execMinu x s := rfl
theorem exec_maxu (x : R3) (s : State) : exec (.maxu x) s = execMaxu x s := rfl
theorem exec_clz (x : R2) (s : State) : exec (.clz x) s = execClz x s := rfl
theorem exec_popc (x : R2) (s : State) : exec (.popc x) s = execPopc x s := rfl
theorem exec_addi (x : RI) (s : State) : exec (.addi x) s = execAddi x s := rfl
theorem exec_andi (x : RI) (s : State) : exec (.andi x) s = execAndi x s := rfl
theorem exec_ori (x : RI) (s : State) : exec (.ori x) s = execOri x s := rfl
theorem exec_xori (x : RI) (s : State) : exec (.xori x) s = execXori x s := rfl
theorem exec_shli (x : RI) (s : State) : exec (.shli x) s = execShli x s := rfl
theorem exec_shri (x : RI) (s : State) : exec (.shri x) s = execShri x s := rfl
theorem exec_sari (x : RI) (s : State) : exec (.sari x) s = execSari x s := rfl
theorem exec_lui (x : RI) (s : State) : exec (.lui x) s = execLui x s := rfl
theorem exec_cmp (x : Cmp) (s : State) : exec (.cmp x) s = execCmp x s := rfl
theorem exec_cmpi (x : CmpI) (s : State) : exec (.cmpi x) s = execCmpi x s := rfl
theorem exec_sel (x : Sel) (s : State) : exec (.sel x) s = execSel x s := rfl
theorem exec_plog (x : PLog) (s : State) : exec (.plog x) s = execPlog x s := rfl
theorem exec_br (x : SB) (s : State) : exec (.br x) s = execBr x s := rfl
theorem exec_jmp (x : R2) (s : State) : exec (.jmp x) s = execJmp x s := rfl
theorem exec_call (x : CallF) (s : State) : exec (.call x) s = execCall x s := rfl
theorem exec_ret (x : R0) (s : State) : exec (.ret x) s = execRet x s := rfl
theorem exec_loop (x : SB) (s : State) : exec (.loop x) s = execLoop x s := rfl
theorem exec_loopi (x : SB) (s : State) : exec (.loopi x) s = execLoopi x s := rfl
theorem exec_lbrk (x : LBrk) (s : State) : exec (.lbrk x) s = execLbrk x s := rfl
theorem exec_gset (x : GSet) (s : State) : exec (.gset x) s = execGset x s := rfl
theorem exec_grd (x : GRd) (s : State) : exec (.grd x) s = execGrd x s := rfl
theorem exec_gclr (x : R2) (s : State) : exec (.gclr x) s = execGclr x s := rfl
theorem exec_xmm (x : XL) (s : State) : exec (.xmm x) s = execXmm x s := rfl
theorem exec_xconv (x : XL) (s : State) : exec (.xconv x) s = execXconv x s := rfl
theorem exec_xgath (x : XL) (s : State) : exec (.xgath x) s = execXgath x s := rfl
theorem exec_xsort (x : XL) (s : State) : exec (.xsort x) s = execXsort x s := rfl
theorem exec_xtopk (x : XL) (s : State) : exec (.xtopk x) s = execXtopk x s := rfl
theorem exec_xnorm (x : XL) (s : State) : exec (.xnorm x) s = execXnorm x s := rfl
theorem exec_xwait (x : XK) (s : State) : exec (.xwait x) s = execXwait x s := rfl
theorem exec_xstat (x : XS) (s : State) : exec (.xstat x) s = execXstat x s := rfl
theorem exec_xres (x : XK) (s : State) : exec (.xres x) s = execXres x s := rfl
theorem exec_xdrop (x : XK) (s : State) : exec (.xdrop x) s = execXdrop x s := rfl
theorem exec_xattn (x : XL) (s : State) : exec (.xattn x) s = execXattn x s := rfl
theorem exec_kvshoot (x : XL) (s : State) : exec (.kvshoot x) s = execKvshoot x s := rfl
theorem exec_kvfreq (x : XL) (s : State) : exec (.kvfreq x) s = execKvfreq x s := rfl
theorem exec_kvapp (x : XL) (s : State) : exec (.kvapp x) s = execKvapp x s := rfl
theorem exec_kvpre (x : XL) (s : State) : exec (.kvpre x) s = execKvpre x s := rfl
theorem exec_callred (x : XL) (s : State) : exec (.callred x) s = execCallred x s := rfl
theorem exec_credsc (x : XL) (s : State) : exec (.credsc x) s = execCredsc x s := rfl
theorem exec_cgath (x : XL) (s : State) : exec (.cgath x) s = execCgath x s := rfl
theorem exec_cbcast (x : XL) (s : State) : exec (.cbcast x) s = execCbcast x s := rfl
theorem exec_ca2a (x : XL) (s : State) : exec (.ca2a x) s = execCa2a x s := rfl
theorem exec_csend (x : XL) (s : State) : exec (.csend x) s = execCsend x s := rfl
theorem exec_crecv (x : XL) (s : State) : exec (.crecv x) s = execCrecv x s := rfl
theorem exec_cring (x : XL) (s : State) : exec (.cring x) s = execCring x s := rfl
theorem exec_ctopk (x : XL) (s : State) : exec (.ctopk x) s = execCtopk x s := rfl
theorem exec_spawn (x : R2) (s : State) : exec (.spawn x) s = execSpawn x s := rfl
theorem exec_spawni (x : R3) (s : State) : exec (.spawni x) s = execSpawni x s := rfl
theorem exec_scope (x : R1) (s : State) : exec (.scope x) s = execScope x s := rfl
theorem exec_sclose (x : R2) (s : State) : exec (.sclose x) s = execSclose x s := rfl
theorem exec_snuff (x : R3) (s : State) : exec (.snuff x) s = execSnuff x s := rfl
theorem exec_snuffw (x : R2) (s : State) : exec (.snuffw x) s = execSnuffw x s := rfl
theorem exec_binit (x : BInit) (s : State) : exec (.binit x) s = execBinit x s := rfl
theorem exec_barr (x : R2) (s : State) : exec (.barr x) s = execBarr x s := rfl
theorem exec_bwait (x : R3) (s : State) : exec (.bwait x) s = execBwait x s := rfl
theorem exec_yield (x : R0) (s : State) : exec (.yield x) s = execYield x s := rfl
theorem exec_prio (x : R2) (s : State) : exec (.prio x) s = execPrio x s := rfl
theorem exec_dline (x : R2) (s : State) : exec (.dline x) s = execDline x s := rfl
theorem exec_endGroup (x : R0) (s : State) : exec (.endGroup x) s = execEndGroup x s := rfl
theorem exec_tail (x : R0) (s : State) : exec (.tail x) s = execTail x s := rfl
theorem exec_trap (x : TrapF) (s : State) : exec (.trap x) s = execTrap x s := rfl
theorem exec_rtt (x : RttF) (s : State) : exec (.rtt x) s = execRtt x s := rfl
theorem exec_csrr (x : CsrRd) (s : State) : exec (.csrr x) s = execCsrr x s := rfl
theorem exec_csrw (x : CsrWr) (s : State) : exec (.csrw x) s = execCsrw x s := rfl
theorem exec_csrs (x : CsrWr) (s : State) : exec (.csrs x) s = execCsrs x s := rfl
theorem exec_csrc (x : CsrWr) (s : State) : exec (.csrc x) s = execCsrc x s := rfl
theorem exec_xlat (x : R2) (s : State) : exec (.xlat x) s = execXlat x s := rfl
theorem exec_tcinv (x : TcInv) (s : State) : exec (.tcinv x) s = execTcinv x s := rfl
theorem exec_errrd (x : ErrRd) (s : State) : exec (.errrd x) s = execErrrd x s := rfl
theorem exec_errclr (x : R1) (s : State) : exec (.errclr x) s = execErrclr x s := rfl
theorem exec_lamp (x : R3) (s : State) : exec (.lamp x) s = execLamp x s := rfl
theorem exec_brk (x : BrkF) (s : State) : exec (.brk x) s = execBrk x s := rfl
theorem exec_ld (x : AM) (s : State) : exec (.ld x) s = execLd x s := rfl
theorem exec_ldna (x : AM) (s : State) : exec (.ldna x) s = execLdna x s := rfl
theorem exec_ldbp (x : AM) (s : State) : exec (.ldbp x) s = execLdbp x s := rfl
theorem exec_ldg (x : AM) (s : State) : exec (.ldg x) s = execLdg x s := rfl
theorem exec_st (x : AM) (s : State) : exec (.st x) s = execSt x s := rfl
theorem exec_stna (x : AM) (s : State) : exec (.stna x) s = execStna x s := rfl
theorem exec_stbp (x : AM) (s : State) : exec (.stbp x) s = execStbp x s := rfl
theorem exec_sts (x : AM) (s : State) : exec (.sts x) s = execSts x s := rfl
theorem exec_pf (x : AM) (s : State) : exec (.pf x) s = execPf x s := rfl
theorem exec_pfna (x : AM) (s : State) : exec (.pfna x) s = execPfna x s := rfl
theorem exec_monw (x : AX) (s : State) : exec (.monw x) s = execMonw x s := rfl
theorem exec_atadd (x : AX) (s : State) : exec (.atadd x) s = execAtadd x s := rfl
theorem exec_atfadd (x : AX) (s : State) : exec (.atfadd x) s = execAtfadd x s := rfl
theorem exec_atmin (x : AX) (s : State) : exec (.atmin x) s = execAtmin x s := rfl
theorem exec_atmax (x : AX) (s : State) : exec (.atmax x) s = execAtmax x s := rfl
theorem exec_atminu (x : AX) (s : State) : exec (.atminu x) s = execAtminu x s := rfl
theorem exec_atmaxu (x : AX) (s : State) : exec (.atmaxu x) s = execAtmaxu x s := rfl
theorem exec_atand (x : AX) (s : State) : exec (.atand x) s = execAtand x s := rfl
theorem exec_ator (x : AX) (s : State) : exec (.ator x) s = execAtor x s := rfl
theorem exec_atxor (x : AX) (s : State) : exec (.atxor x) s = execAtxor x s := rfl
theorem exec_atswp (x : AX) (s : State) : exec (.atswp x) s = execAtswp x s := rfl
theorem exec_atcas (x : AX) (s : State) : exec (.atcas x) s = execAtcas x s := rfl
theorem exec_lea (x : AR) (s : State) : exec (.lea x) s = execLea x s := rfl
theorem exec_leax (x : AR) (s : State) : exec (.leax x) s = execLeax x s := rfl
theorem exec_amov (x : AR) (s : State) : exec (.amov x) s = execAmov x s := rfl
theorem exec_ainc (x : AR) (s : State) : exec (.ainc x) s = execAinc x s := rfl
theorem exec_mark (x : AF) (s : State) : exec (.mark x) s = execMark x s := rfl
theorem exec_fence (x : AF) (s : State) : exec (.fence x) s = execFence x s := rfl
theorem exec_fenceX (x : AF) (s : State) : exec (.fenceX x) s = execFenceX x s := rfl
theorem exec_acq (x : AF) (s : State) : exec (.acq x) s = execAcq x s := rfl
theorem exec_rel (x : AF) (s : State) : exec (.rel x) s = execRel x s := rfl
theorem exec_acqrel (x : AF) (s : State) : exec (.acqrel x) s = execAcqrel x s := rfl
theorem exec_drain (x : AF) (s : State) : exec (.drain x) s = execDrain x s := rfl
theorem exec_tkw (x : AF) (s : State) : exec (.tkw x) s = execTkw x s := rfl
theorem exec_vadd (x : VR) (s : State) : exec (.vadd x) s = execVadd x s := rfl
theorem exec_vsub (x : VR) (s : State) : exec (.vsub x) s = execVsub x s := rfl
theorem exec_vmul (x : VR) (s : State) : exec (.vmul x) s = execVmul x s := rfl
theorem exec_vmulh (x : VR) (s : State) : exec (.vmulh x) s = execVmulh x s := rfl
theorem exec_vdiv (x : VR) (s : State) : exec (.vdiv x) s = execVdiv x s := rfl
theorem exec_vsqrt (x : VR) (s : State) : exec (.vsqrt x) s = execVsqrt x s := rfl
theorem exec_vmin (x : VR) (s : State) : exec (.vmin x) s = execVmin x s := rfl
theorem exec_vmax (x : VR) (s : State) : exec (.vmax x) s = execVmax x s := rfl
theorem exec_vabs (x : VR) (s : State) : exec (.vabs x) s = execVabs x s := rfl
theorem exec_vneg (x : VR) (s : State) : exec (.vneg x) s = execVneg x s := rfl
theorem exec_vfma (x : VR) (s : State) : exec (.vfma x) s = execVfma x s := rfl
theorem exec_vfms (x : VR) (s : State) : exec (.vfms x) s = execVfms x s := rfl
theorem exec_vfnma (x : VR) (s : State) : exec (.vfnma x) s = execVfnma x s := rfl
theorem exec_vand (x : VR) (s : State) : exec (.vand x) s = execVand x s := rfl
theorem exec_vor (x : VR) (s : State) : exec (.vor x) s = execVor x s := rfl
theorem exec_vxor (x : VR) (s : State) : exec (.vxor x) s = execVxor x s := rfl
theorem exec_vnot (x : VR) (s : State) : exec (.vnot x) s = execVnot x s := rfl
theorem exec_vshl (x : VR) (s : State) : exec (.vshl x) s = execVshl x s := rfl
theorem exec_vshr (x : VR) (s : State) : exec (.vshr x) s = execVshr x s := rfl
theorem exec_vsar (x : VR) (s : State) : exec (.vsar x) s = execVsar x s := rfl
theorem exec_vclz (x : VR) (s : State) : exec (.vclz x) s = execVclz x s := rfl
theorem exec_vpopc (x : VR) (s : State) : exec (.vpopc x) s = execVpopc x s := rfl
theorem exec_vcmp (x : VR) (s : State) : exec (.vcmp x) s = execVcmp x s := rfl
theorem exec_vsel (x : VR) (s : State) : exec (.vsel x) s = execVsel x s := rfl
theorem exec_vmov (x : VR) (s : State) : exec (.vmov x) s = execVmov x s := rfl
theorem exec_vbcast (x : VR) (s : State) : exec (.vbcast x) s = execVbcast x s := rfl
theorem exec_vperm (x : VR) (s : State) : exec (.vperm x) s = execVperm x s := rfl
theorem exec_vshuf (x : VR) (s : State) : exec (.vshuf x) s = execVshuf x s := rfl
theorem exec_vrot (x : VR) (s : State) : exec (.vrot x) s = execVrot x s := rfl
theorem exec_viota (x : VR) (s : State) : exec (.viota x) s = execViota x s := rfl
theorem exec_vexp2 (x : VR) (s : State) : exec (.vexp2 x) s = execVexp2 x s := rfl
theorem exec_vlog2 (x : VR) (s : State) : exec (.vlog2 x) s = execVlog2 x s := rfl
theorem exec_vrcp (x : VR) (s : State) : exec (.vrcp x) s = execVrcp x s := rfl
theorem exec_vrsq (x : VR) (s : State) : exec (.vrsq x) s = execVrsq x s := rfl
theorem exec_vsin (x : VR) (s : State) : exec (.vsin x) s = execVsin x s := rfl
theorem exec_vcos (x : VR) (s : State) : exec (.vcos x) s = execVcos x s := rfl
theorem exec_vreda (x : VR) (s : State) : exec (.vreda x) s = execVreda x s := rfl
theorem exec_vredx (x : VR) (s : State) : exec (.vredx x) s = execVredx x s := rfl
theorem exec_vredn (x : VR) (s : State) : exec (.vredn x) s = execVredn x s := rfl
theorem exec_vscan (x : VR) (s : State) : exec (.vscan x) s = execVscan x s := rfl
theorem exec_vcx (x : VR) (s : State) : exec (.vcx x) s = execVcx x s := rfl
theorem exec_vcxs (x : VR) (s : State) : exec (.vcxs x) s = execVcxs x s := rfl
theorem exec_vins (x : VR) (s : State) : exec (.vins x) s = execVins x s := rfl
theorem exec_vinsm (x : VR) (s : State) : exec (.vinsm x) s = execVinsm x s := rfl
theorem exec_cvt (x : VR) (s : State) : exec (.cvt x) s = execCvt x s := rfl
theorem exec_quantDerive (x : VR) (s : State) : exec (.quantDerive x) s = execQuantDerive x s := rfl
theorem exec_quantApply (x : VR) (s : State) : exec (.quantApply x) s = execQuantApply x s := rfl
theorem exec_dquant (x : VR) (s : State) : exec (.dquant x) s = execDquant x s := rfl
theorem exec_pack (x : VR) (s : State) : exec (.pack x) s = execPack x s := rfl
theorem exec_unpack (x : VR) (s : State) : exec (.unpack x) s = execUnpack x s := rfl
theorem exec_mlease (x : MLe) (s : State) : exec (.mlease x) s = execMlease x s := rfl
theorem exec_mrel (x : M0) (s : State) : exec (.mrel x) s = execMrel x s := rfl
theorem exec_mcfg (x : MN) (s : State) : exec (.mcfg x) s = execMcfg x s := rfl
theorem exec_mcfgr (x : MRd) (s : State) : exec (.mcfgr x) s = execMcfgr x s := rfl
theorem exec_mfset (x : MF) (s : State) : exec (.mfset x) s = execMfset x s := rfl
theorem exec_mfadv (x : MF) (s : State) : exec (.mfadv x) s = execMfadv x s := rfl
theorem exec_mwaitSteps (x : M0) (s : State) : exec (.mwaitSteps x) s = execMwaitSteps x s := rfl
theorem exec_mwaitLease (x : MWl) (s : State) : exec (.mwaitLease x) s = execMwaitLease x s := rfl
theorem exec_mstep (x : MS) (s : State) : exec (.mstep x) s = execMstep x s := rfl
theorem exec_mstepz (x : MS) (s : State) : exec (.mstepz x) s = execMstepz x s := rfl
theorem exec_mstept (x : MS) (s : State) : exec (.mstept x) s = execMstept x s := rfl
theorem exec_mzero (x : M0) (s : State) : exec (.mzero x) s = execMzero x s := rfl
theorem exec_cpy (x : CC) (s : State) : exec (.cpy x) s = execCpy x s := rfl
theorem exec_cpy2 (x : CC) (s : State) : exec (.cpy2 x) s = execCpy2 x s := rfl
theorem exec_cpyh (x : CC) (s : State) : exec (.cpyh x) s = execCpyh x s := rfl
theorem exec_cpln (x : CC) (s : State) : exec (.cpln x) s = execCpln x s := rfl
theorem exec_accld (x : CC) (s : State) : exec (.accld x) s = execAccld x s := rfl
theorem exec_accst (x : CC) (s : State) : exec (.accst x) s = execAccst x s := rfl
theorem exec_cpyl (x : CL) (s : State) : exec (.cpyl x) s = execCpyl x s := rfl
theorem exec_stamp (x : CS) (s : State) : exec (.stamp x) s = execStamp x s := rfl
theorem exec_gstep (x : CC) (s : State) : exec (.gstep x) s = execGstep x s := rfl
theorem exec_cpyq (x : CQ) (s : State) : exec (.cpyq x) s = execCpyq x s := rfl
theorem exec_kld (x : KL) (s : State) : exec (.kld x) s = execKld x s := rfl
theorem exec_kldi (x : KL) (s : State) : exec (.kldi x) s = execKldi x s := rfl
theorem exec_kmov (x : KM) (s : State) : exec (.kmov x) s = execKmov x s := rfl
theorem exec_bundleDecode (g : GRef) (s : State) : exec (.bundleDecode g) s = execBundleDecode g s := rfl
theorem exec_loopEnd (g : GRef) (s : State) : exec (.loopEnd g) s = execLoopEnd g s := rfl
theorem exec_rotate (g : GRef) (s : State) : exec (.rotate g) s = execRotate g s := rfl
theorem exec_tagGrant (core : Nat) (s : State) : exec (.tagGrant core) s = execTagGrant core s := rfl
theorem exec_loadPerformed (g : GRef) (st : Nat) (piece : Nat) (evict : List Nat) (s : State) :
    exec (.loadPerformed g st piece evict) s = execLoadPerformed g st piece evict s := rfl
theorem exec_storePerformed (g : GRef) (st : Nat) (piece : Nat) (s : State) :
    exec (.storePerformed g st piece) s = execStorePerformed g st piece s := rfl
theorem exec_writeAcknowledgement (g : GRef) (st : Nat) (s : State) :
    exec (.writeAcknowledgement g st) s = execWriteAcknowledgement g st s := rfl
theorem exec_atomicPerformed (g : GRef) (st : Nat) (s : State) : exec (.atomicPerformed g st) s = execAtomicPerformed g st s := rfl
theorem exec_monwTest (g : GRef) (s : State) : exec (.monwTest g) s = execMonwTest g s := rfl
theorem exec_pageWalk (u : XUnit) (asid : Nat) (va : Nat) (wr : Bool) (s : State) :
    exec (.pageWalk u asid va wr) s = execPageWalk u asid va wr s := rfl
theorem exec_demandFaultService (die : Nat) (serviced : Bool) (writes : List PteWrite) (s : State) :
    exec (.demandFaultService die serviced writes) s = execDemandFaultService die serviced writes s := rfl
theorem exec_mappingChange (asid : Nat) (va : Nat) (revoke : List PteWrite) (move : Option (Nat × Nat × Nat)) (install : List PteWrite) (s : State) :
    exec (.mappingChange asid va revoke move install) s = execMappingChange asid va revoke move install s := rfl
theorem exec_atsInvalidation (asid : Nat) (va : Nat) (s : State) : exec (.atsInvalidation asid va) s = execAtsInvalidation asid va s := rfl
theorem exec_priResponse (asid : Nat) (va : Nat) (ok : Bool) (s : State) :
    exec (.priResponse asid va ok) s = execPriResponse asid va ok s := rfl
theorem exec_asyncTrapTaken (g : GRef) (s : State) : exec (.asyncTrapTaken g) s = execAsyncTrapTaken g s := rfl
theorem exec_answerResume (q : Nat) (s : State) : exec (.answerResume q) s = execAnswerResume q s := rfl
theorem exec_answerSkip (q : Nat) (s : State) : exec (.answerSkip q) s = execAnswerSkip q s := rfl
theorem exec_answerAbort (q : Nat) (s : State) : exec (.answerAbort q) s = execAnswerAbort q s := rfl
theorem exec_answerInvalid (q : Nat) (s : State) : exec (.answerInvalid q) s = execAnswerInvalid q s := rfl
theorem exec_leaseGrant (core : Nat) (s : State) : exec (.leaseGrant core) s = execLeaseGrant core s := rfl
theorem exec_leaseTimeout (g : GRef) (s : State) : exec (.leaseTimeout g) s = execLeaseTimeout g s := rfl
theorem exec_matrixStepStart (core : Nat) (step : Nat) (s : State) :
    exec (.matrixStepStart core step) s = execMatrixStepStart core step s := rfl
theorem exec_matrixStepCommit (core : Nat) (step : Nat) (s : State) :
    exec (.matrixStepCommit core step) s = execMatrixStepCommit core step s := rfl
theorem exec_tileStepStart (g : GRef) (wk : WickCopy) (s : State) : exec (.tileStepStart g wk) s = execTileStepStart g wk s := rfl
theorem exec_tileStepCommit (g : GRef) (wk : Nat) (s : State) : exec (.tileStepCommit g wk) s = execTileStepCommit g wk s := rfl
theorem exec_kvshootComplete (g : GRef) (wk : Nat) (s : State) : exec (.kvshootComplete g wk) s = execKvshootComplete g wk s := rfl
theorem exec_bufferAcknowledge (g : GRef) (wk : Nat) (buf : Nat) (s : State) :
    exec (.bufferAcknowledge g wk buf) s = execBufferAcknowledge g wk buf s := rfl
theorem exec_chunkRequest (g : GRef) (wk : Nat) (chunk : Nat) (dst : Nat) (s : State) :
    exec (.chunkRequest g wk chunk dst) s = execChunkRequest g wk chunk dst s := rfl
theorem exec_chunkReceive (g : GRef) (wk : Nat) (msg : ChunkMsg) (s : State) :
    exec (.chunkReceive g wk msg) s = execChunkReceive g wk msg s := rfl
theorem exec_chunkRetry (g : GRef) (wk : Nat) (chunk : Nat) (s : State) :
    exec (.chunkRetry g wk chunk) s = execChunkRetry g wk chunk s := rfl
theorem exec_laneRetrain (lane : Nat) (s : State) : exec (.laneRetrain lane) s = execLaneRetrain lane s := rfl
theorem exec_lostLink (g : GRef) (wk : Nat) (s : State) : exec (.lostLink g wk) s = execLostLink g wk s := rfl
theorem exec_peerNotice (g : GRef) (wk : Nat) (s : State) : exec (.peerNotice g wk) s = execPeerNotice g wk s := rfl
theorem exec_copyStart (eng : Nat) (ch : Nat) (s : State) : exec (.copyStart eng ch) s = execCopyStart eng ch s := rfl
theorem exec_copyChunk (eng : Nat) (run : RunPiece) (s : State) : exec (.copyChunk eng run) s = execCopyChunk eng run s := rfl
theorem exec_completionStamp (eng : Nat) (run : Nat) (s : State) : exec (.completionStamp eng run) s = execCompletionStamp eng run s := rfl
theorem exec_chainRecordRead (eng : Nat) (run : Nat) (s : State) : exec (.chainRecordRead eng run) s = execChainRecordRead eng run s := rfl
theorem exec_chainUnpark (eng : Nat) (run : Nat) (s : State) : exec (.chainUnpark eng run) s = execChainUnpark eng run s := rfl
theorem exec_admission (task : Nat) (place : List Nat) (writes : List PteWrite) (s : State) :
    exec (.admission task place writes) s = execAdmission task place writes s := rfl
theorem exec_groupStart (core : Nat) (s : State) : exec (.groupStart core) s = execGroupStart core s := rfl
theorem exec_issueAgePromotion (g : GRef) (s : State) : exec (.issueAgePromotion g) s = execIssueAgePromotion g s := rfl
theorem exec_yieldExpiry (g : GRef) (s : State) : exec (.yieldExpiry g) s = execYieldExpiry g s := rfl
theorem exec_preemptionDecision (task : Nat) (victim : Nat) (cores : List Nat) (s : State) :
    exec (.preemptionDecision task victim cores) s = execPreemptionDecision task victim cores s := rfl
theorem exec_preemptionLanding (g : GRef) (s : State) : exec (.preemptionLanding g) s = execPreemptionLanding g s := rfl
theorem exec_preemptionSave (core : Nat) (s : State) : exec (.preemptionSave core) s = execPreemptionSave core s := rfl
theorem exec_resumption (task : Nat) (core : Nat) (s : State) : exec (.resumption task core) s = execResumption task core s := rfl
theorem exec_overlayLoad (g : GRef) (s : State) : exec (.overlayLoad g) s = execOverlayLoad g s := rfl
theorem exec_groupRetire (core : Nat) (eng : Nat) (s : State) : exec (.groupRetire core eng) s = execGroupRetire core eng s := rfl
theorem exec_retirementTrackerDrain (core : Nat) (entry : Nat) (s : State) :
    exec (.retirementTrackerDrain core entry) s = execRetirementTrackerDrain core entry s := rfl
theorem exec_taskEnd (task : Nat) (s : State) : exec (.taskEnd task) s = execTaskEnd task s := rfl
theorem exec_snuffArrival (snuff : Nat) (site : SnuffSite) (s : State) :
    exec (.snuffArrival snuff site) s = execSnuffArrival snuff site s := rfl
theorem exec_snuffComplete (snuff : Nat) (s : State) : exec (.snuffComplete snuff) s = execSnuffComplete snuff s := rfl
theorem exec_lampTest (unit : LampUnit) (pass : Bool) (s : State) : exec (.lampTest unit pass) s = execLampTest unit pass s := rfl
theorem exec_prodUpdate (q : Nat) (s : State) : exec (.prodUpdate q) s = execProdUpdate q s := rfl
theorem exec_recordFetch (q : Nat) (s : State) : exec (.recordFetch q) s = execRecordFetch q s := rfl
theorem exec_nodeFinal (q : Nat) (slot : Nat) (s : State) : exec (.nodeFinal q slot) s = execNodeFinal q slot s := rfl
theorem exec_launch (q : Nat) (slot : Nat) (s : State) : exec (.launch q slot) s = execLaunch q slot s := rfl
theorem exec_ilaunch (q : Nat) (slot : Nat) (s : State) : exec (.ilaunch q slot) s = execIlaunch q slot s := rfl
theorem exec_outing (q : Nat) (slot : Nat) (s : State) : exec (.outing q slot) s = execOuting q slot s := rfl
theorem exec_outingRetry (q : Nat) (slot : Nat) (s : State) : exec (.outingRetry q slot) s = execOutingRetry q slot s := rfl
theorem exec_copyNode (q : Nat) (slot : Nat) (s : State) : exec (.copyNode q slot) s = execCopyNode q slot s := rfl
theorem exec_signalStore (q : Nat) (slot : Nat) (s : State) : exec (.signalStore q slot) s = execSignalStore q slot s := rfl
theorem exec_signalAdd (q : Nat) (slot : Nat) (s : State) : exec (.signalAdd q slot) s = execSignalAdd q slot s := rfl
theorem exec_signalOr (q : Nat) (slot : Nat) (s : State) : exec (.signalOr q slot) s = execSignalOr q slot s := rfl
theorem exec_waitNode (q : Nat) (slot : Nat) (s : State) : exec (.waitNode q slot) s = execWaitNode q slot s := rfl
theorem exec_waitSatisfied (q : Nat) (slot : Nat) (s : State) : exec (.waitSatisfied q slot) s = execWaitSatisfied q slot s := rfl
theorem exec_condNode (q : Nat) (slot : Nat) (s : State) : exec (.condNode q slot) s = execCondNode q slot s := rfl
theorem exec_loopNode (q : Nat) (slot : Nat) (s : State) : exec (.loopNode q slot) s = execLoopNode q slot s := rfl
theorem exec_loopIteration (q : Nat) (slot : Nat) (s : State) : exec (.loopIteration q slot) s = execLoopIteration q slot s := rfl
theorem exec_queueEventPost (q : Nat) (s : State) : exec (.queueEventPost q) s = execQueueEventPost q s := rfl
theorem exec_queueRegister (val : Word) (s : State) : exec (.queueRegister val) s = execQueueRegister val s := rfl
theorem exec_queueUnregister (val : Word) (s : State) : exec (.queueUnregister val) s = execQueueUnregister val s := rfl
theorem exec_queueReset (val : Word) (s : State) : exec (.queueReset val) s = execQueueReset val s := rfl
theorem exec_queueSnuffRoot (val : Word) (s : State) : exec (.queueSnuffRoot val) s = execQueueSnuffRoot val s := rfl
theorem exec_partWrite (val : Word) (s : State) : exec (.partWrite val) s = execPartWrite val s := rfl
theorem exec_rankWrite (val : Word) (s : State) : exec (.rankWrite val) s = execRankWrite val s := rfl
theorem exec_pthWrite (p : Nat) (val : Word) (s : State) : exec (.pthWrite p val) s = execPthWrite p val s := rfl
theorem exec_managementRegisterWrite (reg : MgmtReg) (val : Word) (s : State) :
    exec (.managementRegisterWrite reg val) s = execManagementRegisterWrite reg val s := rfl
theorem exec_deniedAccess (acc : HostAccess) (s : State) : exec (.deniedAccess acc) s = execDeniedAccess acc s := rfl
theorem exec_mboxNone (val : Word) (s : State) : exec (.mboxNone val) s = execMboxNone val s := rfl
theorem exec_mboxVerifyWrite (val : Word) (s : State) : exec (.mboxVerifyWrite val) s = execMboxVerifyWrite val s := rfl
theorem exec_mboxClear (val : Word) (s : State) : exec (.mboxClear val) s = execMboxClear val s := rfl
theorem exec_mboxRefused (val : Word) (s : State) : exec (.mboxRefused val) s = execMboxRefused val s := rfl
theorem exec_recoveryImageVerified (s : State) : exec .recoveryImageVerified s = execRecoveryImageVerified s := rfl
theorem exec_attNonceWrite (nonce : BitVec 256) (s : State) : exec (.attNonceWrite nonce) s = execAttNonceWrite nonce s := rfl
theorem exec_attestationRequest (s : State) : exec .attestationRequest s = execAttestationRequest s := rfl
theorem exec_attestationDone (s : State) : exec .attestationDone s = execAttestationDone s := rfl
theorem exec_deviceReset (s : State) : exec .deviceReset s = execDeviceReset s := rfl
theorem exec_bootRomHash (s : State) : exec .bootRomHash s = execBootRomHash s := rfl
theorem exec_slotChoice (s : State) : exec .slotChoice s = execSlotChoice s := rfl
theorem exec_firmwareLoad (s : State) : exec .firmwareLoad s = execFirmwareLoad s := rfl
theorem exec_hbmTrain (failed : List LampUnit) (s : State) : exec (.hbmTrain failed) s = execHbmTrain failed s := rfl
theorem exec_powerSample (watts : Nat) (s : State) : exec (.powerSample watts) s = execPowerSample watts s := rfl
theorem exec_thermalTrip (die : Nat) (celsius : Nat) (s : State) : exec (.thermalTrip die celsius) s = execThermalTrip die celsius s := rfl
theorem exec_ptmExchange (host : Nat) (s : State) : exec (.ptmExchange host) s = execPtmExchange host s := rfl
theorem exec_powerLoss (s : State) : exec .powerLoss s = execPowerLoss s := rfl
theorem exec_partCompletion (g : GRef) (idx : Nat) (s : State) : exec (.partCompletion g idx) s = execPartCompletion g idx s := rfl
theorem exec_atsTranslationResponse (asid : Nat) (va : Nat) (found : Bool) (wr : Bool) (s : State) :
    exec (.atsTranslationResponse asid va found wr) s = execAtsTranslationResponse asid va found wr s := rfl
theorem exec_sendAcknowledgement (g : GRef) (wk : Nat) (chunk : ChunkSend) (s : State) :
    exec (.sendAcknowledgement g wk chunk) s = execSendAcknowledgement g wk chunk s := rfl
theorem exec_hostStoreAcknowledgement (g : GRef) (st : Nat) (s : State) :
    exec (.hostStoreAcknowledgement g st) s = execHostStoreAcknowledgement g st s := rfl

end Sys2Proof.Machine
end

