-- ==== Sys2Proof/Laws/Format.lean ====
section
/-!
SUPPORT. The slot formats (02 R47, Table 2.8): a part's opcode and its fields read back from its bits, and its bits from its fields. For the
encoder and the decoder (a generated list, one format after the other).
-/

set_option linter.all false

namespace Sys2Proof

/-- Neighbouring fields of a word, joined. -/
theorem join_fields {n l₁ l₂ s₁ s₂ : Nat} {w : BitVec n} {a : BitVec l₂} {b : BitVec l₁} (ha : w.extractLsb' s₂ l₂ = a)
    (hb : w.extractLsb' s₁ l₁ = b) (h : s₂ = s₁ + l₁) : w.extractLsb' s₁ (l₂ + l₁) = a ++ b := by
  subst ha hb
  exact (BitVec.extractLsb'_append_extractLsb'_eq_extractLsb' h).symm

/-! R3 -/

theorem R3.bits_op (x : R3) (op : BitVec 8) : (x.bits op).extractLsb' 0 8 = op :=
  (BitVec.extractLsb'_append_eq_of_add_le (by decide)).trans BitVec.extractLsb'_eq_self

theorem R3.ofBits_bits (x : R3) (op : BitVec 8) : R3.ofBits (x.bits op) = some x := by
  obtain ⟨a0, a1, a2, a3⟩ := x
  unfold R3.bits R3.ofBits
  rw [if_pos]
  · refine congrArg some ?_
    refine R3.mk.injEq .. |>.mpr ⟨?_, ?_, ?_, ?_⟩ <;>
    (repeat (first | refine (BitVec.extractLsb'_append_eq_of_le (by decide)).trans ?_ | refine (BitVec.extractLsb'_append_eq_of_add_le (by decide)).trans ?_)) <;>
    first | rfl | exact BitVec.extractLsb'_eq_self
  · (repeat (first | refine (BitVec.extractLsb'_append_eq_of_le (by decide)).trans ?_ | refine (BitVec.extractLsb'_append_eq_of_add_le (by decide)).trans ?_)) <;>
    first | rfl | exact BitVec.extractLsb'_eq_self

theorem R3.bits_ofBits (x : R3) (w : BitVec 40) (h : R3.ofBits w = some x) : x.bits (w.extractLsb' 0 8) = w := by
  unfold R3.ofBits at h
  split at h
  · rename_i h0
    cases h
    unfold R3.bits
    have e1 := join_fields h0 (rfl : w.extractLsb' 25 6 = _) rfl
    have e2 := join_fields e1 (rfl : w.extractLsb' 19 6 = _) rfl
    have e3 := join_fields e2 (rfl : w.extractLsb' 13 6 = _) rfl
    have e4 := join_fields e3 (rfl : w.extractLsb' 8 5 = _) rfl
    have e5 := join_fields e4 (rfl : w.extractLsb' 0 8 = _) rfl
    exact e5.symm.trans BitVec.extractLsb'_eq_self
  · cases h

/-! R2 -/

theorem R2.bits_op (x : R2) (op : BitVec 8) : (x.bits op).extractLsb' 0 8 = op :=
  (BitVec.extractLsb'_append_eq_of_add_le (by decide)).trans BitVec.extractLsb'_eq_self

theorem R2.ofBits_bits (x : R2) (op : BitVec 8) : R2.ofBits (x.bits op) = some x := by
  obtain ⟨a0, a1, a2⟩ := x
  unfold R2.bits R2.ofBits
  rw [if_pos]
  · refine congrArg some ?_
    refine R2.mk.injEq .. |>.mpr ⟨?_, ?_, ?_⟩ <;>
    (repeat (first | refine (BitVec.extractLsb'_append_eq_of_le (by decide)).trans ?_ | refine (BitVec.extractLsb'_append_eq_of_add_le (by decide)).trans ?_)) <;>
    first | rfl | exact BitVec.extractLsb'_eq_self
  · refine ⟨?_, ?_⟩ <;>
    (repeat (first | refine (BitVec.extractLsb'_append_eq_of_le (by decide)).trans ?_ | refine (BitVec.extractLsb'_append_eq_of_add_le (by decide)).trans ?_)) <;>
    first | rfl | exact BitVec.extractLsb'_eq_self

theorem R2.bits_ofBits (x : R2) (w : BitVec 40) (h : R2.ofBits w = some x) : x.bits (w.extractLsb' 0 8) = w := by
  unfold R2.ofBits at h
  split at h
  · rename_i hc
    obtain ⟨h0, h1⟩ := hc
    cases h
    unfold R2.bits
    have e1 := join_fields h0 h1 rfl
    have e2 := join_fields e1 (rfl : w.extractLsb' 19 6 = _) rfl
    have e3 := join_fields e2 (rfl : w.extractLsb' 13 6 = _) rfl
    have e4 := join_fields e3 (rfl : w.extractLsb' 8 5 = _) rfl
    have e5 := join_fields e4 (rfl : w.extractLsb' 0 8 = _) rfl
    exact e5.symm.trans BitVec.extractLsb'_eq_self
  · cases h

/-! R1 -/

theorem R1.bits_op (x : R1) (op : BitVec 8) : (x.bits op).extractLsb' 0 8 = op :=
  (BitVec.extractLsb'_append_eq_of_add_le (by decide)).trans BitVec.extractLsb'_eq_self

theorem R1.ofBits_bits (x : R1) (op : BitVec 8) : R1.ofBits (x.bits op) = some x := by
  obtain ⟨a0, a1⟩ := x
  unfold R1.bits R1.ofBits
  rw [if_pos]
  · refine congrArg some ?_
    refine R1.mk.injEq .. |>.mpr ⟨?_, ?_⟩ <;>
    (repeat (first | refine (BitVec.extractLsb'_append_eq_of_le (by decide)).trans ?_ | refine (BitVec.extractLsb'_append_eq_of_add_le (by decide)).trans ?_)) <;>
    first | rfl | exact BitVec.extractLsb'_eq_self
  · refine ⟨?_, ?_, ?_⟩ <;>
    (repeat (first | refine (BitVec.extractLsb'_append_eq_of_le (by decide)).trans ?_ | refine (BitVec.extractLsb'_append_eq_of_add_le (by decide)).trans ?_)) <;>
    first | rfl | exact BitVec.extractLsb'_eq_self

theorem R1.bits_ofBits (x : R1) (w : BitVec 40) (h : R1.ofBits w = some x) : x.bits (w.extractLsb' 0 8) = w := by
  unfold R1.ofBits at h
  split at h
  · rename_i hc
    obtain ⟨h0, h1, h2⟩ := hc
    cases h
    unfold R1.bits
    have e1 := join_fields h0 h1 rfl
    have e2 := join_fields e1 h2 rfl
    have e3 := join_fields e2 (rfl : w.extractLsb' 13 6 = _) rfl
    have e4 := join_fields e3 (rfl : w.extractLsb' 8 5 = _) rfl
    have e5 := join_fields e4 (rfl : w.extractLsb' 0 8 = _) rfl
    exact e5.symm.trans BitVec.extractLsb'_eq_self
  · cases h

/-! R0 -/

theorem R0.bits_op (x : R0) (op : BitVec 8) : (x.bits op).extractLsb' 0 8 = op :=
  (BitVec.extractLsb'_append_eq_of_add_le (by decide)).trans BitVec.extractLsb'_eq_self

theorem R0.ofBits_bits (x : R0) (op : BitVec 8) : R0.ofBits (x.bits op) = some x := by
  obtain ⟨a0⟩ := x
  unfold R0.bits R0.ofBits
  rw [if_pos]
  · refine congrArg some ?_
    refine congrArg R0.mk ?_
    (repeat (first | refine (BitVec.extractLsb'_append_eq_of_le (by decide)).trans ?_ | refine (BitVec.extractLsb'_append_eq_of_add_le (by decide)).trans ?_)) <;>
    first | rfl | exact BitVec.extractLsb'_eq_self
  · refine ⟨?_, ?_, ?_, ?_⟩ <;>
    (repeat (first | refine (BitVec.extractLsb'_append_eq_of_le (by decide)).trans ?_ | refine (BitVec.extractLsb'_append_eq_of_add_le (by decide)).trans ?_)) <;>
    first | rfl | exact BitVec.extractLsb'_eq_self

theorem R0.bits_ofBits (x : R0) (w : BitVec 40) (h : R0.ofBits w = some x) : x.bits (w.extractLsb' 0 8) = w := by
  unfold R0.ofBits at h
  split at h
  · rename_i hc
    obtain ⟨h0, h1, h2, h3⟩ := hc
    cases h
    unfold R0.bits
    have e1 := join_fields h0 h1 rfl
    have e2 := join_fields e1 h2 rfl
    have e3 := join_fields e2 h3 rfl
    have e4 := join_fields e3 (rfl : w.extractLsb' 8 5 = _) rfl
    have e5 := join_fields e4 (rfl : w.extractLsb' 0 8 = _) rfl
    exact e5.symm.trans BitVec.extractLsb'_eq_self
  · cases h

/-! RI -/

theorem RI.bits_op (x : RI) (op : BitVec 8) : (x.bits op).extractLsb' 0 8 = op :=
  (BitVec.extractLsb'_append_eq_of_add_le (by decide)).trans BitVec.extractLsb'_eq_self

theorem RI.ofBits_bits (x : RI) (op : BitVec 8) : RI.ofBits (x.bits op) = some x := by
  obtain ⟨a0, a1, a2, a3⟩ := x
  unfold RI.bits RI.ofBits
  refine congrArg some ?_
  refine RI.mk.injEq .. |>.mpr ⟨?_, ?_, ?_, ?_⟩ <;>
  (repeat (first | refine (BitVec.extractLsb'_append_eq_of_le (by decide)).trans ?_ | refine (BitVec.extractLsb'_append_eq_of_add_le (by decide)).trans ?_)) <;>
  first | rfl | exact BitVec.extractLsb'_eq_self

theorem RI.bits_ofBits (x : RI) (w : BitVec 40) (h : RI.ofBits w = some x) : x.bits (w.extractLsb' 0 8) = w := by
  unfold RI.ofBits at h
  cases h
  unfold RI.bits
  have e1 := join_fields (rfl : w.extractLsb' 25 15 = _) (rfl : w.extractLsb' 19 6 = _) rfl
  have e2 := join_fields e1 (rfl : w.extractLsb' 13 6 = _) rfl
  have e3 := join_fields e2 (rfl : w.extractLsb' 8 5 = _) rfl
  have e4 := join_fields e3 (rfl : w.extractLsb' 0 8 = _) rfl
  exact e4.symm.trans BitVec.extractLsb'_eq_self

/-! Cmp -/

theorem Cmp.bits_op (x : Cmp) (op : BitVec 8) : (x.bits op).extractLsb' 0 8 = op :=
  (BitVec.extractLsb'_append_eq_of_add_le (by decide)).trans BitVec.extractLsb'_eq_self

theorem Cmp.ofBits_bits (x : Cmp) (op : BitVec 8) : Cmp.ofBits (x.bits op) = some x := by
  obtain ⟨a0, a1, a2, a3, a4⟩ := x
  unfold Cmp.bits Cmp.ofBits
  rw [if_pos]
  · refine congrArg some ?_
    refine Cmp.mk.injEq .. |>.mpr ⟨?_, ?_, ?_, ?_, ?_⟩ <;>
    (repeat (first | refine (BitVec.extractLsb'_append_eq_of_le (by decide)).trans ?_ | refine (BitVec.extractLsb'_append_eq_of_add_le (by decide)).trans ?_)) <;>
    first | rfl | exact BitVec.extractLsb'_eq_self
  · refine ⟨?_, ?_⟩ <;>
    (repeat (first | refine (BitVec.extractLsb'_append_eq_of_le (by decide)).trans ?_ | refine (BitVec.extractLsb'_append_eq_of_add_le (by decide)).trans ?_)) <;>
    first | rfl | exact BitVec.extractLsb'_eq_self

theorem Cmp.bits_ofBits (x : Cmp) (w : BitVec 40) (h : Cmp.ofBits w = some x) : x.bits (w.extractLsb' 0 8) = w := by
  unfold Cmp.ofBits at h
  split at h
  · rename_i hc
    obtain ⟨h0, h1⟩ := hc
    cases h
    unfold Cmp.bits
    have e1 := join_fields h0 (rfl : w.extractLsb' 31 4 = _) rfl
    have e2 := join_fields e1 (rfl : w.extractLsb' 25 6 = _) rfl
    have e3 := join_fields e2 (rfl : w.extractLsb' 19 6 = _) rfl
    have e4 := join_fields e3 h1 rfl
    have e5 := join_fields e4 (rfl : w.extractLsb' 13 4 = _) rfl
    have e6 := join_fields e5 (rfl : w.extractLsb' 8 5 = _) rfl
    have e7 := join_fields e6 (rfl : w.extractLsb' 0 8 = _) rfl
    exact e7.symm.trans BitVec.extractLsb'_eq_self
  · cases h

/-! CmpI -/

theorem CmpI.bits_op (x : CmpI) (op : BitVec 8) : (x.bits op).extractLsb' 0 8 = op :=
  (BitVec.extractLsb'_append_eq_of_add_le (by decide)).trans BitVec.extractLsb'_eq_self

theorem CmpI.ofBits_bits (x : CmpI) (op : BitVec 8) : CmpI.ofBits (x.bits op) = some x := by
  obtain ⟨a0, a1, a2, a3, a4⟩ := x
  unfold CmpI.bits CmpI.ofBits
  rw [if_pos]
  · refine congrArg some ?_
    refine CmpI.mk.injEq .. |>.mpr ⟨?_, ?_, ?_, ?_, ?_⟩ <;>
    (repeat (first | refine (BitVec.extractLsb'_append_eq_of_le (by decide)).trans ?_ | refine (BitVec.extractLsb'_append_eq_of_add_le (by decide)).trans ?_)) <;>
    first | rfl | exact BitVec.extractLsb'_eq_self
  · (repeat (first | refine (BitVec.extractLsb'_append_eq_of_le (by decide)).trans ?_ | refine (BitVec.extractLsb'_append_eq_of_add_le (by decide)).trans ?_)) <;>
    first | rfl | exact BitVec.extractLsb'_eq_self

theorem CmpI.bits_ofBits (x : CmpI) (w : BitVec 40) (h : CmpI.ofBits w = some x) : x.bits (w.extractLsb' 0 8) = w := by
  unfold CmpI.ofBits at h
  split at h
  · rename_i h0
    cases h
    unfold CmpI.bits
    have e1 := join_fields (rfl : w.extractLsb' 36 4 = _) (rfl : w.extractLsb' 25 11 = _) rfl
    have e2 := join_fields e1 (rfl : w.extractLsb' 19 6 = _) rfl
    have e3 := join_fields e2 h0 rfl
    have e4 := join_fields e3 (rfl : w.extractLsb' 13 4 = _) rfl
    have e5 := join_fields e4 (rfl : w.extractLsb' 8 5 = _) rfl
    have e6 := join_fields e5 (rfl : w.extractLsb' 0 8 = _) rfl
    exact e6.symm.trans BitVec.extractLsb'_eq_self
  · cases h

/-! Sel -/

theorem Sel.bits_op (x : Sel) (op : BitVec 8) : (x.bits op).extractLsb' 0 8 = op :=
  (BitVec.extractLsb'_append_eq_of_add_le (by decide)).trans BitVec.extractLsb'_eq_self

theorem Sel.ofBits_bits (x : Sel) (op : BitVec 8) : Sel.ofBits (x.bits op) = some x := by
  obtain ⟨a0, a1, a2, a3, a4, a5⟩ := x
  unfold Sel.bits Sel.ofBits
  rw [if_pos]
  · refine congrArg some ?_
    refine Sel.mk.injEq .. |>.mpr ⟨?_, ?_, ?_, ?_, ?_, ?_⟩ <;>
    (repeat (first | refine (BitVec.extractLsb'_append_eq_of_le (by decide)).trans ?_ | refine (BitVec.extractLsb'_append_eq_of_add_le (by decide)).trans ?_)) <;>
    first | rfl | exact BitVec.extractLsb'_eq_self
  · (repeat (first | refine (BitVec.extractLsb'_append_eq_of_le (by decide)).trans ?_ | refine (BitVec.extractLsb'_append_eq_of_add_le (by decide)).trans ?_)) <;>
    first | rfl | exact BitVec.extractLsb'_eq_self

theorem Sel.bits_ofBits (x : Sel) (w : BitVec 40) (h : Sel.ofBits w = some x) : x.bits (w.extractLsb' 0 8) = w := by
  unfold Sel.ofBits at h
  split at h
  · rename_i h0
    cases h
    unfold Sel.bits
    have e1 := join_fields h0 (rfl : w.extractLsb' 35 1 = _) rfl
    have e2 := join_fields e1 (rfl : w.extractLsb' 31 4 = _) rfl
    have e3 := join_fields e2 (rfl : w.extractLsb' 25 6 = _) rfl
    have e4 := join_fields e3 (rfl : w.extractLsb' 19 6 = _) rfl
    have e5 := join_fields e4 (rfl : w.extractLsb' 13 6 = _) rfl
    have e6 := join_fields e5 (rfl : w.extractLsb' 8 5 = _) rfl
    have e7 := join_fields e6 (rfl : w.extractLsb' 0 8 = _) rfl
    exact e7.symm.trans BitVec.extractLsb'_eq_self
  · cases h

/-! PLog -/

theorem PLog.bits_op (x : PLog) (op : BitVec 8) : (x.bits op).extractLsb' 0 8 = op :=
  (BitVec.extractLsb'_append_eq_of_add_le (by decide)).trans BitVec.extractLsb'_eq_self

theorem PLog.ofBits_bits (x : PLog) (op : BitVec 8) : PLog.ofBits (x.bits op) = some x := by
  obtain ⟨a0, a1, a2, a3, a4⟩ := x
  unfold PLog.bits PLog.ofBits
  rw [if_pos]
  · refine congrArg some ?_
    refine PLog.mk.injEq .. |>.mpr ⟨?_, ?_, ?_, ?_, ?_⟩ <;>
    (repeat (first | refine (BitVec.extractLsb'_append_eq_of_le (by decide)).trans ?_ | refine (BitVec.extractLsb'_append_eq_of_add_le (by decide)).trans ?_)) <;>
    first | rfl | exact BitVec.extractLsb'_eq_self
  · refine ⟨?_, ?_, ?_, ?_⟩ <;>
    (repeat (first | refine (BitVec.extractLsb'_append_eq_of_le (by decide)).trans ?_ | refine (BitVec.extractLsb'_append_eq_of_add_le (by decide)).trans ?_)) <;>
    first | rfl | exact BitVec.extractLsb'_eq_self

theorem PLog.bits_ofBits (x : PLog) (w : BitVec 40) (h : PLog.ofBits w = some x) : x.bits (w.extractLsb' 0 8) = w := by
  unfold PLog.ofBits at h
  split at h
  · rename_i hc
    obtain ⟨h0, h1, h2, h3⟩ := hc
    cases h
    unfold PLog.bits
    have e1 := join_fields h0 (rfl : w.extractLsb' 31 4 = _) rfl
    have e2 := join_fields e1 h1 rfl
    have e3 := join_fields e2 (rfl : w.extractLsb' 25 4 = _) rfl
    have e4 := join_fields e3 h2 rfl
    have e5 := join_fields e4 (rfl : w.extractLsb' 19 4 = _) rfl
    have e6 := join_fields e5 h3 rfl
    have e7 := join_fields e6 (rfl : w.extractLsb' 13 4 = _) rfl
    have e8 := join_fields e7 (rfl : w.extractLsb' 8 5 = _) rfl
    have e9 := join_fields e8 (rfl : w.extractLsb' 0 8 = _) rfl
    exact e9.symm.trans BitVec.extractLsb'_eq_self
  · cases h

/-! SB -/

theorem SB.bits_op (x : SB) (op : BitVec 8) : (x.bits op).extractLsb' 0 8 = op :=
  (BitVec.extractLsb'_append_eq_of_add_le (by decide)).trans BitVec.extractLsb'_eq_self

theorem SB.ofBits_bits (x : SB) (op : BitVec 8) : SB.ofBits (x.bits op) = some x := by
  obtain ⟨a0, a1, a2, a3⟩ := x
  unfold SB.bits SB.ofBits
  refine congrArg some ?_
  refine SB.mk.injEq .. |>.mpr ⟨?_, ?_, ?_, ?_⟩ <;>
  (repeat (first | refine (BitVec.extractLsb'_append_eq_of_le (by decide)).trans ?_ | refine (BitVec.extractLsb'_append_eq_of_add_le (by decide)).trans ?_)) <;>
  first | rfl | exact BitVec.extractLsb'_eq_self

theorem SB.bits_ofBits (x : SB) (w : BitVec 40) (h : SB.ofBits w = some x) : x.bits (w.extractLsb' 0 8) = w := by
  unfold SB.ofBits at h
  cases h
  unfold SB.bits
  have e1 := join_fields (rfl : w.extractLsb' 37 3 = _) (rfl : w.extractLsb' 31 6 = _) rfl
  have e2 := join_fields e1 (rfl : w.extractLsb' 13 18 = _) rfl
  have e3 := join_fields e2 (rfl : w.extractLsb' 8 5 = _) rfl
  have e4 := join_fields e3 (rfl : w.extractLsb' 0 8 = _) rfl
  exact e4.symm.trans BitVec.extractLsb'_eq_self

/-! CallF -/

theorem CallF.bits_op (x : CallF) (op : BitVec 8) : (x.bits op).extractLsb' 0 8 = op :=
  (BitVec.extractLsb'_append_eq_of_add_le (by decide)).trans BitVec.extractLsb'_eq_self

theorem CallF.ofBits_bits (x : CallF) (op : BitVec 8) : CallF.ofBits (x.bits op) = some x := by
  obtain ⟨a0, a1⟩ := x
  unfold CallF.bits CallF.ofBits
  rw [if_pos]
  · refine congrArg some ?_
    refine CallF.mk.injEq .. |>.mpr ⟨?_, ?_⟩ <;>
    (repeat (first | refine (BitVec.extractLsb'_append_eq_of_le (by decide)).trans ?_ | refine (BitVec.extractLsb'_append_eq_of_add_le (by decide)).trans ?_)) <;>
    first | rfl | exact BitVec.extractLsb'_eq_self
  · refine ⟨?_, ?_⟩ <;>
    (repeat (first | refine (BitVec.extractLsb'_append_eq_of_le (by decide)).trans ?_ | refine (BitVec.extractLsb'_append_eq_of_add_le (by decide)).trans ?_)) <;>
    first | rfl | exact BitVec.extractLsb'_eq_self

theorem CallF.bits_ofBits (x : CallF) (w : BitVec 40) (h : CallF.ofBits w = some x) : x.bits (w.extractLsb' 0 8) = w := by
  unfold CallF.ofBits at h
  split at h
  · rename_i hc
    obtain ⟨h0, h1⟩ := hc
    cases h
    unfold CallF.bits
    have e1 := join_fields h0 h1 rfl
    have e2 := join_fields e1 (rfl : w.extractLsb' 13 18 = _) rfl
    have e3 := join_fields e2 (rfl : w.extractLsb' 8 5 = _) rfl
    have e4 := join_fields e3 (rfl : w.extractLsb' 0 8 = _) rfl
    exact e4.symm.trans BitVec.extractLsb'_eq_self
  · cases h

/-! LBrk -/

theorem LBrk.bits_op (x : LBrk) (op : BitVec 8) : (x.bits op).extractLsb' 0 8 = op :=
  (BitVec.extractLsb'_append_eq_of_add_le (by decide)).trans BitVec.extractLsb'_eq_self

theorem LBrk.ofBits_bits (x : LBrk) (op : BitVec 8) : LBrk.ofBits (x.bits op) = some x := by
  obtain ⟨a0, a1, a2⟩ := x
  unfold LBrk.bits LBrk.ofBits
  rw [if_pos]
  · refine congrArg some ?_
    refine LBrk.mk.injEq .. |>.mpr ⟨?_, ?_, ?_⟩ <;>
    (repeat (first | refine (BitVec.extractLsb'_append_eq_of_le (by decide)).trans ?_ | refine (BitVec.extractLsb'_append_eq_of_add_le (by decide)).trans ?_)) <;>
    first | rfl | exact BitVec.extractLsb'_eq_self
  · (repeat (first | refine (BitVec.extractLsb'_append_eq_of_le (by decide)).trans ?_ | refine (BitVec.extractLsb'_append_eq_of_add_le (by decide)).trans ?_)) <;>
    first | rfl | exact BitVec.extractLsb'_eq_self

theorem LBrk.bits_ofBits (x : LBrk) (w : BitVec 40) (h : LBrk.ofBits w = some x) : x.bits (w.extractLsb' 0 8) = w := by
  unfold LBrk.ofBits at h
  split at h
  · rename_i h0
    cases h
    unfold LBrk.bits
    have e1 := join_fields (rfl : w.extractLsb' 37 3 = _) h0 rfl
    have e2 := join_fields e1 (rfl : w.extractLsb' 13 18 = _) rfl
    have e3 := join_fields e2 (rfl : w.extractLsb' 8 5 = _) rfl
    have e4 := join_fields e3 (rfl : w.extractLsb' 0 8 = _) rfl
    exact e4.symm.trans BitVec.extractLsb'_eq_self
  · cases h

/-! GSet -/

theorem GSet.bits_op (x : GSet) (op : BitVec 8) : (x.bits op).extractLsb' 0 8 = op :=
  (BitVec.extractLsb'_append_eq_of_add_le (by decide)).trans BitVec.extractLsb'_eq_self

theorem GSet.ofBits_bits (x : GSet) (op : BitVec 8) : GSet.ofBits (x.bits op) = some x := by
  obtain ⟨a0, a1, a2, a3, a4, a5⟩ := x
  unfold GSet.bits GSet.ofBits
  rw [if_pos]
  · refine congrArg some ?_
    refine GSet.mk.injEq .. |>.mpr ⟨?_, ?_, ?_, ?_, ?_, ?_⟩ <;>
    (repeat (first | refine (BitVec.extractLsb'_append_eq_of_le (by decide)).trans ?_ | refine (BitVec.extractLsb'_append_eq_of_add_le (by decide)).trans ?_)) <;>
    first | rfl | exact BitVec.extractLsb'_eq_self
  · (repeat (first | refine (BitVec.extractLsb'_append_eq_of_le (by decide)).trans ?_ | refine (BitVec.extractLsb'_append_eq_of_add_le (by decide)).trans ?_)) <;>
    first | rfl | exact BitVec.extractLsb'_eq_self

theorem GSet.bits_ofBits (x : GSet) (w : BitVec 40) (h : GSet.ofBits w = some x) : x.bits (w.extractLsb' 0 8) = w := by
  unfold GSet.ofBits at h
  split at h
  · rename_i h0
    cases h
    unfold GSet.bits
    have e1 := join_fields (rfl : w.extractLsb' 36 4 = _) h0 rfl
    have e2 := join_fields e1 (rfl : w.extractLsb' 31 3 = _) rfl
    have e3 := join_fields e2 (rfl : w.extractLsb' 25 6 = _) rfl
    have e4 := join_fields e3 (rfl : w.extractLsb' 19 6 = _) rfl
    have e5 := join_fields e4 (rfl : w.extractLsb' 13 6 = _) rfl
    have e6 := join_fields e5 (rfl : w.extractLsb' 8 5 = _) rfl
    have e7 := join_fields e6 (rfl : w.extractLsb' 0 8 = _) rfl
    exact e7.symm.trans BitVec.extractLsb'_eq_self
  · cases h

/-! GRd -/

theorem GRd.bits_op (x : GRd) (op : BitVec 8) : (x.bits op).extractLsb' 0 8 = op :=
  (BitVec.extractLsb'_append_eq_of_add_le (by decide)).trans BitVec.extractLsb'_eq_self

theorem GRd.ofBits_bits (x : GRd) (op : BitVec 8) : GRd.ofBits (x.bits op) = some x := by
  obtain ⟨a0, a1, a2, a3⟩ := x
  unfold GRd.bits GRd.ofBits
  rw [if_pos]
  · refine congrArg some ?_
    refine GRd.mk.injEq .. |>.mpr ⟨?_, ?_, ?_, ?_⟩ <;>
    (repeat (first | refine (BitVec.extractLsb'_append_eq_of_le (by decide)).trans ?_ | refine (BitVec.extractLsb'_append_eq_of_add_le (by decide)).trans ?_)) <;>
    first | rfl | exact BitVec.extractLsb'_eq_self
  · refine ⟨?_, ?_, ?_⟩ <;>
    (repeat (first | refine (BitVec.extractLsb'_append_eq_of_le (by decide)).trans ?_ | refine (BitVec.extractLsb'_append_eq_of_add_le (by decide)).trans ?_)) <;>
    first | rfl | exact BitVec.extractLsb'_eq_self

theorem GRd.bits_ofBits (x : GRd) (w : BitVec 40) (h : GRd.ofBits w = some x) : x.bits (w.extractLsb' 0 8) = w := by
  unfold GRd.ofBits at h
  split at h
  · rename_i hc
    obtain ⟨h0, h1, h2⟩ := hc
    cases h
    unfold GRd.bits
    have e1 := join_fields (rfl : w.extractLsb' 36 4 = _) (rfl : w.extractLsb' 34 2 = _) rfl
    have e2 := join_fields e1 h0 rfl
    have e3 := join_fields e2 h1 rfl
    have e4 := join_fields e3 h2 rfl
    have e5 := join_fields e4 (rfl : w.extractLsb' 13 6 = _) rfl
    have e6 := join_fields e5 (rfl : w.extractLsb' 8 5 = _) rfl
    have e7 := join_fields e6 (rfl : w.extractLsb' 0 8 = _) rfl
    exact e7.symm.trans BitVec.extractLsb'_eq_self
  · cases h

/-! XL -/

theorem XL.bits_op (x : XL) (op : BitVec 8) : (x.bits op).extractLsb' 0 8 = op :=
  (BitVec.extractLsb'_append_eq_of_add_le (by decide)).trans BitVec.extractLsb'_eq_self

theorem XL.ofBits_bits (x : XL) (op : BitVec 8) : XL.ofBits (x.bits op) = some x := by
  obtain ⟨a0, a1, a2⟩ := x
  unfold XL.bits XL.ofBits
  rw [if_pos]
  · refine congrArg some ?_
    refine XL.mk.injEq .. |>.mpr ⟨?_, ?_, ?_⟩ <;>
    (repeat (first | refine (BitVec.extractLsb'_append_eq_of_le (by decide)).trans ?_ | refine (BitVec.extractLsb'_append_eq_of_add_le (by decide)).trans ?_)) <;>
    first | rfl | exact BitVec.extractLsb'_eq_self
  · refine ⟨?_, ?_⟩ <;>
    (repeat (first | refine (BitVec.extractLsb'_append_eq_of_le (by decide)).trans ?_ | refine (BitVec.extractLsb'_append_eq_of_add_le (by decide)).trans ?_)) <;>
    first | rfl | exact BitVec.extractLsb'_eq_self

theorem XL.bits_ofBits (x : XL) (w : BitVec 40) (h : XL.ofBits w = some x) : x.bits (w.extractLsb' 0 8) = w := by
  unfold XL.ofBits at h
  split at h
  · rename_i hc
    obtain ⟨h0, h1⟩ := hc
    cases h
    unfold XL.bits
    have e1 := join_fields h0 h1 rfl
    have e2 := join_fields e1 (rfl : w.extractLsb' 17 2 = _) rfl
    have e3 := join_fields e2 (rfl : w.extractLsb' 13 4 = _) rfl
    have e4 := join_fields e3 (rfl : w.extractLsb' 8 5 = _) rfl
    have e5 := join_fields e4 (rfl : w.extractLsb' 0 8 = _) rfl
    exact e5.symm.trans BitVec.extractLsb'_eq_self
  · cases h

/-! XK -/

theorem XK.bits_op (x : XK) (op : BitVec 8) : (x.bits op).extractLsb' 0 8 = op :=
  (BitVec.extractLsb'_append_eq_of_add_le (by decide)).trans BitVec.extractLsb'_eq_self

theorem XK.ofBits_bits (x : XK) (op : BitVec 8) : XK.ofBits (x.bits op) = some x := by
  obtain ⟨a0, a1⟩ := x
  unfold XK.bits XK.ofBits
  rw [if_pos]
  · refine congrArg some ?_
    refine XK.mk.injEq .. |>.mpr ⟨?_, ?_⟩ <;>
    (repeat (first | refine (BitVec.extractLsb'_append_eq_of_le (by decide)).trans ?_ | refine (BitVec.extractLsb'_append_eq_of_add_le (by decide)).trans ?_)) <;>
    first | rfl | exact BitVec.extractLsb'_eq_self
  · refine ⟨?_, ?_, ?_⟩ <;>
    (repeat (first | refine (BitVec.extractLsb'_append_eq_of_le (by decide)).trans ?_ | refine (BitVec.extractLsb'_append_eq_of_add_le (by decide)).trans ?_)) <;>
    first | rfl | exact BitVec.extractLsb'_eq_self

theorem XK.bits_ofBits (x : XK) (w : BitVec 40) (h : XK.ofBits w = some x) : x.bits (w.extractLsb' 0 8) = w := by
  unfold XK.ofBits at h
  split at h
  · rename_i hc
    obtain ⟨h0, h1, h2⟩ := hc
    cases h
    unfold XK.bits
    have e1 := join_fields h0 h1 rfl
    have e2 := join_fields e1 (rfl : w.extractLsb' 17 2 = _) rfl
    have e3 := join_fields e2 h2 rfl
    have e4 := join_fields e3 (rfl : w.extractLsb' 8 5 = _) rfl
    have e5 := join_fields e4 (rfl : w.extractLsb' 0 8 = _) rfl
    exact e5.symm.trans BitVec.extractLsb'_eq_self
  · cases h

/-! XS -/

theorem XS.bits_op (x : XS) (op : BitVec 8) : (x.bits op).extractLsb' 0 8 = op :=
  (BitVec.extractLsb'_append_eq_of_add_le (by decide)).trans BitVec.extractLsb'_eq_self

theorem XS.ofBits_bits (x : XS) (op : BitVec 8) : XS.ofBits (x.bits op) = some x := by
  obtain ⟨a0, a1, a2⟩ := x
  unfold XS.bits XS.ofBits
  rw [if_pos]
  · refine congrArg some ?_
    refine XS.mk.injEq .. |>.mpr ⟨?_, ?_, ?_⟩ <;>
    (repeat (first | refine (BitVec.extractLsb'_append_eq_of_le (by decide)).trans ?_ | refine (BitVec.extractLsb'_append_eq_of_add_le (by decide)).trans ?_)) <;>
    first | rfl | exact BitVec.extractLsb'_eq_self
  · refine ⟨?_, ?_⟩ <;>
    (repeat (first | refine (BitVec.extractLsb'_append_eq_of_le (by decide)).trans ?_ | refine (BitVec.extractLsb'_append_eq_of_add_le (by decide)).trans ?_)) <;>
    first | rfl | exact BitVec.extractLsb'_eq_self

theorem XS.bits_ofBits (x : XS) (w : BitVec 40) (h : XS.ofBits w = some x) : x.bits (w.extractLsb' 0 8) = w := by
  unfold XS.ofBits at h
  split at h
  · rename_i hc
    obtain ⟨h0, h1⟩ := hc
    cases h
    unfold XS.bits
    have e1 := join_fields h0 (rfl : w.extractLsb' 19 3 = _) rfl
    have e2 := join_fields e1 (rfl : w.extractLsb' 17 2 = _) rfl
    have e3 := join_fields e2 h1 rfl
    have e4 := join_fields e3 (rfl : w.extractLsb' 8 5 = _) rfl
    have e5 := join_fields e4 (rfl : w.extractLsb' 0 8 = _) rfl
    exact e5.symm.trans BitVec.extractLsb'_eq_self
  · cases h

/-! BInit -/

theorem BInit.bits_op (x : BInit) (op : BitVec 8) : (x.bits op).extractLsb' 0 8 = op :=
  (BitVec.extractLsb'_append_eq_of_add_le (by decide)).trans BitVec.extractLsb'_eq_self

theorem BInit.ofBits_bits (x : BInit) (op : BitVec 8) : BInit.ofBits (x.bits op) = some x := by
  obtain ⟨a0, a1, a2, a3, a4⟩ := x
  unfold BInit.bits BInit.ofBits
  rw [if_pos]
  · refine congrArg some ?_
    refine BInit.mk.injEq .. |>.mpr ⟨?_, ?_, ?_, ?_, ?_⟩ <;>
    (repeat (first | refine (BitVec.extractLsb'_append_eq_of_le (by decide)).trans ?_ | refine (BitVec.extractLsb'_append_eq_of_add_le (by decide)).trans ?_)) <;>
    first | rfl | exact BitVec.extractLsb'_eq_self
  · (repeat (first | refine (BitVec.extractLsb'_append_eq_of_le (by decide)).trans ?_ | refine (BitVec.extractLsb'_append_eq_of_add_le (by decide)).trans ?_)) <;>
    first | rfl | exact BitVec.extractLsb'_eq_self

theorem BInit.bits_ofBits (x : BInit) (w : BitVec 40) (h : BInit.ofBits w = some x) : x.bits (w.extractLsb' 0 8) = w := by
  unfold BInit.ofBits at h
  split at h
  · rename_i h0
    cases h
    unfold BInit.bits
    have e1 := join_fields h0 (rfl : w.extractLsb' 31 3 = _) rfl
    have e2 := join_fields e1 (rfl : w.extractLsb' 25 6 = _) rfl
    have e3 := join_fields e2 (rfl : w.extractLsb' 19 6 = _) rfl
    have e4 := join_fields e3 (rfl : w.extractLsb' 13 6 = _) rfl
    have e5 := join_fields e4 (rfl : w.extractLsb' 8 5 = _) rfl
    have e6 := join_fields e5 (rfl : w.extractLsb' 0 8 = _) rfl
    exact e6.symm.trans BitVec.extractLsb'_eq_self
  · cases h

/-! TrapF -/

theorem TrapF.bits_op (x : TrapF) (op : BitVec 8) : (x.bits op).extractLsb' 0 8 = op :=
  (BitVec.extractLsb'_append_eq_of_add_le (by decide)).trans BitVec.extractLsb'_eq_self

theorem TrapF.ofBits_bits (x : TrapF) (op : BitVec 8) : TrapF.ofBits (x.bits op) = some x := by
  obtain ⟨a0, a1⟩ := x
  unfold TrapF.bits TrapF.ofBits
  rw [if_pos]
  · refine congrArg some ?_
    refine TrapF.mk.injEq .. |>.mpr ⟨?_, ?_⟩ <;>
    (repeat (first | refine (BitVec.extractLsb'_append_eq_of_le (by decide)).trans ?_ | refine (BitVec.extractLsb'_append_eq_of_add_le (by decide)).trans ?_)) <;>
    first | rfl | exact BitVec.extractLsb'_eq_self
  · refine ⟨?_, ?_⟩ <;>
    (repeat (first | refine (BitVec.extractLsb'_append_eq_of_le (by decide)).trans ?_ | refine (BitVec.extractLsb'_append_eq_of_add_le (by decide)).trans ?_)) <;>
    first | rfl | exact BitVec.extractLsb'_eq_self

theorem TrapF.bits_ofBits (x : TrapF) (w : BitVec 40) (h : TrapF.ofBits w = some x) : x.bits (w.extractLsb' 0 8) = w := by
  unfold TrapF.ofBits at h
  split at h
  · rename_i hc
    obtain ⟨h0, h1⟩ := hc
    cases h
    unfold TrapF.bits
    have e1 := join_fields (rfl : w.extractLsb' 25 15 = _) h0 rfl
    have e2 := join_fields e1 h1 rfl
    have e3 := join_fields e2 (rfl : w.extractLsb' 8 5 = _) rfl
    have e4 := join_fields e3 (rfl : w.extractLsb' 0 8 = _) rfl
    exact e4.symm.trans BitVec.extractLsb'_eq_self
  · cases h

/-! RttF -/

theorem RttF.bits_op (x : RttF) (op : BitVec 8) : (x.bits op).extractLsb' 0 8 = op :=
  (BitVec.extractLsb'_append_eq_of_add_le (by decide)).trans BitVec.extractLsb'_eq_self

theorem RttF.ofBits_bits (x : RttF) (op : BitVec 8) : RttF.ofBits (x.bits op) = some x := by
  obtain ⟨a0, a1⟩ := x
  unfold RttF.bits RttF.ofBits
  rw [if_pos]
  · refine congrArg some ?_
    refine RttF.mk.injEq .. |>.mpr ⟨?_, ?_⟩ <;>
    (repeat (first | refine (BitVec.extractLsb'_append_eq_of_le (by decide)).trans ?_ | refine (BitVec.extractLsb'_append_eq_of_add_le (by decide)).trans ?_)) <;>
    first | rfl | exact BitVec.extractLsb'_eq_self
  · refine ⟨?_, ?_, ?_, ?_⟩ <;>
    (repeat (first | refine (BitVec.extractLsb'_append_eq_of_le (by decide)).trans ?_ | refine (BitVec.extractLsb'_append_eq_of_add_le (by decide)).trans ?_)) <;>
    first | rfl | exact BitVec.extractLsb'_eq_self

theorem RttF.bits_ofBits (x : RttF) (w : BitVec 40) (h : RttF.ofBits w = some x) : x.bits (w.extractLsb' 0 8) = w := by
  unfold RttF.ofBits at h
  split at h
  · rename_i hc
    obtain ⟨h0, h1, h2, h3⟩ := hc
    cases h
    unfold RttF.bits
    have e1 := join_fields h0 (rfl : w.extractLsb' 31 1 = _) rfl
    have e2 := join_fields e1 h1 rfl
    have e3 := join_fields e2 h2 rfl
    have e4 := join_fields e3 h3 rfl
    have e5 := join_fields e4 (rfl : w.extractLsb' 8 5 = _) rfl
    have e6 := join_fields e5 (rfl : w.extractLsb' 0 8 = _) rfl
    exact e6.symm.trans BitVec.extractLsb'_eq_self
  · cases h

/-! CsrRd -/

theorem CsrRd.bits_op (x : CsrRd) (op : BitVec 8) : (x.bits op).extractLsb' 0 8 = op :=
  (BitVec.extractLsb'_append_eq_of_add_le (by decide)).trans BitVec.extractLsb'_eq_self

theorem CsrRd.ofBits_bits (x : CsrRd) (op : BitVec 8) : CsrRd.ofBits (x.bits op) = some x := by
  obtain ⟨a0, a1, a2⟩ := x
  unfold CsrRd.bits CsrRd.ofBits
  rw [if_pos]
  · refine congrArg some ?_
    refine CsrRd.mk.injEq .. |>.mpr ⟨?_, ?_, ?_⟩ <;>
    (repeat (first | refine (BitVec.extractLsb'_append_eq_of_le (by decide)).trans ?_ | refine (BitVec.extractLsb'_append_eq_of_add_le (by decide)).trans ?_)) <;>
    first | rfl | exact BitVec.extractLsb'_eq_self
  · refine ⟨?_, ?_⟩ <;>
    (repeat (first | refine (BitVec.extractLsb'_append_eq_of_le (by decide)).trans ?_ | refine (BitVec.extractLsb'_append_eq_of_add_le (by decide)).trans ?_)) <;>
    first | rfl | exact BitVec.extractLsb'_eq_self

theorem CsrRd.bits_ofBits (x : CsrRd) (w : BitVec 40) (h : CsrRd.ofBits w = some x) : x.bits (w.extractLsb' 0 8) = w := by
  unfold CsrRd.ofBits at h
  split at h
  · rename_i hc
    obtain ⟨h0, h1⟩ := hc
    cases h
    unfold CsrRd.bits
    have e1 := join_fields h0 (rfl : w.extractLsb' 25 12 = _) rfl
    have e2 := join_fields e1 h1 rfl
    have e3 := join_fields e2 (rfl : w.extractLsb' 13 6 = _) rfl
    have e4 := join_fields e3 (rfl : w.extractLsb' 8 5 = _) rfl
    have e5 := join_fields e4 (rfl : w.extractLsb' 0 8 = _) rfl
    exact e5.symm.trans BitVec.extractLsb'_eq_self
  · cases h

/-! CsrWr -/

theorem CsrWr.bits_op (x : CsrWr) (op : BitVec 8) : (x.bits op).extractLsb' 0 8 = op :=
  (BitVec.extractLsb'_append_eq_of_add_le (by decide)).trans BitVec.extractLsb'_eq_self

theorem CsrWr.ofBits_bits (x : CsrWr) (op : BitVec 8) : CsrWr.ofBits (x.bits op) = some x := by
  obtain ⟨a0, a1, a2⟩ := x
  unfold CsrWr.bits CsrWr.ofBits
  rw [if_pos]
  · refine congrArg some ?_
    refine CsrWr.mk.injEq .. |>.mpr ⟨?_, ?_, ?_⟩ <;>
    (repeat (first | refine (BitVec.extractLsb'_append_eq_of_le (by decide)).trans ?_ | refine (BitVec.extractLsb'_append_eq_of_add_le (by decide)).trans ?_)) <;>
    first | rfl | exact BitVec.extractLsb'_eq_self
  · refine ⟨?_, ?_⟩ <;>
    (repeat (first | refine (BitVec.extractLsb'_append_eq_of_le (by decide)).trans ?_ | refine (BitVec.extractLsb'_append_eq_of_add_le (by decide)).trans ?_)) <;>
    first | rfl | exact BitVec.extractLsb'_eq_self

theorem CsrWr.bits_ofBits (x : CsrWr) (w : BitVec 40) (h : CsrWr.ofBits w = some x) : x.bits (w.extractLsb' 0 8) = w := by
  unfold CsrWr.ofBits at h
  split at h
  · rename_i hc
    obtain ⟨h0, h1⟩ := hc
    cases h
    unfold CsrWr.bits
    have e1 := join_fields h0 (rfl : w.extractLsb' 25 12 = _) rfl
    have e2 := join_fields e1 (rfl : w.extractLsb' 19 6 = _) rfl
    have e3 := join_fields e2 h1 rfl
    have e4 := join_fields e3 (rfl : w.extractLsb' 8 5 = _) rfl
    have e5 := join_fields e4 (rfl : w.extractLsb' 0 8 = _) rfl
    exact e5.symm.trans BitVec.extractLsb'_eq_self
  · cases h

/-! TcInv -/

theorem TcInv.bits_op (x : TcInv) (op : BitVec 8) : (x.bits op).extractLsb' 0 8 = op :=
  (BitVec.extractLsb'_append_eq_of_add_le (by decide)).trans BitVec.extractLsb'_eq_self

theorem TcInv.ofBits_bits (x : TcInv) (op : BitVec 8) : TcInv.ofBits (x.bits op) = some x := by
  obtain ⟨a0, a1, a2⟩ := x
  unfold TcInv.bits TcInv.ofBits
  rw [if_pos]
  · refine congrArg some ?_
    refine TcInv.mk.injEq .. |>.mpr ⟨?_, ?_, ?_⟩ <;>
    (repeat (first | refine (BitVec.extractLsb'_append_eq_of_le (by decide)).trans ?_ | refine (BitVec.extractLsb'_append_eq_of_add_le (by decide)).trans ?_)) <;>
    first | rfl | exact BitVec.extractLsb'_eq_self
  · refine ⟨?_, ?_, ?_⟩ <;>
    (repeat (first | refine (BitVec.extractLsb'_append_eq_of_le (by decide)).trans ?_ | refine (BitVec.extractLsb'_append_eq_of_add_le (by decide)).trans ?_)) <;>
    first | rfl | exact BitVec.extractLsb'_eq_self

theorem TcInv.bits_ofBits (x : TcInv) (w : BitVec 40) (h : TcInv.ofBits w = some x) : x.bits (w.extractLsb' 0 8) = w := by
  unfold TcInv.ofBits at h
  split at h
  · rename_i hc
    obtain ⟨h0, h1, h2⟩ := hc
    cases h
    unfold TcInv.bits
    have e1 := join_fields h0 (rfl : w.extractLsb' 31 1 = _) rfl
    have e2 := join_fields e1 h1 rfl
    have e3 := join_fields e2 (rfl : w.extractLsb' 19 6 = _) rfl
    have e4 := join_fields e3 h2 rfl
    have e5 := join_fields e4 (rfl : w.extractLsb' 8 5 = _) rfl
    have e6 := join_fields e5 (rfl : w.extractLsb' 0 8 = _) rfl
    exact e6.symm.trans BitVec.extractLsb'_eq_self
  · cases h

/-! ErrRd -/

theorem ErrRd.bits_op (x : ErrRd) (op : BitVec 8) : (x.bits op).extractLsb' 0 8 = op :=
  (BitVec.extractLsb'_append_eq_of_add_le (by decide)).trans BitVec.extractLsb'_eq_self

theorem ErrRd.ofBits_bits (x : ErrRd) (op : BitVec 8) : ErrRd.ofBits (x.bits op) = some x := by
  obtain ⟨a0, a1, a2, a3⟩ := x
  unfold ErrRd.bits ErrRd.ofBits
  rw [if_pos]
  · refine congrArg some ?_
    refine ErrRd.mk.injEq .. |>.mpr ⟨?_, ?_, ?_, ?_⟩ <;>
    (repeat (first | refine (BitVec.extractLsb'_append_eq_of_le (by decide)).trans ?_ | refine (BitVec.extractLsb'_append_eq_of_add_le (by decide)).trans ?_)) <;>
    first | rfl | exact BitVec.extractLsb'_eq_self
  · refine ⟨?_, ?_⟩ <;>
    (repeat (first | refine (BitVec.extractLsb'_append_eq_of_le (by decide)).trans ?_ | refine (BitVec.extractLsb'_append_eq_of_add_le (by decide)).trans ?_)) <;>
    first | rfl | exact BitVec.extractLsb'_eq_self

theorem ErrRd.bits_ofBits (x : ErrRd) (w : BitVec 40) (h : ErrRd.ofBits w = some x) : x.bits (w.extractLsb' 0 8) = w := by
  unfold ErrRd.ofBits at h
  split at h
  · rename_i hc
    obtain ⟨h0, h1⟩ := hc
    cases h
    unfold ErrRd.bits
    have e1 := join_fields h0 (rfl : w.extractLsb' 31 1 = _) rfl
    have e2 := join_fields e1 h1 rfl
    have e3 := join_fields e2 (rfl : w.extractLsb' 19 6 = _) rfl
    have e4 := join_fields e3 (rfl : w.extractLsb' 13 6 = _) rfl
    have e5 := join_fields e4 (rfl : w.extractLsb' 8 5 = _) rfl
    have e6 := join_fields e5 (rfl : w.extractLsb' 0 8 = _) rfl
    exact e6.symm.trans BitVec.extractLsb'_eq_self
  · cases h

/-! BrkF -/

theorem BrkF.bits_op (x : BrkF) (op : BitVec 8) : (x.bits op).extractLsb' 0 8 = op :=
  (BitVec.extractLsb'_append_eq_of_add_le (by decide)).trans BitVec.extractLsb'_eq_self

theorem BrkF.ofBits_bits (x : BrkF) (op : BitVec 8) : BrkF.ofBits (x.bits op) = some x := by
  obtain ⟨a0, a1⟩ := x
  unfold BrkF.bits BrkF.ofBits
  rw [if_pos]
  · refine congrArg some ?_
    refine BrkF.mk.injEq .. |>.mpr ⟨?_, ?_⟩ <;>
    (repeat (first | refine (BitVec.extractLsb'_append_eq_of_le (by decide)).trans ?_ | refine (BitVec.extractLsb'_append_eq_of_add_le (by decide)).trans ?_)) <;>
    first | rfl | exact BitVec.extractLsb'_eq_self
  · refine ⟨?_, ?_, ?_⟩ <;>
    (repeat (first | refine (BitVec.extractLsb'_append_eq_of_le (by decide)).trans ?_ | refine (BitVec.extractLsb'_append_eq_of_add_le (by decide)).trans ?_)) <;>
    first | rfl | exact BitVec.extractLsb'_eq_self

theorem BrkF.bits_ofBits (x : BrkF) (w : BitVec 40) (h : BrkF.ofBits w = some x) : x.bits (w.extractLsb' 0 8) = w := by
  unfold BrkF.ofBits at h
  split at h
  · rename_i hc
    obtain ⟨h0, h1, h2⟩ := hc
    cases h
    unfold BrkF.bits
    have e1 := join_fields (rfl : w.extractLsb' 31 9 = _) h0 rfl
    have e2 := join_fields e1 h1 rfl
    have e3 := join_fields e2 h2 rfl
    have e4 := join_fields e3 (rfl : w.extractLsb' 8 5 = _) rfl
    have e5 := join_fields e4 (rfl : w.extractLsb' 0 8 = _) rfl
    exact e5.symm.trans BitVec.extractLsb'_eq_self
  · cases h

/-! AM -/

theorem AM.bits_op (x : AM) (op : BitVec 8) : (x.bits op).extractLsb' 0 8 = op :=
  (BitVec.extractLsb'_append_eq_of_add_le (by decide)).trans BitVec.extractLsb'_eq_self

theorem AM.ofBits_bits (x : AM) (op : BitVec 8) : AM.ofBits (x.bits op) = some x := by
  obtain ⟨a0, a1, a2, a3, a4, a5, a6⟩ := x
  unfold AM.bits AM.ofBits
  refine congrArg some ?_
  refine AM.mk.injEq .. |>.mpr ⟨?_, ?_, ?_, ?_, ?_, ?_, ?_⟩ <;>
  (repeat (first | refine (BitVec.extractLsb'_append_eq_of_le (by decide)).trans ?_ | refine (BitVec.extractLsb'_append_eq_of_add_le (by decide)).trans ?_)) <;>
  first | rfl | exact BitVec.extractLsb'_eq_self

theorem AM.bits_ofBits (x : AM) (w : BitVec 40) (h : AM.ofBits w = some x) : x.bits (w.extractLsb' 0 8) = w := by
  unfold AM.ofBits at h
  cases h
  unfold AM.bits
  have e1 := join_fields (rfl : w.extractLsb' 35 5 = _) (rfl : w.extractLsb' 33 2 = _) rfl
  have e2 := join_fields e1 (rfl : w.extractLsb' 30 3 = _) rfl
  have e3 := join_fields e2 (rfl : w.extractLsb' 21 9 = _) rfl
  have e4 := join_fields e3 (rfl : w.extractLsb' 17 4 = _) rfl
  have e5 := join_fields e4 (rfl : w.extractLsb' 13 4 = _) rfl
  have e6 := join_fields e5 (rfl : w.extractLsb' 8 5 = _) rfl
  have e7 := join_fields e6 (rfl : w.extractLsb' 0 8 = _) rfl
  exact e7.symm.trans BitVec.extractLsb'_eq_self

/-! AX -/

theorem AX.bits_op (x : AX) (op : BitVec 8) : (x.bits op).extractLsb' 0 8 = op :=
  (BitVec.extractLsb'_append_eq_of_add_le (by decide)).trans BitVec.extractLsb'_eq_self

theorem AX.ofBits_bits (x : AX) (op : BitVec 8) : AX.ofBits (x.bits op) = some x := by
  obtain ⟨a0, a1, a2, a3, a4, a5, a6, a7⟩ := x
  unfold AX.bits AX.ofBits
  refine congrArg some ?_
  refine AX.mk.injEq .. |>.mpr ⟨?_, ?_, ?_, ?_, ?_, ?_, ?_, ?_⟩ <;>
  (repeat (first | refine (BitVec.extractLsb'_append_eq_of_le (by decide)).trans ?_ | refine (BitVec.extractLsb'_append_eq_of_add_le (by decide)).trans ?_)) <;>
  first | rfl | exact BitVec.extractLsb'_eq_self

theorem AX.bits_ofBits (x : AX) (w : BitVec 40) (h : AX.ofBits w = some x) : x.bits (w.extractLsb' 0 8) = w := by
  unfold AX.ofBits at h
  cases h
  unfold AX.bits
  have e1 := join_fields (rfl : w.extractLsb' 39 1 = _) (rfl : w.extractLsb' 36 3 = _) rfl
  have e2 := join_fields e1 (rfl : w.extractLsb' 33 3 = _) rfl
  have e3 := join_fields e2 (rfl : w.extractLsb' 27 6 = _) rfl
  have e4 := join_fields e3 (rfl : w.extractLsb' 21 6 = _) rfl
  have e5 := join_fields e4 (rfl : w.extractLsb' 17 4 = _) rfl
  have e6 := join_fields e5 (rfl : w.extractLsb' 13 4 = _) rfl
  have e7 := join_fields e6 (rfl : w.extractLsb' 8 5 = _) rfl
  have e8 := join_fields e7 (rfl : w.extractLsb' 0 8 = _) rfl
  exact e8.symm.trans BitVec.extractLsb'_eq_self

/-! AR -/

theorem AR.bits_op (x : AR) (op : BitVec 8) : (x.bits op).extractLsb' 0 8 = op :=
  (BitVec.extractLsb'_append_eq_of_add_le (by decide)).trans BitVec.extractLsb'_eq_self

theorem AR.ofBits_bits (x : AR) (op : BitVec 8) : AR.ofBits (x.bits op) = some x := by
  obtain ⟨a0, a1, a2, a3, a4⟩ := x
  unfold AR.bits AR.ofBits
  refine congrArg some ?_
  refine AR.mk.injEq .. |>.mpr ⟨?_, ?_, ?_, ?_, ?_⟩ <;>
  (repeat (first | refine (BitVec.extractLsb'_append_eq_of_le (by decide)).trans ?_ | refine (BitVec.extractLsb'_append_eq_of_add_le (by decide)).trans ?_)) <;>
  first | rfl | exact BitVec.extractLsb'_eq_self

theorem AR.bits_ofBits (x : AR) (w : BitVec 40) (h : AR.ofBits w = some x) : x.bits (w.extractLsb' 0 8) = w := by
  unfold AR.ofBits at h
  cases h
  unfold AR.bits
  have e1 := join_fields (rfl : w.extractLsb' 27 13 = _) (rfl : w.extractLsb' 21 6 = _) rfl
  have e2 := join_fields e1 (rfl : w.extractLsb' 17 4 = _) rfl
  have e3 := join_fields e2 (rfl : w.extractLsb' 13 4 = _) rfl
  have e4 := join_fields e3 (rfl : w.extractLsb' 8 5 = _) rfl
  have e5 := join_fields e4 (rfl : w.extractLsb' 0 8 = _) rfl
  exact e5.symm.trans BitVec.extractLsb'_eq_self

/-! AF -/

theorem AF.bits_op (x : AF) (op : BitVec 8) : (x.bits op).extractLsb' 0 8 = op :=
  (BitVec.extractLsb'_append_eq_of_add_le (by decide)).trans BitVec.extractLsb'_eq_self

theorem AF.ofBits_bits (x : AF) (op : BitVec 8) : AF.ofBits (x.bits op) = some x := by
  obtain ⟨a0, a1, a2⟩ := x
  unfold AF.bits AF.ofBits
  rw [if_pos]
  · refine congrArg some ?_
    refine AF.mk.injEq .. |>.mpr ⟨?_, ?_, ?_⟩ <;>
    (repeat (first | refine (BitVec.extractLsb'_append_eq_of_le (by decide)).trans ?_ | refine (BitVec.extractLsb'_append_eq_of_add_le (by decide)).trans ?_)) <;>
    first | rfl | exact BitVec.extractLsb'_eq_self
  · (repeat (first | refine (BitVec.extractLsb'_append_eq_of_le (by decide)).trans ?_ | refine (BitVec.extractLsb'_append_eq_of_add_le (by decide)).trans ?_)) <;>
    first | rfl | exact BitVec.extractLsb'_eq_self

theorem AF.bits_ofBits (x : AF) (w : BitVec 40) (h : AF.ofBits w = some x) : x.bits (w.extractLsb' 0 8) = w := by
  unfold AF.ofBits at h
  split at h
  · rename_i h0
    cases h
    unfold AF.bits
    have e1 := join_fields h0 (rfl : w.extractLsb' 29 3 = _) rfl
    have e2 := join_fields e1 (rfl : w.extractLsb' 13 16 = _) rfl
    have e3 := join_fields e2 (rfl : w.extractLsb' 8 5 = _) rfl
    have e4 := join_fields e3 (rfl : w.extractLsb' 0 8 = _) rfl
    exact e4.symm.trans BitVec.extractLsb'_eq_self
  · cases h

/-! VR -/

theorem VR.bits_op (x : VR) (op : BitVec 8) : (x.bits op).extractLsb' 0 8 = op :=
  (BitVec.extractLsb'_append_eq_of_add_le (by decide)).trans BitVec.extractLsb'_eq_self

theorem VR.ofBits_bits (x : VR) (op : BitVec 8) : VR.ofBits (x.bits op) = some x := by
  obtain ⟨a0, a1, a2, a3, a4, a5, a6, a7, a8⟩ := x
  unfold VR.bits VR.ofBits
  refine congrArg some ?_
  refine VR.mk.injEq .. |>.mpr ⟨?_, ?_, ?_, ?_, ?_, ?_, ?_, ?_, ?_⟩ <;>
  (repeat (first | refine (BitVec.extractLsb'_append_eq_of_le (by decide)).trans ?_ | refine (BitVec.extractLsb'_append_eq_of_add_le (by decide)).trans ?_)) <;>
  first | rfl | exact BitVec.extractLsb'_eq_self

theorem VR.bits_ofBits (x : VR) (w : BitVec 64) (h : VR.ofBits w = some x) : x.bits (w.extractLsb' 0 8) = w := by
  unfold VR.ofBits at h
  cases h
  unfold VR.bits
  have e1 := join_fields (rfl : w.extractLsb' 57 7 = _) (rfl : w.extractLsb' 56 1 = _) rfl
  have e2 := join_fields e1 (rfl : w.extractLsb' 54 2 = _) rfl
  have e3 := join_fields e2 (rfl : w.extractLsb' 49 5 = _) rfl
  have e4 := join_fields e3 (rfl : w.extractLsb' 40 9 = _) rfl
  have e5 := join_fields e4 (rfl : w.extractLsb' 31 9 = _) rfl
  have e6 := join_fields e5 (rfl : w.extractLsb' 22 9 = _) rfl
  have e7 := join_fields e6 (rfl : w.extractLsb' 13 9 = _) rfl
  have e8 := join_fields e7 (rfl : w.extractLsb' 8 5 = _) rfl
  have e9 := join_fields e8 (rfl : w.extractLsb' 0 8 = _) rfl
  exact e9.symm.trans BitVec.extractLsb'_eq_self

/-! MLe -/

theorem MLe.bits_op (x : MLe) (op : BitVec 8) : (x.bits op).extractLsb' 0 8 = op :=
  (BitVec.extractLsb'_append_eq_of_add_le (by decide)).trans BitVec.extractLsb'_eq_self

theorem MLe.ofBits_bits (x : MLe) (op : BitVec 8) : MLe.ofBits (x.bits op) = some x := by
  obtain ⟨a0, a1⟩ := x
  unfold MLe.bits MLe.ofBits
  rw [if_pos]
  · refine congrArg some ?_
    refine MLe.mk.injEq .. |>.mpr ⟨?_, ?_⟩ <;>
    (repeat (first | refine (BitVec.extractLsb'_append_eq_of_le (by decide)).trans ?_ | refine (BitVec.extractLsb'_append_eq_of_add_le (by decide)).trans ?_)) <;>
    first | rfl | exact BitVec.extractLsb'_eq_self
  · refine ⟨?_, ?_, ?_, ?_⟩ <;>
    (repeat (first | refine (BitVec.extractLsb'_append_eq_of_le (by decide)).trans ?_ | refine (BitVec.extractLsb'_append_eq_of_add_le (by decide)).trans ?_)) <;>
    first | rfl | exact BitVec.extractLsb'_eq_self

theorem MLe.bits_ofBits (x : MLe) (w : BitVec 32) (h : MLe.ofBits w = some x) : x.bits (w.extractLsb' 0 8) = w := by
  unfold MLe.ofBits at h
  split at h
  · rename_i hc
    obtain ⟨h0, h1, h2, h3⟩ := hc
    cases h
    unfold MLe.bits
    have e1 := join_fields h0 (rfl : w.extractLsb' 23 4 = _) rfl
    have e2 := join_fields e1 h1 rfl
    have e3 := join_fields e2 h2 rfl
    have e4 := join_fields e3 h3 rfl
    have e5 := join_fields e4 (rfl : w.extractLsb' 8 5 = _) rfl
    have e6 := join_fields e5 (rfl : w.extractLsb' 0 8 = _) rfl
    exact e6.symm.trans BitVec.extractLsb'_eq_self
  · cases h

/-! M0 -/

theorem M0.bits_op (x : M0) (op : BitVec 8) : (x.bits op).extractLsb' 0 8 = op :=
  (BitVec.extractLsb'_append_eq_of_add_le (by decide)).trans BitVec.extractLsb'_eq_self

theorem M0.ofBits_bits (x : M0) (op : BitVec 8) : M0.ofBits (x.bits op) = some x := by
  obtain ⟨a0⟩ := x
  unfold M0.bits M0.ofBits
  rw [if_pos]
  · refine congrArg some ?_
    refine congrArg M0.mk ?_
    (repeat (first | refine (BitVec.extractLsb'_append_eq_of_le (by decide)).trans ?_ | refine (BitVec.extractLsb'_append_eq_of_add_le (by decide)).trans ?_)) <;>
    first | rfl | exact BitVec.extractLsb'_eq_self
  · refine ⟨?_, ?_, ?_, ?_⟩ <;>
    (repeat (first | refine (BitVec.extractLsb'_append_eq_of_le (by decide)).trans ?_ | refine (BitVec.extractLsb'_append_eq_of_add_le (by decide)).trans ?_)) <;>
    first | rfl | exact BitVec.extractLsb'_eq_self

theorem M0.bits_ofBits (x : M0) (w : BitVec 32) (h : M0.ofBits w = some x) : x.bits (w.extractLsb' 0 8) = w := by
  unfold M0.ofBits at h
  split at h
  · rename_i hc
    obtain ⟨h0, h1, h2, h3⟩ := hc
    cases h
    unfold M0.bits
    have e1 := join_fields h0 h1 rfl
    have e2 := join_fields e1 h2 rfl
    have e3 := join_fields e2 h3 rfl
    have e4 := join_fields e3 (rfl : w.extractLsb' 8 5 = _) rfl
    have e5 := join_fields e4 (rfl : w.extractLsb' 0 8 = _) rfl
    exact e5.symm.trans BitVec.extractLsb'_eq_self
  · cases h

/-! MWl -/

theorem MWl.bits_op (x : MWl) (op : BitVec 8) : (x.bits op).extractLsb' 0 8 = op :=
  (BitVec.extractLsb'_append_eq_of_add_le (by decide)).trans BitVec.extractLsb'_eq_self

theorem MWl.ofBits_bits (x : MWl) (op : BitVec 8) : MWl.ofBits (x.bits op) = some x := by
  obtain ⟨a0⟩ := x
  unfold MWl.bits MWl.ofBits
  rw [if_pos]
  · refine congrArg some ?_
    refine congrArg MWl.mk ?_
    (repeat (first | refine (BitVec.extractLsb'_append_eq_of_le (by decide)).trans ?_ | refine (BitVec.extractLsb'_append_eq_of_add_le (by decide)).trans ?_)) <;>
    first | rfl | exact BitVec.extractLsb'_eq_self
  · refine ⟨?_, ?_, ?_, ?_⟩ <;>
    (repeat (first | refine (BitVec.extractLsb'_append_eq_of_le (by decide)).trans ?_ | refine (BitVec.extractLsb'_append_eq_of_add_le (by decide)).trans ?_)) <;>
    first | rfl | exact BitVec.extractLsb'_eq_self

theorem MWl.bits_ofBits (x : MWl) (w : BitVec 32) (h : MWl.ofBits w = some x) : x.bits (w.extractLsb' 0 8) = w := by
  unfold MWl.ofBits at h
  split at h
  · rename_i hc
    obtain ⟨h0, h1, h2, h3⟩ := hc
    cases h
    unfold MWl.bits
    have e1 := join_fields h0 h1 rfl
    have e2 := join_fields e1 h2 rfl
    have e3 := join_fields e2 h3 rfl
    have e4 := join_fields e3 (rfl : w.extractLsb' 8 5 = _) rfl
    have e5 := join_fields e4 (rfl : w.extractLsb' 0 8 = _) rfl
    exact e5.symm.trans BitVec.extractLsb'_eq_self
  · cases h

/-! MN -/

theorem MN.bits_op (x : MN) (op : BitVec 8) : (x.bits op).extractLsb' 0 8 = op :=
  (BitVec.extractLsb'_append_eq_of_add_le (by decide)).trans BitVec.extractLsb'_eq_self

theorem MN.ofBits_bits (x : MN) (op : BitVec 8) : MN.ofBits (x.bits op) = some x := by
  obtain ⟨a0, a1⟩ := x
  unfold MN.bits MN.ofBits
  rw [if_pos]
  · refine congrArg some ?_
    refine MN.mk.injEq .. |>.mpr ⟨?_, ?_⟩ <;>
    (repeat (first | refine (BitVec.extractLsb'_append_eq_of_le (by decide)).trans ?_ | refine (BitVec.extractLsb'_append_eq_of_add_le (by decide)).trans ?_)) <;>
    first | rfl | exact BitVec.extractLsb'_eq_self
  · refine ⟨?_, ?_, ?_⟩ <;>
    (repeat (first | refine (BitVec.extractLsb'_append_eq_of_le (by decide)).trans ?_ | refine (BitVec.extractLsb'_append_eq_of_add_le (by decide)).trans ?_)) <;>
    first | rfl | exact BitVec.extractLsb'_eq_self

theorem MN.bits_ofBits (x : MN) (w : BitVec 32) (h : MN.ofBits w = some x) : x.bits (w.extractLsb' 0 8) = w := by
  unfold MN.ofBits at h
  split at h
  · rename_i hc
    obtain ⟨h0, h1, h2⟩ := hc
    cases h
    unfold MN.bits
    have e1 := join_fields h0 (rfl : w.extractLsb' 19 4 = _) rfl
    have e2 := join_fields e1 h1 rfl
    have e3 := join_fields e2 h2 rfl
    have e4 := join_fields e3 (rfl : w.extractLsb' 8 5 = _) rfl
    have e5 := join_fields e4 (rfl : w.extractLsb' 0 8 = _) rfl
    exact e5.symm.trans BitVec.extractLsb'_eq_self
  · cases h

/-! MRd -/

theorem MRd.bits_op (x : MRd) (op : BitVec 8) : (x.bits op).extractLsb' 0 8 = op :=
  (BitVec.extractLsb'_append_eq_of_add_le (by decide)).trans BitVec.extractLsb'_eq_self

theorem MRd.ofBits_bits (x : MRd) (op : BitVec 8) : MRd.ofBits (x.bits op) = some x := by
  obtain ⟨a0, a1, a2⟩ := x
  unfold MRd.bits MRd.ofBits
  rw [if_pos]
  · refine congrArg some ?_
    refine MRd.mk.injEq .. |>.mpr ⟨?_, ?_, ?_⟩ <;>
    (repeat (first | refine (BitVec.extractLsb'_append_eq_of_le (by decide)).trans ?_ | refine (BitVec.extractLsb'_append_eq_of_add_le (by decide)).trans ?_)) <;>
    first | rfl | exact BitVec.extractLsb'_eq_self
  · refine ⟨?_, ?_, ?_⟩ <;>
    (repeat (first | refine (BitVec.extractLsb'_append_eq_of_le (by decide)).trans ?_ | refine (BitVec.extractLsb'_append_eq_of_add_le (by decide)).trans ?_)) <;>
    first | rfl | exact BitVec.extractLsb'_eq_self

theorem MRd.bits_ofBits (x : MRd) (w : BitVec 32) (h : MRd.ofBits w = some x) : x.bits (w.extractLsb' 0 8) = w := by
  unfold MRd.ofBits at h
  split at h
  · rename_i hc
    obtain ⟨h0, h1, h2⟩ := hc
    cases h
    unfold MRd.bits
    have e1 := join_fields h0 (rfl : w.extractLsb' 23 4 = _) rfl
    have e2 := join_fields e1 (rfl : w.extractLsb' 19 4 = _) rfl
    have e3 := join_fields e2 h1 rfl
    have e4 := join_fields e3 h2 rfl
    have e5 := join_fields e4 (rfl : w.extractLsb' 8 5 = _) rfl
    have e6 := join_fields e5 (rfl : w.extractLsb' 0 8 = _) rfl
    exact e6.symm.trans BitVec.extractLsb'_eq_self
  · cases h

/-! MF -/

theorem MF.bits_op (x : MF) (op : BitVec 8) : (x.bits op).extractLsb' 0 8 = op :=
  (BitVec.extractLsb'_append_eq_of_add_le (by decide)).trans BitVec.extractLsb'_eq_self

theorem MF.ofBits_bits (x : MF) (op : BitVec 8) : MF.ofBits (x.bits op) = some x := by
  obtain ⟨a0, a1, a2⟩ := x
  unfold MF.bits MF.ofBits
  rw [if_pos]
  · refine congrArg some ?_
    refine MF.mk.injEq .. |>.mpr ⟨?_, ?_, ?_⟩ <;>
    (repeat (first | refine (BitVec.extractLsb'_append_eq_of_le (by decide)).trans ?_ | refine (BitVec.extractLsb'_append_eq_of_add_le (by decide)).trans ?_)) <;>
    first | rfl | exact BitVec.extractLsb'_eq_self
  · refine ⟨?_, ?_⟩ <;>
    (repeat (first | refine (BitVec.extractLsb'_append_eq_of_le (by decide)).trans ?_ | refine (BitVec.extractLsb'_append_eq_of_add_le (by decide)).trans ?_)) <;>
    first | rfl | exact BitVec.extractLsb'_eq_self

theorem MF.bits_ofBits (x : MF) (w : BitVec 32) (h : MF.ofBits w = some x) : x.bits (w.extractLsb' 0 8) = w := by
  unfold MF.ofBits at h
  split at h
  · rename_i hc
    obtain ⟨h0, h1⟩ := hc
    cases h
    unfold MF.bits
    have e1 := join_fields h0 (rfl : w.extractLsb' 19 4 = _) rfl
    have e2 := join_fields e1 h1 rfl
    have e3 := join_fields e2 (rfl : w.extractLsb' 13 3 = _) rfl
    have e4 := join_fields e3 (rfl : w.extractLsb' 8 5 = _) rfl
    have e5 := join_fields e4 (rfl : w.extractLsb' 0 8 = _) rfl
    exact e5.symm.trans BitVec.extractLsb'_eq_self
  · cases h

/-! MS -/

theorem MS.bits_op (x : MS) (op : BitVec 8) : (x.bits op).extractLsb' 0 8 = op :=
  (BitVec.extractLsb'_append_eq_of_add_le (by decide)).trans BitVec.extractLsb'_eq_self

theorem MS.ofBits_bits (x : MS) (op : BitVec 8) : MS.ofBits (x.bits op) = some x := by
  obtain ⟨a0, a1, a2, a3, a4⟩ := x
  unfold MS.bits MS.ofBits
  rw [if_pos]
  · refine congrArg some ?_
    refine MS.mk.injEq .. |>.mpr ⟨?_, ?_, ?_, ?_, ?_⟩ <;>
    (repeat (first | refine (BitVec.extractLsb'_append_eq_of_le (by decide)).trans ?_ | refine (BitVec.extractLsb'_append_eq_of_add_le (by decide)).trans ?_)) <;>
    first | rfl | exact BitVec.extractLsb'_eq_self
  · refine ⟨?_, ?_⟩ <;>
    (repeat (first | refine (BitVec.extractLsb'_append_eq_of_le (by decide)).trans ?_ | refine (BitVec.extractLsb'_append_eq_of_add_le (by decide)).trans ?_)) <;>
    first | rfl | exact BitVec.extractLsb'_eq_self

theorem MS.bits_ofBits (x : MS) (w : BitVec 32) (h : MS.ofBits w = some x) : x.bits (w.extractLsb' 0 8) = w := by
  unfold MS.ofBits at h
  split at h
  · rename_i hc
    obtain ⟨h0, h1⟩ := hc
    cases h
    unfold MS.bits
    have e1 := join_fields h0 (rfl : w.extractLsb' 26 1 = _) rfl
    have e2 := join_fields e1 (rfl : w.extractLsb' 23 3 = _) rfl
    have e3 := join_fields e2 h1 rfl
    have e4 := join_fields e3 (rfl : w.extractLsb' 16 3 = _) rfl
    have e5 := join_fields e4 (rfl : w.extractLsb' 13 3 = _) rfl
    have e6 := join_fields e5 (rfl : w.extractLsb' 8 5 = _) rfl
    have e7 := join_fields e6 (rfl : w.extractLsb' 0 8 = _) rfl
    exact e7.symm.trans BitVec.extractLsb'_eq_self
  · cases h

/-! CC -/

theorem CC.bits_op (x : CC) (op : BitVec 8) : (x.bits op).extractLsb' 0 8 = op :=
  (BitVec.extractLsb'_append_eq_of_add_le (by decide)).trans BitVec.extractLsb'_eq_self

theorem CC.ofBits_bits (x : CC) (op : BitVec 8) : CC.ofBits (x.bits op) = some x := by
  obtain ⟨a0, a1, a2, a3, a4⟩ := x
  unfold CC.bits CC.ofBits
  rw [if_pos]
  · refine congrArg some ?_
    refine CC.mk.injEq .. |>.mpr ⟨?_, ?_, ?_, ?_, ?_⟩ <;>
    (repeat (first | refine (BitVec.extractLsb'_append_eq_of_le (by decide)).trans ?_ | refine (BitVec.extractLsb'_append_eq_of_add_le (by decide)).trans ?_)) <;>
    first | rfl | exact BitVec.extractLsb'_eq_self
  · (repeat (first | refine (BitVec.extractLsb'_append_eq_of_le (by decide)).trans ?_ | refine (BitVec.extractLsb'_append_eq_of_add_le (by decide)).trans ?_)) <;>
    first | rfl | exact BitVec.extractLsb'_eq_self

theorem CC.bits_ofBits (x : CC) (w : BitVec 32) (h : CC.ofBits w = some x) : x.bits (w.extractLsb' 0 8) = w := by
  unfold CC.ofBits at h
  split at h
  · rename_i h0
    cases h
    unfold CC.bits
    have e1 := join_fields h0 (rfl : w.extractLsb' 24 1 = _) rfl
    have e2 := join_fields e1 (rfl : w.extractLsb' 20 4 = _) rfl
    have e3 := join_fields e2 (rfl : w.extractLsb' 16 4 = _) rfl
    have e4 := join_fields e3 (rfl : w.extractLsb' 13 3 = _) rfl
    have e5 := join_fields e4 (rfl : w.extractLsb' 8 5 = _) rfl
    have e6 := join_fields e5 (rfl : w.extractLsb' 0 8 = _) rfl
    exact e6.symm.trans BitVec.extractLsb'_eq_self
  · cases h

/-! CL -/

theorem CL.bits_op (x : CL) (op : BitVec 8) : (x.bits op).extractLsb' 0 8 = op :=
  (BitVec.extractLsb'_append_eq_of_add_le (by decide)).trans BitVec.extractLsb'_eq_self

theorem CL.ofBits_bits (x : CL) (op : BitVec 8) : CL.ofBits (x.bits op) = some x := by
  obtain ⟨a0, a1, a2⟩ := x
  unfold CL.bits CL.ofBits
  rw [if_pos]
  · refine congrArg some ?_
    refine CL.mk.injEq .. |>.mpr ⟨?_, ?_, ?_⟩ <;>
    (repeat (first | refine (BitVec.extractLsb'_append_eq_of_le (by decide)).trans ?_ | refine (BitVec.extractLsb'_append_eq_of_add_le (by decide)).trans ?_)) <;>
    first | rfl | exact BitVec.extractLsb'_eq_self
  · refine ⟨?_, ?_⟩ <;>
    (repeat (first | refine (BitVec.extractLsb'_append_eq_of_le (by decide)).trans ?_ | refine (BitVec.extractLsb'_append_eq_of_add_le (by decide)).trans ?_)) <;>
    first | rfl | exact BitVec.extractLsb'_eq_self

theorem CL.bits_ofBits (x : CL) (w : BitVec 32) (h : CL.ofBits w = some x) : x.bits (w.extractLsb' 0 8) = w := by
  unfold CL.ofBits at h
  split at h
  · rename_i hc
    obtain ⟨h0, h1⟩ := hc
    cases h
    unfold CL.bits
    have e1 := join_fields h0 h1 rfl
    have e2 := join_fields e1 (rfl : w.extractLsb' 16 4 = _) rfl
    have e3 := join_fields e2 (rfl : w.extractLsb' 13 3 = _) rfl
    have e4 := join_fields e3 (rfl : w.extractLsb' 8 5 = _) rfl
    have e5 := join_fields e4 (rfl : w.extractLsb' 0 8 = _) rfl
    exact e5.symm.trans BitVec.extractLsb'_eq_self
  · cases h

/-! CS -/

theorem CS.bits_op (x : CS) (op : BitVec 8) : (x.bits op).extractLsb' 0 8 = op :=
  (BitVec.extractLsb'_append_eq_of_add_le (by decide)).trans BitVec.extractLsb'_eq_self

theorem CS.ofBits_bits (x : CS) (op : BitVec 8) : CS.ofBits (x.bits op) = some x := by
  obtain ⟨a0, a1, a2, a3⟩ := x
  unfold CS.bits CS.ofBits
  rw [if_pos]
  · refine congrArg some ?_
    refine CS.mk.injEq .. |>.mpr ⟨?_, ?_, ?_, ?_⟩ <;>
    (repeat (first | refine (BitVec.extractLsb'_append_eq_of_le (by decide)).trans ?_ | refine (BitVec.extractLsb'_append_eq_of_add_le (by decide)).trans ?_)) <;>
    first | rfl | exact BitVec.extractLsb'_eq_self
  · (repeat (first | refine (BitVec.extractLsb'_append_eq_of_le (by decide)).trans ?_ | refine (BitVec.extractLsb'_append_eq_of_add_le (by decide)).trans ?_)) <;>
    first | rfl | exact BitVec.extractLsb'_eq_self

theorem CS.bits_ofBits (x : CS) (w : BitVec 32) (h : CS.ofBits w = some x) : x.bits (w.extractLsb' 0 8) = w := by
  unfold CS.ofBits at h
  split at h
  · rename_i h0
    cases h
    unfold CS.bits
    have e1 := join_fields h0 (rfl : w.extractLsb' 20 4 = _) rfl
    have e2 := join_fields e1 (rfl : w.extractLsb' 16 4 = _) rfl
    have e3 := join_fields e2 (rfl : w.extractLsb' 13 3 = _) rfl
    have e4 := join_fields e3 (rfl : w.extractLsb' 8 5 = _) rfl
    have e5 := join_fields e4 (rfl : w.extractLsb' 0 8 = _) rfl
    exact e5.symm.trans BitVec.extractLsb'_eq_self
  · cases h

/-! CQ -/

theorem CQ.bits_op (x : CQ) (op : BitVec 8) : (x.bits op).extractLsb' 0 8 = op :=
  (BitVec.extractLsb'_append_eq_of_add_le (by decide)).trans BitVec.extractLsb'_eq_self

theorem CQ.ofBits_bits (x : CQ) (op : BitVec 8) : CQ.ofBits (x.bits op) = some x := by
  obtain ⟨a0, a1, a2, a3⟩ := x
  unfold CQ.bits CQ.ofBits
  rw [if_pos]
  · refine congrArg some ?_
    refine CQ.mk.injEq .. |>.mpr ⟨?_, ?_, ?_, ?_⟩ <;>
    (repeat (first | refine (BitVec.extractLsb'_append_eq_of_le (by decide)).trans ?_ | refine (BitVec.extractLsb'_append_eq_of_add_le (by decide)).trans ?_)) <;>
    first | rfl | exact BitVec.extractLsb'_eq_self
  · refine ⟨?_, ?_⟩ <;>
    (repeat (first | refine (BitVec.extractLsb'_append_eq_of_le (by decide)).trans ?_ | refine (BitVec.extractLsb'_append_eq_of_add_le (by decide)).trans ?_)) <;>
    first | rfl | exact BitVec.extractLsb'_eq_self

theorem CQ.bits_ofBits (x : CQ) (w : BitVec 32) (h : CQ.ofBits w = some x) : x.bits (w.extractLsb' 0 8) = w := by
  unfold CQ.ofBits at h
  split at h
  · rename_i hc
    obtain ⟨h0, h1⟩ := hc
    cases h
    unfold CQ.bits
    have e1 := join_fields h0 (rfl : w.extractLsb' 24 2 = _) rfl
    have e2 := join_fields e1 (rfl : w.extractLsb' 20 4 = _) rfl
    have e3 := join_fields e2 h1 rfl
    have e4 := join_fields e3 (rfl : w.extractLsb' 13 3 = _) rfl
    have e5 := join_fields e4 (rfl : w.extractLsb' 8 5 = _) rfl
    have e6 := join_fields e5 (rfl : w.extractLsb' 0 8 = _) rfl
    exact e6.symm.trans BitVec.extractLsb'_eq_self
  · cases h

/-! KL -/

theorem KL.bits_op (x : KL) (op : BitVec 4) : (x.bits op).extractLsb' 0 4 = op :=
  (BitVec.extractLsb'_append_eq_of_add_le (by decide)).trans BitVec.extractLsb'_eq_self

theorem KL.ofBits_bits (x : KL) (op : BitVec 4) : KL.ofBits (x.bits op) = some x := by
  obtain ⟨a0, a1, a2⟩ := x
  unfold KL.bits KL.ofBits
  refine congrArg some ?_
  refine KL.mk.injEq .. |>.mpr ⟨?_, ?_, ?_⟩ <;>
  (repeat (first | refine (BitVec.extractLsb'_append_eq_of_le (by decide)).trans ?_ | refine (BitVec.extractLsb'_append_eq_of_add_le (by decide)).trans ?_)) <;>
  first | rfl | exact BitVec.extractLsb'_eq_self

theorem KL.bits_ofBits (x : KL) (w : BitVec 16) (h : KL.ofBits w = some x) : x.bits (w.extractLsb' 0 4) = w := by
  unfold KL.ofBits at h
  cases h
  unfold KL.bits
  have e1 := join_fields (rfl : w.extractLsb' 12 4 = _) (rfl : w.extractLsb' 8 4 = _) rfl
  have e2 := join_fields e1 (rfl : w.extractLsb' 4 4 = _) rfl
  have e3 := join_fields e2 (rfl : w.extractLsb' 0 4 = _) rfl
  exact e3.symm.trans BitVec.extractLsb'_eq_self

/-! KM -/

theorem KM.bits_op (x : KM) (op : BitVec 4) : (x.bits op).extractLsb' 0 4 = op :=
  (BitVec.extractLsb'_append_eq_of_add_le (by decide)).trans BitVec.extractLsb'_eq_self

theorem KM.ofBits_bits (x : KM) (op : BitVec 4) : KM.ofBits (x.bits op) = some x := by
  obtain ⟨a0, a1⟩ := x
  unfold KM.bits KM.ofBits
  rw [if_pos]
  · refine congrArg some ?_
    refine KM.mk.injEq .. |>.mpr ⟨?_, ?_⟩ <;>
    (repeat (first | refine (BitVec.extractLsb'_append_eq_of_le (by decide)).trans ?_ | refine (BitVec.extractLsb'_append_eq_of_add_le (by decide)).trans ?_)) <;>
    first | rfl | exact BitVec.extractLsb'_eq_self
  · (repeat (first | refine (BitVec.extractLsb'_append_eq_of_le (by decide)).trans ?_ | refine (BitVec.extractLsb'_append_eq_of_add_le (by decide)).trans ?_)) <;>
    first | rfl | exact BitVec.extractLsb'_eq_self

theorem KM.bits_ofBits (x : KM) (w : BitVec 16) (h : KM.ofBits w = some x) : x.bits (w.extractLsb' 0 4) = w := by
  unfold KM.ofBits at h
  split at h
  · rename_i h0
    cases h
    unfold KM.bits
    have e1 := join_fields h0 (rfl : w.extractLsb' 8 4 = _) rfl
    have e2 := join_fields e1 (rfl : w.extractLsb' 4 4 = _) rfl
    have e3 := join_fields e2 (rfl : w.extractLsb' 0 4 = _) rfl
    exact e3.symm.trans BitVec.extractLsb'_eq_self
  · cases h

end Sys2Proof
end

