-- ==== Sys2Proof/Laws/State.lean ====
section
/-!
SUPPORT. The laws of the state: what each named update of the state, of a core or of a group leaves in each field, so that no later
proof unfolds a record update.
-/

namespace Sys2Proof.Machine

/-! ### The state's own updates -/

@[simp] theorem State.setCore_clk (s : State) (c : Nat) (x : Core) : (s.setCore c x).clk = s.clk := rfl
@[simp] theorem State.setCore_dies (s : State) (c : Nat) (x : Core) : (s.setCore c x).dies = s.dies := rfl
@[simp] theorem State.setCore_lanterns (s : State) (c : Nat) (x : Core) : (s.setCore c x).lanterns = s.lanterns := rfl
@[simp] theorem State.setCore_mem (s : State) (c : Nat) (x : Core) : (s.setCore c x).mem = s.mem := rfl
@[simp] theorem State.setCore_host (s : State) (c : Nat) (x : Core) : (s.setCore c x).host = s.host := rfl
@[simp] theorem State.setCore_poison (s : State) (c : Nat) (x : Core) : (s.setCore c x).poison = s.poison := rfl
@[simp] theorem State.setCore_hbmBad (s : State) (c : Nat) (x : Core) : (s.setCore c x).hbmBad = s.hbmBad := rfl
@[simp] theorem State.setCore_healed (s : State) (c : Nat) (x : Core) : (s.setCore c x).healed = s.healed := rfl
@[simp] theorem State.setCore_llc (s : State) (c : Nat) (x : Core) : (s.setCore c x).llc = s.llc := rfl
@[simp] theorem State.setCore_lamps (s : State) (c : Nat) (x : Core) : (s.setCore c x).lamps = s.lamps := rfl
@[simp] theorem State.setCore_withdrawn (s : State) (c : Nat) (x : Core) : (s.setCore c x).withdrawn = s.withdrawn := rfl
@[simp] theorem State.setCore_tasks (s : State) (c : Nat) (x : Core) : (s.setCore c x).tasks = s.tasks := rfl
@[simp] theorem State.setCore_scopes (s : State) (c : Nat) (x : Core) : (s.setCore c x).scopes = s.scopes := rfl
@[simp] theorem State.setCore_scopeGen (s : State) (c : Nat) (x : Core) : (s.setCore c x).scopeGen = s.scopeGen := rfl
@[simp] theorem State.setCore_gone (s : State) (c : Nat) (x : Core) : (s.setCore c x).gone = s.gone := rfl
@[simp] theorem State.setCore_snuffs (s : State) (c : Nat) (x : Core) : (s.setCore c x).snuffs = s.snuffs := rfl
@[simp] theorem State.setCore_queues (s : State) (c : Nat) (x : Core) : (s.setCore c x).queues = s.queues := rfl
@[simp] theorem State.setCore_fetchRR (s : State) (c : Nat) (x : Core) : (s.setCore c x).fetchRR = s.fetchRR := rfl
@[simp] theorem State.setCore_ids (s : State) (c : Nat) (x : Core) : (s.setCore c x).ids = s.ids := rfl
@[simp] theorem State.setCore_order (s : State) (c : Nat) (x : Core) : (s.setCore c x).order = s.order := rfl
@[simp] theorem State.setCore_plat (s : State) (c : Nat) (x : Core) : (s.setCore c x).plat = s.plat := rfl
@[simp] theorem State.setCore_cur (s : State) (c : Nat) (x : Core) : (s.setCore c x).cur = s.cur := rfl
@[simp] theorem State.setCore_agenda (s : State) (c : Nat) (x : Core) : (s.setCore c x).agenda = s.agenda := rfl
@[simp] theorem State.setCore_free (s : State) (c : Nat) (x : Core) : (s.setCore c x).free = s.free := rfl
@[simp] theorem State.setCore_joint (s : State) (c : Nat) (x : Core) : (s.setCore c x).joint = s.joint := rfl
@[simp] theorem State.setDie_clk (s : State) (d : Nat) (x : Die) : (s.setDie d x).clk = s.clk := rfl
@[simp] theorem State.setDie_cores (s : State) (d : Nat) (x : Die) : (s.setDie d x).cores = s.cores := rfl
@[simp] theorem State.setDie_lanterns (s : State) (d : Nat) (x : Die) : (s.setDie d x).lanterns = s.lanterns := rfl
@[simp] theorem State.setDie_mem (s : State) (d : Nat) (x : Die) : (s.setDie d x).mem = s.mem := rfl
@[simp] theorem State.setDie_host (s : State) (d : Nat) (x : Die) : (s.setDie d x).host = s.host := rfl
@[simp] theorem State.setDie_poison (s : State) (d : Nat) (x : Die) : (s.setDie d x).poison = s.poison := rfl
@[simp] theorem State.setDie_hbmBad (s : State) (d : Nat) (x : Die) : (s.setDie d x).hbmBad = s.hbmBad := rfl
@[simp] theorem State.setDie_healed (s : State) (d : Nat) (x : Die) : (s.setDie d x).healed = s.healed := rfl
@[simp] theorem State.setDie_llc (s : State) (d : Nat) (x : Die) : (s.setDie d x).llc = s.llc := rfl
@[simp] theorem State.setDie_lamps (s : State) (d : Nat) (x : Die) : (s.setDie d x).lamps = s.lamps := rfl
@[simp] theorem State.setDie_withdrawn (s : State) (d : Nat) (x : Die) : (s.setDie d x).withdrawn = s.withdrawn := rfl
@[simp] theorem State.setDie_tasks (s : State) (d : Nat) (x : Die) : (s.setDie d x).tasks = s.tasks := rfl
@[simp] theorem State.setDie_scopes (s : State) (d : Nat) (x : Die) : (s.setDie d x).scopes = s.scopes := rfl
@[simp] theorem State.setDie_scopeGen (s : State) (d : Nat) (x : Die) : (s.setDie d x).scopeGen = s.scopeGen := rfl
@[simp] theorem State.setDie_gone (s : State) (d : Nat) (x : Die) : (s.setDie d x).gone = s.gone := rfl
@[simp] theorem State.setDie_snuffs (s : State) (d : Nat) (x : Die) : (s.setDie d x).snuffs = s.snuffs := rfl
@[simp] theorem State.setDie_queues (s : State) (d : Nat) (x : Die) : (s.setDie d x).queues = s.queues := rfl
@[simp] theorem State.setDie_fetchRR (s : State) (d : Nat) (x : Die) : (s.setDie d x).fetchRR = s.fetchRR := rfl
@[simp] theorem State.setDie_ids (s : State) (d : Nat) (x : Die) : (s.setDie d x).ids = s.ids := rfl
@[simp] theorem State.setDie_order (s : State) (d : Nat) (x : Die) : (s.setDie d x).order = s.order := rfl
@[simp] theorem State.setDie_plat (s : State) (d : Nat) (x : Die) : (s.setDie d x).plat = s.plat := rfl
@[simp] theorem State.setDie_cur (s : State) (d : Nat) (x : Die) : (s.setDie d x).cur = s.cur := rfl
@[simp] theorem State.setDie_agenda (s : State) (d : Nat) (x : Die) : (s.setDie d x).agenda = s.agenda := rfl
@[simp] theorem State.setDie_free (s : State) (d : Nat) (x : Die) : (s.setDie d x).free = s.free := rfl
@[simp] theorem State.setDie_joint (s : State) (d : Nat) (x : Die) : (s.setDie d x).joint = s.joint := rfl
@[simp] theorem State.setTask_clk (s : State) (t : Task) : (s.setTask t).clk = s.clk := rfl
@[simp] theorem State.setTask_cores (s : State) (t : Task) : (s.setTask t).cores = s.cores := rfl
@[simp] theorem State.setTask_dies (s : State) (t : Task) : (s.setTask t).dies = s.dies := rfl
@[simp] theorem State.setTask_lanterns (s : State) (t : Task) : (s.setTask t).lanterns = s.lanterns := rfl
@[simp] theorem State.setTask_mem (s : State) (t : Task) : (s.setTask t).mem = s.mem := rfl
@[simp] theorem State.setTask_host (s : State) (t : Task) : (s.setTask t).host = s.host := rfl
@[simp] theorem State.setTask_poison (s : State) (t : Task) : (s.setTask t).poison = s.poison := rfl
@[simp] theorem State.setTask_hbmBad (s : State) (t : Task) : (s.setTask t).hbmBad = s.hbmBad := rfl
@[simp] theorem State.setTask_healed (s : State) (t : Task) : (s.setTask t).healed = s.healed := rfl
@[simp] theorem State.setTask_llc (s : State) (t : Task) : (s.setTask t).llc = s.llc := rfl
@[simp] theorem State.setTask_lamps (s : State) (t : Task) : (s.setTask t).lamps = s.lamps := rfl
@[simp] theorem State.setTask_withdrawn (s : State) (t : Task) : (s.setTask t).withdrawn = s.withdrawn := rfl
@[simp] theorem State.setTask_scopes (s : State) (t : Task) : (s.setTask t).scopes = s.scopes := rfl
@[simp] theorem State.setTask_scopeGen (s : State) (t : Task) : (s.setTask t).scopeGen = s.scopeGen := rfl
@[simp] theorem State.setTask_gone (s : State) (t : Task) : (s.setTask t).gone = s.gone := rfl
@[simp] theorem State.setTask_snuffs (s : State) (t : Task) : (s.setTask t).snuffs = s.snuffs := rfl
@[simp] theorem State.setTask_queues (s : State) (t : Task) : (s.setTask t).queues = s.queues := rfl
@[simp] theorem State.setTask_fetchRR (s : State) (t : Task) : (s.setTask t).fetchRR = s.fetchRR := rfl
@[simp] theorem State.setTask_ids (s : State) (t : Task) : (s.setTask t).ids = s.ids := rfl
@[simp] theorem State.setTask_order (s : State) (t : Task) : (s.setTask t).order = s.order := rfl
@[simp] theorem State.setTask_plat (s : State) (t : Task) : (s.setTask t).plat = s.plat := rfl
@[simp] theorem State.setTask_cur (s : State) (t : Task) : (s.setTask t).cur = s.cur := rfl
@[simp] theorem State.setTask_agenda (s : State) (t : Task) : (s.setTask t).agenda = s.agenda := rfl
@[simp] theorem State.setTask_free (s : State) (t : Task) : (s.setTask t).free = s.free := rfl
@[simp] theorem State.setTask_joint (s : State) (t : Task) : (s.setTask t).joint = s.joint := rfl
@[simp] theorem State.setQueue_clk (s : State) (q : CmdQueue) : (s.setQueue q).clk = s.clk := rfl
@[simp] theorem State.setQueue_cores (s : State) (q : CmdQueue) : (s.setQueue q).cores = s.cores := rfl
@[simp] theorem State.setQueue_dies (s : State) (q : CmdQueue) : (s.setQueue q).dies = s.dies := rfl
@[simp] theorem State.setQueue_lanterns (s : State) (q : CmdQueue) : (s.setQueue q).lanterns = s.lanterns := rfl
@[simp] theorem State.setQueue_mem (s : State) (q : CmdQueue) : (s.setQueue q).mem = s.mem := rfl
@[simp] theorem State.setQueue_host (s : State) (q : CmdQueue) : (s.setQueue q).host = s.host := rfl
@[simp] theorem State.setQueue_poison (s : State) (q : CmdQueue) : (s.setQueue q).poison = s.poison := rfl
@[simp] theorem State.setQueue_hbmBad (s : State) (q : CmdQueue) : (s.setQueue q).hbmBad = s.hbmBad := rfl
@[simp] theorem State.setQueue_healed (s : State) (q : CmdQueue) : (s.setQueue q).healed = s.healed := rfl
@[simp] theorem State.setQueue_llc (s : State) (q : CmdQueue) : (s.setQueue q).llc = s.llc := rfl
@[simp] theorem State.setQueue_lamps (s : State) (q : CmdQueue) : (s.setQueue q).lamps = s.lamps := rfl
@[simp] theorem State.setQueue_withdrawn (s : State) (q : CmdQueue) : (s.setQueue q).withdrawn = s.withdrawn := rfl
@[simp] theorem State.setQueue_tasks (s : State) (q : CmdQueue) : (s.setQueue q).tasks = s.tasks := rfl
@[simp] theorem State.setQueue_scopes (s : State) (q : CmdQueue) : (s.setQueue q).scopes = s.scopes := rfl
@[simp] theorem State.setQueue_scopeGen (s : State) (q : CmdQueue) : (s.setQueue q).scopeGen = s.scopeGen := rfl
@[simp] theorem State.setQueue_gone (s : State) (q : CmdQueue) : (s.setQueue q).gone = s.gone := rfl
@[simp] theorem State.setQueue_snuffs (s : State) (q : CmdQueue) : (s.setQueue q).snuffs = s.snuffs := rfl
@[simp] theorem State.setQueue_fetchRR (s : State) (q : CmdQueue) : (s.setQueue q).fetchRR = s.fetchRR := rfl
@[simp] theorem State.setQueue_ids (s : State) (q : CmdQueue) : (s.setQueue q).ids = s.ids := rfl
@[simp] theorem State.setQueue_order (s : State) (q : CmdQueue) : (s.setQueue q).order = s.order := rfl
@[simp] theorem State.setQueue_plat (s : State) (q : CmdQueue) : (s.setQueue q).plat = s.plat := rfl
@[simp] theorem State.setQueue_cur (s : State) (q : CmdQueue) : (s.setQueue q).cur = s.cur := rfl
@[simp] theorem State.setQueue_agenda (s : State) (q : CmdQueue) : (s.setQueue q).agenda = s.agenda := rfl
@[simp] theorem State.setQueue_free (s : State) (q : CmdQueue) : (s.setQueue q).free = s.free := rfl
@[simp] theorem State.setQueue_joint (s : State) (q : CmdQueue) : (s.setQueue q).joint = s.joint := rfl
@[simp] theorem State.setGroup_clk (s : State) (r : GRef) (g : Group) : (s.setGroup r g).clk = s.clk := by unfold State.setGroup; split <;> rfl
@[simp] theorem State.setGroup_dies (s : State) (r : GRef) (g : Group) : (s.setGroup r g).dies = s.dies := by unfold State.setGroup; split <;> rfl
@[simp] theorem State.setGroup_lanterns (s : State) (r : GRef) (g : Group) : (s.setGroup r g).lanterns = s.lanterns := by unfold State.setGroup; split <;> rfl
@[simp] theorem State.setGroup_mem (s : State) (r : GRef) (g : Group) : (s.setGroup r g).mem = s.mem := by unfold State.setGroup; split <;> rfl
@[simp] theorem State.setGroup_host (s : State) (r : GRef) (g : Group) : (s.setGroup r g).host = s.host := by unfold State.setGroup; split <;> rfl
@[simp] theorem State.setGroup_poison (s : State) (r : GRef) (g : Group) : (s.setGroup r g).poison = s.poison := by unfold State.setGroup; split <;> rfl
@[simp] theorem State.setGroup_hbmBad (s : State) (r : GRef) (g : Group) : (s.setGroup r g).hbmBad = s.hbmBad := by unfold State.setGroup; split <;> rfl
@[simp] theorem State.setGroup_healed (s : State) (r : GRef) (g : Group) : (s.setGroup r g).healed = s.healed := by unfold State.setGroup; split <;> rfl
@[simp] theorem State.setGroup_llc (s : State) (r : GRef) (g : Group) : (s.setGroup r g).llc = s.llc := by unfold State.setGroup; split <;> rfl
@[simp] theorem State.setGroup_lamps (s : State) (r : GRef) (g : Group) : (s.setGroup r g).lamps = s.lamps := by unfold State.setGroup; split <;> rfl
@[simp] theorem State.setGroup_withdrawn (s : State) (r : GRef) (g : Group) : (s.setGroup r g).withdrawn = s.withdrawn := by unfold State.setGroup; split <;> rfl
@[simp] theorem State.setGroup_tasks (s : State) (r : GRef) (g : Group) : (s.setGroup r g).tasks = s.tasks := by unfold State.setGroup; split <;> rfl
@[simp] theorem State.setGroup_scopes (s : State) (r : GRef) (g : Group) : (s.setGroup r g).scopes = s.scopes := by unfold State.setGroup; split <;> rfl
@[simp] theorem State.setGroup_scopeGen (s : State) (r : GRef) (g : Group) : (s.setGroup r g).scopeGen = s.scopeGen := by unfold State.setGroup; split <;> rfl
@[simp] theorem State.setGroup_gone (s : State) (r : GRef) (g : Group) : (s.setGroup r g).gone = s.gone := by unfold State.setGroup; split <;> rfl
@[simp] theorem State.setGroup_snuffs (s : State) (r : GRef) (g : Group) : (s.setGroup r g).snuffs = s.snuffs := by unfold State.setGroup; split <;> rfl
@[simp] theorem State.setGroup_queues (s : State) (r : GRef) (g : Group) : (s.setGroup r g).queues = s.queues := by unfold State.setGroup; split <;> rfl
@[simp] theorem State.setGroup_fetchRR (s : State) (r : GRef) (g : Group) : (s.setGroup r g).fetchRR = s.fetchRR := by unfold State.setGroup; split <;> rfl
@[simp] theorem State.setGroup_ids (s : State) (r : GRef) (g : Group) : (s.setGroup r g).ids = s.ids := by unfold State.setGroup; split <;> rfl
@[simp] theorem State.setGroup_order (s : State) (r : GRef) (g : Group) : (s.setGroup r g).order = s.order := by unfold State.setGroup; split <;> rfl
@[simp] theorem State.setGroup_plat (s : State) (r : GRef) (g : Group) : (s.setGroup r g).plat = s.plat := by unfold State.setGroup; split <;> rfl
@[simp] theorem State.setGroup_cur (s : State) (r : GRef) (g : Group) : (s.setGroup r g).cur = s.cur := by unfold State.setGroup; split <;> rfl
@[simp] theorem State.setGroup_agenda (s : State) (r : GRef) (g : Group) : (s.setGroup r g).agenda = s.agenda := by unfold State.setGroup; split <;> rfl
@[simp] theorem State.setGroup_free (s : State) (r : GRef) (g : Group) : (s.setGroup r g).free = s.free := by unfold State.setGroup; split <;> rfl
@[simp] theorem State.setGroup_joint (s : State) (r : GRef) (g : Group) : (s.setGroup r g).joint = s.joint := by unfold State.setGroup; split <;> rfl

/-! ### Places -/

/-- A core written is read back, where it exists. -/
theorem State.core_setCore_same (s : State) (c : Nat) (x : Core) (h : c < s.cores.length) : (s.setCore c x).core c = x := by
  simp [State.core, State.setCore, List.getD_eq_getElem?_getD, h]

/-- Another core stays. -/
theorem State.core_setCore_other (s : State) (c d : Nat) (x : Core) (h : d ≠ c) : (s.setCore c x).core d = s.core d := by
  simp [State.core, State.setCore, List.getD_eq_getElem?_getD, List.getElem?_set_ne h.symm]

/-- The number of cores stays. -/
@[simp] theorem State.setCore_length (s : State) (c : Nat) (x : Core) : (s.setCore c x).cores.length = s.cores.length := by
  simp [State.setCore]

/-- The number of cores stays. -/
@[simp] theorem State.setGroup_length (s : State) (r : GRef) (g : Group) : (s.setGroup r g).cores.length = s.cores.length := by
  unfold State.setGroup; split <;> simp

/-- A core that holds a group exists. -/
theorem State.core_lt_of_group (s : State) (r : GRef) (g : Group) (h : s.group r = some g) : r.core < s.cores.length := by
  by_contra hc
  have hr : s.core r.core = Core.reset := by simp [State.core, List.getD_eq_getElem?_getD, Nat.not_lt.mp hc]
  unfold State.group at h
  rw [hr] at h
  by_cases hs : r.slot < 8
  · rw [if_pos hs] at h
    generalize r.slot = k at h hs
    interval_cases k <;> simp [Core.reset] at h
  · rw [if_neg hs] at h
    simp [Core.reset] at h

/-- A group written is read back, where one was. -/
theorem State.group_setGroup_same (s : State) (r : GRef) (g g' : Group) (h : s.group r = some g') : (s.setGroup r g).group r = some g := by
  have hc := State.core_lt_of_group s r g' h
  unfold State.group at h
  unfold State.setGroup State.group
  by_cases hs : r.slot < 8
  · simp only [hs, if_true] at h ⊢
    rw [State.core_setCore_same s r.core _ hc]
    have hl : r.slot < (s.core r.core).slots.length := by
      by_contra hn
      simp [List.getD_eq_getElem?_getD, Nat.not_lt.mp hn] at h
    simp [List.getD_eq_getElem?_getD, hl]
  · simp only [hs, if_false] at h ⊢
    rw [State.core_setCore_same s r.core _ hc]
    obtain ⟨hl, -⟩ := List.getElem?_eq_some_iff.mp h
    simp [hl]

/-- Another core stays. -/
theorem State.core_setGroup_other (s : State) (r : GRef) (g : Group) (c : Nat) (h : c ≠ r.core) : (s.setGroup r g).core c = s.core c := by
  unfold State.setGroup
  split <;> exact State.core_setCore_other s r.core c _ h
/-- Every group elsewhere stays. -/
theorem State.group_setGroup_other (s : State) (r q : GRef) (g : Group) (h : q ≠ r) : (s.setGroup r g).group q = s.group q := by
  by_cases hq : q.core = r.core
  · by_cases hc : r.core < s.cores.length
    · unfold State.setGroup State.group
      by_cases hs : r.slot < 8
      · simp only [hs, if_true, hq, State.core_setCore_same s r.core _ hc]
        by_cases hs2 : q.slot < 8
        · simp only [hs2, if_true]
          have hne : r.slot ≠ q.slot := fun e => h (by cases q; cases r; simp_all)
          simp [List.getD_eq_getElem?_getD, List.getElem?_set_ne hne]
        · simp [hs2]
      · simp only [hs, if_false, hq, State.core_setCore_same s r.core _ hc]
        by_cases hs2 : q.slot < 8
        · simp [hs2]
        · simp only [hs2, if_false]
          have hne : r.slot - 8 ≠ q.slot - 8 := fun e => h (by
            have e2 : q.slot = r.slot := by omega
            cases q; cases r; simp_all)
          simp [List.getElem?_set_ne hne]
    · have e : ∀ x, s.setCore r.core x = s := fun x => by
        simp [State.setCore, List.set_eq_of_length_le (Nat.not_lt.mp hc)]
      unfold State.setGroup
      split <;> rw [e]
  · unfold State.group
    rw [State.core_setGroup_other s r g q.core hq]



/-- A field of a core besides its groups stays when a group is written. -/
theorem State.core_field_setGroup {α : Type} (f : Core → α) (hs : ∀ (x : Core) (l : List (Option Group)), f { x with slots := l } = f x)
    (ht : ∀ (x : Core) (l : List Group), f { x with tracker := l } = f x) (s : State) (r : GRef) (g : Group) (c : Nat) :
    f ((s.setGroup r g).core c) = f (s.core c) := by
  by_cases hc : c = r.core
  · subst hc
    by_cases hl : r.core < s.cores.length
    · unfold State.setGroup
      split
      · rw [State.core_setCore_same s r.core _ hl]; exact hs _ _
      · rw [State.core_setCore_same s r.core _ hl]; exact ht _ _
    · unfold State.setGroup State.setCore
      split <;> simp [State.core, List.set_eq_of_length_le (Nat.not_lt.mp hl)]
  · rw [State.core_setGroup_other s r g c hc]

@[simp] theorem State.setGroup_core_task (s : State) (r : GRef) (g : Group) (c : Nat) : ((s.setGroup r g).core c).task = (s.core c).task :=
  State.core_field_setGroup (fun x => x.task) (fun _ _ => rfl) (fun _ _ => rfl) s r g c
@[simp] theorem State.setGroup_core_taken (s : State) (r : GRef) (g : Group) (c : Nat) : ((s.setGroup r g).core c).taken = (s.core c).taken :=
  State.core_field_setGroup (fun x => x.taken) (fun _ _ => rfl) (fun _ _ => rfl) s r g c
@[simp] theorem State.setGroup_core_bnd0 (s : State) (r : GRef) (g : Group) (c : Nat) : ((s.setGroup r g).core c).bnd0 = (s.core c).bnd0 :=
  State.core_field_setGroup (fun x => x.bnd0) (fun _ _ => rfl) (fun _ _ => rfl) s r g c
@[simp] theorem State.setGroup_core_bnd1 (s : State) (r : GRef) (g : Group) (c : Nat) : ((s.setGroup r g).core c).bnd1 = (s.core c).bnd1 :=
  State.core_field_setGroup (fun x => x.bnd1) (fun _ _ => rfl) (fun _ _ => rfl) s r g c
@[simp] theorem State.setGroup_core_bnd2 (s : State) (r : GRef) (g : Group) (c : Nat) : ((s.setGroup r g).core c).bnd2 = (s.core c).bnd2 :=
  State.core_field_setGroup (fun x => x.bnd2) (fun _ _ => rfl) (fun _ _ => rfl) s r g c
@[simp] theorem State.setGroup_core_rows (s : State) (r : GRef) (g : Group) (c : Nat) : ((s.setGroup r g).core c).rows = (s.core c).rows :=
  State.core_field_setGroup (fun x => x.rows) (fun _ _ => rfl) (fun _ _ => rfl) s r g c
@[simp] theorem State.setGroup_core_hamper (s : State) (r : GRef) (g : Group) (c : Nat) : ((s.setGroup r g).core c).hamper = (s.core c).hamper :=
  State.core_field_setGroup (fun x => x.hamper) (fun _ _ => rfl) (fun _ _ => rfl) s r g c
@[simp] theorem State.setGroup_core_padPoison (s : State) (r : GRef) (g : Group) (c : Nat) : ((s.setGroup r g).core c).padPoison = (s.core c).padPoison :=
  State.core_field_setGroup (fun x => x.padPoison) (fun _ _ => rfl) (fun _ _ => rfl) s r g c
@[simp] theorem State.setGroup_core_lit (s : State) (r : GRef) (g : Group) (c : Nat) : ((s.setGroup r g).core c).lit = (s.core c).lit :=
  State.core_field_setGroup (fun x => x.lit) (fun _ _ => rfl) (fun _ _ => rfl) s r g c
@[simp] theorem State.setGroup_core_fills (s : State) (r : GRef) (g : Group) (c : Nat) : ((s.setGroup r g).core c).fills = (s.core c).fills :=
  State.core_field_setGroup (fun x => x.fills) (fun _ _ => rfl) (fun _ _ => rfl) s r g c
@[simp] theorem State.setGroup_core_l1 (s : State) (r : GRef) (g : Group) (c : Nat) : ((s.setGroup r g).core c).l1 = (s.core c).l1 :=
  State.core_field_setGroup (fun x => x.l1) (fun _ _ => rfl) (fun _ _ => rfl) s r g c
@[simp] theorem State.setGroup_core_acc (s : State) (r : GRef) (g : Group) (c : Nat) : ((s.setGroup r g).core c).acc = (s.core c).acc :=
  State.core_field_setGroup (fun x => x.acc) (fun _ _ => rfl) (fun _ _ => rfl) s r g c
@[simp] theorem State.setGroup_core_accPoison (s : State) (r : GRef) (g : Group) (c : Nat) : ((s.setGroup r g).core c).accPoison = (s.core c).accPoison :=
  State.core_field_setGroup (fun x => x.accPoison) (fun _ _ => rfl) (fun _ _ => rfl) s r g c
@[simp] theorem State.setGroup_core_paneBad (s : State) (r : GRef) (g : Group) (c : Nat) : ((s.setGroup r g).core c).paneBad = (s.core c).paneBad :=
  State.core_field_setGroup (fun x => x.paneBad) (fun _ _ => rfl) (fun _ _ => rfl) s r g c
@[simp] theorem State.setGroup_core_steps (s : State) (r : GRef) (g : Group) (c : Nat) : ((s.setGroup r g).core c).steps = (s.core c).steps :=
  State.core_field_setGroup (fun x => x.steps) (fun _ _ => rfl) (fun _ _ => rfl) s r g c
@[simp] theorem State.setGroup_core_reqs (s : State) (r : GRef) (g : Group) (c : Nat) : ((s.setGroup r g).core c).reqs = (s.core c).reqs :=
  State.core_field_setGroup (fun x => x.reqs) (fun _ _ => rfl) (fun _ _ => rfl) s r g c
@[simp] theorem State.setGroup_core_runPanes (s : State) (r : GRef) (g : Group) (c : Nat) : ((s.setGroup r g).core c).runPanes = (s.core c).runPanes :=
  State.core_field_setGroup (fun x => x.runPanes) (fun _ _ => rfl) (fun _ _ => rfl) s r g c
@[simp] theorem State.setGroup_core_leaseRR (s : State) (r : GRef) (g : Group) (c : Nat) : ((s.setGroup r g).core c).leaseRR = (s.core c).leaseRR :=
  State.core_field_setGroup (fun x => x.leaseRR) (fun _ _ => rfl) (fun _ _ => rfl) s r g c
@[simp] theorem State.setGroup_core_copy (s : State) (r : GRef) (g : Group) (c : Nat) : ((s.setGroup r g).core c).copy = (s.core c).copy :=
  State.core_field_setGroup (fun x => x.copy) (fun _ _ => rfl) (fun _ _ => rfl) s r g c
@[simp] theorem State.setGroup_core_tcAccess (s : State) (r : GRef) (g : Group) (c : Nat) : ((s.setGroup r g).core c).tcAccess = (s.core c).tcAccess :=
  State.core_field_setGroup (fun x => x.tcAccess) (fun _ _ => rfl) (fun _ _ => rfl) s r g c
@[simp] theorem State.setGroup_core_tcCopy (s : State) (r : GRef) (g : Group) (c : Nat) : ((s.setGroup r g).core c).tcCopy = (s.core c).tcCopy :=
  State.core_field_setGroup (fun x => x.tcCopy) (fun _ _ => rfl) (fun _ _ => rfl) s r g c
@[simp] theorem State.setGroup_core_tcSeq (s : State) (r : GRef) (g : Group) (c : Nat) : ((s.setGroup r g).core c).tcSeq = (s.core c).tcSeq :=
  State.core_field_setGroup (fun x => x.tcSeq) (fun _ _ => rfl) (fun _ _ => rfl) s r g c
@[simp] theorem State.setGroup_core_tc (s : State) (r : GRef) (g : Group) (c : Nat) : ((s.setGroup r g).core c).tc = (s.core c).tc :=
  State.core_field_setGroup (fun x => x.tc) (fun _ _ => rfl) (fun _ _ => rfl) s r g c
@[simp] theorem State.setGroup_core_entries (s : State) (r : GRef) (g : Group) (c : Nat) : ((s.setGroup r g).core c).entries = (s.core c).entries :=
  State.core_field_setGroup (fun x => x.entries) (fun _ _ => rfl) (fun _ _ => rfl) s r g c
@[simp] theorem State.setGroup_core_store (s : State) (r : GRef) (g : Group) (c : Nat) : ((s.setGroup r g).core c).store = (s.core c).store :=
  State.core_field_setGroup (fun x => x.store) (fun _ _ => rfl) (fun _ _ => rfl) s r g c
@[simp] theorem State.setGroup_core_images (s : State) (r : GRef) (g : Group) (c : Nat) : ((s.setGroup r g).core c).images = (s.core c).images :=
  State.core_field_setGroup (fun x => x.images) (fun _ _ => rfl) (fun _ _ => rfl) s r g c
@[simp] theorem State.setGroup_core_saved (s : State) (r : GRef) (g : Group) (c : Nat) : ((s.setGroup r g).core c).saved = (s.core c).saved :=
  State.core_field_setGroup (fun x => x.saved) (fun _ _ => rfl) (fun _ _ => rfl) s r g c
@[simp] theorem State.setGroup_core_savedPad (s : State) (r : GRef) (g : Group) (c : Nat) : ((s.setGroup r g).core c).savedPad = (s.core c).savedPad :=
  State.core_field_setGroup (fun x => x.savedPad) (fun _ _ => rfl) (fun _ _ => rfl) s r g c
@[simp] theorem State.setGroup_core_lastSlot (s : State) (r : GRef) (g : Group) (c : Nat) : ((s.setGroup r g).core c).lastSlot = (s.core c).lastSlot :=
  State.core_field_setGroup (fun x => x.lastSlot) (fun _ _ => rfl) (fun _ _ => rfl) s r g c
@[simp] theorem State.setGroup_core_lastClk (s : State) (r : GRef) (g : Group) (c : Nat) : ((s.setGroup r g).core c).lastClk = (s.core c).lastClk :=
  State.core_field_setGroup (fun x => x.lastClk) (fun _ _ => rfl) (fun _ _ => rfl) s r g c
@[simp] theorem State.setGroup_core_tagRR (s : State) (r : GRef) (g : Group) (c : Nat) : ((s.setGroup r g).core c).tagRR = (s.core c).tagRR :=
  State.core_field_setGroup (fun x => x.tagRR) (fun _ _ => rfl) (fun _ _ => rfl) s r g c

/-! ### A group's own updates -/

@[simp] theorem Group.setN_gid (g : Group) (k : Nat) (v : Word) : (g.setN k v).gid = g.gid := rfl
@[simp] theorem Group.setN_cls (g : Group) (k : Nat) (v : Word) : (g.setN k v).cls = g.cls := rfl
@[simp] theorem Group.setN_win (g : Group) (k : Nat) (v : Word) : (g.setN k v).win = g.win := rfl
@[simp] theorem Group.setN_asid (g : Group) (k : Nat) (v : Word) : (g.setN k v).asid = g.asid := rfl
@[simp] theorem Group.setN_e (g : Group) (k : Nat) (v : Word) : (g.setN k v).e = g.e := rfl
@[simp] theorem Group.setN_p (g : Group) (k : Nat) (v : Word) : (g.setN k v).p = g.p := rfl
@[simp] theorem Group.setN_pOld (g : Group) (k : Nat) (v : Word) : (g.setN k v).pOld = g.pOld := rfl
@[simp] theorem Group.setN_a (g : Group) (k : Nat) (v : Word) : (g.setN k v).a = g.a := rfl
@[simp] theorem Group.setN_f (g : Group) (k : Nat) (v : Word) : (g.setN k v).f = g.f := rfl
@[simp] theorem Group.setN_vregs (g : Group) (k : Nat) (v : Word) : (g.setN k v).vregs = g.vregs := rfl
@[simp] theorem Group.setN_lat (g : Group) (k : Nat) (v : Word) : (g.setN k v).lat = g.lat := rfl
@[simp] theorem Group.setN_held (g : Group) (k : Nat) (v : Word) : (g.setN k v).held = g.held := rfl
@[simp] theorem Group.setN_c (g : Group) (k : Nat) (v : Word) : (g.setN k v).c = g.c := rfl
@[simp] theorem Group.setN_cbuf (g : Group) (k : Nat) (v : Word) : (g.setN k v).cbuf = g.cbuf := rfl
@[simp] theorem Group.setN_cheld (g : Group) (k : Nat) (v : Word) : (g.setN k v).cheld = g.cheld := rfl
@[simp] theorem Group.setN_toks (g : Group) (k : Nat) (v : Word) : (g.setN k v).toks = g.toks := rfl
@[simp] theorem Group.setN_guards (g : Group) (k : Nat) (v : Word) : (g.setN k v).guards = g.guards := rfl
@[simp] theorem Group.setN_wicks (g : Group) (k : Nat) (v : Word) : (g.setN k v).wicks = g.wicks := rfl
@[simp] theorem Group.setN_mcfg (g : Group) (k : Nat) (v : Word) : (g.setN k v).mcfg = g.mcfg := rfl
@[simp] theorem Group.setN_lm (g : Group) (k : Nat) (v : Word) : (g.setN k v).lm = g.lm := rfl
@[simp] theorem Group.setN_gm (g : Group) (k : Nat) (v : Word) : (g.setN k v).gm = g.gm := rfl
@[simp] theorem Group.setN_budget (g : Group) (k : Nat) (v : Word) : (g.setN k v).budget = g.budget := rfl
@[simp] theorem Group.setN_granted (g : Group) (k : Nat) (v : Word) : (g.setN k v).granted = g.granted := rfl
@[simp] theorem Group.setN_wb (g : Group) (k : Nat) (v : Word) : (g.setN k v).wb = g.wb := rfl
@[simp] theorem Group.setN_wc (g : Group) (k : Nat) (v : Word) : (g.setN k v).wc = g.wc := rfl
@[simp] theorem Group.setN_pc (g : Group) (k : Nat) (v : Word) : (g.setN k v).pc = g.pc := rfl
@[simp] theorem Group.setN_fetchHold (g : Group) (k : Nat) (v : Word) : (g.setN k v).fetchHold = g.fetchHold := rfl
@[simp] theorem Group.setN_loops (g : Group) (k : Nat) (v : Word) : (g.setN k v).loops = g.loops := rfl
@[simp] theorem Group.setN_spill (g : Group) (k : Nat) (v : Word) : (g.setN k v).spill = g.spill := rfl
@[simp] theorem Group.setN_spillLim (g : Group) (k : Nat) (v : Word) : (g.setN k v).spillLim = g.spillLim := rfl
@[simp] theorem Group.setN_fpflags (g : Group) (k : Nat) (v : Word) : (g.setN k v).fpflags = g.fpflags := rfl
@[simp] theorem Group.setN_seq (g : Group) (k : Nat) (v : Word) : (g.setN k v).seq = g.seq := rfl
@[simp] theorem Group.setN_ids (g : Group) (k : Nat) (v : Word) : (g.setN k v).ids = g.ids := rfl
@[simp] theorem Group.setN_qs (g : Group) (k : Nat) (v : Word) : (g.setN k v).qs = g.qs := rfl
@[simp] theorem Group.setN_qa (g : Group) (k : Nat) (v : Word) : (g.setN k v).qa = g.qa := rfl
@[simp] theorem Group.setN_qv (g : Group) (k : Nat) (v : Word) : (g.setN k v).qv = g.qv := rfl
@[simp] theorem Group.setN_qm (g : Group) (k : Nat) (v : Word) : (g.setN k v).qm = g.qm := rfl
@[simp] theorem Group.setN_qc (g : Group) (k : Nat) (v : Word) : (g.setN k v).qc = g.qc := rfl
@[simp] theorem Group.setN_qk (g : Group) (k : Nat) (v : Word) : (g.setN k v).qk = g.qk := rfl
@[simp] theorem Group.setN_qh (g : Group) (k : Nat) (v : Word) : (g.setN k v).qh = g.qh := rfl
@[simp] theorem Group.setN_skip (g : Group) (k : Nat) (v : Word) : (g.setN k v).skip = g.skip := rfl
@[simp] theorem Group.setN_hskip (g : Group) (k : Nat) (v : Word) : (g.setN k v).hskip = g.hskip := rfl
@[simp] theorem Group.setN_fly (g : Group) (k : Nat) (v : Word) : (g.setN k v).fly = g.fly := rfl
@[simp] theorem Group.setN_ord (g : Group) (k : Nat) (v : Word) : (g.setN k v).ord = g.ord := rfl
@[simp] theorem Group.setN_loads (g : Group) (k : Nat) (v : Word) : (g.setN k v).loads = g.loads := rfl
@[simp] theorem Group.setN_stores (g : Group) (k : Nat) (v : Word) : (g.setN k v).stores = g.stores := rfl
@[simp] theorem Group.setN_ldata (g : Group) (k : Nat) (v : Word) : (g.setN k v).ldata = g.ldata := rfl
@[simp] theorem Group.setN_sdata (g : Group) (k : Nat) (v : Word) : (g.setN k v).sdata = g.sdata := rfl
@[simp] theorem Group.setN_fences (g : Group) (k : Nat) (v : Word) : (g.setN k v).fences = g.fences := rfl
@[simp] theorem Group.setN_trap (g : Group) (k : Nat) (v : Word) : (g.setN k v).trap = g.trap := rfl
@[simp] theorem Group.setN_stop (g : Group) (k : Nat) (v : Word) : (g.setN k v).stop = g.stop := rfl
@[simp] theorem Group.setN_yielded (g : Group) (k : Nat) (v : Word) : (g.setN k v).yielded = g.yielded := rfl
@[simp] theorem Group.setN_waiters (g : Group) (k : Nat) (v : Word) : (g.setN k v).waiters = g.waiters := rfl
@[simp] theorem Group.setN_readySince (g : Group) (k : Nat) (v : Word) : (g.setN k v).readySince = g.readySince := rfl
@[simp] theorem Group.setN_promoted (g : Group) (k : Nat) (v : Word) : (g.setN k v).promoted = g.promoted := rfl
@[simp] theorem Group.setN_ended (g : Group) (k : Nat) (v : Word) : (g.setN k v).ended = g.ended := rfl
@[simp] theorem Group.setN_tailed (g : Group) (k : Nat) (v : Word) : (g.setN k v).tailed = g.tailed := rfl
@[simp] theorem Group.setN_preempt (g : Group) (k : Nat) (v : Word) : (g.setN k v).preempt = g.preempt := rfl
@[simp] theorem Group.setN_landed (g : Group) (k : Nat) (v : Word) : (g.setN k v).landed = g.landed := rfl
@[simp] theorem Group.setN_snuffed (g : Group) (k : Nat) (v : Word) : (g.setN k v).snuffed = g.snuffed := rfl
@[simp] theorem Group.setN_hostUnacked (g : Group) (k : Nat) (v : Word) : (g.setN k v).hostUnacked = g.hostUnacked := rfl
@[simp] theorem Group.setN_started (g : Group) (k : Nat) (v : Word) : (g.setN k v).started = g.started := rfl
@[simp] theorem Group.setN_lost (g : Group) (k : Nat) (v : Word) : (g.setN k v).lost = g.lost := rfl
@[simp] theorem Group.setN_longs (g : Group) (k : Nat) (v : Word) : (g.setN k v).longs = g.longs := rfl
@[simp] theorem Group.setN_past (g : Group) (k : Nat) (v : Word) : (g.setN k v).past = g.past := rfl
@[simp] theorem Group.setA_gid (g : Group) (k : Nat) (v : Word) : (g.setA k v).gid = g.gid := rfl
@[simp] theorem Group.setA_cls (g : Group) (k : Nat) (v : Word) : (g.setA k v).cls = g.cls := rfl
@[simp] theorem Group.setA_win (g : Group) (k : Nat) (v : Word) : (g.setA k v).win = g.win := rfl
@[simp] theorem Group.setA_asid (g : Group) (k : Nat) (v : Word) : (g.setA k v).asid = g.asid := rfl
@[simp] theorem Group.setA_n (g : Group) (k : Nat) (v : Word) : (g.setA k v).n = g.n := rfl
@[simp] theorem Group.setA_e (g : Group) (k : Nat) (v : Word) : (g.setA k v).e = g.e := rfl
@[simp] theorem Group.setA_p (g : Group) (k : Nat) (v : Word) : (g.setA k v).p = g.p := rfl
@[simp] theorem Group.setA_pOld (g : Group) (k : Nat) (v : Word) : (g.setA k v).pOld = g.pOld := rfl
@[simp] theorem Group.setA_f (g : Group) (k : Nat) (v : Word) : (g.setA k v).f = g.f := rfl
@[simp] theorem Group.setA_vregs (g : Group) (k : Nat) (v : Word) : (g.setA k v).vregs = g.vregs := rfl
@[simp] theorem Group.setA_lat (g : Group) (k : Nat) (v : Word) : (g.setA k v).lat = g.lat := rfl
@[simp] theorem Group.setA_held (g : Group) (k : Nat) (v : Word) : (g.setA k v).held = g.held := rfl
@[simp] theorem Group.setA_c (g : Group) (k : Nat) (v : Word) : (g.setA k v).c = g.c := rfl
@[simp] theorem Group.setA_cbuf (g : Group) (k : Nat) (v : Word) : (g.setA k v).cbuf = g.cbuf := rfl
@[simp] theorem Group.setA_cheld (g : Group) (k : Nat) (v : Word) : (g.setA k v).cheld = g.cheld := rfl
@[simp] theorem Group.setA_toks (g : Group) (k : Nat) (v : Word) : (g.setA k v).toks = g.toks := rfl
@[simp] theorem Group.setA_guards (g : Group) (k : Nat) (v : Word) : (g.setA k v).guards = g.guards := rfl
@[simp] theorem Group.setA_wicks (g : Group) (k : Nat) (v : Word) : (g.setA k v).wicks = g.wicks := rfl
@[simp] theorem Group.setA_mcfg (g : Group) (k : Nat) (v : Word) : (g.setA k v).mcfg = g.mcfg := rfl
@[simp] theorem Group.setA_lm (g : Group) (k : Nat) (v : Word) : (g.setA k v).lm = g.lm := rfl
@[simp] theorem Group.setA_gm (g : Group) (k : Nat) (v : Word) : (g.setA k v).gm = g.gm := rfl
@[simp] theorem Group.setA_budget (g : Group) (k : Nat) (v : Word) : (g.setA k v).budget = g.budget := rfl
@[simp] theorem Group.setA_granted (g : Group) (k : Nat) (v : Word) : (g.setA k v).granted = g.granted := rfl
@[simp] theorem Group.setA_wb (g : Group) (k : Nat) (v : Word) : (g.setA k v).wb = g.wb := rfl
@[simp] theorem Group.setA_wc (g : Group) (k : Nat) (v : Word) : (g.setA k v).wc = g.wc := rfl
@[simp] theorem Group.setA_pc (g : Group) (k : Nat) (v : Word) : (g.setA k v).pc = g.pc := rfl
@[simp] theorem Group.setA_fetchHold (g : Group) (k : Nat) (v : Word) : (g.setA k v).fetchHold = g.fetchHold := rfl
@[simp] theorem Group.setA_loops (g : Group) (k : Nat) (v : Word) : (g.setA k v).loops = g.loops := rfl
@[simp] theorem Group.setA_spill (g : Group) (k : Nat) (v : Word) : (g.setA k v).spill = g.spill := rfl
@[simp] theorem Group.setA_spillLim (g : Group) (k : Nat) (v : Word) : (g.setA k v).spillLim = g.spillLim := rfl
@[simp] theorem Group.setA_fpflags (g : Group) (k : Nat) (v : Word) : (g.setA k v).fpflags = g.fpflags := rfl
@[simp] theorem Group.setA_seq (g : Group) (k : Nat) (v : Word) : (g.setA k v).seq = g.seq := rfl
@[simp] theorem Group.setA_ids (g : Group) (k : Nat) (v : Word) : (g.setA k v).ids = g.ids := rfl
@[simp] theorem Group.setA_qs (g : Group) (k : Nat) (v : Word) : (g.setA k v).qs = g.qs := rfl
@[simp] theorem Group.setA_qa (g : Group) (k : Nat) (v : Word) : (g.setA k v).qa = g.qa := rfl
@[simp] theorem Group.setA_qv (g : Group) (k : Nat) (v : Word) : (g.setA k v).qv = g.qv := rfl
@[simp] theorem Group.setA_qm (g : Group) (k : Nat) (v : Word) : (g.setA k v).qm = g.qm := rfl
@[simp] theorem Group.setA_qc (g : Group) (k : Nat) (v : Word) : (g.setA k v).qc = g.qc := rfl
@[simp] theorem Group.setA_qk (g : Group) (k : Nat) (v : Word) : (g.setA k v).qk = g.qk := rfl
@[simp] theorem Group.setA_qh (g : Group) (k : Nat) (v : Word) : (g.setA k v).qh = g.qh := rfl
@[simp] theorem Group.setA_skip (g : Group) (k : Nat) (v : Word) : (g.setA k v).skip = g.skip := rfl
@[simp] theorem Group.setA_hskip (g : Group) (k : Nat) (v : Word) : (g.setA k v).hskip = g.hskip := rfl
@[simp] theorem Group.setA_fly (g : Group) (k : Nat) (v : Word) : (g.setA k v).fly = g.fly := rfl
@[simp] theorem Group.setA_ord (g : Group) (k : Nat) (v : Word) : (g.setA k v).ord = g.ord := rfl
@[simp] theorem Group.setA_loads (g : Group) (k : Nat) (v : Word) : (g.setA k v).loads = g.loads := rfl
@[simp] theorem Group.setA_stores (g : Group) (k : Nat) (v : Word) : (g.setA k v).stores = g.stores := rfl
@[simp] theorem Group.setA_ldata (g : Group) (k : Nat) (v : Word) : (g.setA k v).ldata = g.ldata := rfl
@[simp] theorem Group.setA_sdata (g : Group) (k : Nat) (v : Word) : (g.setA k v).sdata = g.sdata := rfl
@[simp] theorem Group.setA_fences (g : Group) (k : Nat) (v : Word) : (g.setA k v).fences = g.fences := rfl
@[simp] theorem Group.setA_trap (g : Group) (k : Nat) (v : Word) : (g.setA k v).trap = g.trap := rfl
@[simp] theorem Group.setA_stop (g : Group) (k : Nat) (v : Word) : (g.setA k v).stop = g.stop := rfl
@[simp] theorem Group.setA_yielded (g : Group) (k : Nat) (v : Word) : (g.setA k v).yielded = g.yielded := rfl
@[simp] theorem Group.setA_waiters (g : Group) (k : Nat) (v : Word) : (g.setA k v).waiters = g.waiters := rfl
@[simp] theorem Group.setA_readySince (g : Group) (k : Nat) (v : Word) : (g.setA k v).readySince = g.readySince := rfl
@[simp] theorem Group.setA_promoted (g : Group) (k : Nat) (v : Word) : (g.setA k v).promoted = g.promoted := rfl
@[simp] theorem Group.setA_ended (g : Group) (k : Nat) (v : Word) : (g.setA k v).ended = g.ended := rfl
@[simp] theorem Group.setA_tailed (g : Group) (k : Nat) (v : Word) : (g.setA k v).tailed = g.tailed := rfl
@[simp] theorem Group.setA_preempt (g : Group) (k : Nat) (v : Word) : (g.setA k v).preempt = g.preempt := rfl
@[simp] theorem Group.setA_landed (g : Group) (k : Nat) (v : Word) : (g.setA k v).landed = g.landed := rfl
@[simp] theorem Group.setA_snuffed (g : Group) (k : Nat) (v : Word) : (g.setA k v).snuffed = g.snuffed := rfl
@[simp] theorem Group.setA_hostUnacked (g : Group) (k : Nat) (v : Word) : (g.setA k v).hostUnacked = g.hostUnacked := rfl
@[simp] theorem Group.setA_started (g : Group) (k : Nat) (v : Word) : (g.setA k v).started = g.started := rfl
@[simp] theorem Group.setA_lost (g : Group) (k : Nat) (v : Word) : (g.setA k v).lost = g.lost := rfl
@[simp] theorem Group.setA_longs (g : Group) (k : Nat) (v : Word) : (g.setA k v).longs = g.longs := rfl
@[simp] theorem Group.setA_past (g : Group) (k : Nat) (v : Word) : (g.setA k v).past = g.past := rfl
@[simp] theorem Group.setF_gid (g : Group) (k : Nat) (v : Word) : (g.setF k v).gid = g.gid := rfl
@[simp] theorem Group.setF_cls (g : Group) (k : Nat) (v : Word) : (g.setF k v).cls = g.cls := rfl
@[simp] theorem Group.setF_win (g : Group) (k : Nat) (v : Word) : (g.setF k v).win = g.win := rfl
@[simp] theorem Group.setF_asid (g : Group) (k : Nat) (v : Word) : (g.setF k v).asid = g.asid := rfl
@[simp] theorem Group.setF_n (g : Group) (k : Nat) (v : Word) : (g.setF k v).n = g.n := rfl
@[simp] theorem Group.setF_e (g : Group) (k : Nat) (v : Word) : (g.setF k v).e = g.e := rfl
@[simp] theorem Group.setF_p (g : Group) (k : Nat) (v : Word) : (g.setF k v).p = g.p := rfl
@[simp] theorem Group.setF_pOld (g : Group) (k : Nat) (v : Word) : (g.setF k v).pOld = g.pOld := rfl
@[simp] theorem Group.setF_a (g : Group) (k : Nat) (v : Word) : (g.setF k v).a = g.a := rfl
@[simp] theorem Group.setF_vregs (g : Group) (k : Nat) (v : Word) : (g.setF k v).vregs = g.vregs := rfl
@[simp] theorem Group.setF_lat (g : Group) (k : Nat) (v : Word) : (g.setF k v).lat = g.lat := rfl
@[simp] theorem Group.setF_held (g : Group) (k : Nat) (v : Word) : (g.setF k v).held = g.held := rfl
@[simp] theorem Group.setF_c (g : Group) (k : Nat) (v : Word) : (g.setF k v).c = g.c := rfl
@[simp] theorem Group.setF_cbuf (g : Group) (k : Nat) (v : Word) : (g.setF k v).cbuf = g.cbuf := rfl
@[simp] theorem Group.setF_cheld (g : Group) (k : Nat) (v : Word) : (g.setF k v).cheld = g.cheld := rfl
@[simp] theorem Group.setF_toks (g : Group) (k : Nat) (v : Word) : (g.setF k v).toks = g.toks := rfl
@[simp] theorem Group.setF_guards (g : Group) (k : Nat) (v : Word) : (g.setF k v).guards = g.guards := rfl
@[simp] theorem Group.setF_wicks (g : Group) (k : Nat) (v : Word) : (g.setF k v).wicks = g.wicks := rfl
@[simp] theorem Group.setF_mcfg (g : Group) (k : Nat) (v : Word) : (g.setF k v).mcfg = g.mcfg := rfl
@[simp] theorem Group.setF_lm (g : Group) (k : Nat) (v : Word) : (g.setF k v).lm = g.lm := rfl
@[simp] theorem Group.setF_gm (g : Group) (k : Nat) (v : Word) : (g.setF k v).gm = g.gm := rfl
@[simp] theorem Group.setF_budget (g : Group) (k : Nat) (v : Word) : (g.setF k v).budget = g.budget := rfl
@[simp] theorem Group.setF_granted (g : Group) (k : Nat) (v : Word) : (g.setF k v).granted = g.granted := rfl
@[simp] theorem Group.setF_wb (g : Group) (k : Nat) (v : Word) : (g.setF k v).wb = g.wb := rfl
@[simp] theorem Group.setF_wc (g : Group) (k : Nat) (v : Word) : (g.setF k v).wc = g.wc := rfl
@[simp] theorem Group.setF_pc (g : Group) (k : Nat) (v : Word) : (g.setF k v).pc = g.pc := rfl
@[simp] theorem Group.setF_fetchHold (g : Group) (k : Nat) (v : Word) : (g.setF k v).fetchHold = g.fetchHold := rfl
@[simp] theorem Group.setF_loops (g : Group) (k : Nat) (v : Word) : (g.setF k v).loops = g.loops := rfl
@[simp] theorem Group.setF_spill (g : Group) (k : Nat) (v : Word) : (g.setF k v).spill = g.spill := rfl
@[simp] theorem Group.setF_spillLim (g : Group) (k : Nat) (v : Word) : (g.setF k v).spillLim = g.spillLim := rfl
@[simp] theorem Group.setF_fpflags (g : Group) (k : Nat) (v : Word) : (g.setF k v).fpflags = g.fpflags := rfl
@[simp] theorem Group.setF_seq (g : Group) (k : Nat) (v : Word) : (g.setF k v).seq = g.seq := rfl
@[simp] theorem Group.setF_ids (g : Group) (k : Nat) (v : Word) : (g.setF k v).ids = g.ids := rfl
@[simp] theorem Group.setF_qs (g : Group) (k : Nat) (v : Word) : (g.setF k v).qs = g.qs := rfl
@[simp] theorem Group.setF_qa (g : Group) (k : Nat) (v : Word) : (g.setF k v).qa = g.qa := rfl
@[simp] theorem Group.setF_qv (g : Group) (k : Nat) (v : Word) : (g.setF k v).qv = g.qv := rfl
@[simp] theorem Group.setF_qm (g : Group) (k : Nat) (v : Word) : (g.setF k v).qm = g.qm := rfl
@[simp] theorem Group.setF_qc (g : Group) (k : Nat) (v : Word) : (g.setF k v).qc = g.qc := rfl
@[simp] theorem Group.setF_qk (g : Group) (k : Nat) (v : Word) : (g.setF k v).qk = g.qk := rfl
@[simp] theorem Group.setF_qh (g : Group) (k : Nat) (v : Word) : (g.setF k v).qh = g.qh := rfl
@[simp] theorem Group.setF_skip (g : Group) (k : Nat) (v : Word) : (g.setF k v).skip = g.skip := rfl
@[simp] theorem Group.setF_hskip (g : Group) (k : Nat) (v : Word) : (g.setF k v).hskip = g.hskip := rfl
@[simp] theorem Group.setF_fly (g : Group) (k : Nat) (v : Word) : (g.setF k v).fly = g.fly := rfl
@[simp] theorem Group.setF_ord (g : Group) (k : Nat) (v : Word) : (g.setF k v).ord = g.ord := rfl
@[simp] theorem Group.setF_loads (g : Group) (k : Nat) (v : Word) : (g.setF k v).loads = g.loads := rfl
@[simp] theorem Group.setF_stores (g : Group) (k : Nat) (v : Word) : (g.setF k v).stores = g.stores := rfl
@[simp] theorem Group.setF_ldata (g : Group) (k : Nat) (v : Word) : (g.setF k v).ldata = g.ldata := rfl
@[simp] theorem Group.setF_sdata (g : Group) (k : Nat) (v : Word) : (g.setF k v).sdata = g.sdata := rfl
@[simp] theorem Group.setF_fences (g : Group) (k : Nat) (v : Word) : (g.setF k v).fences = g.fences := rfl
@[simp] theorem Group.setF_trap (g : Group) (k : Nat) (v : Word) : (g.setF k v).trap = g.trap := rfl
@[simp] theorem Group.setF_stop (g : Group) (k : Nat) (v : Word) : (g.setF k v).stop = g.stop := rfl
@[simp] theorem Group.setF_yielded (g : Group) (k : Nat) (v : Word) : (g.setF k v).yielded = g.yielded := rfl
@[simp] theorem Group.setF_waiters (g : Group) (k : Nat) (v : Word) : (g.setF k v).waiters = g.waiters := rfl
@[simp] theorem Group.setF_readySince (g : Group) (k : Nat) (v : Word) : (g.setF k v).readySince = g.readySince := rfl
@[simp] theorem Group.setF_promoted (g : Group) (k : Nat) (v : Word) : (g.setF k v).promoted = g.promoted := rfl
@[simp] theorem Group.setF_ended (g : Group) (k : Nat) (v : Word) : (g.setF k v).ended = g.ended := rfl
@[simp] theorem Group.setF_tailed (g : Group) (k : Nat) (v : Word) : (g.setF k v).tailed = g.tailed := rfl
@[simp] theorem Group.setF_preempt (g : Group) (k : Nat) (v : Word) : (g.setF k v).preempt = g.preempt := rfl
@[simp] theorem Group.setF_landed (g : Group) (k : Nat) (v : Word) : (g.setF k v).landed = g.landed := rfl
@[simp] theorem Group.setF_snuffed (g : Group) (k : Nat) (v : Word) : (g.setF k v).snuffed = g.snuffed := rfl
@[simp] theorem Group.setF_hostUnacked (g : Group) (k : Nat) (v : Word) : (g.setF k v).hostUnacked = g.hostUnacked := rfl
@[simp] theorem Group.setF_started (g : Group) (k : Nat) (v : Word) : (g.setF k v).started = g.started := rfl
@[simp] theorem Group.setF_lost (g : Group) (k : Nat) (v : Word) : (g.setF k v).lost = g.lost := rfl
@[simp] theorem Group.setF_longs (g : Group) (k : Nat) (v : Word) : (g.setF k v).longs = g.longs := rfl
@[simp] theorem Group.setF_past (g : Group) (k : Nat) (v : Word) : (g.setF k v).past = g.past := rfl
@[simp] theorem Group.setV_gid (g : Group) (k : Nat) (r : Row) (q : Option Poison) : (g.setV k r q).gid = g.gid := rfl
@[simp] theorem Group.setV_cls (g : Group) (k : Nat) (r : Row) (q : Option Poison) : (g.setV k r q).cls = g.cls := rfl
@[simp] theorem Group.setV_win (g : Group) (k : Nat) (r : Row) (q : Option Poison) : (g.setV k r q).win = g.win := rfl
@[simp] theorem Group.setV_asid (g : Group) (k : Nat) (r : Row) (q : Option Poison) : (g.setV k r q).asid = g.asid := rfl
@[simp] theorem Group.setV_n (g : Group) (k : Nat) (r : Row) (q : Option Poison) : (g.setV k r q).n = g.n := rfl
@[simp] theorem Group.setV_e (g : Group) (k : Nat) (r : Row) (q : Option Poison) : (g.setV k r q).e = g.e := rfl
@[simp] theorem Group.setV_p (g : Group) (k : Nat) (r : Row) (q : Option Poison) : (g.setV k r q).p = g.p := rfl
@[simp] theorem Group.setV_pOld (g : Group) (k : Nat) (r : Row) (q : Option Poison) : (g.setV k r q).pOld = g.pOld := rfl
@[simp] theorem Group.setV_a (g : Group) (k : Nat) (r : Row) (q : Option Poison) : (g.setV k r q).a = g.a := rfl
@[simp] theorem Group.setV_f (g : Group) (k : Nat) (r : Row) (q : Option Poison) : (g.setV k r q).f = g.f := rfl
@[simp] theorem Group.setV_lat (g : Group) (k : Nat) (r : Row) (q : Option Poison) : (g.setV k r q).lat = g.lat := rfl
@[simp] theorem Group.setV_held (g : Group) (k : Nat) (r : Row) (q : Option Poison) : (g.setV k r q).held = g.held := rfl
@[simp] theorem Group.setV_c (g : Group) (k : Nat) (r : Row) (q : Option Poison) : (g.setV k r q).c = g.c := rfl
@[simp] theorem Group.setV_cbuf (g : Group) (k : Nat) (r : Row) (q : Option Poison) : (g.setV k r q).cbuf = g.cbuf := rfl
@[simp] theorem Group.setV_cheld (g : Group) (k : Nat) (r : Row) (q : Option Poison) : (g.setV k r q).cheld = g.cheld := rfl
@[simp] theorem Group.setV_toks (g : Group) (k : Nat) (r : Row) (q : Option Poison) : (g.setV k r q).toks = g.toks := rfl
@[simp] theorem Group.setV_guards (g : Group) (k : Nat) (r : Row) (q : Option Poison) : (g.setV k r q).guards = g.guards := rfl
@[simp] theorem Group.setV_wicks (g : Group) (k : Nat) (r : Row) (q : Option Poison) : (g.setV k r q).wicks = g.wicks := rfl
@[simp] theorem Group.setV_mcfg (g : Group) (k : Nat) (r : Row) (q : Option Poison) : (g.setV k r q).mcfg = g.mcfg := rfl
@[simp] theorem Group.setV_lm (g : Group) (k : Nat) (r : Row) (q : Option Poison) : (g.setV k r q).lm = g.lm := rfl
@[simp] theorem Group.setV_gm (g : Group) (k : Nat) (r : Row) (q : Option Poison) : (g.setV k r q).gm = g.gm := rfl
@[simp] theorem Group.setV_budget (g : Group) (k : Nat) (r : Row) (q : Option Poison) : (g.setV k r q).budget = g.budget := rfl
@[simp] theorem Group.setV_granted (g : Group) (k : Nat) (r : Row) (q : Option Poison) : (g.setV k r q).granted = g.granted := rfl
@[simp] theorem Group.setV_wb (g : Group) (k : Nat) (r : Row) (q : Option Poison) : (g.setV k r q).wb = g.wb := rfl
@[simp] theorem Group.setV_wc (g : Group) (k : Nat) (r : Row) (q : Option Poison) : (g.setV k r q).wc = g.wc := rfl
@[simp] theorem Group.setV_pc (g : Group) (k : Nat) (r : Row) (q : Option Poison) : (g.setV k r q).pc = g.pc := rfl
@[simp] theorem Group.setV_fetchHold (g : Group) (k : Nat) (r : Row) (q : Option Poison) : (g.setV k r q).fetchHold = g.fetchHold := rfl
@[simp] theorem Group.setV_loops (g : Group) (k : Nat) (r : Row) (q : Option Poison) : (g.setV k r q).loops = g.loops := rfl
@[simp] theorem Group.setV_spill (g : Group) (k : Nat) (r : Row) (q : Option Poison) : (g.setV k r q).spill = g.spill := rfl
@[simp] theorem Group.setV_spillLim (g : Group) (k : Nat) (r : Row) (q : Option Poison) : (g.setV k r q).spillLim = g.spillLim := rfl
@[simp] theorem Group.setV_fpflags (g : Group) (k : Nat) (r : Row) (q : Option Poison) : (g.setV k r q).fpflags = g.fpflags := rfl
@[simp] theorem Group.setV_seq (g : Group) (k : Nat) (r : Row) (q : Option Poison) : (g.setV k r q).seq = g.seq := rfl
@[simp] theorem Group.setV_ids (g : Group) (k : Nat) (r : Row) (q : Option Poison) : (g.setV k r q).ids = g.ids := rfl
@[simp] theorem Group.setV_qs (g : Group) (k : Nat) (r : Row) (q : Option Poison) : (g.setV k r q).qs = g.qs := rfl
@[simp] theorem Group.setV_qa (g : Group) (k : Nat) (r : Row) (q : Option Poison) : (g.setV k r q).qa = g.qa := rfl
@[simp] theorem Group.setV_qv (g : Group) (k : Nat) (r : Row) (q : Option Poison) : (g.setV k r q).qv = g.qv := rfl
@[simp] theorem Group.setV_qm (g : Group) (k : Nat) (r : Row) (q : Option Poison) : (g.setV k r q).qm = g.qm := rfl
@[simp] theorem Group.setV_qc (g : Group) (k : Nat) (r : Row) (q : Option Poison) : (g.setV k r q).qc = g.qc := rfl
@[simp] theorem Group.setV_qk (g : Group) (k : Nat) (r : Row) (q : Option Poison) : (g.setV k r q).qk = g.qk := rfl
@[simp] theorem Group.setV_qh (g : Group) (k : Nat) (r : Row) (q : Option Poison) : (g.setV k r q).qh = g.qh := rfl
@[simp] theorem Group.setV_skip (g : Group) (k : Nat) (r : Row) (q : Option Poison) : (g.setV k r q).skip = g.skip := rfl
@[simp] theorem Group.setV_hskip (g : Group) (k : Nat) (r : Row) (q : Option Poison) : (g.setV k r q).hskip = g.hskip := rfl
@[simp] theorem Group.setV_fly (g : Group) (k : Nat) (r : Row) (q : Option Poison) : (g.setV k r q).fly = g.fly := rfl
@[simp] theorem Group.setV_ord (g : Group) (k : Nat) (r : Row) (q : Option Poison) : (g.setV k r q).ord = g.ord := rfl
@[simp] theorem Group.setV_loads (g : Group) (k : Nat) (r : Row) (q : Option Poison) : (g.setV k r q).loads = g.loads := rfl
@[simp] theorem Group.setV_stores (g : Group) (k : Nat) (r : Row) (q : Option Poison) : (g.setV k r q).stores = g.stores := rfl
@[simp] theorem Group.setV_ldata (g : Group) (k : Nat) (r : Row) (q : Option Poison) : (g.setV k r q).ldata = g.ldata := rfl
@[simp] theorem Group.setV_sdata (g : Group) (k : Nat) (r : Row) (q : Option Poison) : (g.setV k r q).sdata = g.sdata := rfl
@[simp] theorem Group.setV_fences (g : Group) (k : Nat) (r : Row) (q : Option Poison) : (g.setV k r q).fences = g.fences := rfl
@[simp] theorem Group.setV_trap (g : Group) (k : Nat) (r : Row) (q : Option Poison) : (g.setV k r q).trap = g.trap := rfl
@[simp] theorem Group.setV_stop (g : Group) (k : Nat) (r : Row) (q : Option Poison) : (g.setV k r q).stop = g.stop := rfl
@[simp] theorem Group.setV_yielded (g : Group) (k : Nat) (r : Row) (q : Option Poison) : (g.setV k r q).yielded = g.yielded := rfl
@[simp] theorem Group.setV_waiters (g : Group) (k : Nat) (r : Row) (q : Option Poison) : (g.setV k r q).waiters = g.waiters := rfl
@[simp] theorem Group.setV_readySince (g : Group) (k : Nat) (r : Row) (q : Option Poison) : (g.setV k r q).readySince = g.readySince := rfl
@[simp] theorem Group.setV_promoted (g : Group) (k : Nat) (r : Row) (q : Option Poison) : (g.setV k r q).promoted = g.promoted := rfl
@[simp] theorem Group.setV_ended (g : Group) (k : Nat) (r : Row) (q : Option Poison) : (g.setV k r q).ended = g.ended := rfl
@[simp] theorem Group.setV_tailed (g : Group) (k : Nat) (r : Row) (q : Option Poison) : (g.setV k r q).tailed = g.tailed := rfl
@[simp] theorem Group.setV_preempt (g : Group) (k : Nat) (r : Row) (q : Option Poison) : (g.setV k r q).preempt = g.preempt := rfl
@[simp] theorem Group.setV_landed (g : Group) (k : Nat) (r : Row) (q : Option Poison) : (g.setV k r q).landed = g.landed := rfl
@[simp] theorem Group.setV_snuffed (g : Group) (k : Nat) (r : Row) (q : Option Poison) : (g.setV k r q).snuffed = g.snuffed := rfl
@[simp] theorem Group.setV_hostUnacked (g : Group) (k : Nat) (r : Row) (q : Option Poison) : (g.setV k r q).hostUnacked = g.hostUnacked := rfl
@[simp] theorem Group.setV_started (g : Group) (k : Nat) (r : Row) (q : Option Poison) : (g.setV k r q).started = g.started := rfl
@[simp] theorem Group.setV_lost (g : Group) (k : Nat) (r : Row) (q : Option Poison) : (g.setV k r q).lost = g.lost := rfl
@[simp] theorem Group.setV_longs (g : Group) (k : Nat) (r : Row) (q : Option Poison) : (g.setV k r q).longs = g.longs := rfl
@[simp] theorem Group.setV_past (g : Group) (k : Nat) (r : Row) (q : Option Poison) : (g.setV k r q).past = g.past := rfl
@[simp] theorem Group.setGuard_gid (g : Group) (k : Nat) (x : Guard) : (g.setGuard k x).gid = g.gid := rfl
@[simp] theorem Group.setGuard_cls (g : Group) (k : Nat) (x : Guard) : (g.setGuard k x).cls = g.cls := rfl
@[simp] theorem Group.setGuard_win (g : Group) (k : Nat) (x : Guard) : (g.setGuard k x).win = g.win := rfl
@[simp] theorem Group.setGuard_asid (g : Group) (k : Nat) (x : Guard) : (g.setGuard k x).asid = g.asid := rfl
@[simp] theorem Group.setGuard_n (g : Group) (k : Nat) (x : Guard) : (g.setGuard k x).n = g.n := rfl
@[simp] theorem Group.setGuard_e (g : Group) (k : Nat) (x : Guard) : (g.setGuard k x).e = g.e := rfl
@[simp] theorem Group.setGuard_p (g : Group) (k : Nat) (x : Guard) : (g.setGuard k x).p = g.p := rfl
@[simp] theorem Group.setGuard_pOld (g : Group) (k : Nat) (x : Guard) : (g.setGuard k x).pOld = g.pOld := rfl
@[simp] theorem Group.setGuard_a (g : Group) (k : Nat) (x : Guard) : (g.setGuard k x).a = g.a := rfl
@[simp] theorem Group.setGuard_f (g : Group) (k : Nat) (x : Guard) : (g.setGuard k x).f = g.f := rfl
@[simp] theorem Group.setGuard_vregs (g : Group) (k : Nat) (x : Guard) : (g.setGuard k x).vregs = g.vregs := rfl
@[simp] theorem Group.setGuard_lat (g : Group) (k : Nat) (x : Guard) : (g.setGuard k x).lat = g.lat := rfl
@[simp] theorem Group.setGuard_held (g : Group) (k : Nat) (x : Guard) : (g.setGuard k x).held = g.held := rfl
@[simp] theorem Group.setGuard_c (g : Group) (k : Nat) (x : Guard) : (g.setGuard k x).c = g.c := rfl
@[simp] theorem Group.setGuard_cbuf (g : Group) (k : Nat) (x : Guard) : (g.setGuard k x).cbuf = g.cbuf := rfl
@[simp] theorem Group.setGuard_cheld (g : Group) (k : Nat) (x : Guard) : (g.setGuard k x).cheld = g.cheld := rfl
@[simp] theorem Group.setGuard_toks (g : Group) (k : Nat) (x : Guard) : (g.setGuard k x).toks = g.toks := rfl
@[simp] theorem Group.setGuard_wicks (g : Group) (k : Nat) (x : Guard) : (g.setGuard k x).wicks = g.wicks := rfl
@[simp] theorem Group.setGuard_mcfg (g : Group) (k : Nat) (x : Guard) : (g.setGuard k x).mcfg = g.mcfg := rfl
@[simp] theorem Group.setGuard_lm (g : Group) (k : Nat) (x : Guard) : (g.setGuard k x).lm = g.lm := rfl
@[simp] theorem Group.setGuard_gm (g : Group) (k : Nat) (x : Guard) : (g.setGuard k x).gm = g.gm := rfl
@[simp] theorem Group.setGuard_budget (g : Group) (k : Nat) (x : Guard) : (g.setGuard k x).budget = g.budget := rfl
@[simp] theorem Group.setGuard_granted (g : Group) (k : Nat) (x : Guard) : (g.setGuard k x).granted = g.granted := rfl
@[simp] theorem Group.setGuard_wb (g : Group) (k : Nat) (x : Guard) : (g.setGuard k x).wb = g.wb := rfl
@[simp] theorem Group.setGuard_wc (g : Group) (k : Nat) (x : Guard) : (g.setGuard k x).wc = g.wc := rfl
@[simp] theorem Group.setGuard_pc (g : Group) (k : Nat) (x : Guard) : (g.setGuard k x).pc = g.pc := rfl
@[simp] theorem Group.setGuard_fetchHold (g : Group) (k : Nat) (x : Guard) : (g.setGuard k x).fetchHold = g.fetchHold := rfl
@[simp] theorem Group.setGuard_loops (g : Group) (k : Nat) (x : Guard) : (g.setGuard k x).loops = g.loops := rfl
@[simp] theorem Group.setGuard_spill (g : Group) (k : Nat) (x : Guard) : (g.setGuard k x).spill = g.spill := rfl
@[simp] theorem Group.setGuard_spillLim (g : Group) (k : Nat) (x : Guard) : (g.setGuard k x).spillLim = g.spillLim := rfl
@[simp] theorem Group.setGuard_fpflags (g : Group) (k : Nat) (x : Guard) : (g.setGuard k x).fpflags = g.fpflags := rfl
@[simp] theorem Group.setGuard_seq (g : Group) (k : Nat) (x : Guard) : (g.setGuard k x).seq = g.seq := rfl
@[simp] theorem Group.setGuard_ids (g : Group) (k : Nat) (x : Guard) : (g.setGuard k x).ids = g.ids := rfl
@[simp] theorem Group.setGuard_qs (g : Group) (k : Nat) (x : Guard) : (g.setGuard k x).qs = g.qs := rfl
@[simp] theorem Group.setGuard_qa (g : Group) (k : Nat) (x : Guard) : (g.setGuard k x).qa = g.qa := rfl
@[simp] theorem Group.setGuard_qv (g : Group) (k : Nat) (x : Guard) : (g.setGuard k x).qv = g.qv := rfl
@[simp] theorem Group.setGuard_qm (g : Group) (k : Nat) (x : Guard) : (g.setGuard k x).qm = g.qm := rfl
@[simp] theorem Group.setGuard_qc (g : Group) (k : Nat) (x : Guard) : (g.setGuard k x).qc = g.qc := rfl
@[simp] theorem Group.setGuard_qk (g : Group) (k : Nat) (x : Guard) : (g.setGuard k x).qk = g.qk := rfl
@[simp] theorem Group.setGuard_qh (g : Group) (k : Nat) (x : Guard) : (g.setGuard k x).qh = g.qh := rfl
@[simp] theorem Group.setGuard_skip (g : Group) (k : Nat) (x : Guard) : (g.setGuard k x).skip = g.skip := rfl
@[simp] theorem Group.setGuard_hskip (g : Group) (k : Nat) (x : Guard) : (g.setGuard k x).hskip = g.hskip := rfl
@[simp] theorem Group.setGuard_fly (g : Group) (k : Nat) (x : Guard) : (g.setGuard k x).fly = g.fly := rfl
@[simp] theorem Group.setGuard_ord (g : Group) (k : Nat) (x : Guard) : (g.setGuard k x).ord = g.ord := rfl
@[simp] theorem Group.setGuard_loads (g : Group) (k : Nat) (x : Guard) : (g.setGuard k x).loads = g.loads := rfl
@[simp] theorem Group.setGuard_stores (g : Group) (k : Nat) (x : Guard) : (g.setGuard k x).stores = g.stores := rfl
@[simp] theorem Group.setGuard_ldata (g : Group) (k : Nat) (x : Guard) : (g.setGuard k x).ldata = g.ldata := rfl
@[simp] theorem Group.setGuard_sdata (g : Group) (k : Nat) (x : Guard) : (g.setGuard k x).sdata = g.sdata := rfl
@[simp] theorem Group.setGuard_fences (g : Group) (k : Nat) (x : Guard) : (g.setGuard k x).fences = g.fences := rfl
@[simp] theorem Group.setGuard_trap (g : Group) (k : Nat) (x : Guard) : (g.setGuard k x).trap = g.trap := rfl
@[simp] theorem Group.setGuard_stop (g : Group) (k : Nat) (x : Guard) : (g.setGuard k x).stop = g.stop := rfl
@[simp] theorem Group.setGuard_yielded (g : Group) (k : Nat) (x : Guard) : (g.setGuard k x).yielded = g.yielded := rfl
@[simp] theorem Group.setGuard_waiters (g : Group) (k : Nat) (x : Guard) : (g.setGuard k x).waiters = g.waiters := rfl
@[simp] theorem Group.setGuard_readySince (g : Group) (k : Nat) (x : Guard) : (g.setGuard k x).readySince = g.readySince := rfl
@[simp] theorem Group.setGuard_promoted (g : Group) (k : Nat) (x : Guard) : (g.setGuard k x).promoted = g.promoted := rfl
@[simp] theorem Group.setGuard_ended (g : Group) (k : Nat) (x : Guard) : (g.setGuard k x).ended = g.ended := rfl
@[simp] theorem Group.setGuard_tailed (g : Group) (k : Nat) (x : Guard) : (g.setGuard k x).tailed = g.tailed := rfl
@[simp] theorem Group.setGuard_preempt (g : Group) (k : Nat) (x : Guard) : (g.setGuard k x).preempt = g.preempt := rfl
@[simp] theorem Group.setGuard_landed (g : Group) (k : Nat) (x : Guard) : (g.setGuard k x).landed = g.landed := rfl
@[simp] theorem Group.setGuard_snuffed (g : Group) (k : Nat) (x : Guard) : (g.setGuard k x).snuffed = g.snuffed := rfl
@[simp] theorem Group.setGuard_hostUnacked (g : Group) (k : Nat) (x : Guard) : (g.setGuard k x).hostUnacked = g.hostUnacked := rfl
@[simp] theorem Group.setGuard_started (g : Group) (k : Nat) (x : Guard) : (g.setGuard k x).started = g.started := rfl
@[simp] theorem Group.setGuard_lost (g : Group) (k : Nat) (x : Guard) : (g.setGuard k x).lost = g.lost := rfl
@[simp] theorem Group.setGuard_longs (g : Group) (k : Nat) (x : Guard) : (g.setGuard k x).longs = g.longs := rfl
@[simp] theorem Group.setGuard_past (g : Group) (k : Nat) (x : Guard) : (g.setGuard k x).past = g.past := rfl
@[simp] theorem Group.setWick_gid (g : Group) (k : Nat) (w : Wick) : (g.setWick k w).gid = g.gid := rfl
@[simp] theorem Group.setWick_cls (g : Group) (k : Nat) (w : Wick) : (g.setWick k w).cls = g.cls := rfl
@[simp] theorem Group.setWick_win (g : Group) (k : Nat) (w : Wick) : (g.setWick k w).win = g.win := rfl
@[simp] theorem Group.setWick_asid (g : Group) (k : Nat) (w : Wick) : (g.setWick k w).asid = g.asid := rfl
@[simp] theorem Group.setWick_n (g : Group) (k : Nat) (w : Wick) : (g.setWick k w).n = g.n := rfl
@[simp] theorem Group.setWick_e (g : Group) (k : Nat) (w : Wick) : (g.setWick k w).e = g.e := rfl
@[simp] theorem Group.setWick_p (g : Group) (k : Nat) (w : Wick) : (g.setWick k w).p = g.p := rfl
@[simp] theorem Group.setWick_pOld (g : Group) (k : Nat) (w : Wick) : (g.setWick k w).pOld = g.pOld := rfl
@[simp] theorem Group.setWick_a (g : Group) (k : Nat) (w : Wick) : (g.setWick k w).a = g.a := rfl
@[simp] theorem Group.setWick_f (g : Group) (k : Nat) (w : Wick) : (g.setWick k w).f = g.f := rfl
@[simp] theorem Group.setWick_vregs (g : Group) (k : Nat) (w : Wick) : (g.setWick k w).vregs = g.vregs := rfl
@[simp] theorem Group.setWick_lat (g : Group) (k : Nat) (w : Wick) : (g.setWick k w).lat = g.lat := rfl
@[simp] theorem Group.setWick_held (g : Group) (k : Nat) (w : Wick) : (g.setWick k w).held = g.held := rfl
@[simp] theorem Group.setWick_c (g : Group) (k : Nat) (w : Wick) : (g.setWick k w).c = g.c := rfl
@[simp] theorem Group.setWick_cbuf (g : Group) (k : Nat) (w : Wick) : (g.setWick k w).cbuf = g.cbuf := rfl
@[simp] theorem Group.setWick_cheld (g : Group) (k : Nat) (w : Wick) : (g.setWick k w).cheld = g.cheld := rfl
@[simp] theorem Group.setWick_toks (g : Group) (k : Nat) (w : Wick) : (g.setWick k w).toks = g.toks := rfl
@[simp] theorem Group.setWick_guards (g : Group) (k : Nat) (w : Wick) : (g.setWick k w).guards = g.guards := rfl
@[simp] theorem Group.setWick_mcfg (g : Group) (k : Nat) (w : Wick) : (g.setWick k w).mcfg = g.mcfg := rfl
@[simp] theorem Group.setWick_lm (g : Group) (k : Nat) (w : Wick) : (g.setWick k w).lm = g.lm := rfl
@[simp] theorem Group.setWick_gm (g : Group) (k : Nat) (w : Wick) : (g.setWick k w).gm = g.gm := rfl
@[simp] theorem Group.setWick_budget (g : Group) (k : Nat) (w : Wick) : (g.setWick k w).budget = g.budget := rfl
@[simp] theorem Group.setWick_granted (g : Group) (k : Nat) (w : Wick) : (g.setWick k w).granted = g.granted := rfl
@[simp] theorem Group.setWick_wb (g : Group) (k : Nat) (w : Wick) : (g.setWick k w).wb = g.wb := rfl
@[simp] theorem Group.setWick_wc (g : Group) (k : Nat) (w : Wick) : (g.setWick k w).wc = g.wc := rfl
@[simp] theorem Group.setWick_pc (g : Group) (k : Nat) (w : Wick) : (g.setWick k w).pc = g.pc := rfl
@[simp] theorem Group.setWick_fetchHold (g : Group) (k : Nat) (w : Wick) : (g.setWick k w).fetchHold = g.fetchHold := rfl
@[simp] theorem Group.setWick_loops (g : Group) (k : Nat) (w : Wick) : (g.setWick k w).loops = g.loops := rfl
@[simp] theorem Group.setWick_spill (g : Group) (k : Nat) (w : Wick) : (g.setWick k w).spill = g.spill := rfl
@[simp] theorem Group.setWick_spillLim (g : Group) (k : Nat) (w : Wick) : (g.setWick k w).spillLim = g.spillLim := rfl
@[simp] theorem Group.setWick_fpflags (g : Group) (k : Nat) (w : Wick) : (g.setWick k w).fpflags = g.fpflags := rfl
@[simp] theorem Group.setWick_seq (g : Group) (k : Nat) (w : Wick) : (g.setWick k w).seq = g.seq := rfl
@[simp] theorem Group.setWick_ids (g : Group) (k : Nat) (w : Wick) : (g.setWick k w).ids = g.ids := rfl
@[simp] theorem Group.setWick_qs (g : Group) (k : Nat) (w : Wick) : (g.setWick k w).qs = g.qs := rfl
@[simp] theorem Group.setWick_qa (g : Group) (k : Nat) (w : Wick) : (g.setWick k w).qa = g.qa := rfl
@[simp] theorem Group.setWick_qv (g : Group) (k : Nat) (w : Wick) : (g.setWick k w).qv = g.qv := rfl
@[simp] theorem Group.setWick_qm (g : Group) (k : Nat) (w : Wick) : (g.setWick k w).qm = g.qm := rfl
@[simp] theorem Group.setWick_qc (g : Group) (k : Nat) (w : Wick) : (g.setWick k w).qc = g.qc := rfl
@[simp] theorem Group.setWick_qk (g : Group) (k : Nat) (w : Wick) : (g.setWick k w).qk = g.qk := rfl
@[simp] theorem Group.setWick_qh (g : Group) (k : Nat) (w : Wick) : (g.setWick k w).qh = g.qh := rfl
@[simp] theorem Group.setWick_skip (g : Group) (k : Nat) (w : Wick) : (g.setWick k w).skip = g.skip := rfl
@[simp] theorem Group.setWick_hskip (g : Group) (k : Nat) (w : Wick) : (g.setWick k w).hskip = g.hskip := rfl
@[simp] theorem Group.setWick_fly (g : Group) (k : Nat) (w : Wick) : (g.setWick k w).fly = g.fly := rfl
@[simp] theorem Group.setWick_ord (g : Group) (k : Nat) (w : Wick) : (g.setWick k w).ord = g.ord := rfl
@[simp] theorem Group.setWick_loads (g : Group) (k : Nat) (w : Wick) : (g.setWick k w).loads = g.loads := rfl
@[simp] theorem Group.setWick_stores (g : Group) (k : Nat) (w : Wick) : (g.setWick k w).stores = g.stores := rfl
@[simp] theorem Group.setWick_ldata (g : Group) (k : Nat) (w : Wick) : (g.setWick k w).ldata = g.ldata := rfl
@[simp] theorem Group.setWick_sdata (g : Group) (k : Nat) (w : Wick) : (g.setWick k w).sdata = g.sdata := rfl
@[simp] theorem Group.setWick_fences (g : Group) (k : Nat) (w : Wick) : (g.setWick k w).fences = g.fences := rfl
@[simp] theorem Group.setWick_trap (g : Group) (k : Nat) (w : Wick) : (g.setWick k w).trap = g.trap := rfl
@[simp] theorem Group.setWick_stop (g : Group) (k : Nat) (w : Wick) : (g.setWick k w).stop = g.stop := rfl
@[simp] theorem Group.setWick_yielded (g : Group) (k : Nat) (w : Wick) : (g.setWick k w).yielded = g.yielded := rfl
@[simp] theorem Group.setWick_waiters (g : Group) (k : Nat) (w : Wick) : (g.setWick k w).waiters = g.waiters := rfl
@[simp] theorem Group.setWick_readySince (g : Group) (k : Nat) (w : Wick) : (g.setWick k w).readySince = g.readySince := rfl
@[simp] theorem Group.setWick_promoted (g : Group) (k : Nat) (w : Wick) : (g.setWick k w).promoted = g.promoted := rfl
@[simp] theorem Group.setWick_ended (g : Group) (k : Nat) (w : Wick) : (g.setWick k w).ended = g.ended := rfl
@[simp] theorem Group.setWick_tailed (g : Group) (k : Nat) (w : Wick) : (g.setWick k w).tailed = g.tailed := rfl
@[simp] theorem Group.setWick_preempt (g : Group) (k : Nat) (w : Wick) : (g.setWick k w).preempt = g.preempt := rfl
@[simp] theorem Group.setWick_landed (g : Group) (k : Nat) (w : Wick) : (g.setWick k w).landed = g.landed := rfl
@[simp] theorem Group.setWick_snuffed (g : Group) (k : Nat) (w : Wick) : (g.setWick k w).snuffed = g.snuffed := rfl
@[simp] theorem Group.setWick_hostUnacked (g : Group) (k : Nat) (w : Wick) : (g.setWick k w).hostUnacked = g.hostUnacked := rfl
@[simp] theorem Group.setWick_started (g : Group) (k : Nat) (w : Wick) : (g.setWick k w).started = g.started := rfl
@[simp] theorem Group.setWick_lost (g : Group) (k : Nat) (w : Wick) : (g.setWick k w).lost = g.lost := rfl
@[simp] theorem Group.setWick_longs (g : Group) (k : Nat) (w : Wick) : (g.setWick k w).longs = g.longs := rfl
@[simp] theorem Group.setWick_past (g : Group) (k : Nat) (w : Wick) : (g.setWick k w).past = g.past := rfl
@[simp] theorem Group.setP_gid (g : Group) (k : Nat) (b : Bool) : (g.setP k b).gid = g.gid := by unfold Group.setP; split <;> rfl
@[simp] theorem Group.setP_cls (g : Group) (k : Nat) (b : Bool) : (g.setP k b).cls = g.cls := by unfold Group.setP; split <;> rfl
@[simp] theorem Group.setP_win (g : Group) (k : Nat) (b : Bool) : (g.setP k b).win = g.win := by unfold Group.setP; split <;> rfl
@[simp] theorem Group.setP_asid (g : Group) (k : Nat) (b : Bool) : (g.setP k b).asid = g.asid := by unfold Group.setP; split <;> rfl
@[simp] theorem Group.setP_n (g : Group) (k : Nat) (b : Bool) : (g.setP k b).n = g.n := by unfold Group.setP; split <;> rfl
@[simp] theorem Group.setP_e (g : Group) (k : Nat) (b : Bool) : (g.setP k b).e = g.e := by unfold Group.setP; split <;> rfl
@[simp] theorem Group.setP_pOld (g : Group) (k : Nat) (b : Bool) : (g.setP k b).pOld = g.pOld := by unfold Group.setP; split <;> rfl
@[simp] theorem Group.setP_a (g : Group) (k : Nat) (b : Bool) : (g.setP k b).a = g.a := by unfold Group.setP; split <;> rfl
@[simp] theorem Group.setP_f (g : Group) (k : Nat) (b : Bool) : (g.setP k b).f = g.f := by unfold Group.setP; split <;> rfl
@[simp] theorem Group.setP_vregs (g : Group) (k : Nat) (b : Bool) : (g.setP k b).vregs = g.vregs := by unfold Group.setP; split <;> rfl
@[simp] theorem Group.setP_lat (g : Group) (k : Nat) (b : Bool) : (g.setP k b).lat = g.lat := by unfold Group.setP; split <;> rfl
@[simp] theorem Group.setP_held (g : Group) (k : Nat) (b : Bool) : (g.setP k b).held = g.held := by unfold Group.setP; split <;> rfl
@[simp] theorem Group.setP_c (g : Group) (k : Nat) (b : Bool) : (g.setP k b).c = g.c := by unfold Group.setP; split <;> rfl
@[simp] theorem Group.setP_cbuf (g : Group) (k : Nat) (b : Bool) : (g.setP k b).cbuf = g.cbuf := by unfold Group.setP; split <;> rfl
@[simp] theorem Group.setP_cheld (g : Group) (k : Nat) (b : Bool) : (g.setP k b).cheld = g.cheld := by unfold Group.setP; split <;> rfl
@[simp] theorem Group.setP_toks (g : Group) (k : Nat) (b : Bool) : (g.setP k b).toks = g.toks := by unfold Group.setP; split <;> rfl
@[simp] theorem Group.setP_guards (g : Group) (k : Nat) (b : Bool) : (g.setP k b).guards = g.guards := by unfold Group.setP; split <;> rfl
@[simp] theorem Group.setP_wicks (g : Group) (k : Nat) (b : Bool) : (g.setP k b).wicks = g.wicks := by unfold Group.setP; split <;> rfl
@[simp] theorem Group.setP_mcfg (g : Group) (k : Nat) (b : Bool) : (g.setP k b).mcfg = g.mcfg := by unfold Group.setP; split <;> rfl
@[simp] theorem Group.setP_lm (g : Group) (k : Nat) (b : Bool) : (g.setP k b).lm = g.lm := by unfold Group.setP; split <;> rfl
@[simp] theorem Group.setP_gm (g : Group) (k : Nat) (b : Bool) : (g.setP k b).gm = g.gm := by unfold Group.setP; split <;> rfl
@[simp] theorem Group.setP_budget (g : Group) (k : Nat) (b : Bool) : (g.setP k b).budget = g.budget := by unfold Group.setP; split <;> rfl
@[simp] theorem Group.setP_granted (g : Group) (k : Nat) (b : Bool) : (g.setP k b).granted = g.granted := by unfold Group.setP; split <;> rfl
@[simp] theorem Group.setP_wb (g : Group) (k : Nat) (b : Bool) : (g.setP k b).wb = g.wb := by unfold Group.setP; split <;> rfl
@[simp] theorem Group.setP_wc (g : Group) (k : Nat) (b : Bool) : (g.setP k b).wc = g.wc := by unfold Group.setP; split <;> rfl
@[simp] theorem Group.setP_pc (g : Group) (k : Nat) (b : Bool) : (g.setP k b).pc = g.pc := by unfold Group.setP; split <;> rfl
@[simp] theorem Group.setP_fetchHold (g : Group) (k : Nat) (b : Bool) : (g.setP k b).fetchHold = g.fetchHold := by unfold Group.setP; split <;> rfl
@[simp] theorem Group.setP_loops (g : Group) (k : Nat) (b : Bool) : (g.setP k b).loops = g.loops := by unfold Group.setP; split <;> rfl
@[simp] theorem Group.setP_spill (g : Group) (k : Nat) (b : Bool) : (g.setP k b).spill = g.spill := by unfold Group.setP; split <;> rfl
@[simp] theorem Group.setP_spillLim (g : Group) (k : Nat) (b : Bool) : (g.setP k b).spillLim = g.spillLim := by unfold Group.setP; split <;> rfl
@[simp] theorem Group.setP_fpflags (g : Group) (k : Nat) (b : Bool) : (g.setP k b).fpflags = g.fpflags := by unfold Group.setP; split <;> rfl
@[simp] theorem Group.setP_seq (g : Group) (k : Nat) (b : Bool) : (g.setP k b).seq = g.seq := by unfold Group.setP; split <;> rfl
@[simp] theorem Group.setP_ids (g : Group) (k : Nat) (b : Bool) : (g.setP k b).ids = g.ids := by unfold Group.setP; split <;> rfl
@[simp] theorem Group.setP_qs (g : Group) (k : Nat) (b : Bool) : (g.setP k b).qs = g.qs := by unfold Group.setP; split <;> rfl
@[simp] theorem Group.setP_qa (g : Group) (k : Nat) (b : Bool) : (g.setP k b).qa = g.qa := by unfold Group.setP; split <;> rfl
@[simp] theorem Group.setP_qv (g : Group) (k : Nat) (b : Bool) : (g.setP k b).qv = g.qv := by unfold Group.setP; split <;> rfl
@[simp] theorem Group.setP_qm (g : Group) (k : Nat) (b : Bool) : (g.setP k b).qm = g.qm := by unfold Group.setP; split <;> rfl
@[simp] theorem Group.setP_qc (g : Group) (k : Nat) (b : Bool) : (g.setP k b).qc = g.qc := by unfold Group.setP; split <;> rfl
@[simp] theorem Group.setP_qk (g : Group) (k : Nat) (b : Bool) : (g.setP k b).qk = g.qk := by unfold Group.setP; split <;> rfl
@[simp] theorem Group.setP_qh (g : Group) (k : Nat) (b : Bool) : (g.setP k b).qh = g.qh := by unfold Group.setP; split <;> rfl
@[simp] theorem Group.setP_skip (g : Group) (k : Nat) (b : Bool) : (g.setP k b).skip = g.skip := by unfold Group.setP; split <;> rfl
@[simp] theorem Group.setP_hskip (g : Group) (k : Nat) (b : Bool) : (g.setP k b).hskip = g.hskip := by unfold Group.setP; split <;> rfl
@[simp] theorem Group.setP_fly (g : Group) (k : Nat) (b : Bool) : (g.setP k b).fly = g.fly := by unfold Group.setP; split <;> rfl
@[simp] theorem Group.setP_ord (g : Group) (k : Nat) (b : Bool) : (g.setP k b).ord = g.ord := by unfold Group.setP; split <;> rfl
@[simp] theorem Group.setP_loads (g : Group) (k : Nat) (b : Bool) : (g.setP k b).loads = g.loads := by unfold Group.setP; split <;> rfl
@[simp] theorem Group.setP_stores (g : Group) (k : Nat) (b : Bool) : (g.setP k b).stores = g.stores := by unfold Group.setP; split <;> rfl
@[simp] theorem Group.setP_ldata (g : Group) (k : Nat) (b : Bool) : (g.setP k b).ldata = g.ldata := by unfold Group.setP; split <;> rfl
@[simp] theorem Group.setP_sdata (g : Group) (k : Nat) (b : Bool) : (g.setP k b).sdata = g.sdata := by unfold Group.setP; split <;> rfl
@[simp] theorem Group.setP_fences (g : Group) (k : Nat) (b : Bool) : (g.setP k b).fences = g.fences := by unfold Group.setP; split <;> rfl
@[simp] theorem Group.setP_trap (g : Group) (k : Nat) (b : Bool) : (g.setP k b).trap = g.trap := by unfold Group.setP; split <;> rfl
@[simp] theorem Group.setP_stop (g : Group) (k : Nat) (b : Bool) : (g.setP k b).stop = g.stop := by unfold Group.setP; split <;> rfl
@[simp] theorem Group.setP_yielded (g : Group) (k : Nat) (b : Bool) : (g.setP k b).yielded = g.yielded := by unfold Group.setP; split <;> rfl
@[simp] theorem Group.setP_waiters (g : Group) (k : Nat) (b : Bool) : (g.setP k b).waiters = g.waiters := by unfold Group.setP; split <;> rfl
@[simp] theorem Group.setP_readySince (g : Group) (k : Nat) (b : Bool) : (g.setP k b).readySince = g.readySince := by unfold Group.setP; split <;> rfl
@[simp] theorem Group.setP_promoted (g : Group) (k : Nat) (b : Bool) : (g.setP k b).promoted = g.promoted := by unfold Group.setP; split <;> rfl
@[simp] theorem Group.setP_ended (g : Group) (k : Nat) (b : Bool) : (g.setP k b).ended = g.ended := by unfold Group.setP; split <;> rfl
@[simp] theorem Group.setP_tailed (g : Group) (k : Nat) (b : Bool) : (g.setP k b).tailed = g.tailed := by unfold Group.setP; split <;> rfl
@[simp] theorem Group.setP_preempt (g : Group) (k : Nat) (b : Bool) : (g.setP k b).preempt = g.preempt := by unfold Group.setP; split <;> rfl
@[simp] theorem Group.setP_landed (g : Group) (k : Nat) (b : Bool) : (g.setP k b).landed = g.landed := by unfold Group.setP; split <;> rfl
@[simp] theorem Group.setP_snuffed (g : Group) (k : Nat) (b : Bool) : (g.setP k b).snuffed = g.snuffed := by unfold Group.setP; split <;> rfl
@[simp] theorem Group.setP_hostUnacked (g : Group) (k : Nat) (b : Bool) : (g.setP k b).hostUnacked = g.hostUnacked := by unfold Group.setP; split <;> rfl
@[simp] theorem Group.setP_started (g : Group) (k : Nat) (b : Bool) : (g.setP k b).started = g.started := by unfold Group.setP; split <;> rfl
@[simp] theorem Group.setP_lost (g : Group) (k : Nat) (b : Bool) : (g.setP k b).lost = g.lost := by unfold Group.setP; split <;> rfl
@[simp] theorem Group.setP_longs (g : Group) (k : Nat) (b : Bool) : (g.setP k b).longs = g.longs := by unfold Group.setP; split <;> rfl
@[simp] theorem Group.setP_past (g : Group) (k : Nat) (b : Bool) : (g.setP k b).past = g.past := by unfold Group.setP; split <;> rfl
@[simp] theorem Group.setSlotQ_gid (g : Group) (k : Slot) (l : List Part) : (g.setSlotQ k l).gid = g.gid := by cases k <;> rfl
@[simp] theorem Group.setSlotQ_cls (g : Group) (k : Slot) (l : List Part) : (g.setSlotQ k l).cls = g.cls := by cases k <;> rfl
@[simp] theorem Group.setSlotQ_win (g : Group) (k : Slot) (l : List Part) : (g.setSlotQ k l).win = g.win := by cases k <;> rfl
@[simp] theorem Group.setSlotQ_asid (g : Group) (k : Slot) (l : List Part) : (g.setSlotQ k l).asid = g.asid := by cases k <;> rfl
@[simp] theorem Group.setSlotQ_n (g : Group) (k : Slot) (l : List Part) : (g.setSlotQ k l).n = g.n := by cases k <;> rfl
@[simp] theorem Group.setSlotQ_e (g : Group) (k : Slot) (l : List Part) : (g.setSlotQ k l).e = g.e := by cases k <;> rfl
@[simp] theorem Group.setSlotQ_p (g : Group) (k : Slot) (l : List Part) : (g.setSlotQ k l).p = g.p := by cases k <;> rfl
@[simp] theorem Group.setSlotQ_pOld (g : Group) (k : Slot) (l : List Part) : (g.setSlotQ k l).pOld = g.pOld := by cases k <;> rfl
@[simp] theorem Group.setSlotQ_a (g : Group) (k : Slot) (l : List Part) : (g.setSlotQ k l).a = g.a := by cases k <;> rfl
@[simp] theorem Group.setSlotQ_f (g : Group) (k : Slot) (l : List Part) : (g.setSlotQ k l).f = g.f := by cases k <;> rfl
@[simp] theorem Group.setSlotQ_vregs (g : Group) (k : Slot) (l : List Part) : (g.setSlotQ k l).vregs = g.vregs := by cases k <;> rfl
@[simp] theorem Group.setSlotQ_lat (g : Group) (k : Slot) (l : List Part) : (g.setSlotQ k l).lat = g.lat := by cases k <;> rfl
@[simp] theorem Group.setSlotQ_held (g : Group) (k : Slot) (l : List Part) : (g.setSlotQ k l).held = g.held := by cases k <;> rfl
@[simp] theorem Group.setSlotQ_c (g : Group) (k : Slot) (l : List Part) : (g.setSlotQ k l).c = g.c := by cases k <;> rfl
@[simp] theorem Group.setSlotQ_cbuf (g : Group) (k : Slot) (l : List Part) : (g.setSlotQ k l).cbuf = g.cbuf := by cases k <;> rfl
@[simp] theorem Group.setSlotQ_cheld (g : Group) (k : Slot) (l : List Part) : (g.setSlotQ k l).cheld = g.cheld := by cases k <;> rfl
@[simp] theorem Group.setSlotQ_toks (g : Group) (k : Slot) (l : List Part) : (g.setSlotQ k l).toks = g.toks := by cases k <;> rfl
@[simp] theorem Group.setSlotQ_guards (g : Group) (k : Slot) (l : List Part) : (g.setSlotQ k l).guards = g.guards := by cases k <;> rfl
@[simp] theorem Group.setSlotQ_wicks (g : Group) (k : Slot) (l : List Part) : (g.setSlotQ k l).wicks = g.wicks := by cases k <;> rfl
@[simp] theorem Group.setSlotQ_mcfg (g : Group) (k : Slot) (l : List Part) : (g.setSlotQ k l).mcfg = g.mcfg := by cases k <;> rfl
@[simp] theorem Group.setSlotQ_lm (g : Group) (k : Slot) (l : List Part) : (g.setSlotQ k l).lm = g.lm := by cases k <;> rfl
@[simp] theorem Group.setSlotQ_gm (g : Group) (k : Slot) (l : List Part) : (g.setSlotQ k l).gm = g.gm := by cases k <;> rfl
@[simp] theorem Group.setSlotQ_budget (g : Group) (k : Slot) (l : List Part) : (g.setSlotQ k l).budget = g.budget := by cases k <;> rfl
@[simp] theorem Group.setSlotQ_granted (g : Group) (k : Slot) (l : List Part) : (g.setSlotQ k l).granted = g.granted := by cases k <;> rfl
@[simp] theorem Group.setSlotQ_wb (g : Group) (k : Slot) (l : List Part) : (g.setSlotQ k l).wb = g.wb := by cases k <;> rfl
@[simp] theorem Group.setSlotQ_wc (g : Group) (k : Slot) (l : List Part) : (g.setSlotQ k l).wc = g.wc := by cases k <;> rfl
@[simp] theorem Group.setSlotQ_pc (g : Group) (k : Slot) (l : List Part) : (g.setSlotQ k l).pc = g.pc := by cases k <;> rfl
@[simp] theorem Group.setSlotQ_fetchHold (g : Group) (k : Slot) (l : List Part) : (g.setSlotQ k l).fetchHold = g.fetchHold := by cases k <;> rfl
@[simp] theorem Group.setSlotQ_loops (g : Group) (k : Slot) (l : List Part) : (g.setSlotQ k l).loops = g.loops := by cases k <;> rfl
@[simp] theorem Group.setSlotQ_spill (g : Group) (k : Slot) (l : List Part) : (g.setSlotQ k l).spill = g.spill := by cases k <;> rfl
@[simp] theorem Group.setSlotQ_spillLim (g : Group) (k : Slot) (l : List Part) : (g.setSlotQ k l).spillLim = g.spillLim := by cases k <;> rfl
@[simp] theorem Group.setSlotQ_fpflags (g : Group) (k : Slot) (l : List Part) : (g.setSlotQ k l).fpflags = g.fpflags := by cases k <;> rfl
@[simp] theorem Group.setSlotQ_seq (g : Group) (k : Slot) (l : List Part) : (g.setSlotQ k l).seq = g.seq := by cases k <;> rfl
@[simp] theorem Group.setSlotQ_ids (g : Group) (k : Slot) (l : List Part) : (g.setSlotQ k l).ids = g.ids := by cases k <;> rfl
@[simp] theorem Group.setSlotQ_qh (g : Group) (k : Slot) (l : List Part) : (g.setSlotQ k l).qh = g.qh := by cases k <;> rfl
@[simp] theorem Group.setSlotQ_skip (g : Group) (k : Slot) (l : List Part) : (g.setSlotQ k l).skip = g.skip := by cases k <;> rfl
@[simp] theorem Group.setSlotQ_hskip (g : Group) (k : Slot) (l : List Part) : (g.setSlotQ k l).hskip = g.hskip := by cases k <;> rfl
@[simp] theorem Group.setSlotQ_fly (g : Group) (k : Slot) (l : List Part) : (g.setSlotQ k l).fly = g.fly := by cases k <;> rfl
@[simp] theorem Group.setSlotQ_ord (g : Group) (k : Slot) (l : List Part) : (g.setSlotQ k l).ord = g.ord := by cases k <;> rfl
@[simp] theorem Group.setSlotQ_loads (g : Group) (k : Slot) (l : List Part) : (g.setSlotQ k l).loads = g.loads := by cases k <;> rfl
@[simp] theorem Group.setSlotQ_stores (g : Group) (k : Slot) (l : List Part) : (g.setSlotQ k l).stores = g.stores := by cases k <;> rfl
@[simp] theorem Group.setSlotQ_ldata (g : Group) (k : Slot) (l : List Part) : (g.setSlotQ k l).ldata = g.ldata := by cases k <;> rfl
@[simp] theorem Group.setSlotQ_sdata (g : Group) (k : Slot) (l : List Part) : (g.setSlotQ k l).sdata = g.sdata := by cases k <;> rfl
@[simp] theorem Group.setSlotQ_fences (g : Group) (k : Slot) (l : List Part) : (g.setSlotQ k l).fences = g.fences := by cases k <;> rfl
@[simp] theorem Group.setSlotQ_trap (g : Group) (k : Slot) (l : List Part) : (g.setSlotQ k l).trap = g.trap := by cases k <;> rfl
@[simp] theorem Group.setSlotQ_stop (g : Group) (k : Slot) (l : List Part) : (g.setSlotQ k l).stop = g.stop := by cases k <;> rfl
@[simp] theorem Group.setSlotQ_yielded (g : Group) (k : Slot) (l : List Part) : (g.setSlotQ k l).yielded = g.yielded := by cases k <;> rfl
@[simp] theorem Group.setSlotQ_waiters (g : Group) (k : Slot) (l : List Part) : (g.setSlotQ k l).waiters = g.waiters := by cases k <;> rfl
@[simp] theorem Group.setSlotQ_readySince (g : Group) (k : Slot) (l : List Part) : (g.setSlotQ k l).readySince = g.readySince := by cases k <;> rfl
@[simp] theorem Group.setSlotQ_promoted (g : Group) (k : Slot) (l : List Part) : (g.setSlotQ k l).promoted = g.promoted := by cases k <;> rfl
@[simp] theorem Group.setSlotQ_ended (g : Group) (k : Slot) (l : List Part) : (g.setSlotQ k l).ended = g.ended := by cases k <;> rfl
@[simp] theorem Group.setSlotQ_tailed (g : Group) (k : Slot) (l : List Part) : (g.setSlotQ k l).tailed = g.tailed := by cases k <;> rfl
@[simp] theorem Group.setSlotQ_preempt (g : Group) (k : Slot) (l : List Part) : (g.setSlotQ k l).preempt = g.preempt := by cases k <;> rfl
@[simp] theorem Group.setSlotQ_landed (g : Group) (k : Slot) (l : List Part) : (g.setSlotQ k l).landed = g.landed := by cases k <;> rfl
@[simp] theorem Group.setSlotQ_snuffed (g : Group) (k : Slot) (l : List Part) : (g.setSlotQ k l).snuffed = g.snuffed := by cases k <;> rfl
@[simp] theorem Group.setSlotQ_hostUnacked (g : Group) (k : Slot) (l : List Part) : (g.setSlotQ k l).hostUnacked = g.hostUnacked := by cases k <;> rfl
@[simp] theorem Group.setSlotQ_started (g : Group) (k : Slot) (l : List Part) : (g.setSlotQ k l).started = g.started := by cases k <;> rfl
@[simp] theorem Group.setSlotQ_lost (g : Group) (k : Slot) (l : List Part) : (g.setSlotQ k l).lost = g.lost := by cases k <;> rfl
@[simp] theorem Group.setSlotQ_longs (g : Group) (k : Slot) (l : List Part) : (g.setSlotQ k l).longs = g.longs := by cases k <;> rfl
@[simp] theorem Group.setSlotQ_past (g : Group) (k : Slot) (l : List Part) : (g.setSlotQ k l).past = g.past := by cases k <;> rfl
@[simp] theorem Group.retire_gid (g : Group) (k : Slot) : (g.retire k).gid = g.gid := Group.setSlotQ_gid g k _
@[simp] theorem Group.retire_cls (g : Group) (k : Slot) : (g.retire k).cls = g.cls := Group.setSlotQ_cls g k _
@[simp] theorem Group.retire_win (g : Group) (k : Slot) : (g.retire k).win = g.win := Group.setSlotQ_win g k _
@[simp] theorem Group.retire_asid (g : Group) (k : Slot) : (g.retire k).asid = g.asid := Group.setSlotQ_asid g k _
@[simp] theorem Group.retire_n (g : Group) (k : Slot) : (g.retire k).n = g.n := Group.setSlotQ_n g k _
@[simp] theorem Group.retire_e (g : Group) (k : Slot) : (g.retire k).e = g.e := Group.setSlotQ_e g k _
@[simp] theorem Group.retire_p (g : Group) (k : Slot) : (g.retire k).p = g.p := Group.setSlotQ_p g k _
@[simp] theorem Group.retire_pOld (g : Group) (k : Slot) : (g.retire k).pOld = g.pOld := Group.setSlotQ_pOld g k _
@[simp] theorem Group.retire_a (g : Group) (k : Slot) : (g.retire k).a = g.a := Group.setSlotQ_a g k _
@[simp] theorem Group.retire_f (g : Group) (k : Slot) : (g.retire k).f = g.f := Group.setSlotQ_f g k _
@[simp] theorem Group.retire_vregs (g : Group) (k : Slot) : (g.retire k).vregs = g.vregs := Group.setSlotQ_vregs g k _
@[simp] theorem Group.retire_lat (g : Group) (k : Slot) : (g.retire k).lat = g.lat := Group.setSlotQ_lat g k _
@[simp] theorem Group.retire_held (g : Group) (k : Slot) : (g.retire k).held = g.held := Group.setSlotQ_held g k _
@[simp] theorem Group.retire_c (g : Group) (k : Slot) : (g.retire k).c = g.c := Group.setSlotQ_c g k _
@[simp] theorem Group.retire_cbuf (g : Group) (k : Slot) : (g.retire k).cbuf = g.cbuf := Group.setSlotQ_cbuf g k _
@[simp] theorem Group.retire_cheld (g : Group) (k : Slot) : (g.retire k).cheld = g.cheld := Group.setSlotQ_cheld g k _
@[simp] theorem Group.retire_toks (g : Group) (k : Slot) : (g.retire k).toks = g.toks := Group.setSlotQ_toks g k _
@[simp] theorem Group.retire_guards (g : Group) (k : Slot) : (g.retire k).guards = g.guards := Group.setSlotQ_guards g k _
@[simp] theorem Group.retire_wicks (g : Group) (k : Slot) : (g.retire k).wicks = g.wicks := Group.setSlotQ_wicks g k _
@[simp] theorem Group.retire_mcfg (g : Group) (k : Slot) : (g.retire k).mcfg = g.mcfg := Group.setSlotQ_mcfg g k _
@[simp] theorem Group.retire_lm (g : Group) (k : Slot) : (g.retire k).lm = g.lm := Group.setSlotQ_lm g k _
@[simp] theorem Group.retire_gm (g : Group) (k : Slot) : (g.retire k).gm = g.gm := Group.setSlotQ_gm g k _
@[simp] theorem Group.retire_budget (g : Group) (k : Slot) : (g.retire k).budget = g.budget := Group.setSlotQ_budget g k _
@[simp] theorem Group.retire_granted (g : Group) (k : Slot) : (g.retire k).granted = g.granted := Group.setSlotQ_granted g k _
@[simp] theorem Group.retire_wb (g : Group) (k : Slot) : (g.retire k).wb = g.wb := Group.setSlotQ_wb g k _
@[simp] theorem Group.retire_wc (g : Group) (k : Slot) : (g.retire k).wc = g.wc := Group.setSlotQ_wc g k _
@[simp] theorem Group.retire_pc (g : Group) (k : Slot) : (g.retire k).pc = g.pc := Group.setSlotQ_pc g k _
@[simp] theorem Group.retire_fetchHold (g : Group) (k : Slot) : (g.retire k).fetchHold = g.fetchHold := Group.setSlotQ_fetchHold g k _
@[simp] theorem Group.retire_loops (g : Group) (k : Slot) : (g.retire k).loops = g.loops := Group.setSlotQ_loops g k _
@[simp] theorem Group.retire_spill (g : Group) (k : Slot) : (g.retire k).spill = g.spill := Group.setSlotQ_spill g k _
@[simp] theorem Group.retire_spillLim (g : Group) (k : Slot) : (g.retire k).spillLim = g.spillLim := Group.setSlotQ_spillLim g k _
@[simp] theorem Group.retire_fpflags (g : Group) (k : Slot) : (g.retire k).fpflags = g.fpflags := Group.setSlotQ_fpflags g k _
@[simp] theorem Group.retire_seq (g : Group) (k : Slot) : (g.retire k).seq = g.seq := Group.setSlotQ_seq g k _
@[simp] theorem Group.retire_ids (g : Group) (k : Slot) : (g.retire k).ids = g.ids := Group.setSlotQ_ids g k _
@[simp] theorem Group.retire_qh (g : Group) (k : Slot) : (g.retire k).qh = g.qh := Group.setSlotQ_qh g k _
@[simp] theorem Group.retire_skip (g : Group) (k : Slot) : (g.retire k).skip = g.skip := Group.setSlotQ_skip g k _
@[simp] theorem Group.retire_hskip (g : Group) (k : Slot) : (g.retire k).hskip = g.hskip := Group.setSlotQ_hskip g k _
@[simp] theorem Group.retire_fly (g : Group) (k : Slot) : (g.retire k).fly = g.fly := Group.setSlotQ_fly g k _
@[simp] theorem Group.retire_ord (g : Group) (k : Slot) : (g.retire k).ord = g.ord := Group.setSlotQ_ord g k _
@[simp] theorem Group.retire_loads (g : Group) (k : Slot) : (g.retire k).loads = g.loads := Group.setSlotQ_loads g k _
@[simp] theorem Group.retire_stores (g : Group) (k : Slot) : (g.retire k).stores = g.stores := Group.setSlotQ_stores g k _
@[simp] theorem Group.retire_ldata (g : Group) (k : Slot) : (g.retire k).ldata = g.ldata := Group.setSlotQ_ldata g k _
@[simp] theorem Group.retire_sdata (g : Group) (k : Slot) : (g.retire k).sdata = g.sdata := Group.setSlotQ_sdata g k _
@[simp] theorem Group.retire_fences (g : Group) (k : Slot) : (g.retire k).fences = g.fences := Group.setSlotQ_fences g k _
@[simp] theorem Group.retire_trap (g : Group) (k : Slot) : (g.retire k).trap = g.trap := Group.setSlotQ_trap g k _
@[simp] theorem Group.retire_stop (g : Group) (k : Slot) : (g.retire k).stop = g.stop := Group.setSlotQ_stop g k _
@[simp] theorem Group.retire_yielded (g : Group) (k : Slot) : (g.retire k).yielded = g.yielded := Group.setSlotQ_yielded g k _
@[simp] theorem Group.retire_waiters (g : Group) (k : Slot) : (g.retire k).waiters = g.waiters := Group.setSlotQ_waiters g k _
@[simp] theorem Group.retire_readySince (g : Group) (k : Slot) : (g.retire k).readySince = g.readySince := Group.setSlotQ_readySince g k _
@[simp] theorem Group.retire_promoted (g : Group) (k : Slot) : (g.retire k).promoted = g.promoted := Group.setSlotQ_promoted g k _
@[simp] theorem Group.retire_ended (g : Group) (k : Slot) : (g.retire k).ended = g.ended := Group.setSlotQ_ended g k _
@[simp] theorem Group.retire_tailed (g : Group) (k : Slot) : (g.retire k).tailed = g.tailed := Group.setSlotQ_tailed g k _
@[simp] theorem Group.retire_preempt (g : Group) (k : Slot) : (g.retire k).preempt = g.preempt := Group.setSlotQ_preempt g k _
@[simp] theorem Group.retire_landed (g : Group) (k : Slot) : (g.retire k).landed = g.landed := Group.setSlotQ_landed g k _
@[simp] theorem Group.retire_snuffed (g : Group) (k : Slot) : (g.retire k).snuffed = g.snuffed := Group.setSlotQ_snuffed g k _
@[simp] theorem Group.retire_hostUnacked (g : Group) (k : Slot) : (g.retire k).hostUnacked = g.hostUnacked := Group.setSlotQ_hostUnacked g k _
@[simp] theorem Group.retire_started (g : Group) (k : Slot) : (g.retire k).started = g.started := Group.setSlotQ_started g k _
@[simp] theorem Group.retire_lost (g : Group) (k : Slot) : (g.retire k).lost = g.lost := Group.setSlotQ_lost g k _
@[simp] theorem Group.retire_longs (g : Group) (k : Slot) : (g.retire k).longs = g.longs := Group.setSlotQ_longs g k _
@[simp] theorem Group.retire_past (g : Group) (k : Slot) : (g.retire k).past = g.past := Group.setSlotQ_past g k _
@[simp] theorem Group.switchV_gid (g : Group) (k : Slot) (p : Part) : (g.switchV k p).gid = g.gid := by unfold Group.switchV; split <;> rfl
@[simp] theorem Group.switchV_cls (g : Group) (k : Slot) (p : Part) : (g.switchV k p).cls = g.cls := by unfold Group.switchV; split <;> rfl
@[simp] theorem Group.switchV_win (g : Group) (k : Slot) (p : Part) : (g.switchV k p).win = g.win := by unfold Group.switchV; split <;> rfl
@[simp] theorem Group.switchV_asid (g : Group) (k : Slot) (p : Part) : (g.switchV k p).asid = g.asid := by unfold Group.switchV; split <;> rfl
@[simp] theorem Group.switchV_n (g : Group) (k : Slot) (p : Part) : (g.switchV k p).n = g.n := by unfold Group.switchV; split <;> rfl
@[simp] theorem Group.switchV_e (g : Group) (k : Slot) (p : Part) : (g.switchV k p).e = g.e := by unfold Group.switchV; split <;> rfl
@[simp] theorem Group.switchV_p (g : Group) (k : Slot) (p : Part) : (g.switchV k p).p = g.p := by unfold Group.switchV; split <;> rfl
@[simp] theorem Group.switchV_pOld (g : Group) (k : Slot) (p : Part) : (g.switchV k p).pOld = g.pOld := by unfold Group.switchV; split <;> rfl
@[simp] theorem Group.switchV_a (g : Group) (k : Slot) (p : Part) : (g.switchV k p).a = g.a := by unfold Group.switchV; split <;> rfl
@[simp] theorem Group.switchV_f (g : Group) (k : Slot) (p : Part) : (g.switchV k p).f = g.f := by unfold Group.switchV; split <;> rfl
@[simp] theorem Group.switchV_vregs (g : Group) (k : Slot) (p : Part) : (g.switchV k p).vregs = g.vregs := by unfold Group.switchV; split <;> rfl
@[simp] theorem Group.switchV_held (g : Group) (k : Slot) (p : Part) : (g.switchV k p).held = g.held := by unfold Group.switchV; split <;> rfl
@[simp] theorem Group.switchV_c (g : Group) (k : Slot) (p : Part) : (g.switchV k p).c = g.c := by unfold Group.switchV; split <;> rfl
@[simp] theorem Group.switchV_cbuf (g : Group) (k : Slot) (p : Part) : (g.switchV k p).cbuf = g.cbuf := by unfold Group.switchV; split <;> rfl
@[simp] theorem Group.switchV_cheld (g : Group) (k : Slot) (p : Part) : (g.switchV k p).cheld = g.cheld := by unfold Group.switchV; split <;> rfl
@[simp] theorem Group.switchV_toks (g : Group) (k : Slot) (p : Part) : (g.switchV k p).toks = g.toks := by unfold Group.switchV; split <;> rfl
@[simp] theorem Group.switchV_guards (g : Group) (k : Slot) (p : Part) : (g.switchV k p).guards = g.guards := by unfold Group.switchV; split <;> rfl
@[simp] theorem Group.switchV_wicks (g : Group) (k : Slot) (p : Part) : (g.switchV k p).wicks = g.wicks := by unfold Group.switchV; split <;> rfl
@[simp] theorem Group.switchV_mcfg (g : Group) (k : Slot) (p : Part) : (g.switchV k p).mcfg = g.mcfg := by unfold Group.switchV; split <;> rfl
@[simp] theorem Group.switchV_lm (g : Group) (k : Slot) (p : Part) : (g.switchV k p).lm = g.lm := by unfold Group.switchV; split <;> rfl
@[simp] theorem Group.switchV_gm (g : Group) (k : Slot) (p : Part) : (g.switchV k p).gm = g.gm := by unfold Group.switchV; split <;> rfl
@[simp] theorem Group.switchV_budget (g : Group) (k : Slot) (p : Part) : (g.switchV k p).budget = g.budget := by unfold Group.switchV; split <;> rfl
@[simp] theorem Group.switchV_granted (g : Group) (k : Slot) (p : Part) : (g.switchV k p).granted = g.granted := by unfold Group.switchV; split <;> rfl
@[simp] theorem Group.switchV_wb (g : Group) (k : Slot) (p : Part) : (g.switchV k p).wb = g.wb := by unfold Group.switchV; split <;> rfl
@[simp] theorem Group.switchV_wc (g : Group) (k : Slot) (p : Part) : (g.switchV k p).wc = g.wc := by unfold Group.switchV; split <;> rfl
@[simp] theorem Group.switchV_pc (g : Group) (k : Slot) (p : Part) : (g.switchV k p).pc = g.pc := by unfold Group.switchV; split <;> rfl
@[simp] theorem Group.switchV_fetchHold (g : Group) (k : Slot) (p : Part) : (g.switchV k p).fetchHold = g.fetchHold := by unfold Group.switchV; split <;> rfl
@[simp] theorem Group.switchV_loops (g : Group) (k : Slot) (p : Part) : (g.switchV k p).loops = g.loops := by unfold Group.switchV; split <;> rfl
@[simp] theorem Group.switchV_spill (g : Group) (k : Slot) (p : Part) : (g.switchV k p).spill = g.spill := by unfold Group.switchV; split <;> rfl
@[simp] theorem Group.switchV_spillLim (g : Group) (k : Slot) (p : Part) : (g.switchV k p).spillLim = g.spillLim := by unfold Group.switchV; split <;> rfl
@[simp] theorem Group.switchV_fpflags (g : Group) (k : Slot) (p : Part) : (g.switchV k p).fpflags = g.fpflags := by unfold Group.switchV; split <;> rfl
@[simp] theorem Group.switchV_seq (g : Group) (k : Slot) (p : Part) : (g.switchV k p).seq = g.seq := by unfold Group.switchV; split <;> rfl
@[simp] theorem Group.switchV_ids (g : Group) (k : Slot) (p : Part) : (g.switchV k p).ids = g.ids := by unfold Group.switchV; split <;> rfl
@[simp] theorem Group.switchV_qs (g : Group) (k : Slot) (p : Part) : (g.switchV k p).qs = g.qs := by unfold Group.switchV; split <;> rfl
@[simp] theorem Group.switchV_qa (g : Group) (k : Slot) (p : Part) : (g.switchV k p).qa = g.qa := by unfold Group.switchV; split <;> rfl
@[simp] theorem Group.switchV_qv (g : Group) (k : Slot) (p : Part) : (g.switchV k p).qv = g.qv := by unfold Group.switchV; split <;> rfl
@[simp] theorem Group.switchV_qm (g : Group) (k : Slot) (p : Part) : (g.switchV k p).qm = g.qm := by unfold Group.switchV; split <;> rfl
@[simp] theorem Group.switchV_qc (g : Group) (k : Slot) (p : Part) : (g.switchV k p).qc = g.qc := by unfold Group.switchV; split <;> rfl
@[simp] theorem Group.switchV_qk (g : Group) (k : Slot) (p : Part) : (g.switchV k p).qk = g.qk := by unfold Group.switchV; split <;> rfl
@[simp] theorem Group.switchV_qh (g : Group) (k : Slot) (p : Part) : (g.switchV k p).qh = g.qh := by unfold Group.switchV; split <;> rfl
@[simp] theorem Group.switchV_skip (g : Group) (k : Slot) (p : Part) : (g.switchV k p).skip = g.skip := by unfold Group.switchV; split <;> rfl
@[simp] theorem Group.switchV_hskip (g : Group) (k : Slot) (p : Part) : (g.switchV k p).hskip = g.hskip := by unfold Group.switchV; split <;> rfl
@[simp] theorem Group.switchV_fly (g : Group) (k : Slot) (p : Part) : (g.switchV k p).fly = g.fly := by unfold Group.switchV; split <;> rfl
@[simp] theorem Group.switchV_ord (g : Group) (k : Slot) (p : Part) : (g.switchV k p).ord = g.ord := by unfold Group.switchV; split <;> rfl
@[simp] theorem Group.switchV_loads (g : Group) (k : Slot) (p : Part) : (g.switchV k p).loads = g.loads := by unfold Group.switchV; split <;> rfl
@[simp] theorem Group.switchV_stores (g : Group) (k : Slot) (p : Part) : (g.switchV k p).stores = g.stores := by unfold Group.switchV; split <;> rfl
@[simp] theorem Group.switchV_ldata (g : Group) (k : Slot) (p : Part) : (g.switchV k p).ldata = g.ldata := by unfold Group.switchV; split <;> rfl
@[simp] theorem Group.switchV_sdata (g : Group) (k : Slot) (p : Part) : (g.switchV k p).sdata = g.sdata := by unfold Group.switchV; split <;> rfl
@[simp] theorem Group.switchV_fences (g : Group) (k : Slot) (p : Part) : (g.switchV k p).fences = g.fences := by unfold Group.switchV; split <;> rfl
@[simp] theorem Group.switchV_trap (g : Group) (k : Slot) (p : Part) : (g.switchV k p).trap = g.trap := by unfold Group.switchV; split <;> rfl
@[simp] theorem Group.switchV_stop (g : Group) (k : Slot) (p : Part) : (g.switchV k p).stop = g.stop := by unfold Group.switchV; split <;> rfl
@[simp] theorem Group.switchV_yielded (g : Group) (k : Slot) (p : Part) : (g.switchV k p).yielded = g.yielded := by unfold Group.switchV; split <;> rfl
@[simp] theorem Group.switchV_waiters (g : Group) (k : Slot) (p : Part) : (g.switchV k p).waiters = g.waiters := by unfold Group.switchV; split <;> rfl
@[simp] theorem Group.switchV_readySince (g : Group) (k : Slot) (p : Part) : (g.switchV k p).readySince = g.readySince := by unfold Group.switchV; split <;> rfl
@[simp] theorem Group.switchV_promoted (g : Group) (k : Slot) (p : Part) : (g.switchV k p).promoted = g.promoted := by unfold Group.switchV; split <;> rfl
@[simp] theorem Group.switchV_ended (g : Group) (k : Slot) (p : Part) : (g.switchV k p).ended = g.ended := by unfold Group.switchV; split <;> rfl
@[simp] theorem Group.switchV_tailed (g : Group) (k : Slot) (p : Part) : (g.switchV k p).tailed = g.tailed := by unfold Group.switchV; split <;> rfl
@[simp] theorem Group.switchV_preempt (g : Group) (k : Slot) (p : Part) : (g.switchV k p).preempt = g.preempt := by unfold Group.switchV; split <;> rfl
@[simp] theorem Group.switchV_landed (g : Group) (k : Slot) (p : Part) : (g.switchV k p).landed = g.landed := by unfold Group.switchV; split <;> rfl
@[simp] theorem Group.switchV_snuffed (g : Group) (k : Slot) (p : Part) : (g.switchV k p).snuffed = g.snuffed := by unfold Group.switchV; split <;> rfl
@[simp] theorem Group.switchV_hostUnacked (g : Group) (k : Slot) (p : Part) : (g.switchV k p).hostUnacked = g.hostUnacked := by unfold Group.switchV; split <;> rfl
@[simp] theorem Group.switchV_started (g : Group) (k : Slot) (p : Part) : (g.switchV k p).started = g.started := by unfold Group.switchV; split <;> rfl
@[simp] theorem Group.switchV_lost (g : Group) (k : Slot) (p : Part) : (g.switchV k p).lost = g.lost := by unfold Group.switchV; split <;> rfl
@[simp] theorem Group.switchV_longs (g : Group) (k : Slot) (p : Part) : (g.switchV k p).longs = g.longs := by unfold Group.switchV; split <;> rfl
@[simp] theorem Group.switchV_past (g : Group) (k : Slot) (p : Part) : (g.switchV k p).past = g.past := by unfold Group.switchV; split <;> rfl
@[simp] theorem Group.keepOld_gid (g : Group) (k : Slot) (p : Part) (i : Instr) : (g.keepOld k p i).gid = g.gid := by unfold Group.keepOld; dsimp only; split <;> rfl
@[simp] theorem Group.keepOld_cls (g : Group) (k : Slot) (p : Part) (i : Instr) : (g.keepOld k p i).cls = g.cls := by unfold Group.keepOld; dsimp only; split <;> rfl
@[simp] theorem Group.keepOld_win (g : Group) (k : Slot) (p : Part) (i : Instr) : (g.keepOld k p i).win = g.win := by unfold Group.keepOld; dsimp only; split <;> rfl
@[simp] theorem Group.keepOld_asid (g : Group) (k : Slot) (p : Part) (i : Instr) : (g.keepOld k p i).asid = g.asid := by unfold Group.keepOld; dsimp only; split <;> rfl
@[simp] theorem Group.keepOld_n (g : Group) (k : Slot) (p : Part) (i : Instr) : (g.keepOld k p i).n = g.n := by unfold Group.keepOld; dsimp only; split <;> rfl
@[simp] theorem Group.keepOld_e (g : Group) (k : Slot) (p : Part) (i : Instr) : (g.keepOld k p i).e = g.e := by unfold Group.keepOld; dsimp only; split <;> rfl
@[simp] theorem Group.keepOld_p (g : Group) (k : Slot) (p : Part) (i : Instr) : (g.keepOld k p i).p = g.p := by unfold Group.keepOld; dsimp only; split <;> rfl
@[simp] theorem Group.keepOld_a (g : Group) (k : Slot) (p : Part) (i : Instr) : (g.keepOld k p i).a = g.a := by unfold Group.keepOld; dsimp only; split <;> rfl
@[simp] theorem Group.keepOld_f (g : Group) (k : Slot) (p : Part) (i : Instr) : (g.keepOld k p i).f = g.f := by unfold Group.keepOld; dsimp only; split <;> rfl
@[simp] theorem Group.keepOld_vregs (g : Group) (k : Slot) (p : Part) (i : Instr) : (g.keepOld k p i).vregs = g.vregs := by unfold Group.keepOld; dsimp only; split <;> rfl
@[simp] theorem Group.keepOld_lat (g : Group) (k : Slot) (p : Part) (i : Instr) : (g.keepOld k p i).lat = g.lat := by unfold Group.keepOld; dsimp only; split <;> rfl
@[simp] theorem Group.keepOld_held (g : Group) (k : Slot) (p : Part) (i : Instr) : (g.keepOld k p i).held = g.held := by unfold Group.keepOld; dsimp only; split <;> rfl
@[simp] theorem Group.keepOld_c (g : Group) (k : Slot) (p : Part) (i : Instr) : (g.keepOld k p i).c = g.c := by unfold Group.keepOld; dsimp only; split <;> rfl
@[simp] theorem Group.keepOld_cbuf (g : Group) (k : Slot) (p : Part) (i : Instr) : (g.keepOld k p i).cbuf = g.cbuf := by unfold Group.keepOld; dsimp only; split <;> rfl
@[simp] theorem Group.keepOld_cheld (g : Group) (k : Slot) (p : Part) (i : Instr) : (g.keepOld k p i).cheld = g.cheld := by unfold Group.keepOld; dsimp only; split <;> rfl
@[simp] theorem Group.keepOld_toks (g : Group) (k : Slot) (p : Part) (i : Instr) : (g.keepOld k p i).toks = g.toks := by unfold Group.keepOld; dsimp only; split <;> rfl
@[simp] theorem Group.keepOld_guards (g : Group) (k : Slot) (p : Part) (i : Instr) : (g.keepOld k p i).guards = g.guards := by unfold Group.keepOld; dsimp only; split <;> rfl
@[simp] theorem Group.keepOld_wicks (g : Group) (k : Slot) (p : Part) (i : Instr) : (g.keepOld k p i).wicks = g.wicks := by unfold Group.keepOld; dsimp only; split <;> rfl
@[simp] theorem Group.keepOld_mcfg (g : Group) (k : Slot) (p : Part) (i : Instr) : (g.keepOld k p i).mcfg = g.mcfg := by unfold Group.keepOld; dsimp only; split <;> rfl
@[simp] theorem Group.keepOld_lm (g : Group) (k : Slot) (p : Part) (i : Instr) : (g.keepOld k p i).lm = g.lm := by unfold Group.keepOld; dsimp only; split <;> rfl
@[simp] theorem Group.keepOld_gm (g : Group) (k : Slot) (p : Part) (i : Instr) : (g.keepOld k p i).gm = g.gm := by unfold Group.keepOld; dsimp only; split <;> rfl
@[simp] theorem Group.keepOld_budget (g : Group) (k : Slot) (p : Part) (i : Instr) : (g.keepOld k p i).budget = g.budget := by unfold Group.keepOld; dsimp only; split <;> rfl
@[simp] theorem Group.keepOld_granted (g : Group) (k : Slot) (p : Part) (i : Instr) : (g.keepOld k p i).granted = g.granted := by unfold Group.keepOld; dsimp only; split <;> rfl
@[simp] theorem Group.keepOld_wb (g : Group) (k : Slot) (p : Part) (i : Instr) : (g.keepOld k p i).wb = g.wb := by unfold Group.keepOld; dsimp only; split <;> rfl
@[simp] theorem Group.keepOld_wc (g : Group) (k : Slot) (p : Part) (i : Instr) : (g.keepOld k p i).wc = g.wc := by unfold Group.keepOld; dsimp only; split <;> rfl
@[simp] theorem Group.keepOld_pc (g : Group) (k : Slot) (p : Part) (i : Instr) : (g.keepOld k p i).pc = g.pc := by unfold Group.keepOld; dsimp only; split <;> rfl
@[simp] theorem Group.keepOld_fetchHold (g : Group) (k : Slot) (p : Part) (i : Instr) : (g.keepOld k p i).fetchHold = g.fetchHold := by unfold Group.keepOld; dsimp only; split <;> rfl
@[simp] theorem Group.keepOld_loops (g : Group) (k : Slot) (p : Part) (i : Instr) : (g.keepOld k p i).loops = g.loops := by unfold Group.keepOld; dsimp only; split <;> rfl
@[simp] theorem Group.keepOld_spill (g : Group) (k : Slot) (p : Part) (i : Instr) : (g.keepOld k p i).spill = g.spill := by unfold Group.keepOld; dsimp only; split <;> rfl
@[simp] theorem Group.keepOld_spillLim (g : Group) (k : Slot) (p : Part) (i : Instr) : (g.keepOld k p i).spillLim = g.spillLim := by unfold Group.keepOld; dsimp only; split <;> rfl
@[simp] theorem Group.keepOld_fpflags (g : Group) (k : Slot) (p : Part) (i : Instr) : (g.keepOld k p i).fpflags = g.fpflags := by unfold Group.keepOld; dsimp only; split <;> rfl
@[simp] theorem Group.keepOld_seq (g : Group) (k : Slot) (p : Part) (i : Instr) : (g.keepOld k p i).seq = g.seq := by unfold Group.keepOld; dsimp only; split <;> rfl
@[simp] theorem Group.keepOld_ids (g : Group) (k : Slot) (p : Part) (i : Instr) : (g.keepOld k p i).ids = g.ids := by unfold Group.keepOld; dsimp only; split <;> rfl
@[simp] theorem Group.keepOld_qs (g : Group) (k : Slot) (p : Part) (i : Instr) : (g.keepOld k p i).qs = g.qs := by unfold Group.keepOld; dsimp only; split <;> rfl
@[simp] theorem Group.keepOld_qa (g : Group) (k : Slot) (p : Part) (i : Instr) : (g.keepOld k p i).qa = g.qa := by unfold Group.keepOld; dsimp only; split <;> rfl
@[simp] theorem Group.keepOld_qv (g : Group) (k : Slot) (p : Part) (i : Instr) : (g.keepOld k p i).qv = g.qv := by unfold Group.keepOld; dsimp only; split <;> rfl
@[simp] theorem Group.keepOld_qm (g : Group) (k : Slot) (p : Part) (i : Instr) : (g.keepOld k p i).qm = g.qm := by unfold Group.keepOld; dsimp only; split <;> rfl
@[simp] theorem Group.keepOld_qc (g : Group) (k : Slot) (p : Part) (i : Instr) : (g.keepOld k p i).qc = g.qc := by unfold Group.keepOld; dsimp only; split <;> rfl
@[simp] theorem Group.keepOld_qk (g : Group) (k : Slot) (p : Part) (i : Instr) : (g.keepOld k p i).qk = g.qk := by unfold Group.keepOld; dsimp only; split <;> rfl
@[simp] theorem Group.keepOld_qh (g : Group) (k : Slot) (p : Part) (i : Instr) : (g.keepOld k p i).qh = g.qh := by unfold Group.keepOld; dsimp only; split <;> rfl
@[simp] theorem Group.keepOld_skip (g : Group) (k : Slot) (p : Part) (i : Instr) : (g.keepOld k p i).skip = g.skip := by unfold Group.keepOld; dsimp only; split <;> rfl
@[simp] theorem Group.keepOld_hskip (g : Group) (k : Slot) (p : Part) (i : Instr) : (g.keepOld k p i).hskip = g.hskip := by unfold Group.keepOld; dsimp only; split <;> rfl
@[simp] theorem Group.keepOld_fly (g : Group) (k : Slot) (p : Part) (i : Instr) : (g.keepOld k p i).fly = g.fly := by unfold Group.keepOld; dsimp only; split <;> rfl
@[simp] theorem Group.keepOld_ord (g : Group) (k : Slot) (p : Part) (i : Instr) : (g.keepOld k p i).ord = g.ord := by unfold Group.keepOld; dsimp only; split <;> rfl
@[simp] theorem Group.keepOld_loads (g : Group) (k : Slot) (p : Part) (i : Instr) : (g.keepOld k p i).loads = g.loads := by unfold Group.keepOld; dsimp only; split <;> rfl
@[simp] theorem Group.keepOld_stores (g : Group) (k : Slot) (p : Part) (i : Instr) : (g.keepOld k p i).stores = g.stores := by unfold Group.keepOld; dsimp only; split <;> rfl
@[simp] theorem Group.keepOld_ldata (g : Group) (k : Slot) (p : Part) (i : Instr) : (g.keepOld k p i).ldata = g.ldata := by unfold Group.keepOld; dsimp only; split <;> rfl
@[simp] theorem Group.keepOld_sdata (g : Group) (k : Slot) (p : Part) (i : Instr) : (g.keepOld k p i).sdata = g.sdata := by unfold Group.keepOld; dsimp only; split <;> rfl
@[simp] theorem Group.keepOld_fences (g : Group) (k : Slot) (p : Part) (i : Instr) : (g.keepOld k p i).fences = g.fences := by unfold Group.keepOld; dsimp only; split <;> rfl
@[simp] theorem Group.keepOld_trap (g : Group) (k : Slot) (p : Part) (i : Instr) : (g.keepOld k p i).trap = g.trap := by unfold Group.keepOld; dsimp only; split <;> rfl
@[simp] theorem Group.keepOld_stop (g : Group) (k : Slot) (p : Part) (i : Instr) : (g.keepOld k p i).stop = g.stop := by unfold Group.keepOld; dsimp only; split <;> rfl
@[simp] theorem Group.keepOld_yielded (g : Group) (k : Slot) (p : Part) (i : Instr) : (g.keepOld k p i).yielded = g.yielded := by unfold Group.keepOld; dsimp only; split <;> rfl
@[simp] theorem Group.keepOld_waiters (g : Group) (k : Slot) (p : Part) (i : Instr) : (g.keepOld k p i).waiters = g.waiters := by unfold Group.keepOld; dsimp only; split <;> rfl
@[simp] theorem Group.keepOld_readySince (g : Group) (k : Slot) (p : Part) (i : Instr) : (g.keepOld k p i).readySince = g.readySince := by unfold Group.keepOld; dsimp only; split <;> rfl
@[simp] theorem Group.keepOld_promoted (g : Group) (k : Slot) (p : Part) (i : Instr) : (g.keepOld k p i).promoted = g.promoted := by unfold Group.keepOld; dsimp only; split <;> rfl
@[simp] theorem Group.keepOld_ended (g : Group) (k : Slot) (p : Part) (i : Instr) : (g.keepOld k p i).ended = g.ended := by unfold Group.keepOld; dsimp only; split <;> rfl
@[simp] theorem Group.keepOld_tailed (g : Group) (k : Slot) (p : Part) (i : Instr) : (g.keepOld k p i).tailed = g.tailed := by unfold Group.keepOld; dsimp only; split <;> rfl
@[simp] theorem Group.keepOld_preempt (g : Group) (k : Slot) (p : Part) (i : Instr) : (g.keepOld k p i).preempt = g.preempt := by unfold Group.keepOld; dsimp only; split <;> rfl
@[simp] theorem Group.keepOld_landed (g : Group) (k : Slot) (p : Part) (i : Instr) : (g.keepOld k p i).landed = g.landed := by unfold Group.keepOld; dsimp only; split <;> rfl
@[simp] theorem Group.keepOld_snuffed (g : Group) (k : Slot) (p : Part) (i : Instr) : (g.keepOld k p i).snuffed = g.snuffed := by unfold Group.keepOld; dsimp only; split <;> rfl
@[simp] theorem Group.keepOld_hostUnacked (g : Group) (k : Slot) (p : Part) (i : Instr) : (g.keepOld k p i).hostUnacked = g.hostUnacked := by unfold Group.keepOld; dsimp only; split <;> rfl
@[simp] theorem Group.keepOld_started (g : Group) (k : Slot) (p : Part) (i : Instr) : (g.keepOld k p i).started = g.started := by unfold Group.keepOld; dsimp only; split <;> rfl
@[simp] theorem Group.keepOld_lost (g : Group) (k : Slot) (p : Part) (i : Instr) : (g.keepOld k p i).lost = g.lost := by unfold Group.keepOld; dsimp only; split <;> rfl
@[simp] theorem Group.keepOld_longs (g : Group) (k : Slot) (p : Part) (i : Instr) : (g.keepOld k p i).longs = g.longs := by unfold Group.keepOld; dsimp only; split <;> rfl
@[simp] theorem Group.keepOld_past (g : Group) (k : Slot) (p : Part) (i : Instr) : (g.keepOld k p i).past = g.past := by unfold Group.keepOld; dsimp only; split <;> rfl
@[simp] theorem issued_gid (g : Group) (k : Slot) (p : Part) (i : Instr) : (issued g k p i).gid = g.gid := by simp [issued]
@[simp] theorem issued_cls (g : Group) (k : Slot) (p : Part) (i : Instr) : (issued g k p i).cls = g.cls := by simp [issued]
@[simp] theorem issued_win (g : Group) (k : Slot) (p : Part) (i : Instr) : (issued g k p i).win = g.win := by simp [issued]
@[simp] theorem issued_asid (g : Group) (k : Slot) (p : Part) (i : Instr) : (issued g k p i).asid = g.asid := by simp [issued]
@[simp] theorem issued_n (g : Group) (k : Slot) (p : Part) (i : Instr) : (issued g k p i).n = g.n := by simp [issued]
@[simp] theorem issued_e (g : Group) (k : Slot) (p : Part) (i : Instr) : (issued g k p i).e = g.e := by simp [issued]
@[simp] theorem issued_p (g : Group) (k : Slot) (p : Part) (i : Instr) : (issued g k p i).p = g.p := by simp [issued]
@[simp] theorem issued_a (g : Group) (k : Slot) (p : Part) (i : Instr) : (issued g k p i).a = g.a := by simp [issued]
@[simp] theorem issued_f (g : Group) (k : Slot) (p : Part) (i : Instr) : (issued g k p i).f = g.f := by simp [issued]
@[simp] theorem issued_vregs (g : Group) (k : Slot) (p : Part) (i : Instr) : (issued g k p i).vregs = g.vregs := by simp [issued]
@[simp] theorem issued_held (g : Group) (k : Slot) (p : Part) (i : Instr) : (issued g k p i).held = g.held := by simp [issued]
@[simp] theorem issued_c (g : Group) (k : Slot) (p : Part) (i : Instr) : (issued g k p i).c = g.c := by simp [issued]
@[simp] theorem issued_cbuf (g : Group) (k : Slot) (p : Part) (i : Instr) : (issued g k p i).cbuf = g.cbuf := by simp [issued]
@[simp] theorem issued_cheld (g : Group) (k : Slot) (p : Part) (i : Instr) : (issued g k p i).cheld = g.cheld := by simp [issued]
@[simp] theorem issued_toks (g : Group) (k : Slot) (p : Part) (i : Instr) : (issued g k p i).toks = g.toks := by simp [issued]
@[simp] theorem issued_guards (g : Group) (k : Slot) (p : Part) (i : Instr) : (issued g k p i).guards = g.guards := by simp [issued]
@[simp] theorem issued_wicks (g : Group) (k : Slot) (p : Part) (i : Instr) : (issued g k p i).wicks = g.wicks := by simp [issued]
@[simp] theorem issued_mcfg (g : Group) (k : Slot) (p : Part) (i : Instr) : (issued g k p i).mcfg = g.mcfg := by simp [issued]
@[simp] theorem issued_lm (g : Group) (k : Slot) (p : Part) (i : Instr) : (issued g k p i).lm = g.lm := by simp [issued]
@[simp] theorem issued_gm (g : Group) (k : Slot) (p : Part) (i : Instr) : (issued g k p i).gm = g.gm := by simp [issued]
@[simp] theorem issued_budget (g : Group) (k : Slot) (p : Part) (i : Instr) : (issued g k p i).budget = g.budget := by simp [issued]
@[simp] theorem issued_granted (g : Group) (k : Slot) (p : Part) (i : Instr) : (issued g k p i).granted = g.granted := by simp [issued]
@[simp] theorem issued_wb (g : Group) (k : Slot) (p : Part) (i : Instr) : (issued g k p i).wb = g.wb := by simp [issued]
@[simp] theorem issued_wc (g : Group) (k : Slot) (p : Part) (i : Instr) : (issued g k p i).wc = g.wc := by simp [issued]
@[simp] theorem issued_pc (g : Group) (k : Slot) (p : Part) (i : Instr) : (issued g k p i).pc = g.pc := by simp [issued]
@[simp] theorem issued_fetchHold (g : Group) (k : Slot) (p : Part) (i : Instr) : (issued g k p i).fetchHold = g.fetchHold := by simp [issued]
@[simp] theorem issued_loops (g : Group) (k : Slot) (p : Part) (i : Instr) : (issued g k p i).loops = g.loops := by simp [issued]
@[simp] theorem issued_spill (g : Group) (k : Slot) (p : Part) (i : Instr) : (issued g k p i).spill = g.spill := by simp [issued]
@[simp] theorem issued_spillLim (g : Group) (k : Slot) (p : Part) (i : Instr) : (issued g k p i).spillLim = g.spillLim := by simp [issued]
@[simp] theorem issued_fpflags (g : Group) (k : Slot) (p : Part) (i : Instr) : (issued g k p i).fpflags = g.fpflags := by simp [issued]
@[simp] theorem issued_seq (g : Group) (k : Slot) (p : Part) (i : Instr) : (issued g k p i).seq = g.seq := by simp [issued]
@[simp] theorem issued_ids (g : Group) (k : Slot) (p : Part) (i : Instr) : (issued g k p i).ids = g.ids := by simp [issued]
@[simp] theorem issued_qh (g : Group) (k : Slot) (p : Part) (i : Instr) : (issued g k p i).qh = g.qh := by simp [issued]
@[simp] theorem issued_skip (g : Group) (k : Slot) (p : Part) (i : Instr) : (issued g k p i).skip = g.skip := by simp [issued]
@[simp] theorem issued_hskip (g : Group) (k : Slot) (p : Part) (i : Instr) : (issued g k p i).hskip = g.hskip := by simp [issued]
@[simp] theorem issued_fly (g : Group) (k : Slot) (p : Part) (i : Instr) : (issued g k p i).fly = g.fly := by simp [issued]
@[simp] theorem issued_ord (g : Group) (k : Slot) (p : Part) (i : Instr) : (issued g k p i).ord = g.ord := by simp [issued]
@[simp] theorem issued_loads (g : Group) (k : Slot) (p : Part) (i : Instr) : (issued g k p i).loads = g.loads := by simp [issued]
@[simp] theorem issued_stores (g : Group) (k : Slot) (p : Part) (i : Instr) : (issued g k p i).stores = g.stores := by simp [issued]
@[simp] theorem issued_ldata (g : Group) (k : Slot) (p : Part) (i : Instr) : (issued g k p i).ldata = g.ldata := by simp [issued]
@[simp] theorem issued_sdata (g : Group) (k : Slot) (p : Part) (i : Instr) : (issued g k p i).sdata = g.sdata := by simp [issued]
@[simp] theorem issued_fences (g : Group) (k : Slot) (p : Part) (i : Instr) : (issued g k p i).fences = g.fences := by simp [issued]
@[simp] theorem issued_trap (g : Group) (k : Slot) (p : Part) (i : Instr) : (issued g k p i).trap = g.trap := by simp [issued]
@[simp] theorem issued_stop (g : Group) (k : Slot) (p : Part) (i : Instr) : (issued g k p i).stop = g.stop := by simp [issued]
@[simp] theorem issued_yielded (g : Group) (k : Slot) (p : Part) (i : Instr) : (issued g k p i).yielded = g.yielded := by simp [issued]
@[simp] theorem issued_waiters (g : Group) (k : Slot) (p : Part) (i : Instr) : (issued g k p i).waiters = g.waiters := by simp [issued]
@[simp] theorem issued_readySince (g : Group) (k : Slot) (p : Part) (i : Instr) : (issued g k p i).readySince = g.readySince := by simp [issued]
@[simp] theorem issued_promoted (g : Group) (k : Slot) (p : Part) (i : Instr) : (issued g k p i).promoted = g.promoted := by simp [issued]
@[simp] theorem issued_ended (g : Group) (k : Slot) (p : Part) (i : Instr) : (issued g k p i).ended = g.ended := by simp [issued]
@[simp] theorem issued_tailed (g : Group) (k : Slot) (p : Part) (i : Instr) : (issued g k p i).tailed = g.tailed := by simp [issued]
@[simp] theorem issued_preempt (g : Group) (k : Slot) (p : Part) (i : Instr) : (issued g k p i).preempt = g.preempt := by simp [issued]
@[simp] theorem issued_landed (g : Group) (k : Slot) (p : Part) (i : Instr) : (issued g k p i).landed = g.landed := by simp [issued]
@[simp] theorem issued_snuffed (g : Group) (k : Slot) (p : Part) (i : Instr) : (issued g k p i).snuffed = g.snuffed := by simp [issued]
@[simp] theorem issued_hostUnacked (g : Group) (k : Slot) (p : Part) (i : Instr) : (issued g k p i).hostUnacked = g.hostUnacked := by simp [issued]
@[simp] theorem issued_started (g : Group) (k : Slot) (p : Part) (i : Instr) : (issued g k p i).started = g.started := by simp [issued]
@[simp] theorem issued_lost (g : Group) (k : Slot) (p : Part) (i : Instr) : (issued g k p i).lost = g.lost := by simp [issued]
@[simp] theorem issued_longs (g : Group) (k : Slot) (p : Part) (i : Instr) : (issued g k p i).longs = g.longs := by simp [issued]
@[simp] theorem issued_past (g : Group) (k : Slot) (p : Part) (i : Instr) : (issued g k p i).past = g.past := by simp [issued]

end Sys2Proof.Machine
end

