-- ==== Sys2Proof/Laws/Issue.lean ====
section
/-!
SUPPORT. What the issue of a slot part can do, said once: when it issues, and everything it may answer.
-/

namespace Sys2Proof.Machine

/-- The parts of an issuable part's conditions. -/
theorem issuable_iff (s : State) (g : Group) (k : Slot) (p : Part) (i : Instr) : issuable s g k p i = true ↔
    s.joint.isNone = true ∧ s.serving = true ∧ heldBack s s.cur g = false ∧ s.hasTurn s.cur = true ∧ hazard g k p i false = false ∧
    hazard g k p i true = false ∧ leBad g p = false ∧ g.predOn p i = true ∧ atSlipLimit g p = false ∧ prodPending g p i = false ∧
    g.asyncDue = false ∧ (syncMates g k p).all (fun x => verdictAlone s s.cur g x.1 x.2 x.2.instr true == .go) = true ∧
    (issuesLast i = true → (syncMates g k p).isEmpty = true) ∧ (raises g p i = true → trapsBefore s s.cur g k p = false) := by
  unfold issuable
  simp only [Bool.and_eq_true, Bool.not_eq_true', Bool.or_eq_true, and_assoc]
  constructor
  · rintro ⟨z, a, b, c, d, e, f, h, j, l, m, n, o, q⟩
    exact ⟨z, a, b, c, d, e, f, h, j, l, m, n, fun hi => by simpa [hi] using o, fun hi => by simpa [hi] using q⟩
  · rintro ⟨z, a, b, c, d, e, f, h, j, l, m, n, o, q⟩
    refine ⟨z, a, b, c, d, e, f, h, j, l, m, n, ?_, ?_⟩
    · cases hi : issuesLast i
      · exact .inl rfl
      · exact .inr (o hi)
    · cases hi : raises g p i
      · exact .inl rfl
      · exact .inr (q hi)

/-- A part is judged with its sync only while the sync's parts issue together. -/
theorem judged_none (s : State) (k : Slot) (p : Part) (h : s.joint.isNone = true) : s.judged k p = false := by
  have hj : s.joint = none := by simpa using h
  simp [State.judged, hj]

/-- An issuable part whose own rule lets it go issues. -/
theorem verdict_go (s : State) (g : Group) (k : Slot) (p : Part) (i : Instr) (h : issuable s g k p i = true)
    (ho : own s s.cur g k p i = .go) : verdict s s.cur g k p i = .go := by
  obtain ⟨-, -, -, -, hz, hz', hl, hp, hf, hr, -, hm, hc, -⟩ := (issuable_iff s g k p i).mp h
  have mine : verdictAlone s s.cur g k p i true = .go := by
    simp [verdictAlone, hz', hl, hp, hf, hr, ho, Verdict.then, waitIf]
  have mates : ∀ x ∈ (syncMates g k p).map (fun x => (x.1.num, verdictAlone s s.cur g x.1 x.2 x.2.instr true)), x.2 = .go := by
    intro x hx
    obtain ⟨y, hy, rfl⟩ := List.mem_map.mp hx
    simpa using List.all_eq_true.mp hm y hy
  have noWait : ((syncMates g k p).map (fun x => (x.1.num, verdictAlone s s.cur g x.1 x.2 x.2.instr true))).any
      (fun x => x.2 == .wait) = false := by
    rw [List.any_eq_false]
    intro x hx
    simp [mates x hx]
  have noTrap : ((syncMates g k p).map (fun x => (x.1.num, verdictAlone s s.cur g x.1 x.2 x.2.instr true))).any
      (fun x => x.2.traps) = false := by
    rw [List.any_eq_false]
    intro x hx
    simp [mates x hx, Verdict.traps]
  have ctl : (issuesLast i && !((syncMates g k p).map (fun x =>
      (x.1.num, verdictAlone s s.cur g x.1 x.2 x.2.instr true))).isEmpty) = false := by
    cases hi : issuesLast i
    · rfl
    · simpa using hc hi
  simp only [verdict, mine, noWait, noTrap, ctl, hz]
  simp [Verdict.traps, waitIf]

/-- THE ISSUE: an issuable part whose own rule lets it go takes its effect, and the turn is noted. -/
theorem runPart_issues (k : Slot) (i : Instr) (s : State) (f : State → GRef → Group → Part → State) (g : Group) (p : Part)
    (hh : s.headOf k = some (g, p)) (h : issuable s g k p i = true) (ho : own s s.cur g k p i = .go) :
    runPart k i s f = .next ((f s s.cur (issued g k p i) p).afterIssue s.cur) := by
  have hv := verdict_go s g k p i h ho
  obtain ⟨hj, hs, hb, ht, -, -, -, hp, -, -, ha, -, -, hr⟩ := (issuable_iff s g k p i).mp h
  have hn : (if raises g p i = true then trapsBefore s s.cur g k p else g.asyncDue) = false := by
    split
    · rename_i hx; exact hr hx
    · exact ha
  simp [runPart, hh, judged_none s k p hj, hs, hb, ht, hv, hn, State.issuePart, hp]

/-- The issue of a part whose effect is on its group alone. -/
theorem runGroup_issues (k : Slot) (i : Instr) (s : State) (f : GRef → Group → Part → Group) (g : Group) (p : Part)
    (hh : s.headOf k = some (g, p)) (h : issuable s g k p i = true) (ho : own s s.cur g k p i = .go) :
    runGroup k i s f = .next (s.issueWith (f s.cur (issued g k p i) p)) :=
  runPart_issues k i s _ g p hh h ho

/-- EVERYTHING AN ISSUE CAN DO: it leaves the state, or a waiting part asks for what it waits for, or it traps, or it passes
predicated off, or it takes its effect, by its own verdict or with the parts of its sync. -/
theorem runPart_cases (k : Slot) (i : Instr) (s : State) (f : State → GRef → Group → Part → State) :
    runPart k i s f = .next s ∨
    ∃ g p, s.headOf k = some (g, p) ∧
      (runPart k i s f = .next (waitEffect s s.cur g k p i) ∨
       (∃ code info addr, verdict s s.cur g k p i = .trap code info addr ∧
          ∃ s', (s' = s.noteIssue s.cur ∨ s' = (s.noteIssue s.cur).dropRefusals s.cur.core g.asid addr ∨
              s' = (s.noteIssue s.cur).logTrap s.cur g k i info addr) ∧
            runPart k i s f = .next (trapPart s' s.cur (g.switchV k p) k code info addr)) ∨
       (∃ code info, verdict s s.cur g k p i = .atBundle code info ∧
          runPart k i s f = .next (trapBundle (s.noteIssue s.cur) s.cur g code info 0 p.addr)) ∨
       runPart k i s f = .next ((s.setGroup s.cur ((((g.switchV k p).retire k).passToken p i).dropOld)).noteIssue s.cur) ∨
       ((verdict s s.cur g k p i = .go ∨ s.judged k p = true) ∧ g.predOn p i = true ∧
          runPart k i s f = .next ((f s s.cur (issued g k p i) p).afterIssue s.cur))) := by
  unfold runPart
  cases hh : s.headOf k with
  | none => exact .inl rfl
  | some x =>
    obtain ⟨g, p⟩ := x
    dsimp only
    have issue (h : verdict s s.cur g k p i = .go ∨ s.judged k p = true) :
        Host.Outcome.next (s.issuePart s.cur g k p i f) =
          (.next ((s.setGroup s.cur ((((g.switchV k p).retire k).passToken p i).dropOld)).noteIssue s.cur) : Host.Outcome State Fault Refusal) ∨
        ((verdict s s.cur g k p i = .go ∨ s.judged k p = true) ∧ g.predOn p i = true ∧
          Host.Outcome.next (s.issuePart s.cur g k p i f) =
            (.next ((f s s.cur (issued g k p i) p).afterIssue s.cur) : Host.Outcome State Fault Refusal)) := by
      unfold State.issuePart
      split
      · rename_i hp; exact .inr ⟨h, hp, rfl⟩
      · exact .inl rfl
    split
    · rename_i hj
      split
      · exact .inl rfl
      · exact .inr ⟨g, p, rfl, .inr (.inr (.inr (issue (.inr hj))))⟩
    split
    · exact .inl rfl
    · split
      · exact .inr ⟨g, p, rfl, .inl rfl⟩
      · rename_i code info addr hv
        split
        · exact .inl rfl
        · refine .inr ⟨g, p, rfl, .inr (.inl ⟨code, info, addr, hv, ?_⟩)⟩
          by_cases h8 : code = 8
          · subst h8; exact ⟨_, .inr (.inr rfl), by simp⟩
          · by_cases h7 : code = 7
            · subst h7; exact ⟨_, .inr (.inl rfl), by simp⟩
            · exact ⟨_, .inl rfl, by simp [h8, h7]⟩
      · rename_i code info hv
        split
        · exact .inr ⟨g, p, rfl, .inr (.inr (.inl ⟨code, info, hv, rfl⟩))⟩
        · exact .inl rfl
      · rename_i hv
        by_cases hc : (!s.hasTurn s.cur || (if raises g p i = true then trapsBefore s s.cur g k p else g.asyncDue)) = true
        · exact .inl (if_pos hc)
        · rw [if_neg hc]
          exact .inr ⟨g, p, rfl, .inr (.inr (.inr (issue (.inl hv))))⟩

/-- The part at the head of a slot is the current group's. -/
theorem headOf_group {s : State} {k : Slot} {g : Group} {p : Part} (h : s.headOf k = some (g,p)) : s.group s.cur = some g ∧ g.headPart k = some p := by
  unfold State.headOf at h
  split at h
  · rename_i g' hg
    cases hp : g'.headPart k with
    | none => simp [hp] at h
    | some q => simp [hp] at h; obtain ⟨rfl, rfl⟩ := h; exact ⟨hg, hp⟩
  · cases h

/-- Groups that agree on what scalar operands read agree on every one (02 Table 2.6). -/
theorem scalarSrc_congr (r : GRef) (g h : Group) (c : Nat) (hn : g.n = h.n) (he : g.e = h.e) (hl : g.loops = h.loops)
    (hi : g.gid = h.gid) (hw : g.win = h.win) : scalarSrc r g c = scalarSrc r h c := by
  cases g; cases h; simp only at hn he hl hi hw; subst hn he hl hi hw; rfl

/-- The issue of a part changes no scalar operand. -/
theorem scalarSrc_issued (r : GRef) (g : Group) (k : Slot) (p : Part) (i : Instr) (c : Nat) :
    scalarSrc r (issued g k p i) c = scalarSrc r g c := scalarSrc_congr r _ _ c (by simp) (by simp) (by simp) (by simp) (by simp)

/-- THE TRAP: an issuable part whose own rule traps takes the trap at its place. -/
theorem runPart_traps (k : Slot) (i : Instr) (s : State) (f : State → GRef → Group → Part → State) (g : Group) (p : Part)
    (code info addr : Nat)
    (hh : s.headOf k = some (g, p)) (h : issuable s g k p i = true) (ho : own s s.cur g k p i = .trap code info addr)
    (hd : g.headerHolds = false) (hf : trapsBefore s s.cur g k p = false) (h7 : code ≠ 7) (h8 : code ≠ 8) :
    runPart k i s f = .next (trapPart (s.noteIssue s.cur) s.cur (g.switchV k p) k code info addr) := by
  obtain ⟨hj, hs, hb, ht, hz, hz', hl, hp, -, hr, ha, hm, hc, -⟩ := (issuable_iff s g k p i).mp h
  have mine : verdictAlone s s.cur g k p i true = .trap code info addr := by
    simp [verdictAlone, hz', hl, hp, ho, Verdict.then]
  have mates : ∀ x ∈ (syncMates g k p).map (fun x => (x.1.num, verdictAlone s s.cur g x.1 x.2 x.2.instr true)), x.2 = .go := by
    intro x hx
    obtain ⟨y, hy, rfl⟩ := List.mem_map.mp hx
    simpa using List.all_eq_true.mp hm y hy
  have hv : verdict s s.cur g k p i = .trap code info addr := by
    unfold verdict
    simp only [mine]
    have a1 : ((syncMates g k p).map (fun x => (x.1.num, verdictAlone s s.cur g x.1 x.2 x.2.instr true))).any
      (fun x => x.2 == .wait) = false := by
      rw [List.any_eq_false]; intro x hx; simp [mates x hx]
    have a2 : ((syncMates g k p).map (fun x => (x.1.num, verdictAlone s s.cur g x.1 x.2 x.2.instr true))).any
      (fun x => x.2.traps && decide (x.1 < k.num)) = false := by
      rw [List.any_eq_false]; intro x hx; simp [mates x hx, Verdict.traps]
    simp only [a1, a2]
    simp [Verdict.traps]
  simp [runPart, hh, judged_none s k p hj, hs, hb, ht, hv, hd, hf, h7, h8]

end Sys2Proof.Machine
end

