-- ==== Sys2Proof/Laws/Memory.lean ====
section
/-!
SUPPORT. The laws of memory: a read after a write, what a write leaves alone, and that every memory operation keeps the canonical
form.
-/

namespace Sys2Proof.Machine

/-! ### Sparse maps -/

/-- A key below the lowest key of a canonical map reads as the default. -/
theorem SMap.get_below {α : Type} [DecidableEq α] (d : α) : ∀ (m : SMap α) (b a : Nat),
    SMap.wfFrom d (some b) m = true → a ≤ b → SMap.get d m a = d
  | [], _, _, _, _ => rfl
  | (k, v) :: rest, b, a, h, hab => by
    simp only [SMap.wfFrom, Bool.and_eq_true, decide_eq_true_eq] at h
    have hk : k ≠ a := by omega
    simp only [SMap.get, hk, if_false]
    exact SMap.get_below d rest k a h.2 (by omega)

/-- A canonical map above a bound is canonical above a lower one, and above none. -/
theorem SMap.wfFrom_weaken {α : Type} [DecidableEq α] (d : α) (m : SMap α) (b c : Nat) (hcb : c ≤ b)
    (h : SMap.wfFrom d (some b) m = true) : SMap.wfFrom d (some c) m = true := by
  cases m with
  | nil => rfl
  | cons x rest =>
    obtain ⟨k, v⟩ := x
    simp only [SMap.wfFrom, Bool.and_eq_true, decide_eq_true_eq] at h ⊢
    exact ⟨⟨by omega, h.1.2⟩, h.2⟩

/-- A canonical map above a bound is canonical. -/
theorem SMap.wf_of_from {α : Type} [DecidableEq α] (d : α) (m : SMap α) (b : Nat)
    (h : SMap.wfFrom d (some b) m = true) : SMap.wfFrom d none m = true := by
  cases m with
  | nil => rfl
  | cons x rest =>
    obtain ⟨k, v⟩ := x
    simp only [SMap.wfFrom, Bool.and_eq_true, decide_eq_true_eq] at h ⊢
    exact ⟨⟨trivial, h.1.2⟩, h.2⟩

/-- A write keeps the canonical form above a bound that its key lies above. -/
theorem SMap.set_wfFrom {α : Type} [DecidableEq α] (d : α) (a : Nat) (v : α) : ∀ (m : SMap α) (b : Nat),
    SMap.wfFrom d (some b) m = true → b < a → SMap.wfFrom d (some b) (SMap.set d m a v) = true
  | [], b, _, hab => by
    by_cases hv : v = d
    · simp [SMap.set, hv, SMap.wfFrom]
    · simp [SMap.set, hv, SMap.wfFrom, hab]
  | (k, w) :: rest, b, h, hab => by
    have h' := h
    simp only [SMap.wfFrom, Bool.and_eq_true, decide_eq_true_eq] at h
    obtain ⟨⟨hbk, hw⟩, hr⟩ := h
    by_cases h1 : a < k
    · by_cases hv : v = d
      · simpa [SMap.set, h1, hv] using h'
      · simp [SMap.set, h1, hv, SMap.wfFrom, hab, hw, hr]
    · by_cases h2 : a = k
      · by_cases hv : v = d
        · simpa [SMap.set, h1, h2, hv] using SMap.wfFrom_weaken d rest k b (by omega) hr
        · subst h2; simp [SMap.set, hv, SMap.wfFrom, hab, hr]
      · have := SMap.set_wfFrom d a v rest k hr (by omega)
        simp [SMap.set, h1, h2, SMap.wfFrom, hbk, hw, this]

/-- A write keeps the canonical form. -/
theorem SMap.set_wf {α : Type} [DecidableEq α] (d : α) (a : Nat) (v : α) (m : SMap α)
    (h : SMap.wfFrom d none m = true) : SMap.wfFrom d none (SMap.set d m a v) = true := by
  cases m with
  | nil =>
    by_cases hv : v = d
    · simp [SMap.set, hv, SMap.wfFrom]
    · simp [SMap.set, hv, SMap.wfFrom]
  | cons x rest =>
    obtain ⟨k, w⟩ := x
    have h' := h
    simp only [SMap.wfFrom, Bool.and_eq_true, decide_eq_true_eq] at h
    obtain ⟨⟨-, hw⟩, hr⟩ := h
    by_cases h1 : a < k
    · by_cases hv : v = d
      · simpa [SMap.set, h1, hv] using h'
      · simp [SMap.set, h1, hv, SMap.wfFrom, hw, hr]
    · by_cases h2 : a = k
      · by_cases hv : v = d
        · simpa [SMap.set, h1, h2, hv] using SMap.wf_of_from d rest k hr
        · subst h2; simp [SMap.set, hv, SMap.wfFrom, hr]
      · have := SMap.set_wfFrom d a v rest k hr (by omega)
        simp [SMap.set, h1, h2, SMap.wfFrom, hw, this]

/-- A read of the key written gives the value written, in a canonical map. -/
theorem SMap.get_set_same {α : Type} [DecidableEq α] (d : α) (a : Nat) (v : α) : ∀ (m : SMap α) (lo : Option Nat),
    SMap.wfFrom d lo m = true → SMap.get d (SMap.set d m a v) a = v
  | [], _, _ => by by_cases hv : v = d <;> simp [SMap.set, hv, SMap.get]
  | (k, w) :: rest, lo, h => by
    simp only [SMap.wfFrom, Bool.and_eq_true, decide_eq_true_eq] at h
    obtain ⟨-, hr⟩ := h
    by_cases h1 : a < k
    · by_cases hv : v = d
      · have hk : k ≠ a := by omega
        simp [SMap.set, h1, hv, SMap.get, hk, SMap.get_below d rest k a hr (by omega)]
      · simp [SMap.set, h1, hv, SMap.get]
    · by_cases h2 : a = k
      · by_cases hv : v = d
        · simp [SMap.set, h2, hv, SMap.get_below d rest k k hr le_rfl]
        · simp [SMap.set, h2, hv, SMap.get]
      · have hk : k ≠ a := fun e => h2 e.symm
        simp [SMap.set, h1, h2, SMap.get, hk, SMap.get_set_same d a v rest _ hr]

/-- A write leaves every other key alone. -/
theorem SMap.get_set_other {α : Type} [DecidableEq α] (d : α) (a b : Nat) (v : α) (hab : b ≠ a) : ∀ (m : SMap α) (lo : Option Nat),
    SMap.wfFrom d lo m = true → SMap.get d (SMap.set d m a v) b = SMap.get d m b
  | [], _, _ => by by_cases hv : v = d <;> simp [SMap.set, hv, SMap.get, hab.symm]
  | (k, w) :: rest, lo, h => by
    simp only [SMap.wfFrom, Bool.and_eq_true, decide_eq_true_eq] at h
    obtain ⟨-, hr⟩ := h
    by_cases h1 : a < k
    · by_cases hv : v = d <;> simp [SMap.set, h1, hv, SMap.get, hab.symm]
    · by_cases h2 : a = k
      · subst h2
        by_cases hv : v = d <;> simp [SMap.set, hv, SMap.get, hab.symm]
      · by_cases h3 : k = b
        · subst h3; simp [SMap.set, h1, h2, SMap.get]
        · simp [SMap.set, h1, h2, SMap.get, h3, SMap.get_set_other d a b v hab rest _ hr]

/-! ### Memory -/

/-- A write of a byte keeps the canonical form. -/
theorem Mem.write_wf (m : Mem) (a : Nat) (b : Byte) (h : Memory.wf m = true) : Memory.wf (m.write a b) = true :=
  SMap.set_wf _ a b m h

/-- A byte read where it was written. -/
theorem Mem.read_write_same (m : Mem) (a : Nat) (b : Byte) (h : Memory.wf m = true) : (m.write a b).read a = b :=
  SMap.get_set_same _ a b m none h

/-- A byte read elsewhere. -/
theorem Mem.read_write_other (m : Mem) (a c : Nat) (b : Byte) (h : Memory.wf m = true) (hc : c ≠ a) :
    (m.write a b).read c = m.read c :=
  SMap.get_set_other _ a c b hc m none h

/-- A write of bytes keeps the canonical form. -/
theorem Mem.writeN_wf : ∀ (l : List Byte) (m : Mem) (a : Nat), Memory.wf m = true → Memory.wf (m.writeN a l) = true
  | [], _, _, h => h
  | b :: rest, m, a, h => Mem.writeN_wf rest (m.write a b) (a + 1) (Mem.write_wf m a b h)

/-- A write of bytes leaves every byte outside them alone. -/
theorem Mem.read_writeN_outside : ∀ (l : List Byte) (m : Mem) (a c : Nat), Memory.wf m = true → (c < a ∨ a + l.length ≤ c) →
    (m.writeN a l).read c = m.read c
  | [], _, _, _, _, _ => rfl
  | b :: rest, m, a, c, h, hc => by
    simp only [List.length_cons] at hc
    rw [Mem.writeN, Mem.read_writeN_outside rest (m.write a b) (a + 1) c (Mem.write_wf m a b h) (by omega),
      Mem.read_write_other m a c b h (by omega)]

/-- A byte written among others is read back. -/
theorem Mem.read_writeN_inside : ∀ (l : List Byte) (m : Mem) (a i : Nat) (hi : i < l.length), Memory.wf m = true →
    (m.writeN a l).read (a + i) = l[i]
  | b :: rest, m, a, 0, _, h => by
    show ((m.write a b).writeN (a + 1) rest).read a = b
    rw [Mem.read_writeN_outside rest _ (a + 1) a (Mem.write_wf m a b h) (by omega),
      Mem.read_write_same m a b h]
  | b :: rest, m, a, i + 1, hi, h => by
    have := Mem.read_writeN_inside rest (m.write a b) (a + 1) i (by simpa using hi) (Mem.write_wf m a b h)
    rw [Mem.writeN, show a + (i + 1) = a + 1 + i by omega, this]
    rfl

/-- A canonical memory restricted to some addresses is canonical. -/
theorem SMap.filter_wf {α : Type} [DecidableEq α] (d : α) (f : Nat × α → Bool) : ∀ (m : SMap α) (lo : Option Nat),
    SMap.wfFrom d lo m = true → SMap.wfFrom d lo (m.filter f) = true
  | [], _, _ => rfl
  | (k, v) :: rest, lo, h => by
    simp only [SMap.wfFrom, Bool.and_eq_true, decide_eq_true_eq] at h
    obtain ⟨⟨hlo, hv⟩, hr⟩ := h
    have ih := SMap.filter_wf d f rest (some k) hr
    by_cases hf : f (k, v) = true
    · rw [List.filter_cons_of_pos hf]
      cases lo <;> simp_all [SMap.wfFrom]
    · rw [List.filter_cons_of_neg hf]
      cases lo with
      | none => exact SMap.wf_of_from d _ k ih
      | some b => exact SMap.wfFrom_weaken d _ k b (by simp at hlo; omega) ih

/-- Writes made one after the other keep the canonical form. -/
theorem Mem.foldWrite_wf (base : Nat) : ∀ (l : List (Nat × Byte)) (m : Mem), Memory.wf m = true →
    Memory.wf (l.foldl (fun (m : Mem) x => m.write (base + x.1) x.2) m) = true
  | [], _, h => h
  | _ :: rest, m, h => Mem.foldWrite_wf base rest _ (Mem.write_wf m _ _ h)

/-! ### The device's memories -/

/-- The state after reset has it. -/
theorem State.reset_memsWf : State.reset.memsWf := ⟨rfl, rfl⟩

/-- A fold of steps that each keep it. -/
theorem State.foldl_memsWf {β : Type} (f : State → β → State) (hf : ∀ s x, s.memsWf → (f s x).memsWf) :
    ∀ (l : List β) (s : State), s.memsWf → (l.foldl f s).memsWf
  | [], _, h => h
  | x :: rest, s, h => State.foldl_memsWf f hf rest (f s x) (hf s x h)

/-- Errors brought in by a fill mark granules and move no byte. -/
theorem State.llcSoak_memsWf (s : State) (k : Nat) (h : s.memsWf) : (s.llcSoak k).memsWf :=
  State.foldl_memsWf _ (fun st x hs => by
    split
    · exact hs
    · exact hs) _ s h

/-- Making room in a slice moves no byte. -/
theorem State.llcRoom_memsWf (s : State) (line : Nat) (h : s.memsWf) : (s.llcRoom line).memsWf := by
  unfold State.llcRoom
  dsimp only
  split <;> exact h

/-- A line held by its slice holds the bytes of its home. -/
theorem State.llcFill_memsWf (s : State) (pa : Nat) (dirty : Bool) (h : s.memsWf) : (s.llcFill pa dirty).memsWf := by
  unfold State.llcFill
  dsimp only
  split
  · exact h
  · exact State.llcSoak_memsWf _ _ (State.llcRoom_memsWf s _ h)

/-- An entry of the error log leaves memory alone. -/
theorem State.logError_memsWf (s : State) (task : Nat) (e : ErrEntry) (u : LampUnit) (h : s.memsWf) : (s.logError task e u).memsWf := by
  unfold State.logError
  split <;> exact h

/-- What a read met, entered in the log, leaves memory alone. -/
theorem State.logRead_memsWf (s : State) (task pa va : Nat) (h : s.memsWf) : (s.logRead task pa va).memsWf := by
  unfold State.logRead
  split
  · exact h
  · exact State.logError_memsWf s _ _ _ h
  · exact State.logError_memsWf s _ _ _ h

/-- What a fill from HBM logs leaves memory alone. -/
theorem State.logFill_memsWf (s : State) (task pa va : Nat) (l : List Nat) (h : s.memsWf) : (s.logFill task pa va l).memsWf := by
  unfold State.logFill
  dsimp only
  split
  · exact h
  · split
    · exact State.logRead_memsWf s _ _ _ h
    · exact h

/-- A fill from HBM that a task's work makes leaves memory alone. -/
theorem State.fillRead_memsWf (s : State) (task pa va : Nat) (dirty : Bool) (h : s.memsWf) : (s.fillRead task pa va dirty).memsWf :=
  State.llcFill_memsWf _ _ _ (State.logFill_memsWf s _ _ _ _ h)

/-- A write into a line that is present keeps it. -/
theorem State.llcMerge_memsWf (s : State) (pa : Nat) (h : s.memsWf) : (s.llcMerge pa).memsWf := by
  unfold State.llcMerge
  split
  · exact State.llcFill_memsWf s pa true h
  · exact h

/-- The write of a granule keeps it. -/
theorem State.putGranule_memsWf (s : State) (pa : Nat) (host : Bool) (bs : List Byte) (h : s.memsWf) :
    (s.putGranule pa host bs).memsWf := by
  unfold State.putGranule
  split
  · exact ⟨h.1, Mem.writeN_wf bs s.host pa h.2⟩
  · dsimp only
    apply State.llcMerge_memsWf
    split <;> exact ⟨Mem.writeN_wf bs s.mem pa h.1, h.2⟩

/-- A write at a physical address keeps it. -/
theorem State.physWrite_memsWf (s : State) (pa : Nat) (bs : List Byte) (h : s.memsWf) : (s.physWrite pa bs).memsWf :=
  State.foldl_memsWf _ (fun st _ hs => State.putGranule_memsWf st _ false _ hs) _ s h

/-- The host's writes keep it. -/
theorem State.hostWrite_memsWf (s : State) (dev : Bool) (a : Nat) (bs : List Byte) (h : s.memsWf) : (s.hostWrite dev a bs).memsWf := by
  unfold State.hostWrite
  split
  · split
    · exact State.physWrite_memsWf s a bs h
    · exact h
  · exact ⟨h.1, Mem.writeN_wf bs s.host a h.2⟩

/-- The write of a page-table entry keeps it. -/
theorem State.putPte_memsWf (s : State) (x : PteWrite) (h : s.memsWf) : (s.putPte x).memsWf := by
  unfold State.putPte
  split
  · exact State.putGranule_memsWf s _ _ _ h
  · exact h

/-- The writes of page-table entries keep it. -/
theorem State.pteWrites_memsWf (s : State) (l : List PteWrite) (h : s.memsWf) : (s.pteWrites l).memsWf :=
  State.foldl_memsWf _ (fun st x hs => State.putPte_memsWf st x hs) l s h

/-- The write of one byte keeps it. -/
theorem State.putByte_memsWf (s : State) (x : Nat × Bool) (b : Byte) (h : s.memsWf) : (s.putByte x b).memsWf := by
  unfold State.putByte
  split
  · exact ⟨h.1, Mem.write_wf s.host _ _ h.2⟩
  · exact ⟨Mem.write_wf s.mem _ _ h.1, h.2⟩

/-- A write of an engine keeps it. -/
theorem State.vwrite_memsWf (s : State) (u : XUnit) (asid va : Nat) (bs : List Byte) (h : s.memsWf) : (s.vwrite u asid va bs).memsWf :=
  State.foldl_memsWf _ (fun st x hs => by
    split
    · exact State.putGranule_memsWf st _ _ _ hs
    · exact hs) _ s h

/-- Replacing a core leaves device memory and host memory alone. -/
theorem State.setCore_memsWf (s : State) (c : Nat) (x : Core) (h : s.memsWf) : (s.setCore c x).memsWf := h

/-- Replacing a group leaves device memory and host memory alone. -/
theorem State.setGroup_memsWf (s : State) (r : GRef) (g : Group) (h : s.memsWf) : (s.setGroup r g).memsWf := by
  unfold State.setGroup
  split <;> exact h

/-- A store's piece keeps it. -/
theorem State.storePiece_memsWf (s : State) (r : GRef) (g : Group) (a : Access) (x : Piece) (h : s.memsWf) :
    (s.storePiece r g a x).1.memsWf := by
  unfold State.storePiece
  dsimp only
  split
  · exact h
  · exact ⟨h.1, Mem.writeN_wf _ _ _ h.2⟩
  · split
    · exact h
    · dsimp only
      apply State.setCore_memsWf
      apply State.putGranule_memsWf
      split
      · apply State.llcFill_memsWf
        split
        · exact h
        · exact State.logFill_memsWf s _ _ _ _ h
      · exact h

/-- The write of an atomic keeps it. -/
theorem State.atomicWrite_memsWf (s : State) (r : GRef) (x : Piece) (v : Nat) (h : s.memsWf) : (s.atomicWrite r x v).memsWf := by
  unfold State.atomicWrite
  split
  · exact h
  · exact State.setCore_memsWf _ _ _ (State.llcFill_memsWf _ _ _ (State.putGranule_memsWf s _ _ _ h))

/-! ### The scratchpad -/

/-- A write of hamper bytes keeps their canonical form. -/
theorem Core.padWrite_wf (c : Core) (off : Nat) (bs : List Byte) (h : Memory.wf c.hamper = true) :
    Memory.wf (c.padWrite off bs).hamper = true :=
  Mem.writeN_wf bs c.hamper off h

/-- It leaves every other hamper byte alone. -/
theorem Core.padWrite_outside (c : Core) (off a : Nat) (bs : List Byte) (h : Memory.wf c.hamper = true)
    (ha : a < off ∨ off + bs.length ≤ a) : (c.padWrite off bs).hamper.read a = c.hamper.read a :=
  Mem.read_writeN_outside bs c.hamper off a h ha

/-- A write of an accumulator entry keeps the store's canonical form. -/
theorem Core.accSet_wf (c : Core) (k : Nat) (v : Word) (h : SMap.wfFrom 0 none c.acc = true) :
    SMap.wfFrom 0 none (c.accSet k v).acc = true :=
  SMap.set_wf 0 k v c.acc h

end Sys2Proof.Machine
end

