-- ==== Sys2Proof/Tests/Slice0.lean ====
section
/-!
SUPPORT. The author's own tests: ill-formed instructions refused by name, words written out from the spec's encoding tables decoded,
a state and operands that meet the hypotheses of each clause of the statements, and a few single steps worked out by hand.
-/

open Sys2Proof Sys2Proof.Machine

namespace Sys2Proof.Tests

set_option maxRecDepth 20000

/-! ### Well-formedness -/

/-- Whether an instruction is refused under a name. -/
def refusedAs (e : DecodeError) (i : Instr) : Bool := i.illegal == some e

/-- 02 R43: source codes from 60 and destination codes between 16 and 62 are refused. -/
theorem test_wf_scalars :
    ([.add ⟨60, 0, 0, 0⟩, .sub ⟨0, 63, 0, 0⟩, .addi ⟨0, 60, 0, 0⟩, .jmp ⟨60, 0, 0⟩, .cmp ⟨0, 60, 0, 1, 0⟩, .csrw ⟨0x044, 60, 0⟩, .tcinv ⟨0, 61, 0⟩,
      .lea ⟨0, 62, 0, 0, 0⟩, .atadd ⟨0, 0, 2, 0, 60, 0, 0, 0⟩, .atcas ⟨0, 0, 4, 2, 3, 0, 0, 0⟩, .atswp ⟨0, 0, 4, 0, 16, 0, 0, 0⟩,
      .monw ⟨0, 0, 2, 60, 0, 0, 0, 0⟩, .binit ⟨0, 60, 0, 0, 0⟩] : List Instr).all (refusedAs .badScalarSource) = true ∧
    ([.add ⟨0, 0, 16, 0⟩, .clz ⟨0, 62, 0⟩, .lui ⟨0, 0, 40, 0⟩, .sel ⟨0, 0, 0, 0, 17, 0⟩, .scope ⟨62, 0⟩, .csrr ⟨0x010, 16, 0⟩, .errclr ⟨16, 0⟩,
      .grd ⟨0, 0, 16, 0⟩] : List Instr).all (refusedAs .badScalarDest) = true := by decide

/-- 04 R104, R120, R122, R125, R128, 02 R41, 14 R386: fields of the S slot that their entries exclude. -/
theorem test_wf_control :
    ([.shli ⟨64, 0, 0, 0⟩, .sari ⟨0x7FFF, 0, 0, 0⟩, .cmp ⟨12, 0, 0, 1, 0⟩, .cmp ⟨0, 0, 0, 0, 0⟩, .cmpi ⟨6, 0, 0, 1, 0⟩, .plog ⟨0, 0, 0, 0, 0⟩,
      .br ⟨5, 0, 0, 0⟩, .loop ⟨0, 0, 0, 0⟩, .loopi ⟨0, 0, 0x3FFFF, 0⟩, .lbrk ⟨6, 0, 0⟩, .grd ⟨0, 3, 0, 0⟩] : List Instr).all
      (refusedAs .badFieldValue) = true ∧
    ([.br ⟨0, 1, 0, 0⟩, .tcinv ⟨1, 1, 0⟩] : List Instr).all (refusedAs .reservedBits) = true ∧
    ([.csrr ⟨0x017, 0, 0⟩, .csrw ⟨0x020, 0, 0⟩, .csrs ⟨0x060, 0, 0⟩, .csrc ⟨0x070, 0, 0⟩] : List Instr).all (refusedAs .badSystemState) = true ∧
    refusedAs .badAccessCode (.binit ⟨6, 0, 0, 0, 0⟩) = true := by decide

/-- 05 R151 to R163, 06 R172: fields of the A slot. -/
theorem test_wf_access :
    ([.ld ⟨0, 0, 6, 0, 0, 0, 0⟩, .st ⟨0, 0, 7, 0, 0, 0, 0⟩, .pf ⟨0, 0, 6, 0, 0, 0, 0⟩, .atadd ⟨0, 0, 1, 0, 0, 0, 0, 0⟩, .atcas ⟨0, 0, 2, 0, 0, 0, 0, 0⟩,
      .atmin ⟨0, 6, 2, 0, 0, 0, 0, 0⟩, .monw ⟨0, 0, 1, 0, 0, 0, 0, 0⟩, .fence ⟨6, 0, 0⟩, .acq ⟨7, 1, 0⟩] : List Instr).all
      (refusedAs .badAccessCode) = true ∧
    ([.ld ⟨0, 0, 0, 0x181, 0, 0, 0⟩, .ldg ⟨0, 0, 0, 0x140, 0, 0, 0⟩, .st ⟨0, 0, 0, 0x1FF, 0, 0, 0⟩, .sts ⟨0, 0, 0, 0x1C0 + 60, 0, 0, 0⟩] : List Instr).all
      (refusedAs .badVectorOperand) = true ∧
    ([.st ⟨0, 1, 0, 0, 0, 0, 0⟩, .mark ⟨0, 0, 0⟩, .rel ⟨0, 0, 0⟩, .drain ⟨0, 0, 0⟩, .tkw ⟨0, 1, 0⟩] : List Instr).all (refusedAs .badFieldValue) = true ∧
    ([.pfna ⟨0, 0, 0, 1, 0, 0, 0⟩, .atadd ⟨0, 0, 2, 1, 0, 0, 0, 0⟩, .leax ⟨16, 0, 0, 0, 0⟩, .amov ⟨0, 0, 1, 0, 0⟩, .mark ⟨1, 1, 0⟩, .fence ⟨0, 1, 0⟩] :
      List Instr).all (refusedAs .reservedBits) = true := by decide

/-- 02 Table 2.5, 07 Table 7.1, R189 to R206, 03 R92 to R99: fields of the V slot. -/
theorem test_wf_vector :
    ([.vadd ⟨0, 0, 0, 1, 0, 0, 0, 0, 0⟩, .vmulh ⟨0, 0, 0, 15, 0, 0, 0, 0, 0⟩, .vdiv ⟨0, 0, 0, 4, 0, 0, 0, 0, 0⟩, .vmov ⟨0, 0, 0, 17, 0, 0, 0, 0, 0⟩,
      .vexp2 ⟨0, 0, 0, 13, 0, 0, 0, 0, 0⟩, .cvt ⟨0, 0, 0, 4, 17, 0, 0, 0, 0⟩, .quantDerive ⟨0, 0, 0, 15, 47, 0, 0, 0, 0⟩,
      .quantApply ⟨0, 0, 0, 12, 14, 0, 0, 0, 0⟩, .dquant ⟨0, 0, 0, 14, 12, 0, 0, 0, 0⟩, .pack ⟨0, 0, 0, 2, 4, 0, 0, 0, 0⟩,
      .unpack ⟨0, 0, 0, 4, 2, 0, 0, 0, 0⟩] : List Instr).all (refusedAs .badType) = true ∧
    ([.vadd ⟨0, 0, 0, 4, 0, 0, 0x110, 0, 0⟩, .vadd ⟨0, 0, 0, 4, 0, 0x144, 0, 0, 0⟩, .vadd ⟨0, 0, 0, 4, 0, 0, 0, 0x140, 0⟩,
      .vbcast ⟨0, 0, 0, 4, 0, 0, 0, 0, 0⟩, .viota ⟨0, 0, 0, 4, 0, 0x1C0, 0x1FC, 0, 0⟩, .vperm ⟨1, 0, 0, 4, 0, 0, 0x180, 0, 0⟩,
      .vcx ⟨2, 0, 0, 4, 1, 0, 0x180, 0, 0⟩, .vcxs ⟨2, 0, 0, 4, 1, 0x180, 0, 0, 0⟩, .cvt ⟨0, 0, 0, 4, 4, 0, 0x144, 0, 0⟩] : List Instr).all
      (refusedAs .badVectorOperand) = true ∧
    ([.vadd ⟨2, 0, 0, 4, 0, 0, 0, 0, 0⟩, .vnot ⟨0, 0, 0, 4, 0, 1, 0, 0, 0⟩, .vfma ⟨1, 0, 0, 4, 0, 0, 0, 0, 0⟩, .vcx ⟨1, 0, 0, 4, 1, 0, 0, 0, 0⟩,
      .vcx ⟨0, 0, 0, 4, 0x41, 0, 0, 0, 0⟩, .cvt ⟨32, 0, 0, 4, 4, 0, 0, 0, 0⟩, .cvt ⟨0, 0, 0, 4, 36, 0, 0, 0, 0⟩,
      .quantDerive ⟨0, 0, 1, 12, 47, 0, 0, 0, 0⟩, .unpack ⟨2, 0, 0, 3, 2, 0, 0, 0, 0⟩] : List Instr).all (refusedAs .reservedBits) = true ∧
    ([.vadd ⟨1, 0, 0, 15, 0, 0, 0, 0, 0⟩, .vcmp ⟨6, 0, 0, 4, 0, 0, 0, 0, 0⟩, .vperm ⟨3, 0, 0, 4, 0, 0, 0, 0, 0⟩, .vshuf ⟨5, 0, 0, 4, 0, 0, 0, 0, 0⟩,
      .vscan ⟨3, 0, 0, 4, 0, 0, 0, 0, 0⟩, .vcx ⟨0x40, 0, 0, 4, 16, 0, 0, 0, 0⟩, .vcx ⟨8, 0, 0, 4, 1, 0, 0, 0, 0⟩, .vcx ⟨0, 0, 0, 4, 17, 0, 0, 0, 0⟩,
      .vins ⟨9, 0, 0, 4, 0, 0, 0, 0, 0⟩, .cvt ⟨1, 0, 0, 4, 4, 0, 0, 0, 0⟩, .quantApply ⟨4, 0, 0, 12, 15, 0, 0, 0, 0⟩] : List Instr).all
      (refusedAs .badFieldValue) = true := by decide

/-- 08 R227, 11 R297: fields of the M and C slots. -/
theorem test_wf_matrix_copy :
    ([.mlease ⟨5, 0⟩, .mcfgr ⟨3, 0, 0⟩, .mcfgr ⟨7, 0, 0⟩, .cpyq ⟨2, 0, 0, 0⟩] : List Instr).all (refusedAs .badFieldValue) = true ∧
    ([.mstep ⟨0, 1, 0, 0, 0⟩, .cpy ⟨0, 1, 0, 0, 0⟩, .gstep ⟨0, 15, 0, 0, 0⟩] : List Instr).all (refusedAs .reservedBits) = true := by decide

/-! ### Decoding -/

/-- Whether a part's word decodes to an instruction. -/
def reads (w : PartWord) (i : Instr) : Bool :=
  match decodePart w with
  | .ok j => j == i
  | .error _ => false

/-- Whether a part's word is refused under a name. -/
def rejects (w : PartWord) (e : DecodeError) : Bool :=
  match decodePart w with
  | .ok _ => false
  | .error x => x == e

/-- 02 R48 to R53: opcodes that no map lists; 02 R30: a NOP with another bit set; 02 R47: a bit that must be zero. -/
theorem test_decode_illegal : [
    rejects (.s 0x2B#40) .unassignedOpcode, rejects (.s 0x2F#40) .unassignedOpcode, rejects (.s 0x33#40) .unassignedOpcode,
    rejects (.s 0x4A#40) .unassignedOpcode, rejects (.s 0x57#40) .unassignedOpcode, rejects (.s 0x61#40) .unassignedOpcode,
    rejects (.s 0x76#40) .unassignedOpcode, rejects (.s 0x84#40) .unassignedOpcode, rejects (.s 0xFF#40) .unassignedOpcode,
    rejects (.a 0x0C#40) .unassignedOpcode, rejects (.a 0x1B#40) .unassignedOpcode, rejects (.a 0x24#40) .unassignedOpcode,
    rejects (.a 0x38#40) .unassignedOpcode, rejects (.v 0x0E#64) .unassignedOpcode, rejects (.v 0x19#64) .unassignedOpcode,
    rejects (.v 0x28#64) .unassignedOpcode, rejects (.v 0x36#64) .unassignedOpcode, rejects (.v 0x44#64) .unassignedOpcode,
    rejects (.v 0x54#64) .unassignedOpcode, rejects (.v 0x65#64) .unassignedOpcode, rejects (.m 0x0C#32) .unassignedOpcode,
    rejects (.c 0x0B#32) .unassignedOpcode, rejects (.k 0x4#16) .unassignedOpcode, rejects (.k 0xF#16) .unassignedOpcode,
    rejects (.s 0x100#40) .nopBits, rejects (.a 0x8000000000#40) .nopBits, rejects (.v 0x100#64) .nopBits, rejects (.m 0x80000000#32) .nopBits,
    rejects (.c 0x100#32) .nopBits, rejects (.k 0x8000#16) .nopBits,
    rejects (.s 0x0080000001#40) .reservedBits, rejects (.s 0x0002000016#40) .reservedBits, rejects (.s 0x0000080040#40) .reservedBits, rejects (.s 0x0000002046#40) .reservedBits].all id = true := by decide
/-- 02 Table 2.9 opcodes 0x00 to 0x1F with the fields of 04 R118, R120: sb 12, sa 33 (li1), dst 5, predicate !p9; imm −3, a shift by 63. -/
theorem test_decode_integers : [
    reads (.s 0x0000000000#40) (.nop),
    reads (.s 0x001908B901#40) (.add ⟨12, 33, 5, 0x19⟩),
    reads (.s 0x001908B902#40) (.sub ⟨12, 33, 5, 0x19⟩),
    reads (.s 0x001908B903#40) (.mul ⟨12, 33, 5, 0x19⟩),
    reads (.s 0x001908B904#40) (.mulh ⟨12, 33, 5, 0x19⟩),
    reads (.s 0x001908B905#40) (.mulhu ⟨12, 33, 5, 0x19⟩),
    reads (.s 0x001908B906#40) (.div ⟨12, 33, 5, 0x19⟩),
    reads (.s 0x001908B907#40) (.divu ⟨12, 33, 5, 0x19⟩),
    reads (.s 0x001908B908#40) (.rem ⟨12, 33, 5, 0x19⟩),
    reads (.s 0x001908B909#40) (.remu ⟨12, 33, 5, 0x19⟩),
    reads (.s 0x001908B90A#40) (.and ⟨12, 33, 5, 0x19⟩),
    reads (.s 0x001908B90B#40) (.or ⟨12, 33, 5, 0x19⟩),
    reads (.s 0x001908B90C#40) (.xor ⟨12, 33, 5, 0x19⟩),
    reads (.s 0x001908B90D#40) (.andn ⟨12, 33, 5, 0x19⟩),
    reads (.s 0x001908B90E#40) (.shl ⟨12, 33, 5, 0x19⟩),
    reads (.s 0x001908B90F#40) (.shr ⟨12, 33, 5, 0x19⟩),
    reads (.s 0x001908B910#40) (.sar ⟨12, 33, 5, 0x19⟩),
    reads (.s 0x001908B911#40) (.rotr ⟨12, 33, 5, 0x19⟩),
    reads (.s 0x001908B912#40) (.min ⟨12, 33, 5, 0x19⟩),
    reads (.s 0x001908B913#40) (.max ⟨12, 33, 5, 0x19⟩),
    reads (.s 0x001908B914#40) (.minu ⟨12, 33, 5, 0x19⟩),
    reads (.s 0x001908B915#40) (.maxu ⟨12, 33, 5, 0x19⟩),
    reads (.s 0x000108B916#40) (.clz ⟨33, 5, 0x19⟩),
    reads (.s 0x000108B917#40) (.popc ⟨33, 5, 0x19⟩),
    reads (.s 0xFFFB0FF918#40) (.addi ⟨0x7FFD, 33, 63, 0x19⟩),
    reads (.s 0xFFFB0FF919#40) (.andi ⟨0x7FFD, 33, 63, 0x19⟩),
    reads (.s 0xFFFB0FF91A#40) (.ori ⟨0x7FFD, 33, 63, 0x19⟩),
    reads (.s 0xFFFB0FF91B#40) (.xori ⟨0x7FFD, 33, 63, 0x19⟩),
    reads (.s 0x007F08B91C#40) (.shli ⟨63, 33, 5, 0x19⟩),
    reads (.s 0x007F08B91D#40) (.shri ⟨63, 33, 5, 0x19⟩),
    reads (.s 0x007F08B91E#40) (.sari ⟨63, 33, 5, 0x19⟩),
    reads (.s 0xFFFF08B91F#40) (.lui ⟨0x7FFF, 33, 5, 0x19⟩)].all id = true := by decide

/-- 02 Table 2.9 opcodes 0x20 to 0x32 with the fields of 04 R117, R122 to R128 and 03 R90. -/
theorem test_decode_control : [
    reads (.s 0x059908B920#40) (.cmp ⟨11, 12, 33, 5, 0x19⟩),
    reads (.s 0x5FF308B921#40) (.cmpi ⟨5, 0x7F9, 33, 5, 0x19⟩),
    reads (.s 0x0B1908B922#40) (.sel ⟨1, 6, 12, 33, 5, 0x19⟩),
    reads (.s 0x070638B923#40) (.plog ⟨14, 3, 7, 5, 0x19⟩),
    reads (.s 0x90FFFFD924#40) (.br ⟨4, 33, 0x3FFFE, 0x19⟩),
    reads (.s 0x000108B925#40) (.jmp ⟨33, 5, 0x19⟩),
    reads (.s 0x0040001926#40) (.call ⟨0x20000, 0x19⟩),
    reads (.s 0x0000001927#40) (.ret ⟨0x19⟩),
    reads (.s 0xD0BFFFF928#40) (.loop ⟨6, 33, 0x1FFFF, 0x19⟩),
    reads (.s 0xFF80003929#40) (.loopi ⟨7, 63, 1, 0x19⟩),
    reads (.s 0xA00001392A#40) (.lbrk ⟨5, 9, 0x19⟩),
    reads (.s 0xD31908B930#40) (.gset ⟨13, 6, 12, 33, 5, 0x19⟩),
    reads (.s 0xD80000B931#40) (.grd ⟨13, 2, 5, 0x19⟩),
    reads (.s 0x000108B932#40) (.gclr ⟨33, 5, 0x19⟩)].all id = true := by decide

/-- 02 Table 2.9 opcodes 0x40 to 0x60 with the fields of 09 Table 9.1, 10 Table 10.3, 12 Table 12.1: wick 2, n13; XSTAT sel 5. -/
theorem test_decode_longs : [
    reads (.s 0x000005B940#40) (.xmm ⟨2, 13, 0x19⟩),
    reads (.s 0x000005B941#40) (.xconv ⟨2, 13, 0x19⟩),
    reads (.s 0x000005B942#40) (.xgath ⟨2, 13, 0x19⟩),
    reads (.s 0x000005B943#40) (.xsort ⟨2, 13, 0x19⟩),
    reads (.s 0x000005B944#40) (.xtopk ⟨2, 13, 0x19⟩),
    reads (.s 0x000005B945#40) (.xnorm ⟨2, 13, 0x19⟩),
    reads (.s 0x0000041946#40) (.xwait ⟨2, 0x19⟩),
    reads (.s 0x00002C1947#40) (.xstat ⟨5, 2, 0x19⟩),
    reads (.s 0x0000041948#40) (.xres ⟨2, 0x19⟩),
    reads (.s 0x0000041949#40) (.xdrop ⟨2, 0x19⟩),
    reads (.s 0x000005B950#40) (.xattn ⟨2, 13, 0x19⟩),
    reads (.s 0x000005B951#40) (.kvshoot ⟨2, 13, 0x19⟩),
    reads (.s 0x000005B952#40) (.kvfreq ⟨2, 13, 0x19⟩),
    reads (.s 0x000005B953#40) (.kvapp ⟨2, 13, 0x19⟩),
    reads (.s 0x000005B954#40) (.kvpre ⟨2, 13, 0x19⟩),
    reads (.s 0x000005B958#40) (.callred ⟨2, 13, 0x19⟩),
    reads (.s 0x000005B959#40) (.credsc ⟨2, 13, 0x19⟩),
    reads (.s 0x000005B95A#40) (.cgath ⟨2, 13, 0x19⟩),
    reads (.s 0x000005B95B#40) (.cbcast ⟨2, 13, 0x19⟩),
    reads (.s 0x000005B95C#40) (.ca2a ⟨2, 13, 0x19⟩),
    reads (.s 0x000005B95D#40) (.csend ⟨2, 13, 0x19⟩),
    reads (.s 0x000005B95E#40) (.crecv ⟨2, 13, 0x19⟩),
    reads (.s 0x000005B95F#40) (.cring ⟨2, 13, 0x19⟩),
    reads (.s 0x000005B960#40) (.ctopk ⟨2, 13, 0x19⟩)].all id = true := by decide

/-- 02 Table 2.9 opcodes 0x68 to 0x83 with the fields of 13 Table 13.10 and 14 Table 14.10. -/
theorem test_decode_system : [
    reads (.s 0x000108B968#40) (.spawn ⟨33, 5, 0x19⟩),
    reads (.s 0x001908B969#40) (.spawni ⟨12, 33, 5, 0x19⟩),
    reads (.s 0x000000B96A#40) (.scope ⟨5, 0x19⟩),
    reads (.s 0x000108B96B#40) (.sclose ⟨33, 5, 0x19⟩),
    reads (.s 0x001908B96C#40) (.snuff ⟨12, 33, 5, 0x19⟩),
    reads (.s 0x000108B96D#40) (.snuffw ⟨33, 5, 0x19⟩),
    reads (.s 0x029908B96E#40) (.binit ⟨5, 12, 33, 5, 0x19⟩),
    reads (.s 0x000108B96F#40) (.barr ⟨33, 5, 0x19⟩),
    reads (.s 0x001908B970#40) (.bwait ⟨12, 33, 5, 0x19⟩),
    reads (.s 0x0000001971#40) (.yield ⟨0x19⟩),
    reads (.s 0x000108B972#40) (.prio ⟨33, 5, 0x19⟩),
    reads (.s 0x000108B973#40) (.dline ⟨33, 5, 0x19⟩),
    reads (.s 0x0000001974#40) (.endGroup ⟨0x19⟩),
    reads (.s 0x0000001975#40) (.tail ⟨0x19⟩),
    reads (.s 0xFFFE001978#40) (.trap ⟨0x7FFF, 0x19⟩),
    reads (.s 0x0080001979#40) (.rtt ⟨1, 0x19⟩),
    reads (.s 0x008A00B97A#40) (.csrr ⟨0x045, 5, 0x19⟩),
    reads (.s 0x008908197B#40) (.csrw ⟨0x044, 33, 0x19⟩),
    reads (.s 0x008908197C#40) (.csrs ⟨0x044, 33, 0x19⟩),
    reads (.s 0x008908197D#40) (.csrc ⟨0x044, 33, 0x19⟩),
    reads (.s 0x000108B97E#40) (.xlat ⟨33, 5, 0x19⟩),
    reads (.s 0x008000197F#40) (.tcinv ⟨1, 0, 0x19⟩),
    reads (.s 0x008108B980#40) (.errrd ⟨1, 33, 5, 0x19⟩),
    reads (.s 0x000000B981#40) (.errclr ⟨5, 0x19⟩),
    reads (.s 0x001908B982#40) (.lamp ⟨12, 33, 5, 0x19⟩),
    reads (.s 0xFF80001983#40) (.brk ⟨511, 0x19⟩)].all id = true := by decide

/-- 02 Table 2.10 with the fields of 05 R151 to R163 and 06 Table 6.3: off −16, size 3, base a13, stream 6. -/
theorem test_decode_accesses : [
    reads (.a 0x0000000000#40) (.anop),
    reads (.a 0x84F0DAD901#40) (.ld ⟨16, 2, 3, 0x186, 13, 6, 0x19⟩),
    reads (.a 0x84F0DAD902#40) (.ldna ⟨16, 2, 3, 0x186, 13, 6, 0x19⟩),
    reads (.a 0x84F0DAD903#40) (.ldbp ⟨16, 2, 3, 0x186, 13, 6, 0x19⟩),
    reads (.a 0x84F0DAD904#40) (.ldg ⟨16, 2, 3, 0x186, 13, 6, 0x19⟩),
    reads (.a 0x817F7AD905#40) (.st ⟨16, 0, 5, 0x1FB, 13, 6, 0x19⟩),
    reads (.a 0x817F7AD906#40) (.stna ⟨16, 0, 5, 0x1FB, 13, 6, 0x19⟩),
    reads (.a 0x817F7AD907#40) (.stbp ⟨16, 0, 5, 0x1FB, 13, 6, 0x19⟩),
    reads (.a 0x817F7AD908#40) (.sts ⟨16, 0, 5, 0x1FB, 13, 6, 0x19⟩),
    reads (.a 0x80C01AD909#40) (.pf ⟨16, 0, 3, 0, 13, 6, 0x19⟩),
    reads (.a 0x80C01AD90A#40) (.pfna ⟨16, 0, 3, 0, 13, 6, 0x19⟩),
    reads (.a 0xA6643AD90B#40) (.monw ⟨1, 2, 3, 12, 33, 13, 6, 0x19⟩),
    reads (.a 0xD4043AD910#40) (.atadd ⟨1, 5, 2, 0, 33, 13, 6, 0x19⟩),
    reads (.a 0xD4043AD911#40) (.atfadd ⟨1, 5, 2, 0, 33, 13, 6, 0x19⟩),
    reads (.a 0xD4043AD912#40) (.atmin ⟨1, 5, 2, 0, 33, 13, 6, 0x19⟩),
    reads (.a 0xD4043AD913#40) (.atmax ⟨1, 5, 2, 0, 33, 13, 6, 0x19⟩),
    reads (.a 0xD4043AD914#40) (.atminu ⟨1, 5, 2, 0, 33, 13, 6, 0x19⟩),
    reads (.a 0xD4043AD915#40) (.atmaxu ⟨1, 5, 2, 0, 33, 13, 6, 0x19⟩),
    reads (.a 0xD4043AD916#40) (.atand ⟨1, 5, 2, 0, 33, 13, 6, 0x19⟩),
    reads (.a 0xD4043AD917#40) (.ator ⟨1, 5, 2, 0, 33, 13, 6, 0x19⟩),
    reads (.a 0xD4043AD918#40) (.atxor ⟨1, 5, 2, 0, 33, 13, 6, 0x19⟩),
    reads (.a 0xD801DAD919#40) (.atswp ⟨1, 5, 4, 0, 14, 13, 6, 0x19⟩),
    reads (.a 0x5851DAD91A#40) (.atcas ⟨0, 5, 4, 10, 14, 13, 6, 0x19⟩),
    reads (.a 0xFFFC2F3920#40) (.lea ⟨0x1FFF, 33, 7, 9, 0x19⟩),
    reads (.a 0x007C2F3921#40) (.leax ⟨15, 33, 7, 9, 0x19⟩),
    reads (.a 0xFFFC213922#40) (.amov ⟨0x1FFF, 33, 0, 9, 0x19⟩),
    reads (.a 0xFFFC2F3923#40) (.ainc ⟨0x1FFF, 33, 7, 9, 0x19⟩),
    reads (.a 0x0010005930#40) (.mark ⟨0, 0x8002, 0x19⟩),
    reads (.a 0x00A0001931#40) (.fence ⟨5, 0x0000, 0x19⟩),
    reads (.a 0x00B0005932#40) (.fenceX ⟨5, 0x8002, 0x19⟩),
    reads (.a 0x00B0005933#40) (.acq ⟨5, 0x8002, 0x19⟩),
    reads (.a 0x00B0005934#40) (.rel ⟨5, 0x8002, 0x19⟩),
    reads (.a 0x00B0005935#40) (.acqrel ⟨5, 0x8002, 0x19⟩),
    reads (.a 0x0010005936#40) (.drain ⟨0, 0x8002, 0x19⟩),
    reads (.a 0x00B0005937#40) (.tkw ⟨5, 0x8002, 0x19⟩)].all id = true := by decide

/-- 02 Table 2.11 opcodes 0x00 to 0x27 with the fields of 07 R189 to R200: va q3, vb o2, vc b1, vd v10. -/
theorem test_decode_vectors : [
    reads (.v 0x0000000000000000#64) (.vnop),
    reads (.v 0x0248008160C15901#64) (.vadd ⟨1, 0, 1, 4, 0x000, 0x102, 0x183, 0x00A, 0x19⟩),
    reads (.v 0x0248008160C15902#64) (.vsub ⟨1, 0, 1, 4, 0x000, 0x102, 0x183, 0x00A, 0x19⟩),
    reads (.v 0x0248008160C15903#64) (.vmul ⟨1, 0, 1, 4, 0x000, 0x102, 0x183, 0x00A, 0x19⟩),
    reads (.v 0x0048008160C15904#64) (.vmulh ⟨0, 0, 1, 4, 0x000, 0x102, 0x183, 0x00A, 0x19⟩),
    reads (.v 0x019E008160C15905#64) (.vdiv ⟨0, 1, 2, 15, 0x000, 0x102, 0x183, 0x00A, 0x19⟩),
    reads (.v 0x01E0000060C15906#64) (.vsqrt ⟨0, 1, 3, 16, 0x000, 0x000, 0x183, 0x00A, 0x19⟩),
    reads (.v 0x001A008160C15907#64) (.vmin ⟨0, 0, 0, 13, 0x000, 0x102, 0x183, 0x00A, 0x19⟩),
    reads (.v 0x001A008160C15908#64) (.vmax ⟨0, 0, 0, 13, 0x000, 0x102, 0x183, 0x00A, 0x19⟩),
    reads (.v 0x0212000060C15909#64) (.vabs ⟨1, 0, 0, 9, 0x000, 0x000, 0x183, 0x00A, 0x19⟩),
    reads (.v 0x0212000060C1590A#64) (.vneg ⟨1, 0, 0, 9, 0x000, 0x000, 0x183, 0x00A, 0x19⟩),
    reads (.v 0x01DF418160C1590B#64) (.vfma ⟨0, 1, 3, 15, 0x141, 0x102, 0x183, 0x00A, 0x19⟩),
    reads (.v 0x01DF418160C1590C#64) (.vfms ⟨0, 1, 3, 15, 0x141, 0x102, 0x183, 0x00A, 0x19⟩),
    reads (.v 0x01DF418160C1590D#64) (.vfnma ⟨0, 1, 3, 15, 0x141, 0x102, 0x183, 0x00A, 0x19⟩),
    reads (.v 0x000C008160C15910#64) (.vand ⟨0, 0, 0, 6, 0x000, 0x102, 0x183, 0x00A, 0x19⟩),
    reads (.v 0x000C008160C15911#64) (.vor ⟨0, 0, 0, 6, 0x000, 0x102, 0x183, 0x00A, 0x19⟩),
    reads (.v 0x000C008160C15912#64) (.vxor ⟨0, 0, 0, 6, 0x000, 0x102, 0x183, 0x00A, 0x19⟩),
    reads (.v 0x000C000060C15913#64) (.vnot ⟨0, 0, 0, 6, 0x000, 0x000, 0x183, 0x00A, 0x19⟩),
    reads (.v 0x000C008160C15914#64) (.vshl ⟨0, 0, 0, 6, 0x000, 0x102, 0x183, 0x00A, 0x19⟩),
    reads (.v 0x000C008160C15915#64) (.vshr ⟨0, 0, 0, 6, 0x000, 0x102, 0x183, 0x00A, 0x19⟩),
    reads (.v 0x000C008160C15916#64) (.vsar ⟨0, 0, 0, 6, 0x000, 0x102, 0x183, 0x00A, 0x19⟩),
    reads (.v 0x000C000060C15917#64) (.vclz ⟨0, 0, 0, 6, 0x000, 0x000, 0x183, 0x00A, 0x19⟩),
    reads (.v 0x000C000060C15918#64) (.vpopc ⟨0, 0, 0, 6, 0x000, 0x000, 0x183, 0x00A, 0x19⟩),
    reads (.v 0x0E1E008160C15920#64) (.vcmp ⟨7, 0, 0, 15, 0x000, 0x102, 0x183, 0x00A, 0x19⟩),
    reads (.v 0x0001418160C15921#64) (.vsel ⟨0, 0, 0, 0, 0x141, 0x102, 0x183, 0x00A, 0x19⟩),
    reads (.v 0x0002000060F0B922#64) (.vmov ⟨0, 0, 0, 1, 0x000, 0x000, 0x183, 0x185, 0x19⟩),
    reads (.v 0x001400F0E0C15923#64) (.vbcast ⟨0, 0, 0, 10, 0x000, 0x1E1, 0x183, 0x00A, 0x19⟩),
    reads (.v 0x0420008110015924#64) (.vperm ⟨2, 0, 0, 16, 0x000, 0x102, 0x040, 0x00A, 0x19⟩),
    reads (.v 0x0620008160C15925#64) (.vshuf ⟨3, 0, 0, 16, 0x000, 0x102, 0x183, 0x00A, 0x19⟩),
    reads (.v 0x002000FDE0C15926#64) (.vrot ⟨0, 0, 0, 16, 0x000, 0x1FB, 0x183, 0x00A, 0x19⟩),
    reads (.v 0x000A00F0F33FF927#64) (.viota ⟨0, 0, 0, 5, 0x000, 0x1E1, 0x1CC, 0x1FF, 0x19⟩)].all id = true := by decide

/-- 02 Table 2.11 opcodes 0x30 to 0x64 with the fields of 07 R201 to R205 and 03 R92 to R98. -/
theorem test_decode_vectorsMore : [
    reads (.v 0x019E000060C15930#64) (.vexp2 ⟨0, 1, 2, 15, 0x000, 0x000, 0x183, 0x00A, 0x19⟩),
    reads (.v 0x019E000060C15931#64) (.vlog2 ⟨0, 1, 2, 15, 0x000, 0x000, 0x183, 0x00A, 0x19⟩),
    reads (.v 0x019E000060C15932#64) (.vrcp ⟨0, 1, 2, 15, 0x000, 0x000, 0x183, 0x00A, 0x19⟩),
    reads (.v 0x019E000060C15933#64) (.vrsq ⟨0, 1, 2, 15, 0x000, 0x000, 0x183, 0x00A, 0x19⟩),
    reads (.v 0x019E000060C15934#64) (.vsin ⟨0, 1, 2, 15, 0x000, 0x000, 0x183, 0x00A, 0x19⟩),
    reads (.v 0x019E000060C15935#64) (.vcos ⟨0, 1, 2, 15, 0x000, 0x000, 0x183, 0x00A, 0x19⟩),
    reads (.v 0x019A00F0E0C15940#64) (.vreda ⟨0, 1, 2, 13, 0x000, 0x1E1, 0x183, 0x00A, 0x19⟩),
    reads (.v 0x019A00F0E0C15941#64) (.vredx ⟨0, 1, 2, 13, 0x000, 0x1E1, 0x183, 0x00A, 0x19⟩),
    reads (.v 0x019A00F0E0C15942#64) (.vredn ⟨0, 1, 2, 13, 0x000, 0x1E1, 0x183, 0x00A, 0x19⟩),
    reads (.v 0x0D9A008160C15943#64) (.vscan ⟨6, 1, 2, 13, 0x000, 0x102, 0x183, 0x00A, 0x19⟩),
    reads (.v 0x341E250010011950#64) (.vcx ⟨26, 0, 0, 15, 0x025, 0x000, 0x040, 0x008, 0x19⟩),
    reads (.v 0x341E054010011951#64) (.vcxs ⟨26, 0, 0, 15, 0x005, 0x080, 0x040, 0x008, 0x19⟩),
    reads (.v 0x101E008160C15952#64) (.vins ⟨8, 0, 0, 15, 0x000, 0x102, 0x183, 0x00A, 0x19⟩),
    reads (.v 0x301F418160C15953#64) (.vinsm ⟨24, 0, 0, 15, 0x141, 0x102, 0x183, 0x00A, 0x19⟩),
    reads (.v 0x07840F0060C15960#64) (.cvt ⟨3, 1, 2, 2, 0x00F, 0x000, 0x183, 0x00A, 0x19⟩),
    reads (.v 0x01182F0060C15961#64) (.quantDerive ⟨0, 1, 0, 12, 0x02F, 0x000, 0x183, 0x00A, 0x19⟩),
    reads (.v 0x07980F8160C15961#64) (.quantApply ⟨3, 1, 2, 12, 0x00F, 0x102, 0x183, 0x00A, 0x19⟩),
    reads (.v 0x079E0C8160C15962#64) (.dquant ⟨3, 1, 2, 15, 0x00C, 0x102, 0x183, 0x00A, 0x19⟩),
    reads (.v 0x0004038160C15963#64) (.pack ⟨0, 0, 0, 2, 0x003, 0x102, 0x183, 0x00A, 0x19⟩),
    reads (.v 0x0206020060C15964#64) (.unpack ⟨1, 0, 0, 3, 0x002, 0x000, 0x183, 0x00A, 0x19⟩)].all id = true := by decide

/-- 02 Tables 2.12, 2.13 and R53 with the fields of 08 Table 8.4, 11 Table 11.3 and 03 R83; the last copies are the worked words of 11 R297 and 03 R83. -/
theorem test_decode_matrixAndCopy : [
    reads (.m 0x00000000#32) (.mnop),
    reads (.m 0x06001901#32) (.mlease ⟨12, 0x19⟩),
    reads (.m 0x00001902#32) (.mrel ⟨0x19⟩),
    reads (.m 0x00681903#32) (.mcfg ⟨13, 0x19⟩),
    reads (.m 0x07E81904#32) (.mcfgr ⟨15, 13, 0x19⟩),
    reads (.m 0x0068D905#32) (.mfset ⟨13, 6, 0x19⟩),
    reads (.m 0x0068D906#32) (.mfadv ⟨13, 6, 0x19⟩),
    reads (.m 0x00001907#32) (.mwaitSteps ⟨0x19⟩),
    reads (.m 0x00801907#32) (.mwaitLease ⟨0x19⟩),
    reads (.m 0x0683D908#32) (.mstep ⟨1, 5, 3, 6, 0x19⟩),
    reads (.m 0x0683D909#32) (.mstepz ⟨1, 5, 3, 6, 0x19⟩),
    reads (.m 0x0683D90A#32) (.mstept ⟨1, 5, 3, 6, 0x19⟩),
    reads (.m 0x0000190B#32) (.mzero ⟨0x19⟩),
    reads (.c 0x00000000#32) (.cnop),
    reads (.c 0x01767901#32) (.cpy ⟨1, 7, 6, 3, 0x19⟩),
    reads (.c 0x01767902#32) (.cpy2 ⟨1, 7, 6, 3, 0x19⟩),
    reads (.c 0x01767903#32) (.cpyh ⟨1, 7, 6, 3, 0x19⟩),
    reads (.c 0x01767904#32) (.cpln ⟨1, 7, 6, 3, 0x19⟩),
    reads (.c 0x01767905#32) (.accld ⟨1, 7, 6, 3, 0x19⟩),
    reads (.c 0x01767906#32) (.accst ⟨1, 7, 6, 3, 0x19⟩),
    reads (.c 0x00067907#32) (.cpyl ⟨6, 3, 0x19⟩),
    reads (.c 0x00767908#32) (.stamp ⟨7, 6, 3, 0x19⟩),
    reads (.c 0x01767909#32) (.gstep ⟨1, 7, 6, 3, 0x19⟩),
    reads (.c 0x0170790A#32) (.cpyq ⟨1, 7, 3, 0x19⟩),
    reads (.c 0x00066001#32) (.cpy ⟨0, 0, 6, 3, 0⟩),
    reads (.c 0x01766001#32) (.cpy ⟨1, 7, 6, 3, 0⟩),
    reads (.k 0x0000#16) (.knop),
    reads (.k 0x2351#16) (.kld ⟨2, 3, 5⟩),
    reads (.k 0xDB92#16) (.kldi ⟨13, 11, 9⟩),
    reads (.k 0x0B93#16) (.kmov ⟨11, 9⟩)].all id = true := by decide

/-- The bundle that 02 ("A bundle encoded") works out, from its four little-endian words: sync(S,V); addi n2, n2, 16; (p9) vadd.f32 v10,
q3, o2. -/
theorem test_decode_worked_bundle :
    (match decodeBundle (0x0000000000000000#64 ++ 0x00000000001E0081#64 ++ 0x60C1490100000000#64 ++ 0x0000201040180005#64) with
      | .ok b => b == ⟨5#16, .addi ⟨16, 2, 2, 0⟩, .anop, .vadd ⟨0, 0, 0, 15, 0, 0x102, 0x183, 10, 9⟩, .mnop, .cnop, .knop, 0#16⟩
      | .error _ => false) = true := by decide

/-- 02 R31, R34: the first offending part of a bundle is named: the header (6), a clash of S and M at the S part (0), the T word (7). -/
theorem test_decode_offending_parts :
    decodeBundle (0x0200#256) = .error 6 ∧ decodeBundle (0x2B0000#256) = .error 0 ∧ decodeBundle (BitVec.ofNat 256 (2 ^ 240)) = .error 7 ∧
    decodeBundle (BitVec.ofNat 256 (0x4001 * 2 ^ 16 + (0x04 + 2 * 2 ^ 19) * 2 ^ 160)) = .error 0 := by decide

/-! ### A state for one part

Core 0 seats one group in slot 0, with one part at the head of one slot; the device serves, the turn is the group's, and addresses 0 to
65,535 of address space 0 are physical addresses, readable and writable. -/

/-- A part that holds an instruction's word: bundle address 64, place 16 in program order. -/
def part (i : Instr) : Part := ⟨64, 16, 0#16, 0#16, false, false, (encodePart i).getD (.s 0#40)⟩

/-- A group of task 1 that has started: n1 = 4096, n2 = 3, a1 = 0x1000, accumulator rows 0 to 15, spill area 8 KiB. -/
def base : Group :=
  { Group.start ⟨1, 0⟩ 0 0 8192 Launch.blank with
    started := true, pc := 96, seq := 17, wc := 16,
    n := [0#64, 4096#64, 3#64, 0#64, 0#64, 0#64, 0#64, 0#64, 0#64, 0#64, 0#64, 0#64, 0#64, 0#64, 0#64, 0#64],
    a := [0#64, 0x1000#64, 0#64, 0#64, 0#64, 0#64, 0#64, 0#64, 0#64, 0#64, 0#64, 0#64, 0#64, 0#64, 0#64, 0#64] }

/-- The group with an instruction's part at the head of a slot. -/
def on (k : Slot) (i : Instr) (g : Group) : Group := g.setSlotQ k [part i]

/-- The translation of the test states. -/
def lowPage : TransEnt := ⟨0, 0, 16, 0, true, false, false⟩

/-- Core 0 with a group. -/
def homeCore (g : Group) : Core :=
  { Core.reset with slots := some g :: List.replicate 7 none, lastSlot := 0, lastClk := some 0, bnd0 := 0, bnd1 := 1024, bnd2 := 1280 }

/-- Task 1, running on core 0 under scope 1. -/
def task1 : Task where
  id := 1
  launch := Launch.blank
  asid := 0
  queue := .command 1
  rootQ := 1
  node := none
  home := 0
  dies := 1
  outing := false
  order := 0
  state := .running
  wasPreempted := false
  deadline := none
  scope := 1
  cores := [0]
  admitted := 0
  todo := []
  left := 1
  log := []
  errCnt := 0
  endCode := 0
  acked := false
  victims := []

/-- The device with the group seated and bytes of memory; scope 2 is a child of the task's scope 1. -/
def seat (m : Mem) (g : Group) : State :=
  { State.reset with
    plat := { Platform.reset with phase := 5 }
    mem := m
    ids := 2
    tasks := [task1]
    scopes := [⟨1, 0, 0, .opened, []⟩, ⟨2, 1, 1, .opened, []⟩]
    dies := { Die.reset with tc := [lowPage] } :: List.replicate 3 Die.reset
    cores := homeCore g :: List.replicate 159 Core.reset }

theorem head_on (m : Mem) (k : Slot) (i : Instr) (g : Group) : (seat m (on k i g)).headOf k = some (on k i g, part i) := by cases k <;> rfl

/-- Whether the part may issue there, and whether its own checks pass. -/
def can (k : Slot) (i : Instr) (g : Group) : Bool := issuable (seat [] (on k i g)) (on k i g) k (part i) i
def fit (m : Mem) (k : Slot) (i : Instr) (g : Group) : Bool :=
  issuable (seat m (on k i g)) (on k i g) k (part i) i && own (seat m (on k i g)) ⟨0, 0⟩ (on k i g) k (part i) i == .go

theorem ready_on {k : Slot} {i : Instr} {g : Group} (h : can k i g = true) : (seat [] (on k i g)).ready (on k i g) k (part i) i :=
  ⟨head_on [] k i g, h⟩

theorem passes_on {m : Mem} {k : Slot} {i : Instr} {g : Group} (h : fit m k i g = true) :
    (seat m (on k i g)).passes (on k i g) k (part i) i := by
  simp only [fit, Bool.and_eq_true, beq_iff_eq] at h
  exact ⟨⟨head_on m k i g, h.1⟩, h.2⟩

/-- Whether a trap that the part takes comes before every other one of its clk. -/
def trapped (m : Mem) (k : Slot) (i : Instr) (g : Group) : Bool :=
  issuable (seat m (on k i g)) (on k i g) k (part i) i && !(on k i g).headerHolds &&
  !trapsBefore (seat m (on k i g)) ⟨0, 0⟩ (on k i g) k (part i)
def traps (k : Slot) (i : Instr) (g : Group) : Bool := trapped [] k i g

theorem mayTrap_on {m : Mem} {k : Slot} {i : Instr} {g : Group} (h : trapped m k i g = true) :
    (seat m (on k i g)).mayTrap (on k i g) k (part i) i := by
  simp only [trapped, Bool.and_eq_true, Bool.not_eq_true'] at h
  exact ⟨⟨head_on m k i g, h.1.1⟩, h.1.2, h.2⟩

/-- Bytes of memory from an address, as 64-bit words. -/
def words64 (a : Nat) (l : List Nat) : Mem := Mem.writeN [] a (l.flatMap (natLE 8))

/-! ### Witnesses: the S slot -/

/-- NopsDoNothing. -/
theorem witness_nops : Claims.nops.all (fun e => can e.1 e.2 base) = true := by decide

/-- IntegerForms: every form, with li5, e15 and n15 as operands and the result to n0 or `_`. -/
theorem witness_integers :
    ((Claims.intRows ⟨37, 31, 15, 0⟩).all (fun e => can .S e.1 base) && (Claims.intRows ⟨59, 0, 63, 0⟩).all (fun e => can .S e.1 base) &&
      (Claims.unaryRows ⟨31, 0, 0⟩).all (fun e => can .S e.1 base) && (Claims.immRows ⟨63, 31, 15, 0⟩).all (fun e => can .S e.1 base)) = true := by
  decide

/-- CompareSelectLogic: every condition; a quiet and a signalling NaN; both values of a predicate, negated or not. -/
theorem witness_compares :
    ((Claims.intConds.all (fun e => can .S (.cmp ⟨BitVec.ofNat 4 e.1, 2, 1, 15, 0⟩) base && can .S (.cmpi ⟨BitVec.ofNat 4 e.1, 0x400, 1, 1, 0⟩) base)) &&
      Claims.floatConds.all (fun e => can .S (.cmp ⟨BitVec.ofNat 4 e.1, 2, 1, 15, 0⟩) base) &&
      can .S (.sel ⟨1, 15, 2, 1, 0, 0⟩) base && can .S (.plog ⟨15, 15, 0, 1, 0⟩) base) = true ∧
    (0x7FF0000000000000 < (0x7FF8000000000000#64).toNat % 2 ^ 63 ∧ (0x7FF8000000000000#64).getLsbD 51 = true) ∧
    (0x7FF0000000000000 < (0xFFF0000000000001#64).toNat % 2 ^ 63 ∧ (0xFFF0000000000001#64).getLsbD 51 = false) := by decide

/-- CallsAndReturns: room for exactly one frame, one byte too little; no frame to return by. -/
theorem witness_calls :
    can .S (.call ⟨1, 0⟩) { base with spillLim := 256 } = true ∧ base.spill.length + 256 ≤ 256 ∧
      traps .S (.call ⟨1, 0⟩) { base with spillLim := 255 } = true ∧ 255 < base.spill.length + 256 ∧
      0 < (seat [] base).cores.length ∧ base.spill.length % 16 = 0 ∧
    traps .S (.ret ⟨0⟩) base = true ∧ base.spill = [] := by decide

/-- BranchesAndJumps: a branch; a jump to the highest aligned address, to one past the window and to a misaligned one. -/
theorem witness_branches :
    (([0, 1, 2, 3, 4] : List (BitVec 3)).all (fun f => can .S (.br ⟨f, 1, 1, 0⟩) base)) = true ∧
    (let g := on .S (.jmp ⟨3, 0, 0⟩) (base.setN 3 0x00FFFFFFFFFFFFE0#64)
     can .S (.jmp ⟨3, 0, 0⟩) (base.setN 3 0x00FFFFFFFFFFFFE0#64) = true ∧
      ((seat [] g).operand g 3#6).toNat % 32 = 0 ∧ ((seat [] g).operand g 3#6).toNat < 2 ^ 56) ∧
    (let g := on .S (.jmp ⟨3, 0, 0⟩) (base.setN 3 0x0100000000000000#64)
     traps .S (.jmp ⟨3, 0, 0⟩) (base.setN 3 0x0100000000000000#64) = true ∧ 2 ^ 56 ≤ ((seat [] g).operand g 3#6).toNat) ∧
    (let g := on .S (.jmp ⟨3, 0, 0⟩) (base.setN 3 0x10#64)
     traps .S (.jmp ⟨3, 0, 0⟩) (base.setN 3 0x10#64) = true ∧ ((seat [] g).operand g 3#6).toNat % 32 ≠ 0) := by decide

/-- CallsAndReturns: a frame of zeros to return by, outside any loop, and inside one. -/
theorem witness_return :
    let f := { base with spill := List.replicate 256 0#8 }
    let g := on .S (.ret ⟨0⟩) f
    (can .S (.ret ⟨0⟩) f = true ∧ g.spill ≠ [] ∧
      ((seat [] g).core 0).padErr (spillBase ((seat [] g).core 0) 0 + g.spill.length - 256) 256 = none ∧
      (frameWord g.topFrame 8).toNat = g.loops.length) ∧
    (traps .S (.ret ⟨0⟩) { f with loops := [⟨32, 64, 0, 2, 0⟩] } = true ∧
      (frameWord ({ g with loops := [⟨32, 64, 0, 2, 0⟩] } : Group).topFrame 8).toNat ≠ ({ g with loops := [⟨32, 64, 0, 2, 0⟩] } : Group).loops.length) := by
  decide

/-- ReturnUndoesCall: a callee that changed n8 to n15 and the embers, at the highest link. -/
theorem witness_return_undoes_call :
    let c := { (base.setN 8 5#64).setN 15 6#64 with e := List.replicate 16 (.awaiting 3), spill := base.spill ++ base.frame (2 ^ 56 - 1) }
    base.n.length = 16 ∧ base.e.length = 16 ∧ c.n.length = 16 ∧ base.loops.length < 2 ^ 64 ∧ 2 ^ 56 - 1 < 2 ^ 56 ∧
    (∀ k, k < 16 → ∃ w, base.e[k]? = some (.filled w)) ∧ c.spill = base.spill ++ base.frame (2 ^ 56 - 1) := by
  refine ⟨rfl, rfl, rfl, by decide, by decide, fun k hk => ?_, rfl⟩
  have h : ∀ k < 16, base.e[k]? = some (.filled 0#64) := by decide
  exact ⟨_, h k hk⟩

/-- A group inside n loops. -/
def looped (n : Nat) (g : Group) : Group := { g with loops := List.replicate n ⟨32, 64, 0, 2, 0⟩ }

/-- HardwareLoops: a count of 0; the largest count and drain, five levels open; one more; a seventh level; six levels to break out of, and
one too many. -/
theorem witness_loops :
    (can .S (.loop ⟨7, 4, 1, 0⟩) base = true ∧ ((seat [] base).operand base 4#6).toNat = 0 ∧ can .S (.loopi ⟨0, 0, 1, 0⟩) base = true) ∧
    (let g := looped 5 (base.setN 3 0xFFFFFFF8#64)
     can .S (.loop ⟨7, 3, 1, 0⟩) g = true ∧ ((seat [] (on .S (.loop ⟨7, 3, 1, 0⟩) g)).operand (on .S (.loop ⟨7, 3, 1, 0⟩) g) 3#6).toNat + 7 ≤ 0xFFFFFFFF ∧
      g.loops.length < 6) ∧
    (let g := base.setN 3 0xFFFFFFF9#64
     traps .S (.loop ⟨7, 3, 1, 0⟩) g = true ∧ 0xFFFFFFFF < ((seat [] g).operand g 3#6).toNat + 7) ∧
    (traps .S (.loop ⟨7, 1, 1, 0⟩) (looped 6 base) = true ∧ traps .S (.loopi ⟨7, 1, 1, 0⟩) (looped 6 base) = true ∧ (looped 6 base).loops.length = 6) ∧
    can .S (.loopi ⟨7, 63, 0x1FFFF, 0⟩) (looped 5 base) = true ∧
    (can .S (.lbrk ⟨5, 1, 0⟩) (looped 6 base) = true ∧ 5 + 1 ≤ (looped 6 base).loops.length) ∧
    (traps .S (.lbrk ⟨5, 1, 0⟩) (looped 5 base) = true ∧ (looped 5 base).loops.length < 5 + 1) := by decide

/-- LoopIndexOperands: the outermost of six loops. -/
theorem witness_loop_index : 5 < 6 ∧ 5 < (looped 6 base).loops.length := by decide

/-- GuardInstructions: bounds 1.0 and 2.0 with every action; bounds the wrong way round. -/
theorem witness_guards :
    (let g := (base.setN 3 0x3FF0000000000000#64).setN 4 0x4000000000000000#64
     let f := on .S (.gset ⟨15, 7, 4, 3, 0, 0⟩) g
     let b := on .S (.gset ⟨0, 1, 3, 4, 0, 0⟩) g
     can .S (.gset ⟨15, 7, 4, 3, 0, 0⟩) g = true ∧ guardBoundsBad ((seat [] f).operand f 3#6) ((seat [] f).operand f 4#6) 7 = false ∧
     traps .S (.gset ⟨0, 1, 3, 4, 0, 0⟩) g = true ∧ guardBoundsBad ((seat [] b).operand b 4#6) ((seat [] b).operand b 3#6) 1 = true) ∧
    can .S (.grd ⟨15, 2, 0, 0⟩) base = true ∧ can .S (.gclr ⟨1, 0, 0⟩) base = true := by decide

/-- A descriptor block at 4096 (09 Tables 9.2, 9.3; 10 Table 10.4 and R280 to R283; 12 Table 12.2), with an XATTN block at 4224 for CRING: the
smallest that each kind's entry takes. -/
def attnQuads : List Nat := [0x50 + 13 * 2 ^ 40 + 13 * 2 ^ 45 + 13 * 2 ^ 50, 8192, 0, 0, 0, 0, 0, 3 * 2 ^ 32, 0, 0, 0, 0, 0, 0, 0, 0]
def blockQuads (op : Nat) : List Nat :=
  let order (l : List Nat) : Nat := (List.range 6).foldl (fun a i => a + l.getD i 0 * 2 ^ (16 + 3 * i)) 0
  let up := order [0, 1, 2, 3, 4, 5]
  let t (ty : Nat) : List Nat := [512 + ty * 2 ^ 52, 0, 0, 0]
  let none : List Nat := [0, 0, 0, 0]
  let coll (q0 q1 q5 q10 x1 : Nat) : List Nat := [q0, q1, 12288, 0, 0, q5, 0, 144 * 2 ^ 32, x1, 0, q10, 0, 0, 0, 0, 0]
  if op = 0x40 then [0x40 + order [2, 0, 1, 3, 4, 5], 0, 18 * 2 ^ 50, 0] ++ t 2 ++ t 2 ++ t 4
  else if op = 0x41 then [0x41, 0, 18 * 2 ^ 50, 0] ++ t 2 ++ t 2 ++ t 4
  else if op = 0x42 then [0x42 + up, 0, 1 * 2 ^ 50, 1] ++ t 2 ++ t 4 ++ t 2
  else if op = 0x43 then [0x43 + up, 0, 1 * 2 ^ 50, 0] ++ t 2 ++ none ++ none
  else if op = 0x44 then [0x44 + up, 0, 1 * 2 ^ 50, 0] ++ t 2 ++ t 2 ++ t 4
  else if op = 0x45 then [0x45 + up, 0, 1 * 2 ^ 50, 0] ++ t 15 ++ none ++ t 15
  else if op = 0x50 then attnQuads
  else if op = 0x51 then [0x51, 0, 2 ^ 32, 0, 0, 0, 0, 0, 0, 0, 0, 0, 0, 0, 0, 0]
  else if op = 0x52 then [0x52, 0, 0, 0x40C3880000000000, 0, 0, 0, 0, 0, 0, 0, 0, 0, 0, 0, 0]
  else if op = 0x53 then [0x53 + 13 * 2 ^ 40, 0, 0, 1, 0, 0, 0, 4 * 2 ^ 32, 0, 0, 0, 0, 0, 0, 0, 0]
  else if op = 0x54 then [0x54, 0, 2 ^ 32, 0, 0, 0, 0, 0, 0, 0, 0, 0, 0, 0, 0, 0]
  else if op = 0x5D ∨ op = 0x5E then [op + 4 * 2 ^ 16, 1, 0, 0, 0, 1, 0, 144 * 2 ^ 32, 0, 0, 0, 0, 0, 0, 0, 0]
  else if op = 0x5F then coll 0x5F 0 0 0 4224
  else if op = 0x60 then coll (0x60 + 4 * 2 ^ 16) 0 1 1 0
  else coll (op + 4 * 2 ^ 16) 0 1 0 0

/-- LongInstructions: every kind issues on wick 3 with its block at n1, MCFG naming pane 0. -/
theorem witness_longs_tensor :
    ((Claims.longs ⟨3, 1, 0⟩).take 6).all (fun e => fit (words64 4096 (blockQuads e.2 ++ attnQuads)) .S e.1 { base with mcfg := 0x400#64 }) = true := by
  decide
theorem witness_longs_attention :
    (((Claims.longs ⟨3, 1, 0⟩).drop 6).take 5).all (fun e => fit (words64 4096 (blockQuads e.2 ++ attnQuads)) .S e.1 base) = true := by decide
theorem witness_longs_collective :
    ((Claims.longs ⟨3, 1, 0⟩).drop 11).all (fun e => fit (words64 4096 (blockQuads e.2 ++ attnQuads)) .S e.1 base) = true := by decide
theorem witness_longs_wick : (3#2).toNat < base.wicks.length := by decide

/-- A group with wick 3 in a status. -/
def wicked (st : Nat) : Group := base.setWick 3 { Wick.idle with status := st, kind := 0x40, total := 2 }

/-- LongInstructions: XWAIT of an instruction that is done, XSTAT, XRES and XDROP of a stopped one and of one that is done. -/
theorem witness_wick_control :
    can .S (.xwait ⟨3, 0⟩) (wicked 2) = true ∧ ((on .S (.xwait ⟨3, 0⟩) (wicked 2)).wick 3).status ≠ stBUSY ∧
    ((on .S (.xwait ⟨3, 0⟩) (wicked 2)).wick 3).cout = 0 ∧ can .S (.xstat ⟨7, 3, 0⟩) (wicked 1) = true ∧
    can .S (.xres ⟨3, 0⟩) (wicked 3) = true ∧ ((on .S (.xres ⟨3, 0⟩) (wicked 3)).wick 3).stopped = true ∧
    can .S (.xres ⟨3, 0⟩) (wicked 2) = true ∧ ((on .S (.xres ⟨3, 0⟩) (wicked 2)).wick 3).stopped = false ∧
    can .S (.xdrop ⟨3, 0⟩) (wicked 5) = true ∧ ((on .S (.xdrop ⟨3, 0⟩) (wicked 5)).wick 3).stopped = true ∧
    can .S (.xdrop ⟨3, 0⟩) (wicked 2) = true ∧ ((on .S (.xdrop ⟨3, 0⟩) (wicked 2)).wick 3).stopped = false ∧
    ((on .S (.xdrop ⟨3, 0⟩) (wicked 2)).wick 3).status ≠ stBUSY := by decide

/-- SpawnsEnqueueOrAnswer: a record of zeros is read; SPAWNI with its counts at the record; scope 2 snuffed, closed and open, and a scope
outside the spawner's subtree. -/
theorem witness_spawns :
    fit [] .S (.spawn ⟨1, 0, 0⟩) base = true ∧ fit [] .S (.spawni ⟨1, 1, 0, 0⟩) base = true ∧
    (match (seat [] base).spawnRead ⟨0, 0⟩ base 4096 none with
      | .ok _ _ _ _ => true
      | .stop _ => false) = true ∧
    (let st (x : ScopeState) : State := { seat [] base with scopes := [⟨1, 0, 0, .opened, []⟩, ⟨2, 1, 1, x, []⟩] }
     (st .snuffed).inSnuffed 2 = true ∧ (st .closed).inSnuffed 2 = false ∧ (st .closed).scope 2 = some ⟨2, 1, 1, .closed, []⟩ ∧
      (st .opened).inSnuffed 2 = false ∧ (st .opened).scope 2 = some ⟨2, 1, 1, .opened, []⟩ ∧ (st .opened).under 1 2 = true ∧
      (st .opened).under 2 1 = false) := by decide

/-- The device with 33 scopes, each the child of the one before, the task's the deepest. -/
def deepScopes (g : Group) : State :=
  { seat [] g with
    tasks := [{ task1 with scope := 33 }]
    scopes := (List.range 33).map (fun i => ⟨i + 1, i, 0, .opened, []⟩) }

/-- The device with the task's scope 1 and a scope 2 below it, in a state. -/
def inScope2 (x : ScopeState) (k : Slot) (i : Instr) (g : Group) : State :=
  { seat [] (on k i g) with scopes := [⟨1, 0, 0, .opened, []⟩, ⟨2, 1, 1, x, []⟩] }

theorem inScope2_ready {x : ScopeState} {k : Slot} {i : Instr} {g : Group} (h : issuable (inScope2 x k i g) (on k i g) k (part i) i = true) :
    (inScope2 x k i g).ready (on k i g) k (part i) i := ⟨by cases k <;> rfl, h⟩

/-- Scopes: a scope made, one refused below depth 32. -/
theorem witness_scopes :
    can .S (.scope ⟨0, 0⟩) base = true ∧
    ((seat [] base).scopes.length < 65535 ∧ ((seat [] base).scopeChain 33 ((seat [] base).ownScope base)).length ≤ 32) ∧
    ((deepScopes (on .S (.scope ⟨0, 0⟩) base)).ready (on .S (.scope ⟨0, 0⟩) base) .S (part (.scope ⟨0, 0⟩)) (.scope ⟨0, 0⟩) ∧
      ¬ ((deepScopes base).scopes.length < 65535 ∧ ((deepScopes base).scopeChain 33 ((deepScopes base).ownScope base)).length ≤ 32)) := by
  refine ⟨by decide, by decide, ⟨⟨rfl, by decide⟩, by decide⟩⟩

/-- Scopes: SCLOSE of scope 2 open, closed and snuffed, of the task's own, which holds it, and of none. -/
theorem witness_sclose :
    let g2 := base.setN 3 2#64
    let g1 := base.setN 3 1#64
    let g0 := base.setN 3 9#64
    let i := Instr.sclose ⟨3, 0, 0⟩
    (∀ x ∈ [ScopeState.opened, .closed, .snuffed], issuable (inScope2 x .S i g2) (on .S i g2) .S (part i) i = true ∧
      ((inScope2 x .S i g2).operand (on .S i g2) 3#6).toNat = 2 ∧ (inScope2 x .S i g2).scope 2 = some ⟨2, 1, 1, x, []⟩ ∧
      (inScope2 x .S i g2).under ((inScope2 x .S i g2).ownScope (on .S i g2)) 2 = true) ∧
    ((inScope2 .opened .S i g2).scopes.map (·.id)).Nodup ∧ (∀ z ∈ (inScope2 .opened .S i g2).scopes, (inScope2 .opened .S i g2).deadScope z = false) ∧
    ((inScope2 .opened .S i g2).scopeTasks 2 = [] ∧ ∀ z ∈ (inScope2 .opened .S i g2).scopes, z.parent ≠ 2) ∧
    (issuable (inScope2 .opened .S i g1) (on .S i g1) .S (part i) i = true ∧
      ¬ ((inScope2 .opened .S i g1).scopeTasks 1 = [] ∧ ∀ z ∈ (inScope2 .opened .S i g1).scopes, z.parent ≠ 1)) ∧
    (issuable (inScope2 .opened .S i g0) (on .S i g0) .S (part i) i = true ∧ (inScope2 .opened .S i g0).scope 9 = none) := by decide

/-- Scopes: SNUFF of scope 2 open and snuffed, and of none; a misplaced ack; an ack word that is done, and one that is not; the misplaced
address of SNUFFW. -/
theorem witness_snuff :
    let i := Instr.snuff ⟨3, 1, 0, 0⟩
    let g := base.setN 3 2#64
    let w := Instr.snuffw ⟨1, 0, 0⟩
    (∀ x ∈ [ScopeState.opened, .snuffed], issuable (inScope2 x .S i g) (on .S i g) .S (part i) i = true ∧
      ((inScope2 x .S i g).operand (on .S i g) 3#6).toNat = 2 ∧ ((inScope2 x .S i g).operand (on .S i g) 1#6).toNat = 4096 ∧ 4096 % 8 = 0 ∧
      isGlobal 4096 = true) ∧
    (can .S i (base.setN 3 9#64) = true ∧ (seat [] base).scope 9 = none) ∧
    (traps .S (.snuff ⟨3, 2, 0, 0⟩) g = true ∧ ((seat [] g).operand g 2#6).toNat % 8 ≠ 0) ∧
    (can .S w base = true ∧ (seat [] base).homeRead (seqUnit 0) base.asid 4096 8 = .ok (List.replicate 8 0#8) ∧
      fit [(4103, 0x80#8)] .S w base = true ∧
      (seat [(4103, 0x80#8)] base).homeRead (seqUnit 0) base.asid 4096 8 = .ok (List.replicate 7 0#8 ++ [0x80#8])) ∧
    traps .S (.snuffw ⟨2, 0, 0⟩) base = true := by decide

/-- The word of the test barrier lies at 4096, read and written. -/
theorem barAt_base (s : State) (g : Group) (wr : Bool) (h : decide (s.translate (seqUnit s.cur.core) g.asid 4096 wr = .hit 4096 false) = true)
    (e : (match s.readErr 4096 with
      | .bad _ => false
      | _ => true) = true) : Claims.barAt s g 4096#64 wr 4096 := by
  refine ⟨by decide, by decide, of_decide_eq_true h, fun k hk => ?_⟩
  rw [hk] at e
  cases e

/-- The device with scope 2's list of barriers full. -/
def fullScope (i : Instr) (g : Group) : State :=
  { seat [] (on .S i g) with scopes := [⟨1, 0, 0, .opened, []⟩, ⟨2, 1, 1, .opened, List.replicate 64 64⟩] }

/-- BarrierInstructions: a barrier of two at 4096, under scope 1 and under scope 2, whose list is full; COUNT 0. -/
theorem witness_binit :
    let i := Instr.binit ⟨4, 3, 1, 0, 0⟩
    let g (v : Word) : Group := (base.setN 3 v).setN 1 4096#64
    let j := Instr.binit ⟨4, 1, 3, 0, 0⟩
    (can .S j (g 2#64) = true ∧ Claims.barAt (seat [] (on .S j (g 2#64))) (on .S j (g 2#64)) 4096#64 true 4096) ∧
    ((seat [] (g 2#64)).scope ((seat [] (g 2#64)).ownScope (g 2#64)) = some ⟨1, 0, 0, .opened, []⟩ ∧
      (seat [] (g 2#64)).under ((seat [] (g 2#64)).ownScope (g 2#64)) 1 = true ∧ (seat [] (g 2#64)).memsWf) ∧
    (can .S j (g 0#64) = true ∧ can .S i (g 0#64) = true) ∧
    ((fullScope j (g 0x200000002#64)).ready (on .S j (g 0x200000002#64)) .S (part j) j ∧
      (fullScope j (g 0x200000002#64)).scope 2 = some ⟨2, 1, 1, .opened, List.replicate 64 64⟩ ∧ 4096 ∉ List.replicate 64 64) := by
  refine ⟨⟨by decide, barAt_base _ _ _ (by decide) (by decide)⟩, ⟨by decide, by decide, by decide, by decide⟩, by decide, ⟨rfl, by decide⟩, by decide, by decide⟩

/-- A group with a store of an earlier bundle at hand. -/
def holding : Group := { base with stores := [base.newAccess 3 15 .store 4096 8 []] }

/-- BarrierInstructions: BARR with nothing before it, and with a store at hand; BWAIT whose phase has passed, and whose has not; misplaced
addresses; the arrival that is not the last, the one that is, one after SNUFFED. -/
theorem witness_barriers :
    let r := Instr.barr ⟨1, 0, 0⟩
    let w := Instr.bwait ⟨3, 1, 0, 0⟩
    let v := Instr.bwait ⟨1, 3, 0, 0⟩
    (can .S r base = true ∧ Claims.barAt (seat [] (on .S r base)) (on .S r base) 4096#64 true 4096 ∧ base.storesQuiet 16 = true ∧
      base.readsQuiet 16 = true ∧ barScope ((seat [] base).barrier 4096) ≠ 5) ∧
    (can .S r holding = true ∧ (on .S r holding).storesQuiet 16 = false) ∧
    (can .S v base = true ∧ Claims.barAt (seat [] (on .S v base)) (on .S v base) 4096#64 false 4096 ∧
      barPhase ((seat [] base).barrier 4096) = 0 ∧ barSnuffed ((seat [] base).barrier 4096) = false ∧ can .S v (base.setN 3 7#64) = true) ∧
    (traps .S (.binit ⟨4, 2, 1, 0, 0⟩) (base.setN 2 8#64) = true ∧ traps .S (.barr ⟨2, 0, 0⟩) base = true ∧ traps .S w base = true) ∧
    (0 < barCount 2 ∧ barSnuffed 2 = false ∧ barArrived 2 + 1 < barCount 2) ∧
    (0 < barCount (2 + 2 ^ 32) ∧ barSnuffed (2 + 2 ^ 32) = false ∧ barArrived (2 + 2 ^ 32) + 1 = barCount (2 + 2 ^ 32)) := by
  refine ⟨⟨by decide, barAt_base _ _ _ (by decide) (by decide), by decide, by decide, by decide⟩, by decide,
    ⟨by decide, barAt_base _ _ _ (by decide) (by decide), by decide, by decide, by decide⟩, by decide, by decide, by decide⟩

/-- A group with store data that no store took. -/
def unmatched : Group := { base with sdata := base.sdata.set 15 [0] }

/-- SchedulingInstructions. -/
theorem witness_scheduling :
    can .S (.yield ⟨0⟩) base = true ∧
    (can .S (.prio ⟨2, 0, 0⟩) base = true ∧ ((seat [] base).operand base 2#6).toNat ≤ 3 ∧
      (((seat [] base).task base.gid.task).map (·.launch.cls)).getD 0 ≤ ((seat [] base).operand base 2#6).toNat) ∧
    (traps .S (.prio ⟨1, 0, 0⟩) base = true ∧ 3 < ((seat [] base).operand base 1#6).toNat) ∧
    (can .S (.dline ⟨2, 0, 0⟩) base = true ∧ ((seat [] base).operand base 2#6).toNat < 2 ^ 32 ∧ (seat [] base).task base.gid.task = some task1) ∧
    (can .S (.endGroup ⟨0⟩) base = true ∧ (on .S (.endGroup ⟨0⟩) base).imbalance = none) ∧
    (can .S (.tail ⟨0⟩) base = true ∧ (on .S (.tail ⟨0⟩) base).imbalance = none ∧ (∀ w ∈ base.wicks, w.status ≠ stBUSY ∧ w.stopped = false) ∧
      ((seat [] base).core 0).tracker.length < 8 ∧ 0 < (seat [] base).cores.length) ∧
    (traps .S (.endGroup ⟨0⟩) unmatched = true ∧ traps .S (.tail ⟨0⟩) unmatched = true ∧
      (on .S (.endGroup ⟨0⟩) unmatched).imbalance = some 15 ∧ ∀ w ∈ unmatched.wicks, w.status ≠ stBUSY ∧ w.stopped = false) := by decide

/-- A group in its handler, the trap at the A part of a bundle with the S slot 15 bundles on. -/
def handler : Group := { base with trap := { base.trap with inh := true, cause := 3#64, skew := word (15 + 2 ^ 24) } }

/-- SoftwareTrapsAndReturn. -/
theorem witness_traps :
    (can .S (.trap ⟨0x7FFF, 0⟩) base = true ∧ can .S (.brk ⟨511, 0⟩) base = true ∧ base.fly = []) ∧
    ((seat [] base).group ⟨0, 0⟩).isSome = true ∧
    (can .S (.rtt ⟨1, 0⟩) handler = true ∧ handler.trap.inh = true ∧
      returnOffs handler.trap.skew true (bits handler.trap.cause 0 8 == 13) = some [15, 1, 0, 0, 0, 0]) ∧
    (traps .S (.rtt ⟨0, 0⟩) base = true ∧ base.trap.inh = false) := by decide

/-- A group with one entry in the load-data queue of stream 15. -/
def popped : Group := { base with ldata := base.ldata.set 15 [⟨5, none⟩] }

/-- StateInstructions: every entry; a pop of stream 15, sound and poisoned; a write of TRAP.VEC with n1 and with n2, which is misaligned. -/
theorem witness_state :
    ((Claims.csrEntries (seat [] base) base task1).all (fun e => can .S (.csrr ⟨BitVec.ofNat 12 e.1, 0, 0⟩) base) = true ∧
      can .S (.csrr ⟨0x030, 0, 0⟩) base = true ∧ (seat [] base).task base.gid.task = some task1) ∧
    (can .S (.csrr ⟨0x06F, 0, 0⟩) popped = true ∧ popped.ldataOf 15 = [⟨5, none⟩]) ∧
    (let g := { base with ldata := base.ldata.set 15 [⟨5, some ⟨3, 4096⟩⟩] }
     traps .S (.csrr ⟨0x06F, 0, 0⟩) g = true ∧ g.ldataOf 15 = [⟨5, some ⟨3, 4096⟩⟩] ∧ 15 < g.ldata.length) ∧
    (([0x030, 0x042, 0x044, 0x048, 0x04F] : List (BitVec 12)).all (fun n => (Claims.stateWrites ⟨n, 1, 0⟩).all (fun e => can .S e.1 base)) = true ∧
      ((Claims.stateWrites ⟨0x044, 1, 0⟩).all (fun e => !csrBad 0x044 (e.2 ((seat [] base).csr ⟨0, 0⟩ base 0x044) ((seat [] base).operand base 1#6)))) = true) ∧
    ((Claims.stateWrites ⟨0x044, 2, 0⟩).take 2).all (fun e => traps .S e.1 base &&
      csrBad 0x044 (e.2 ((seat [] base).csr ⟨0, 0⟩ base 0x044) ((seat [] base).operand base 2#6))) = true ∧
    (Claims.writable 0x042 ∧ base.trap.save.length = 8) :=
  ⟨by decide, by decide, by decide, by decide, by decide, .inr (.inl rfl), rfl⟩

/-- SystemInstructions: an address outside the space, one the caches hold, and one that only a walk would find; both forms of TCINV; the
last entry of the log and one past it; each unit of LAMP, in service, withdrawn or not leased, and a number that is no unit's. -/
theorem witness_system :
    (can .S (.xlat ⟨1, 0, 0⟩) base = true ∧ isGlobal 4096 = true ∧ (seat [] base).cached (seqUnit 0) 0 4096 = some lowPage ∧
      (seat [] base).cached (seqUnit 0) 0 65536 = none) ∧
    (can .S (.tcinv ⟨1, 0, 0⟩) base = true ∧ can .S (.tcinv ⟨0, 1, 0⟩) base = true ∧ 0 < (seat [] base).cores.length) ∧
    (let g := base.setN 3 15#64
     can .S (.errrd ⟨1, 3, 0, 0⟩) g = true ∧ ((seat [] g).operand g 3#6).toNat < 16 ∧ (seat [] g).task g.gid.task = some task1) ∧
    (let g := base.setN 3 16#64
     traps .S (.errrd ⟨1, 3, 0, 0⟩) g = true ∧ 16 ≤ ((seat [] g).operand g 3#6).toNat) ∧
    can .S (.errclr ⟨0, 0⟩) base = true ∧
    (let g := ({ base with gm := 15#4 } : Group)
     (List.range 7).all (fun k => can .S (.lamp ⟨3, 4, 0, 0⟩) ((g.setN 3 (word (if k = 6 then 16 else k))).setN 4 7#64) &&
        ((seat [] g).core 0).stepsOf g.gid == []) = true ∧ g.gm.getLsbD 0 = true) ∧
    base.gm.getLsbD 0 = false ∧ traps .S (.lamp ⟨3, 0, 0, 0⟩) (base.setN 3 6#64) = true := by decide


/-! ### Witnesses: the other slots -/

/-- AccessesEnterTheirQueues: the largest and smallest sizes, every kind; the scratchpad; the three sources of a store's data. -/
theorem witness_accesses :
    (((Claims.loads ⟨31, 0, 5, 0x10F, 1, 15, 0⟩).all (fun e => fit [] .A e.1 (base.setA 1 0x8000#64))) &&
      ((Claims.loads ⟨0, 0, 0, 0x1FF, 1, 0, 0⟩).all (fun e => fit [] .A e.1 base)) &&
      ((Claims.loads ⟨0, 3, 3, 0x180, 1, 0, 0⟩).all (fun e => fit [] .A e.1 (base.setA 1 (word (0xFF * 2 ^ 48 + 1048568))))) &&
      (((Claims.stores ⟨31, 0, 5, 0, 1, 15, 0⟩).take 3).all (fun e => fit [] .A e.1 (base.setA 1 0x8000#64))) &&
      (((Claims.stores ⟨0, 0, 0, 0x1C0, 1, 0, 0⟩).take 3).all (fun e => fit [] .A e.1 base)) &&
      ((Claims.stores ⟨0, 0, 4, 0x183, 1, 3, 0⟩).all (fun e => fit [] .A e.1 (base.setA 1 (word (0xFF * 2 ^ 48)))))) = true := by decide

/-- AccessesEnterTheirQueues and AtomicsEnterTheirQueue: an address of the test page, of the scratchpad's last word, and its last row. -/
theorem witness_access_goes :
    (∀ wr strict : Bool, Claims.accessGoes (seat [] base) base 4096 8 strict wr false false) ∧
    Claims.accessGoes (seat [] base) base (0xFF * 2 ^ 48 + 1048568) 8 true true true true ∧
    Claims.accessGoes (seat [] base) base (0xFF * 2 ^ 48 + 1047552) 1024 false false true false ∧
    (∀ x ∈ Claims.loads ⟨0, 0, 3, 0, 1, 0, 0⟩, can .A x.1 base = true) ∧ (∀ x ∈ Claims.stores ⟨0, 0, 3, 0, 1, 0, 0⟩, can .A x.1 base = true) ∧
    (∀ x ∈ Claims.atomics ⟨1, 5, 3, 0, 2, 1, 15, 0⟩, can .A x.1 base = true) ∧ base.loadQ 0 < Config.addrDepth ∧ base.storeQ 0 < Config.addrDepth ∧
    base.storeQ 15 < Config.addrDepth ∧ base.loadQ 15 < Config.addrDepth ∧ (base.vreg 0).poison = none := by
  refine ⟨fun wr strict => .inr ⟨by decide, by decide, by decide, rfl, rfl, fun _ => by decide, fun _ _ => by decide, fun a ha => ⟨4096, false, ?_, fun _ => rfl⟩⟩,
    .inl (by decide), .inl (by decide), by decide, by decide, by decide, by decide, by decide, by decide, by decide, rfl⟩
  obtain rfl : a = 4096 := by
    have h : pagesOf 4096 8 = [4096] := by decide
    simpa [h] using ha
  cases wr <;> decide

/-- AccessTraps: the accumulator window, an address past the windows, a misaligned scratchpad word, a misaligned row. -/
theorem witness_access_traps :
    (Claims.loads ⟨0, 0, 1, 0, 1, 0, 0⟩ ++ Claims.stores ⟨0, 0, 1, 0, 1, 0, 0⟩).all (fun e =>
      traps .A e.1 (base.setA 1 (word (0xFE * 2 ^ 48))) && traps .A e.1 (base.setA 1 (word (0xFF * 2 ^ 48 + 1)))) = true ∧
    (Claims.loads ⟨0, 0, 5, 0, 1, 0, 0⟩ ++ Claims.stores ⟨0, 0, 5, 0, 1, 0, 0⟩).all (fun e => traps .A e.1 (base.setA 1 8#64)) = true ∧
    (¬ isGlobal ((base.setA 1 (word (0xFE * 2 ^ 48))).eaAM ⟨0, 0, 1, 0, 1, 0, 0⟩) ∧ ¬ isPadWin ((base.setA 1 (word (0xFE * 2 ^ 48))).eaAM ⟨0, 0, 1, 0, 1, 0, 0⟩)) ∧
    (¬ isGlobal ((base.setA 1 (word (2 ^ 56))).eaAM ⟨0, 0, 1, 0, 1, 0, 0⟩) ∧ ¬ isPadWin ((base.setA 1 (word (2 ^ 56))).eaAM ⟨0, 0, 1, 0, 1, 0, 0⟩)) ∧
    (isPadWin ((base.setA 1 (word (0xFF * 2 ^ 48 + 1))).eaAM ⟨0, 0, 1, 0, 1, 0, 0⟩) = true ∧
      (base.setA 1 (word (0xFF * 2 ^ 48 + 1))).eaAM ⟨0, 0, 1, 0, 1, 0, 0⟩ % 2 ≠ 0) ∧
    (base.setA 1 8#64).eaAM ⟨0, 0, 5, 0, 1, 0, 0⟩ % 16 ≠ 0 := by decide

/-- AddressFormsAndPrefetches: a prefetch outside every declared range, and one within the range of a task that declares it. -/
theorem witness_addresses :
    (((Claims.addresses ⟨0x1000, 2, 1, 15, 0⟩).all (fun e => can .A e.1 base) && can .A (.pf ⟨0, 0, 5, 0, 1, 0, 0⟩) base &&
      can .A (.pfna ⟨0, 0, 5, 0, 1, 0, 0⟩) base) = true) ∧
    Claims.pfDropped (seat [] base) base (base.eaAM ⟨0, 0, 5, 0, 1, 0, 0⟩) 1024 ∧
    (let s := { seat [] base with tasks := [{ task1 with launch := { Launch.blank with ranges := [⟨0, 65536, 1⟩] } }] }
     SMap.wfFrom 0 none s.llc = true ∧ ¬ Claims.pfDropped s base 4096 1024 ∧
      s.peekPhysical (.engine 0 .access) 0 ((4096 + 1024 - 1) / 128 * 128 + 96) = some 5088) := by
  refine ⟨by decide, .inr (.inr (.inl ?_)), by decide, ?_, by decide⟩
  · intro t ht
    have h : (seat [] base).task base.gid.task = some task1 := by decide
    obtain rfl : task1 = t := Option.some.inj (h.symm.trans ht)
    exact .inl (by decide)
  · rintro (h | h | h | ⟨a, ha, h⟩ | h)
    · revert h; decide
    · revert h; decide
    · have k := h _ (by decide : _ = some { task1 with launch := { Launch.blank with ranges := [⟨0, 65536, 1⟩] } })
      revert k; decide
    · have e : pagesOf 4096 1024 = [4096] := by decide
      obtain rfl : a = 4096 := by simpa [e] using ha
      revert h; decide
    · revert h; decide

/-- AtomicsEnterTheirQueue: every operation at the system scope and at the group's, with and without return. -/
theorem witness_atomics :
    ((Claims.atomics ⟨1, 5, 3, 0, 2, 1, 15, 0⟩).all (fun e => fit [] .A e.1 base) &&
      (Claims.atomics ⟨0, 0, 3, 0, 2, 1, 0, 0⟩).all (fun e => fit [] .A e.1 base)) = true := by decide

/-- A store of stream 15 that is not acknowledged. -/
def pending : Access := { base.newAccess 3 15 .store 4096 8 [⟨0, 8, .dev, 4096, 4096, true⟩] with data := some 7, granted := true }
/-- A group with a production of token 3 that has completed, or not. -/
def produced (left : Nat) : Group := { base with toks := [⟨1, 3, 4, left, false, none⟩] }

/-- OrderingParts. -/
theorem witness_ordering :
    ((Claims.fences ⟨5, 0x8001, 0⟩).all (fun e => can .A e.1 base) = true) ∧ fit [] .A (.mark ⟨0, 0x8001, 0⟩) base = true ∧
    (seat [] base).group (seat [] base).cur = some base ∧
    (can .A (.drain ⟨0, 0x8000, 0⟩) base = true ∧ ∀ a ∈ base.stores, (0x8000#16).getLsbD a.stream = false) ∧
    (can .A (.drain ⟨0, 0x8000, 0⟩) { base with stores := [pending] } = true ∧ (0x8000#16).getLsbD pending.stream = true) ∧
    (can .A (.tkw ⟨4, 8, 0⟩) (produced 0) = true ∧ can .A (.tkw ⟨0, 8, 0⟩) (produced 0) = true ∧
      (produced 0).latestProd 3 16 = some ⟨1, 3, 4, 0, false, none⟩) ∧
    (can .A (.tkw ⟨0, 8, 0⟩) (produced 1) = true ∧ 3 ∈ tkwTokens 8#16 ∧ (produced 1).latestProd 3 16 = some ⟨1, 3, 4, 1, false, none⟩) := by
  refine ⟨by decide, by decide, rfl, by decide, by decide, by decide, by decide⟩

/-- VectorLanes: every form at the narrowest and the widest integer type. -/
theorem witness_lanes :
    ((Claims.intLanes ⟨0, 0, 0, 2, 0, 1, 2, 3, 0⟩).all (fun e => fit [] .V e.1 base) &&
      (Claims.intLanes ⟨0, 0, 0, 9, 0, 0x1C0, 0x10F, 0x1FF, 0⟩).all (fun e => fit [] .V e.1 base) &&
      (Claims.bitLanes ⟨0, 0, 0, 2, 0, 1, 2, 3, 0⟩).all (fun e => fit [] .V e.1 base) &&
      (Claims.bitLanes ⟨0, 0, 0, 9, 0, 1, 2, 3, 0⟩).all (fun e => fit [] .V e.1 base)) = true := by decide

/-- VectorMoveLanes and VectorForms: every form. -/
theorem witness_vectors :
    ((Claims.moveLanes ⟨0, 0, 0, 4, 0, 0x1C2, 2, 3, 0⟩ []).all (fun e => fit [] .V e.1 base) &&
      (Claims.roundedForms ⟨0, 0, 3, 15, 0, 0x1C2, 2, 3, 0⟩ base).all (fun e => fit [] .V e.1 base) &&
      (Claims.conversions ⟨0, 0, 3, 12, 15, 1, 2, 0x180, 0⟩ base).all (fun e => fit [] .V e.1 base)) = true := by decide

/-- A group with panes 0 and 1 leased, the pair (.i8, .i8) configured on pane 0, one row and one column. -/
def leased (budget : Nat) : Group := { base with lm := 3#4, gm := 3#4, budget := budget, mcfg := word (2 + 2 * 32 + 2 ^ 10) }

/-- ArrayAndStepsIssue: the last unit of a grant and one before it; the configuration below 2^57. -/
theorem witness_array :
    (can .M (.mlease ⟨15, 0⟩) base = true ∧ leaseExpired 0 base = false ∧ ∀ k ∈ panesOf 15, k ∈ (seat [] base).panesIn 0) ∧
    can .M (.mrel ⟨0⟩) (leased 1) = true ∧ leaseExpired 0 (leased 1) = false ∧
    (can .M (.mcfg ⟨2, 0⟩) base = true ∧ (base.nreg 2).toNat < 2 ^ 57) ∧ can .M (.mcfgr ⟨15, 2, 0⟩) base = true ∧
    (can .M (.mfset ⟨0, 7, 0⟩) base = true ∧ feedOk (base.nreg 0) = true) ∧ can .M (.mfadv ⟨2, 7, 0⟩) base = true ∧
    (can .M (.mwaitSteps ⟨0⟩) base = true ∧ ((seat [] base).core 0).stepsOf base.gid = []) ∧
    (can .M (.mwaitLease ⟨0⟩) (leased 2) = true ∧ (leased 2).covers (leased 2).lm.toNat = true) ∧
    ((Claims.steps ⟨0, 0, 0, 0, 0⟩).all (fun e => fit [] .M e.1 (leased 1) && fit [] .M e.1 (leased 2)) = true) := by decide

/-- Transfer records at 4096 (11 Table 11.1), the stamp at 12288. -/
def recordQuads (op : Nat) : List Nat :=
  let acc := 0xFE * 2 ^ 48
  if op = 1 then [1, 8192, 8448, 16, 0, 0, 12288, 0]
  else if op = 2 then [2, 8192, 8448, 8 + 2 ^ 24, 0, 0, 12288, 0]
  else if op = 3 then [3, 8192, 8448, 2 + 2 ^ 16, 0, 2 + 2 ^ 16, 12288, 0]
  else if op = 4 then [4 + 2 * 2 ^ 32, 8192, 0xFF * 2 ^ 48, 1, 0, 0, 12288, 0]
  else if op = 5 then [5, 8192, acc, 8 + 2 ^ 24, 0, 0, 12288, 0]
  else if op = 6 then [6, acc, 8448, 8 + 2 ^ 24, 0, 0, 12288, 0]
  else [9 + 2 ^ 32, 8192, 8448, 8 + 2 ^ 24, 0, 8704, 12288, 0]

/-- CopiesEnterTheirChannel: each form from its record; chains with and without a head; STAMP; CPYQ. -/
theorem witness_copies :
    ((List.zip (Claims.copies ⟨0, 0, 1, 7, 0⟩) [1, 2, 3, 4, 5, 6, 9]).all (fun e => fit (words64 4096 (recordQuads e.2)) .C e.1 base &&
      (match (seat (words64 4096 (recordQuads e.2)) base).copyRead ⟨0, 0⟩ base 4096 with
        | .ok _ => true
        | .stop _ => false)) = true) ∧
    (fit [] .C (.cpyl ⟨1, 7, 0⟩) base = true ∧ base.nreg 1 ≠ 0#64) ∧
    (fit [] .C (.cpyl ⟨0, 7, 0⟩) base = true ∧ base.nreg 0 = 0#64 ∧ ((seat [] base).core 0).copy.parkedAt base.gid 7 = none ∧
      twProduces (part (.cpyl ⟨0, 7, 0⟩)).tw = 0) ∧
    fit [] .C (.stamp ⟨2, 1, 7, 0⟩) base = true ∧ can .C (.cpyq ⟨0, 15, 7, 0⟩) base = true ∧ can .C (.cpyq ⟨1, 15, 7, 0⟩) base = true := by decide

/-- ScaleLoads: the last 64 bytes of the scratchpad; the exposed distance of four bundles. -/
theorem witness_scales :
    fit [] .K (.kld ⟨15, 1, 15⟩) (base.setA 1 (word (0xFF * 2 ^ 48 + 1048576 - 1024))) = true ∧ can .K (.kldi ⟨15, 15, 0⟩) base = true ∧
    (can .K (.kmov ⟨15, 0⟩) base = true ∧ base.scaleWait 16 = false) ∧ (16 + 4 ≤ 20 ∧ 19 < 16 + 4 ∧ base.cbuf = []) := by decide

/-- The device with one bundle of image 0 resident at the group's pc. -/
def stored (w : BitVec 256) (g : Group) : State :=
  { seat [] g with cores := { homeCore g with store := [⟨0, 0, 0, 96, natLE 32 w.toNat, 0, true, false⟩] } :: List.replicate 159 Core.reset }

/-- Whether a bundle can be dispatched, decodes, and names no register at or above the window; or one; or does not decode. -/
def dispatches (w : BitVec 256) (g : Group) (f : Except Nat Bundle → Bool) : Bool :=
  canDispatch (stored w g) ⟨0, 0⟩ g && (match (stored w g).residentFor ⟨0, 0⟩ g with
    | some o => f (decodeBundle (o.bundleAt g.pc))
    | none => false)

/-- BundlesDispatch: v31 in a window of 32, a reserved header bit, v32 in a window of 32. -/
theorem witness_bundles :
    let v (vd : Nat) : BitVec 256 := BitVec.ofNat 256 ((0x22 + vd * 2 ^ 13 + 15 * 2 ^ 49) * 2 ^ 96)
    let g := { base with win := 32 }
    (stored (v 31) g).group ⟨0, 0⟩ = some g ∧
    dispatches (v 31) g (fun x => match x with
      | .ok b => b.windowRegs.all (· < 32)
      | .error _ => false) = true ∧
    g.skip = [0, 0, 0, 0, 0, 0] ∧
    dispatches 0x0200#256 g (fun x => match x with
      | .ok _ => false
      | .error k => k == 6) = true ∧
    dispatches (v 32) g (fun x => match x with
      | .ok b => b.windowRegs.any (32 ≤ ·)
      | .error _ => false) = true := by
  refine ⟨rfl, by decide, by decide, by decide, by decide⟩

/-! ### Witnesses: what happens to parts and accesses -/

/-- LoopEndsAndRotations: a loop's end, and a rotation; a bundle with RS and one with LE. -/
theorem witness_loop_ends :
    let g := looped 6 { base with qh := [⟨64, 16, false, false, true, false⟩] }
    let h := { base with qh := [⟨64, 16, true, false, false, true⟩] }
    (seat [] g).group ⟨0, 0⟩ = some g ∧ g.qh.find? g.loopEndDue = some ⟨64, 16, false, false, true, false⟩ ∧
      g.loops = ⟨32, 64, 0, 2, 0⟩ :: List.replicate 5 ⟨32, 64, 0, 2, 0⟩ ∧
      (seat [] h).group ⟨0, 0⟩ = some h ∧ h.qh.find? h.rotateDue = some ⟨64, 16, true, false, false, true⟩ ∧
      (hdrRS 0x80#16 || hdrLE 0x40#16) = true := by
  refine ⟨rfl, by decide, rfl, rfl, by decide, by decide⟩

/-- A part in flight that writes n15, an ember and a flag; a row pushed to stream 3. -/
def flying (push : Option (Nat × Row)) : InFlight := ⟨7, 16, some (15, 5#64), none, some 5#64, [], none, push, 0b100000#6⟩

/-- PartCompletionWrites. -/
theorem witness_completions :
    let g := { base with fly := [flying none] }
    let h := { base with fly := [flying (some (3, 0))] }
    (seat [] g).group ⟨0, 0⟩ = some g ∧ g.fly[0]? = some (flying none) ∧ (flying none).push = none ∧ (flying none).vecs = [] ∧
      (seat [] h).group ⟨0, 0⟩ = some h ∧ h.fly[0]? = some (flying (some (3, 0))) ∧ earlierPush h 0 (flying (some (3, 0))) = false := by
  refine ⟨rfl, rfl, rfl, rfl, rfl, rfl, by decide⟩

/-- A granted load of stream 15: 8 bytes of a space from an address, to v0, to the queue, or nowhere. -/
def loading (sp : PSpace) (pa : Nat) (d : LoadDst) : Access :=
  { base.newAccess 3 15 .load 4096 8 [⟨0, 8, sp, pa, 4096, false⟩] with dst := d, granted := true }

/-- LoadsDeliver: each destination, from the highest line of device memory; a piece that is not the last. -/
theorem witness_loads :
    [LoadDst.reg 0, .queue, .discard].all (fun d =>
      let a := loading .dev (Config.hbmBytes - 8) d
      let g := { base with loads := [a] }
      (seat [] g).serving && (g.headLoad 15 == some a) && !isMonw a && !g.fenced a && g.dataRoom a && g.pieceReady ((seat [] g).core 0) a 0) = true ∧
    (let a := { loading .pad 4096 .queue with pieces := [⟨0, 8, .pad, 8, 4096, false⟩, ⟨8, 8, .pad, 16, 4104, false⟩] }
     let g := { base with loads := [a] }
     g.headLoad 15 = some a ∧ g.pieceReady ((seat [] g).core 0) a 1 = true ∧ (a.doPieces (a.together 1)).performed = false) ∧
    (let a := loading .dev 0 .queue
     (a.doPieces (a.together 0)).performed = true) := by decide

/-- A granted store of stream 15 with its data. -/
def storing (sp : PSpace) (pa len : Nat) : Access :=
  { base.newAccess 3 15 .store 4096 len [⟨0, len, sp, pa, 4096, false⟩] with data := some 0x1122334455667788, granted := true }

/-- The memories of a test state without bytes are in their canonical form. -/
theorem witness_mems (g : Group) : (seat [] g).memsWf := ⟨rfl, rfl⟩

/-- StorePerformedWritesItsBytes: device memory, a poisoned granule covered in part, host memory, the scratchpad. -/
theorem witness_stores :
    [PSpace.dev, .host, .pad].all (fun sp =>
      let a := storing sp 8 8
      let g := { base with stores := [a] }
      (g.headStore 15 == some a) && (seat [] g).serving && !a.isAtomic && !g.fenced a && decide ((seat [] g).readErr 8 = .none) &&
        decide (Memory.wf ((seat [] g).core 0).hamper = true)) = true ∧
    (let s := { seat [] { base with stores := [storing .dev 8 8] } with poison := [(0, 1)] }
     (match s.readErr 8 with
      | .bad _ => true
      | _ => false) = true ∧ ¬ (8 % 16 = 0 ∧ 8 = 16) ∧ SMap.wfFrom 0 none s.poison = true) := by decide

/-- TagsAndAcknowledgements: the last free tag; a store to device memory and one to host memory. -/
theorem witness_tags :
    (let a := { storing .dev 0 8 with granted := false }
     let g := { base with stores := [a] }
     ((seat [] g).core 0).nextGrant = some (0, 15, a) ∧ ((seat [] g).core 0).tagsHeld a.isWrite + a.tags ≤ Config.writeTags) ∧
    [PSpace.dev, .host].all (fun sp =>
      let a := { storing sp 0 8 with pieces := [⟨0, 8, sp, 0, 4096, true⟩] }
      let g := { base with stores := [a] }
      (g.stores.find? (fun x => x.stream == 15) == some a) && a.performed) = true ∧
    15 ∈ ({ base with hostUnacked := [15] } : Group).hostUnacked := by decide

/-- An atomic of stream 15 at its home. -/
def atomicAt (op size : Nat) (ret : Bool) : Access :=
  { base.newAccess 3 15 (.atomic op ret) 4096 size [⟨0, size, .dev, Config.hbmBytes - 16, 4096, false⟩] with
    dst := if ret then .queue else .discard, data := some 0, granted := true }

/-- AtomicsReadAndWrite: 4 and 16 bytes, with return and without; the highest values. -/
theorem witness_atomics_performed :
    [(4, true), (16, true), (8, false)].all (fun e =>
      let a := atomicAt 0x1A e.1 e.2
      let g := { base with stores := [a] }
      (g.headStore 15 == some a) && (seat [] g).serving && !g.fenced a && g.dataRoom a && g.loads.isEmpty &&
        decide (((seat [] g).atomicRead ⟨0, 0⟩ ⟨0, e.1, .dev, Config.hbmBytes - 16, 4096, false⟩).2 = none) &&
        decide (15 < g.ldata.length)) = true ∧
    0 < 4 ∧ 2 ^ 32 - 1 < 2 ^ (8 * 4) := by decide

/-- MonwWaitsItsTurn: a MONW that enters its queue though another group issued last, one that was satisfied, and one whose word is read. -/
theorem witness_monw :
    let x : AX := ⟨1, 3, 3, 2, 1, 1, 15, 0⟩
    let w : Access := { base.newAccess 16 15 .monw 4096 8 [⟨0, 8, .dev, 4096, 4096, false⟩] with granted := true }
    (let g := on .A (.monw x) base
     let s := seat [] g
     s.headOf .A = some (g, part (.monw x)) ∧ s.serving = true ∧ heldBack s s.cur g = false ∧ hazard g .A (part (.monw x)) (.monw x) false = false ∧
      leBad g (part (.monw x)) = false ∧ g.predOn (part (.monw x)) (.monw x) = true ∧ monwReady s ⟨0, 0⟩ g x = true ∧ g.monwAt 16 = none) ∧
    (let g := { base with loads := [{ w with sat := true }] }
     can .A (.monw x) g = true ∧ g.monwAt 16 = some { w with sat := true } ∧ w.poison = none) ∧
    (let g := { base with loads := [w] }
     g.loads.find? isMonw = some w ∧ g.headLoad 15 = some w ∧ g.fenced w = false ∧ w.sat = false ∧
      ((seat [] g).atomicRead ⟨0, 0⟩ ⟨0, 8, .dev, 4096, 4096, false⟩).2 = none) := by decide

/-! ### Witnesses: copies and matrix steps -/

/-- A transfer record at 4096 as bytes (Table 11.1). -/
def recordBytes (op : Nat) : List Byte := (recordQuads op).flatMap (natLE 8)

/-- A job of channel 3 of core 0's engine, owned by the seated group. -/
def job (kind : CopyKind) (op : Nat) : CopyJob :=
  { CopyJob.fresh 5 (some ⟨1, 0⟩) none 0 3 kind with recAddr := 4096, record := recordBytes op }

/-- The device with core 0's engine in a state. -/
def engined (e : CopyEngine) : State :=
  { seat [] base with cores := { homeCore base with copy := e } :: List.replicate 159 Core.reset }

/-- CPY, or GSTEP, whose chunk of one byte, the last, has read some bytes. -/
def chunky (op : Nat) (got : List (Nat × Byte)) : CopyJob :=
  { job .copy op with loaded := true, next := (job .copy op).xrec.len - 1, got := got }

/-- CopyChunksMove: a CPY that comes to its source byte, a GSTEP that comes to its index word, and one that has read that. -/
theorem witness_chunk_reads :
    ([(1, []), (9, []), (9, [(8704, 0#8), (8705, 0#8), (8706, 0#8), (8707, 0#8)])] : List (Nat × List (Nat × Byte))).all (fun e =>
      let j := chunky e.1 e.2
      let s := engined ⟨[], [j], []⟩
      ((s.engine 0).runs[0]? == some j) && s.serving && j.puts.isEmpty &&
      decide (s.spanOf (engUnit 0) j.asid false (j.xrec.idxVas j.chunk) = .ok) &&
      decide (s.spanOf (engUnit 0) j.asid true (j.chunk.map (fun i => (j.xrec.at (fun _ => 0) i).2)) = .ok) &&
      (!(j.unread (j.xrec.idxVas j.chunk)).isEmpty || (!(j.unread (Claims.sources j)).isEmpty &&
        decide (s.spanOf (engUnit 0) j.asid false (Claims.sources j) = .ok))) &&
      decide (((j.unread (j.xrec.idxVas j.chunk)).findSome? (s.engErr true (j.on 0))) = none)) = true := by decide

/-- CopyChunksMove: a chunk with every byte read; its write piece; a page that is refused. -/
theorem witness_chunk_writes :
    (let j := chunky 1 [(8207, 5#8)]
     let s := engined ⟨[], [j], []⟩
     j.unread (j.xrec.idxVas j.chunk) = [] ∧ j.unread (Claims.sources j) = [] ∧
      s.spanOf (engUnit 0) j.asid false (Claims.sources j) = .ok ∧
      s.engMergeErr (j.on 0) ((j.chunk.map (j.xrec.at j.idxOf)).map (fun m => (m.2, m.1.val j.gotAt))) = none) ∧
    (let p : CopyPut := ⟨.dev, 8448, 8448, [(8463, 5#8)]⟩
     let j := { chunky 1 [] with puts := [p] }
     let s := engined ⟨[], [j], []⟩
     (s.engine 0).runs[0]? = some j ∧ j.puts[0]? = some p ∧ s.putErr (j.on 0) p = none ∧ p ∈ s.putsOf (j.on 0) [(8463, 5#8)]) ∧
    (let f : DemandFault := ⟨[engUnit 0], 0, 65536, true, false⟩
     let j := { job .copy 1 with loaded := true, record := ([1, 8192, 65536, 16, 0, 0, 12288, 0].flatMap (natLE 8)) }
     let s := { engined ⟨[], [j], []⟩ with dies := { Die.reset with tc := [lowPage], refused := [f] } :: List.replicate 3 Die.reset }
     s.spanOf (engUnit 0) j.asid true (j.chunk.map (fun i => (j.xrec.at (fun _ => 0) i).2)) = .refused 65536) := by decide

/-- CopiesStartAndEnd: the head of a channel, each kind, with its productions complete or failed; each kind of end. -/
theorem witness_copy_ends :
    ([CopyKind.copy, .chain, .stamp].all (fun k =>
      let s := engined ⟨[job k 1], [], []⟩
      ((s.engine 0).queue.find? (fun x => x.ch == 3) == some (job k 1)) && !(s.engine 0).chained 3 &&
        s.waitsDone (job k 1).owner (job k 1).waits && !s.waitsFailed (job k 1).owner (job k 1).waits &&
        (job k 1).start != (job k 1).xrec.len)) = true ∧
    (let g := { base with toks := [⟨1, 3, 4, 0, true, none⟩] }
     let j := { job .chain 1 with waits := [1] }
     let s := { seat [] g with cores := { homeCore g with copy := ⟨[j], [], []⟩ } :: List.replicate 159 Core.reset }
     s.waitsDone j.owner j.waits = true ∧ s.waitsFailed j.owner j.waits = true) ∧
    ([CopyKind.copy, .stamp].all (fun k =>
      let j := { job k 1 with ended := some ⟨0, 0, 16⟩ }
      let s := engined ⟨[], [j], []⟩
      (k == .stamp || !j.xrec.skip) && (match s.smallWrite 0 j j.stampAt.1 (natLE 8 (stampWord 0 j.stampAt.2 0 16 false)) with
        | .ok _ => true
        | _ => false))) = true ∧
    ([CopyKind.copy, .chain].all (fun k =>
      let j := { job k 1 with record := (513 : Nat) |> fun q => natLE 8 q ++ (recordBytes 1).drop 8, ended := some ⟨0, 0, 16⟩ }
      let s := engined ⟨[], [j], []⟩
      j.xrec.skip && !j.keepOwn && (match s.smallWrite 0 j (j.recAddr + 1) [(j.record.getD 1 0#8) &&& 0xFE#8] with
        | .ok _ => true
        | _ => false))) = true := by decide

/-- ChainsReadTheirRecords: a record without OWN and one with it, the same with the chain parked. -/
theorem witness_chain_reads :
    [0, 256].all (fun own =>
      let j := job .chain 1
      let m := words64 4096 ((1 + own) :: (recordQuads 1).drop 1)
      let s := { engined ⟨[], [j], []⟩ with mem := m }
      (match s.engRead (j.on 0) j.recAddr 64 with
        | .ok l => ((recOf l).own == (own == 256)) && !chainBad (recOf l) (s.engBnd (j.on 0)) (s.jobWin j).1 (s.jobWin j).2
        | _ => false) &&
      (own == 0 || (match s.engRead (j.on 0) j.recAddr 16 with
        | .ok l => (l.getD 1 0#8).getLsbD 0
        | _ => false))) = true := by decide

/-- A step of the leased group on pane 0. -/
def stepping (k : StepKind) (st : StepStage) (waits : List Nat) : MatStep :=
  ⟨9, ⟨1, 0⟩, 0, k, word (2 + 2 * 32 + 2 ^ 10), 0, 0, [], [], none, waits, st, [], none, none⟩

/-- Core 0 with the leased group, steps, and requests for panes. -/
def arrayCore (g : Group) (m : List MatStep) (q : List PaneReq) : State :=
  { seat [] g with cores := { homeCore g with steps := m, reqs := q } :: List.replicate 159 Core.reset }

/-- LeasesAndMatrixSteps: a request for all four panes, of a group and of a run, chosen or not; a grant that lapses exactly now. -/
theorem witness_leases :
    ([none, some 3].all (fun w =>
      let q : PaneReq := ⟨0, w, 15#4, 0, true, []⟩
      let u : PaneReq := ⟨0, w, 15#4, 0, false, []⟩
      decide ((arrayCore base [] [q]).grantable 0 = some q) && decide (((arrayCore base [] [u]).arbitrate 0).grantable 0 = some q) &&
        (panesOf 15).all (fun p => ((arrayCore base [] [u]).core 0).paneFree p && ((arrayCore base [] [u]).panesIn 0).contains p &&
          !(arrayCore base [] [u]).outOf (.pane 0 p)))) = true ∧
    ((arrayCore base [] []).arbitrate 0).grantable 0 = none ∧ 0 < (arrayCore base [] []).cores.length ∧
    (let g := leased 16
     let s := { seat [] g with clk := 16384 }
     s.serving = true ∧ s.group ⟨0, 0⟩ = some g ∧ g.gm ≠ 0#4 ∧ g.granted + 16384 ≤ s.clk) := by decide

/-- LeasesAndMatrixSteps: a step that starts, one that consumed a failed production, one that commits, and one that met an error. -/
theorem witness_matrix :
    ([StepKind.step, .zero, .transposed, .clear].all (fun k =>
      let m := stepping k .waiting []
      let s := arrayCore (leased 16) [m] []
      ((s.core 0).steps.find? (fun x => x.id == 9) == some m) && (s.core 0).canStart m && s.inTurn 0 (cfgPMASK m.cfg) m.readyAt && s.waitsDone (some m.gid) m.waits &&
        !s.waitsFailed (some m.gid) m.waits)) = true ∧
    (let m := stepping .step .waiting [1]
     let s := arrayCore { leased 16 with toks := [⟨1, 3, 4, 0, true, none⟩] } [m] []
     (s.core 0).canStart m = true ∧ s.inTurn 0 (cfgPMASK m.cfg) m.readyAt = true ∧ s.waitsDone (some m.gid) m.waits = true ∧ s.waitsFailed (some m.gid) m.waits = true) ∧
    ([StepKind.step, .clear].all (fun k =>
      let m := { stepping k .running [] with tiles := [(List.replicate 4 0#8, List.replicate 128 0#8)] }
      let c := (arrayCore (leased 16) [m] []).core 0
      decide (c.stepError m = none) && decide (SMap.wfFrom 0#64 none c.acc = true) && decide (((m.out c).map (·.1)).Nodup) &&
        decide (m.err = none) && c.accPoison.isEmpty && c.paneBad.isEmpty)) = true ∧
    (let m := { stepping .step .running [] with err := some ⟨4, 4096⟩ }
     ((arrayCore (leased 16) [m] []).core 0).steps.find? (fun x => x.id == 9) = some m ∧ m.stage = .running ∧ m.err = some ⟨4, 4096⟩) := by
  decide

/-! ### Witnesses: long instructions and collectives -/

/-- The device after a long instruction with its block at 4096 has issued on wick 3. -/
def begun (i : Instr) (op : Nat) (g : Group) : State :=
  match exec i (seat (words64 4096 (blockQuads op ++ attnQuads)) (on .S i g)) with
  | .next t => t
  | _ => State.reset

/-- A property of the long instruction on wick 3 of core 0's slot 0. -/
def withLong (s : State) (f : Group → Wick → Sequencer → Bool) : Bool :=
  s.serving && (match s.longAt ⟨0, 0⟩ 3 with
    | some (g, w, q) => decide (3 < g.wicks.length) && f g w q
    | none => false)

/-- The device with that instruction's sequencer changed. -/
def resequence (s : State) (f : Wick → Sequencer → Wick) : State :=
  match s.longAt ⟨0, 0⟩ 3 with
  | some (g, w, q) => s.setGroup ⟨0, 0⟩ (g.setWick 3 (f w q))
  | none => s

/-- The device after starts of that instruction's step, or ends of its copies. -/
def afterStarts (l : List (Option Nat)) (s : State) : State :=
  l.foldl (fun s c => match exec (.tileStepStart ⟨0, 0⟩ ⟨3, c⟩) s with
    | .next t => t
    | _ => State.reset) s

/-- TileSteps: an XSORT whose next step starts, with its copies still to be issued; with its copy under way; with its operands fetched. -/
theorem witness_step_start :
    (let s := begun (.xsort ⟨3, 1, 0⟩) 0x43 base
     withLong s (fun _ w q => stepReady w q && q.service.isNone && !q.fresh && !isArrayKind w.kind)) = true ∧
    (let s := afterStarts [none] (begun (.xsort ⟨3, 1, 0⟩) 0x43 base)
     withLong s (fun g w q => (q.copies.map (·.live)).head? == some true && !isColl w.kind && w.kind != opXGATH &&
      (q.copies.take 1).all (fun y => decide (s.pageRound g.asid (longMan w.kind q.desc) none (s.copyNeeds ⟨0, g, 3, w, q⟩ y) = .ok)))) = true := by decide
theorem witness_step_runs :
    (let s := afterStarts [none, some 0] (begun (.xsort ⟨3, 1, 0⟩) 0x43 base)
     withLong s (fun g w q => stepReady w q && q.service.isNone && !q.fresh && decide (w.done < w.total) && decide (w.done < q.asked) &&
      q.copies.all (fun y => !y.live || y.chunk != w.done) && (⟨0, g, 3, w, q⟩ : StepAt).contributed &&
      (match s.attempt ⟨0, g, 3, w, q⟩ with
        | .run _ => true
        | _ => false))) = true := by decide

/-- TileSteps: an XMM that holds its panes, and one that asks for them. -/
theorem witness_step_panes :
    withLong (begun (.xmm ⟨3, 1, 0⟩) 0x40 (leased 16)) (fun g w q => stepReady w q && q.service.isNone && !q.fresh && isArrayKind w.kind &&
      ((begun (.xmm ⟨3, 1, 0⟩) 0x40 (leased 16)).core 0).runHolds g 0 3 w.apane 0) = true ∧
    withLong (begun (.xmm ⟨3, 1, 0⟩) 0x40 { base with mcfg := 0x400#64 }) (fun g w q => stepReady w q && q.service.isNone && isArrayKind w.kind &&
      !((begun (.xmm ⟨3, 1, 0⟩) 0x40 { base with mcfg := 0x400#64 }).core 0).runHolds g 0 3 w.apane 0) = true := by decide

/-- What a started step would commit: 8 bytes at an address, a guard in trap mode tripped or none. -/
def outcome (va : Nat) (trap : Option Nat) : StepOut := ⟨0, [(8 * va, 64, 5)], [], [], trap, 0, false, false, [], []⟩

/-- TileSteps: a started step that commits, one whose output page is gone, one whose guard trapped. -/
theorem witness_step_commit :
    [(8192, none), (65536, none), (8192, some 15)].all (fun e =>
      let o := outcome e.1 e.2
      let s := resequence (begun (.xsort ⟨3, 1, 0⟩) 0x43 base) (fun w q => { w with seq := some { q with run := some o } })
      withLong s (fun g w q => (q.run == some o) && (s.outReady ⟨0, g, 3, w, q⟩ o == (e.1 == 8192)) && w.kind != opKVSHOOT && q.acks.isEmpty &&
        decide (q.stop = .none) && decide (s.outMergeErr (seqFor 0 g) o.mem = none))) = true := by decide

/-- TileSteps: an output that would merge into a granule in error. -/
theorem witness_step_merge :
    (let o := outcome 8192 none
     let s := { resequence (begun (.xsort ⟨3, 1, 0⟩) 0x43 base) (fun w q => { w with seq := some { q with run := some o } }) with poison := [(512, 1)] }
     withLong s (fun g w q => (q.run == some o) && s.outReady ⟨0, g, 3, w, q⟩ o && (s.outMergeErr (seqFor 0 g) o.mem).isSome)) = true := by decide

/-- TileSteps: a KVSHOOT whose last buffer acknowledges, and one whose buffers all have. -/
theorem witness_shoot :
    (let s := begun (.kvshoot ⟨3, 1, 0⟩) 0x51 base
     let started := resequence s (fun w q => { w with seq := some { q with run := some (outcome 8192 none), acks := [159] } })
     withLong started (fun _ w q => q.acks.contains 159 && w.kind == opKVSHOOT)) = true ∧
    (let s := begun (.kvshoot ⟨3, 1, 0⟩) 0x51 base
     let ended := resequence s (fun w q => { w with seq := some { q with run := some (outcome 8192 none), acks := [] } })
     withLong ended (fun g w q => q.run.isSome && q.acks.isEmpty && w.kind == opKVSHOOT &&
      decide (ended.span (seqUnit 0) g.asid (shootOf q.desc).ack 8 true = .ok) &&
      decide (ended.mergeErr (seqUnit 0) g.asid (shootOf q.desc).ack 8 = none))) = true := by decide

/-- A collective of ranks 0 and 1, of one 32-bit element, that has issued on wick 3. -/
def collected (i : Instr) (op : Nat) : State :=
  let block := if op = 0x5F then [0x5F, 1, 12288, 0, 0, 0, 0, 144 * 2 ^ 32, 4224, 0, 0, 0, 0, 0, 0, 0]
    else [op + 4 * 2 ^ 16, 1, 12288, 8192, 9216, 1, 0, 144 * 2 ^ 32, 0, 0, 0, 0, 0, 0, 0, 0]
  match exec i (seat (Mem.writeN (words64 4096 (block ++ attnQuads)) 12288 (natLE 8 (2 ^ 32))) (on .S i base)) with
  | .next t => t
  | _ => State.reset

/-- CollectivesExchange: a member whose parameters disagree; the contribution that is awaited, from a member that agreed. -/
theorem witness_receive :
    (let s := collected (.callred ⟨3, 1, 0⟩) 0x58
     (s.collAt ⟨0, 0⟩ 3).isSome && withLong s (fun _ w q =>
      (collOf q.desc).others == [1] && !q.agreed.contains 1 && decide ([] ≠ collParams q.desc q.list) && (collOf q.desc).kind != opCRING &&
      (collOf q.desc).takes { q with agreed := [1] } w.done { src := 1, params := collParams q.desc q.list, chunk := 0, data := List.replicate 4 0#8, flags := 0#6 })) = true := by decide

/-- CollectivesExchange: a request for CRING's first chunk, and for a chunk that a peer forms; a send that is outstanding. -/
theorem witness_request :
    (let s := collected (.cring ⟨3, 1, 0⟩) 0x5F
     (s.collAt ⟨0, 0⟩ 3).isSome && withLong s (fun _ _ q => (collOf q.desc).asks 0 1 && q.copies.isEmpty && (collOf q.desc).kind == opCRING)) =
      true ∧
    (let s := collected (.credsc ⟨3, 1, 0⟩) 0x59
     (s.collAt ⟨0, 0⟩ 3).isSome && withLong s (fun g w q => (collOf q.desc).asks 0 1 && q.copies.isEmpty && (collOf q.desc).kind != opCRING &&
      ((collOf q.desc).ownReads 0 1).all (fun y => decide (s.span (seqUnit 0) g.asid y.1 y.2 false = .ok)) &&
      (collOf q.desc).former 0 == (collOf q.desc).me && decide (s.readsErr ⟨0, g, 3, w, q⟩
        ((⟨0, g, 3, w, q⟩ : StepAt).at ((collOf q.desc).ownReads 0 1)) = none))) = true ∧
    (let s := resequence (collected (.callred ⟨3, 1, 0⟩) 0x58) (fun w q => { w with done := 1, status := stDONE, seq := some q })
     (s.collAnswers ⟨0, 0⟩ 3).isSome && withLong s (fun _ w q => (collOf q.desc).asks 0 1 && q.copies.isEmpty &&
      (collOf q.desc).former 0 == (collOf q.desc).me && decide (0 < w.done))) = true ∧
    (let s := resequence (collected (.cring ⟨3, 1, 0⟩) 0x5F) (fun w q => w.withCopies { q with copies := [⟨0, 1, 0, true⟩] })
     withLong s (fun _ _ q => q.copies.find? (fun y => y.chunk == 0) == some ⟨0, 1, 0, true⟩)) = true := by decide

/-! ### Witnesses: steps, traps and translation -/

/-- PredicatesGovernParts: a part whose predicate is false, negated and plain. -/
theorem witness_predicates :
    [15#5, 16#5].all (fun k =>
      let i := Instr.add ⟨15, 15, 15, k⟩
      let g := on .S i base
      let s := seat [] g
      s.serving && s.hasTurn ⟨0, 0⟩ && !heldBack s ⟨0, 0⟩ g && !g.asyncDue && decide (verdict s ⟨0, 0⟩ g .S (part i) i = .go) &&
        decide (s.joint = none) && !g.predOn (part i) i) = true ∧
    [0#5, 31#5].all (fun k =>
      let i := Instr.add ⟨15, 15, 15, k⟩
      let g := on .S i base
      let s := seat [] g
      s.serving && s.hasTurn ⟨0, 0⟩ && !heldBack s ⟨0, 0⟩ g && !g.asyncDue && decide (verdict s ⟨0, 0⟩ g .S (part i) i = .go) &&
        decide (s.joint = none) && g.predOn (part i) i && !raises g (part i) i) = true ∧
    (let i := Instr.brk ⟨1, 0⟩
     let g := on .S i base
     raises g (part i) i = true ∧ trapsBefore (seat [] g) ⟨0, 0⟩ g .S (part i) = false) := by decide

/-- The device with a turn on its agenda. -/
def turned (t : Turn) (s : State) : State := { s with agenda := [t] }

/-- StepRunsDecoded: a turn of a part, a turn of an event, the default turn of a part, and the default turn of a fetch. -/
theorem witness_steps :
    (let i := Instr.add ⟨1, 2, 15, 0⟩
     let s := turned ⟨3, .part ⟨0, 0⟩ .S⟩ (seat [] (on .S i base))
     s.headOf .S = some (on .S i base, part i) ∧ decodePart (part i).word = .ok i ∧ syncMates (on .S i base) .S (part i) = []) ∧
    slotOf (.deviceReset) = none ∧
    (let i := Instr.add ⟨1, 2, 15, 0⟩
     let s := seat [] (on .S i base)
     s.agenda = [] ∧ s.group s.cur = some (on .S i base) ∧ (on .S i base).fly = [] ∧ s.pickSlot = some (.S, part i) ∧ isNop (part i).instr = false ∧
      [Slot.A, .V, .M, .C, .K].all (fun j => (s.readyHead j).isNone) = true) ∧
    (let s := stored 0 base
     s.agenda = [] ∧ s.group s.cur = some base ∧ s.pickSlot = none ∧ canDispatch s s.cur base = true ∧
      (match decodeBundle 0 with
        | .ok _ => true
        | .error _ => false) = true ∧
      (match exec (.bundleDecode s.cur) s with
        | .next _ => true
        | _ => false) = true) := by
  refine ⟨⟨rfl, by decide, by decide⟩, rfl, ⟨rfl, rfl, rfl, by decide, by decide, by decide⟩, rfl, rfl, by decide, by decide, by decide, by decide⟩

/-- StepKeepsCanonical and IssuesWriteNoMemory: a step of a part from memories in their canonical form. -/
theorem witness_step_next :
    (match step (seat [] (on .S (.add ⟨1, 2, 15, 0⟩) base)) with
      | .next _ => true
      | _ => false) = true ∧
    (slotOf (.add ⟨1, 2, 15, 0⟩)).isSome = true ∧
    (match exec (.add ⟨1, 2, 15, 0⟩) (seat [] (on .S (.add ⟨1, 2, 15, 0⟩) base)) with
      | .next _ => true
      | _ => false) = true := by decide

/-- A group with a handler, in it or not. -/
def handled (vec : Word) (inh : Bool) : Group := { base with trap := { base.trap with vec := vec, inh := inh } }

/-- TrapEntry: a group with a handler, without one, and in one. -/
theorem witness_trap_entry :
    ((seat [] (handled 96 false)).group ⟨0, 0⟩).isSome = true ∧ (handled 96 false).trap.inh = false ∧ (handled 96 false).trap.vec ≠ 0#64 ∧
      ((seat [] (handled 0 false)).group ⟨0, 0⟩).isSome = true ∧ (handled 0 false).trap.vec = 0#64 ∧
      ((seat [] (handled 96 true)).group ⟨0, 0⟩).isSome = true ∧ (handled 96 true).trap.inh = true := by decide

/-- Page tables (14 Table 14.5): root at 0, tables at 4096 and 8192; leaves of 1 GiB for pages 0 (device), 1 (host), 3 (read only) and 4 (host,
read only). -/
def tables : Mem :=
  Mem.writeN (Mem.writeN (Mem.writeN [] 0 (natLE 8 (1 + 4096))) 4096 (natLE 8 (1 + 8192))) 8192
    ([1 + 2 + 4 + 2 ^ 30, 1 + 2 + 4 + 8, 0, 1 + 2 + 2 ^ 30, 1 + 2 + 8].flatMap (natLE 8))

/-- A die with a root of address space 7 and an empty cache; its demand faults; its requests to the host. -/
def walkDie (f a p : List DemandFault) : Die := { Die.reset with roots := [⟨7, 0⟩], faults := f, ats := a, pri := p }

/-- The device with such a die 0. -/
def walking (f a p : List DemandFault) : State := { seat tables base with dies := walkDie f a p :: List.replicate 3 Die.reset }

/-- A write fault of core 0's copy engine. -/
def faultAt (va : Nat) : DemandFault := ⟨[.engine 0 .copy], 7, va, true, false⟩

/-- TranslationEvents: a page that die 0's cache holds, which the copy engine's own cache misses; a page whose walk another unit has begun. -/
theorem witness_joins :
    (let s := { seat tables base with dies := { walkDie [] [] [] with tc := [⟨7, 0, 30, 0, true, false, false⟩] } :: List.replicate 3 Die.reset }
     unitOk (.engine 0 .copy) = true ∧ isGlobal 0 = true ∧ s.translate (.engine 0 .copy) 7 0 true = .hit 0 false ∧
      s.cached (.engine 0 .copy) 7 0 = some ⟨7, 0, 30, 0, true, false, false⟩) ∧
    (let s := walking [] [⟨[.engine 0 .seq], 7, 2 ^ 30 + 5, false, true⟩] []
     s.translate (.engine 0 .copy) 7 (2 ^ 30) true = .miss ∧ s.walk 0 7 (2 ^ 30) = .host 30 true ∧ s.unasked (.engine 0 .copy) 7 (2 ^ 30) = false ∧
      ∃ x ∈ (s.die (unitDie (.engine 0 .copy))).walks, x.asid = 7 ∧ page x.va = page (2 ^ 30)) ∧
    (let s := walking [faultAt (3 * 2 ^ 30)] [] []
     (s.die 0).walks = [faultAt (3 * 2 ^ 30)] ∧ s.translate (.engine 0 .seq) 7 (3 * 2 ^ 30) false = .miss ∧
      s.translate (.engine 0 .seq) 7 (3 * 2 ^ 30) true = .miss ∧ s.unasked (.engine 0 .seq) 7 (3 * 2 ^ 30) = false ∧
      s.walk 0 7 (3 * 2 ^ 30) = .leaf ⟨7, 3 * 2 ^ 30, 30, 2 ^ 30, false, false, false⟩) := by
  refine ⟨by decide, ⟨by decide, by decide, by decide, ⟨⟨[.engine 0 .seq], 7, 2 ^ 30 + 5, false, true⟩, by decide, by decide⟩⟩, by decide⟩

/-- TranslationEvents: the walks of a mapped page, a host-backed page, two without the right and one with no translation, with no walk in
flight; a miss with 256 walks in flight. -/
theorem witness_walks :
    unitOk (.engine 0 .copy) = true ∧
    [0, 2 ^ 30, 3 * 2 ^ 30, 4 * 2 ^ 30, 2 ^ 55].all (fun va => isGlobal va && decide ((walking [] [] []).translate (.engine 0 .copy) 7 va true = .miss)) = true ∧
    (match (walking [] [] []).walk 0 7 0 with
      | .leaf e => e.w
      | _ => false) = true ∧
    (match (walking [] [] []).walk 0 7 (2 ^ 30) with
      | .host _ w => w
      | _ => false) = true ∧
    (match (walking [] [] []).walk 0 7 (3 * 2 ^ 30) with
      | .leaf e => !e.w
      | _ => false) = true ∧
    (walking [] [] []).walk 0 7 (4 * 2 ^ 30) = .host 30 false ∧ (walking [] [] []).unasked (.engine 0 .copy) 7 (4 * 2 ^ 30) = false ∧
    (walking [] [] []).walk 0 7 (2 ^ 55) = .none ∧ (walking [] [] []).unasked (.engine 0 .copy) 7 (2 ^ 55) = false ∧
    (let s := walking (List.replicate 256 (faultAt (2 ^ 55))) [] []
     256 ≤ (s.die 0).walks.length ∧ s.translate (.engine 0 .copy) 7 0 true = .miss ∧
      (s.die 0).faults.all (fun x => !(page x.va == page 0)) = true) := by decide

/-- TranslationEvents: the oldest fault of a die, whose service maps its page; an entry that it writes; the host's answers to the one request
it has. -/
theorem witness_host :
    (let s := walking [faultAt (2 * 2 ^ 30)] [] []
     let l : List PteWrite := [⟨8208, word (1 + 2 + 4 + 2 ^ 30)⟩]
     (s.die 0).faults = [faultAt (2 * 2 ^ 30)] ∧
      (match (s.setDie 0 { s.die 0 with faults := [] }).serviceWrites l with
        | some u => u.mapped 0 7 (2 * 2 ^ 30) true && u.diesAgree 7 (2 * 2 ^ 30) && u.tasks.all (fun t => u.leasesHold t.asid) &&
          (s.setDie 0 { s.die 0 with faults := [] }).keeps u (fun _ _ => false)
        | none => false) = true) ∧
    (let s := { walking [] [] [] with tasks := [{ task1 with asid := 7, launch := { Launch.blank with ranges := [⟨2 ^ 31, 65536, 3⟩] } }] }
     [true, false].all (fun wr => s.leased 7 (2 ^ 31) wr && !s.leased 7 (2 ^ 32) wr) = true) ∧
    (let s := walking [] [faultAt (2 ^ 30)] []
     s.dies.length = 4 ∧ (s.die 0).ats = [faultAt (2 ^ 30)] ∧ [1, 2, 3].all (fun k => (s.die k).ats.isEmpty) = true ∧
      (match s.hostEntry 0 (faultAt (2 ^ 30)) true with
        | some e => e.w
        | none => false) = true ∧
      [true, false].all (fun rd => match s.hostEntry 0 { faultAt (2 ^ 30) with rd := rd } false with
        | some e => !e.w
        | none => false) = true ∧
      [true, false].all (fun wr => !s.leased 7 (2 ^ 30) wr) = true) := by decide

/-- TranslationEvents: an invalidation that no piece and no copy waits for, and a change of a page that nothing uses. -/
theorem witness_changes :
    (let s := walking [] [] []
     s.cores.all (fun c => c.active.all (fun g => (g.piecesIn ⟨7, page 0 * 65536, 65536⟩).isEmpty)) = true ∧
     s.engines.all (fun e => e.runs.isEmpty) = true) ∧
    (let s := walking [] [] []
     let l := changedPages s s (s.changeRange 9 0)
     sameData s (copyHostPages s s l) (s.changeRange 9 0) l = true ∧ (copyHostPages s s l).strands (s.changeRange 9 0) = false ∧
      (copyHostPages s s l).leasesHold 9 = true) := by decide
/-- The XSORT with MAN set after its step has begun, where no cache holds a translation. -/
def manual : State :=
  let s := resequence (begun (.xsort ⟨3, 1, 0⟩) 0x43 base) (fun w q => { w with seq := some { q with desc := q.desc.set 1 1#8 } })
  { s with
    dies := List.replicate 4 Die.reset
    cores := s.cores.map (fun c => c.dropTrans (fun _ => true)) }

/-- TranslationEvents: a miss for which no service is asked, since only an instruction with MAN set lacks the page. -/
theorem witness_unasked :
    manual.serving = true ∧ manual.unasked (.engine 0 .seq) 0 0 = true ∧ manual.translate (.engine 0 .seq) 0 0 false = .miss ∧
    manual.walk 0 0 0 = .none ∧
    (let s := { manual with dies := { Die.reset with faults := [⟨[.engine 0 .copy], 0, 0, false, true⟩] } :: List.replicate 3 Die.reset }
     s.unasked (.engine 0 .seq) 0 0 = true ∧ (s.die 0).walks.length = 1 ∧ s.walk 0 0 0 = .none) := by decide

/-- StepRunsDecoded: a turn of a part that its bundle's sync names with another. -/
theorem witness_step_sync :
    let i := Instr.add ⟨1, 2, 15, 0⟩
    let p := { part i with full := true }
    let g := (base.setSlotQ .S [p]).setSlotQ .A [{ p with word := (encodePart .anop).getD (.s 0#40) }]
    let s := turned ⟨3, .part ⟨0, 0⟩ .S⟩ (seat [] g)
    s.headOf .S = some (g, p) ∧ decodePart p.word = .ok i ∧ syncMates g .S p ≠ [] ∧ syncNames p .S = true ∧
    (match exec i s with
      | .next _ => true
      | _ => false) = true ∧ goTogether s s.cur g .S p = true ∧
    (match State.issueEach p.seq ((List.replicate 6 slots).flatten) { s with joint := some p.seq } with
      | .next _ => true
      | _ => false) = true := by decide

/-- StepRunsDecoded: a sync of an add and a breakpoint of the A slot's fence, held back by an asynchronous trap; one whose jump would trap; a
breakpoint that waits in its round for the part that it names. -/
theorem witness_step_sync_held :
    let q (i : Instr) (g : Group) : Group :=
      (g.setSlotQ .S [{ part i with full := true }]).setSlotQ .A [{ part i with full := true, word := (encodePart .anop).getD (.s 0#40) }]
    let s (g : Group) : State := turned ⟨3, .part ⟨0, 0⟩ .S⟩ (seat [] g)
    (let i := Instr.add ⟨1, 2, 15, 0⟩
     let g := q i { base with trap := { base.trap with dataErr := some ⟨1, 2, false⟩ } }
     syncMates g .S { part i with full := true } ≠ [] ∧ goTogether (s g) ⟨0, 0⟩ g .S { part i with full := true } = false ∧
      syncGoes (s g) ⟨0, 0⟩ g .S { part i with full := true } = true) ∧
    (let i := Instr.jmp ⟨2, 0, 0⟩
     let g := q i base
     syncMates g .S { part i with full := true } ≠ [] ∧ syncGoes (s g) ⟨0, 0⟩ g .S { part i with full := true } = false) ∧
    (let i := Instr.brk ⟨1, 0⟩
     let g := q i base
     (s g).headOf .S = some (g, { part i with full := true }) ∧ slotOf i = some .S ∧ syncNames { part i with full := true } .S = true ∧
      matesFirst g .S { part i with full := true } i = true) := by decide

/-! ### Witnesses: tasks, pre-emption, overlays and SNUFF -/

/-- AnswersAndAsyncTraps: a pending trap of each kind. -/
theorem witness_async :
    [true, false].all (fun range =>
      let t : PendTrap := ⟨1, 2, false⟩
      let g := { base with trap := { base.trap with rangeErr := if range then some t else none, dataErr := some t } }
      let s := seat [] g
      s.serving && g.asyncDue && !g.headerHolds && !s.raisesTrap ⟨0, 0⟩ g) = true := by decide

/-- Queue 5 of die 0: context at 4096, a ring of 16 slots at 8192, an exception ring of 16 places at 12288. -/
def queueAt (events : List QueueEvent) (posts : List Posting) (nodes : List Node) : CmdQueue :=
  ⟨5, 4096, 8192, 16, 12288, 16, 0, 0, 0, 1, 1, .run, false, 0, 0, 1, 0, 0, events, posts, nodes, []⟩

/-- The device with queue 5, its context's quads, and the group. -/
def queued (ctx : List Nat) (cq : CmdQueue) (g : Group) : State := { seat (words64 4096 ctx) g with queues := [cq] }

/-- A stopped group's record, with serial 0xFFFFFFFF on queue 5; and a queue event with it. -/
def stopped : StopRec := ⟨96, 0, 0, none, 1, 0xFFFFFFFF, 5, false, none⟩
def eventAt (code : Nat) : QueueEvent := ⟨code, 0, 16384, 0xFFFFFFFF, natLE 8 1⟩

/-- A context whose answer names serial 0xFFFFFFFF with a CODE. -/
def answering (code : Nat) : List Nat := [0, 0, 0, 0, 0, 0xFFFFFFFF * 2 ^ 32 + 4 + code, 0, 0]

/-- AnswersAndAsyncTraps: each answer to a stopped group and to a queue event, CODE 3, and an answer that names no record. -/
theorem witness_answers :
    [0, 1, 2].all (fun c =>
      let s := queued (answering c) (queueAt [] [] []) { base with stop := some stopped }
      let t := queued (answering c) (queueAt [eventAt 5] [] []) base
      s.serving && s.ctxReady (queueAt [] [] []) && decide (s.ctxAnswer (queueAt [] [] []) = some (0xFFFFFFFF, c)) &&
      (match s.answered (queueAt [] [] []) 0xFFFFFFFF with
        | some (.group id) => id == ⟨1, 0⟩
        | _ => false) &&
      t.ctxReady (queueAt [eventAt 5] [] []) && decide (t.ctxAnswer (queueAt [eventAt 5] [] []) = some (0xFFFFFFFF, c)) &&
      (match t.answered (queueAt [eventAt 5] [] []) 0xFFFFFFFF with
        | some (.event e) => e == eventAt 5 && ((t.clearValid (queueAt [eventAt 5] [] [])).answerEvent (queueAt [eventAt 5] [] []) e (c == 0)).isSome
        | _ => false)) = true ∧
    (let s := queued (answering 3) (queueAt [] [] []) base
     s.ctxReady (queueAt [] [] []) = true ∧ s.ctxAnswer (queueAt [] [] []) = some (0xFFFFFFFF, 3) ∧
      s.answered (queueAt [] [] []) 0xFFFFFFFF = none) ∧
    stopped.abortOnly = false ∧ base.trap.inh = false := by decide

/-- A task queued on die 0 for one core. -/
def waiting : Task := { task1 with id := 2, queue := .command 5, order := 1, state := .queued, cores := [], todo := [], left := 1 }

/-- The device with tasks 1 and 2. -/
def tasked (a b : Task) : State := { seat [] base with tasks := [a, b], cores := { homeCore base with task := some 1 } :: List.replicate 159 Core.reset }

/-- TasksRunAndEnd: an admission to core 1, with a range of one page that both may write; a group that starts on core 0; a group that retires,
and one in the tracker; a task that ends, with a completion word and without. -/
theorem witness_tasks :
    (let q := { waiting with asid := 7, launch := { Launch.blank with ranges := [⟨2 ^ 30 - 65536, 65536, 3⟩] } }
     let s := { tasked task1 q with mem := tables, dies := walkDie [] [] [] :: List.replicate 3 Die.reset }
     s.task 2 = some q ∧ s.serving = true ∧ s.mayAdmit q = true ∧ s.classFirst q = true ∧ s.placeOk q [1] = true ∧
      q.launch.ranges.all (fun x => (pagesOf x.base x.size) == [x.base] && x.mode.testBit 1) = true ∧
      (match (s.pteWrites []).walk 0 7 (2 ^ 30 - 65536) with
        | .leaf e => e.w
        | _ => false) = true ∧ 1 < s.cores.length) ∧
    (let q := { waiting with asid := 7, launch := { Launch.blank with ranges := [⟨2 ^ 30, 1, 3⟩] } }
     let e : TransEnt := ⟨7, 2 ^ 30, 30, 0, true, false, true⟩
     let s := { tasked task1 q with mem := tables, dies := { walkDie [] [] [] with granted := [e] } :: List.replicate 3 Die.reset }
     s.mayAdmit q = true ∧ s.placeOk q [1] = true ∧ pagesOf (2 ^ 30) 1 = [2 ^ 30] ∧
      (match (s.pteWrites []).walk 0 7 (2 ^ 30) with
        | .host _ w => w
        | _ => false) = true ∧ ((s.pteWrites []).die 0).granted.contains e = true ∧ e.covers 7 (2 ^ 30) = true) ∧
    (let t := { task1 with todo := [(0, 7)] }
     let s := { tasked t waiting with
                cores := { (homeCore base) with task := some 1, slots := List.replicate 8 none, rows := [0] } :: List.replicate 159 Core.reset }
     (s.core 0).task.bind s.task = some t ∧ (s.core 0).taken = false ∧ (s.core 0).saved = [] ∧
      t.todo.find? (fun x => x.1 == 0) = some (0, 7) ∧
      (List.range t.launch.seats).find? (fun k => ((s.core 0).slots.getD k none).isNone) = some 0 ∧
      (s.core 0).freeRows t.launch.arows = some 0) ∧
    (let g := { base with ended := true }
     (((seat [] g).core 0).slots.getD 0 none).isSome = true ∧ ((seat [] g).core 0).engineIdle g = true) ∧
    (let c := { homeCore base with tracker := [base] }
     c.tracker[0]? = some base ∧ c.engineIdle base = true) ∧
    [0, 16384].all (fun a =>
      let t := { task1 with left := 0, launch := { Launch.blank with donea := a } }
      let s := tasked t waiting
      decide (s.task 1 = some t) && t.todo.isEmpty && (match s.flushL1.writeWord (.die t.home) t.asid 16384 (natLE 8 (taskDone t s.clk)) with
        | .ok _ => true
        | _ => false)) = true := by decide

/-- A group at a point of pre-emption: the S part of a bundle with PP at the head of every slot's queue. -/
def atPP : Group :=
  let q (w : PartWord) : List Part := [⟨64, 16, 0x100#16, 0#16, false, true, w⟩]
  { base with preempt := true, qs := q (.s 0), qa := q (.a 0), qv := q (.v 0), qm := q (.m 0), qc := q (.c 0), qk := q (.k 0) }

/-- PreemptionEvents: a group that is ready and one that is not; an age of exactly 64 clk, and one less. -/
theorem witness_ages :
    let g := on .S (.add ⟨1, 2, 15, 0⟩) base
    let h := { g with readySince := some 0 }
    groupReady (seat [] base) ⟨0, 0⟩ base = false ∧ groupReady (seat [] g) ⟨0, 0⟩ g = true ∧ g.promoted = false ∧
      groupReady { seat [] h with clk := 64 } ⟨0, 0⟩ h = true ∧ groupReady { seat [] h with clk := 63 } ⟨0, 0⟩ h = true := by decide

/-- Tasks 1, of class 1, on every core of the device, and 2, of class 0, that waits for one. -/
def crowded : State :=
  { tasked { task1 with launch := { Launch.blank with cls := 1 } } waiting with
    cores := { homeCore base with task := some 1 } :: List.replicate 159 { Core.reset with task := some 1 } }

/-- PreemptionEvents: a task of class 0 takes one core of a task of class 1 where none is free. -/
theorem witness_decision :
    let v := { task1 with launch := { Launch.blank with cls := 1 } }
    crowded.task 2 = some waiting ∧ crowded.task 1 = some v ∧ crowded.waits waiting = true ∧ crowded.mayAdmit waiting = true ∧
      crowded.suffices waiting [] = false ∧ (crowded.takable waiting v).contains 0 = true ∧
      crowded.enoughOf waiting [] (crowded.victimsOf waiting) = some [v] ∧ crowded.suffices waiting [0] = true ∧
      crowded.suffices waiting (([0] : List Nat).erase 0) = false ∧ v.outing = false := by decide

/-- PreemptionEvents: no decision, where cores are free and where neither class nor deadline gives one. -/
theorem witness_no_decision :
    (tasked task1 waiting).suffices waiting [] = true ∧ (tasked task1 waiting).preempts waiting task1 = false := by decide

/-- PreemptionEvents: a landing, and a save. -/
theorem witness_landing :
    landsHere (seat [] atPP) ⟨0, 0⟩ atPP = true ∧ atPP.headerHolds = false ∧
    (let g := { base with landed := true }
     let c := { homeCore g with task := some 1, taken := true }
     (c.slots.filterMap id).all (fun g => g.landed && c.quiet g) = true) := by decide

/-- PreemptionEvents: a resumption of one group that asked for a pane; of a core that had none yet to start. -/
theorem witness_resumption :
    ([[{ base with landed := true, lm := 8#4 }], []] : List (List Group)).all (fun l =>
      let t : Task := { task1 with state := .preempted }
      let c : Core := { Core.reset with saved := l, savedPad := [⟨1, [], [], [], []⟩] }
      let s : State := { tasked t waiting with cores := c :: List.replicate 159 Core.reset }
      (s.core 0).savedPad.find? (fun p => p.task == 1) == some ⟨1, [], [], [], []⟩ && s.mayAdmit t && s.classFirst t &&
        (s.core 0).task.isNone && (s.core 0).slots.all (·.isNone) && (s.core 0).rowsFit t.launch &&
        (s.core 0).saved.all (fun g => s.reissueReady 0 g && !g.lost && g.stop.isNone && decide (g.cls < 4)) &&
        decide ((s.core 0).saved.length ≤ 8)) = true := by decide

/-- An image of one overlay at 64 to 127, its header and table at 0 (13 R338). -/
def image : List Byte :=
  natLE 2 1 ++ natLE 2 1 ++ natLE 4 128 ++ natLE 8 (2 ^ 64 - 1) ++ natLE 4 32 ++ natLE 4 0 ++ natLE 8 0 ++ natLE 4 64 ++ natLE 4 64 ++ natLE 8 0

/-- OverlaysAndSnuffs: an image seen before, a header that breaks R338, and an overlay that is loaded. -/
theorem witness_overlays :
    (let g := { base with started := false }
     let s := { seat [] g with cores := { homeCore g with images := [⟨0, 0, 96⟩] } :: List.replicate 159 Core.reset }
     s.task g.gid.task = some task1 ∧ g.dispatchHeld = false ∧ g.asyncDue = false ∧ ({ g with started := true } : Group).fetches = true ∧
      ((s.core 0).images.find? (fun i => i.image == 0 && i.asid == g.asid)).isSome = true) ∧
    (let g := { base with started := false }
     let s := seat [] g
     (s.core 0).images = [] ∧ g.allIssued = true ∧ g.headerHolds = false ∧ (match s.homeRead (.core 0) g.asid 0 32 with
      | .ok h => Machine.headerBad h
      | _ => false) = true) ∧
    (let s := seat (Mem.writeN [] 0 image) base
     s.residentFor ⟨0, 0⟩ base = none ∧
      (match s.homeRead (.core 0) 0 0 32, s.homeRead (.core 0) 0 32 16, s.homeRead (.core 0) 0 64 64 with
        | .ok h, .ok tb, .ok _ => hdrField h 16 4 == 32 && hdrField h 2 2 == 1 && overlaysOf tb == [(64, 64)]
        | _, _, _ => false) = true ∧ base.pc = 96 ∧ (makeRoom (s.evictable 0) 64 0 []).isSome = true) := by decide

/-- A SNUFF of scope 1 that has reached some sites, with the tasks it still has to see to. -/
def snuffing (reached : List SnuffSite) (tasks : List Nat) : State :=
  { seat [] base with snuffs := [{ Snuff.start 9 1 [1] tasks 16384 0 5 with reached := reached }] }

/-- OverlaysAndSnuffs: the group's core, then its last copy channel; a die's scheduler; the end of a SNUFF; a lamp test. -/
theorem witness_snuffs :
    ((snuffing [] [1]).snuffAt 9).isSome = true ∧ base.ended = false ∧ base.snuffed = false ∧
    (((snuffing [.core 0] [1]).snuffAt 9).map (fun u => u.reached.contains (.core 0) && !u.reached.contains (.copyChannel 0 7) &&
      !u.reached.contains (.scheduler 3))) = some true ∧
    (let s := snuffing [.scheduler 0, .scheduler 1, .scheduler 2, .scheduler 3] []
     match s.snuffAt 9 with
     | some u => s.snuffMet u && u.followers.isEmpty && (match ({ s with snuffs := [] } : State).writeWord (s.ackUnit u) u.asid u.ack
        (ackBytes u.removed u.stopped u.cut u.refused u.performed u.dropped) with
        | .ok _ => true
        | _ => false)
     | none => false) = true ∧
    ([⟨.vector 159, 1, ⟨0, 0, 159, 0, 0, 0⟩⟩] : List LampJob).find? (fun j => decide (j.unit = .vector 159)) ≠ none := by decide

/-! ### Witnesses: queues, nodes and management -/

/-- A node in slot 0 with its record's quads. -/
def nodeOf (quads : List Nat) : Node :=
  ⟨0, (quads ++ List.replicate (16 - quads.length) 0).flatMap (natLE 8), [], 0, 0, 0, false, none, none, 0, 0, false⟩

/-- A record of a kind with a completion address and payload quads. -/
def nodeQuads (kind done : Nat) (p : List Nat) : List Nat := [kind, 0, 0, 0, 0, done] ++ p

/-- The device with queue 5, the words at 4096 (its context) and a node's record at its ring. -/
def ringed (ctx rec : List Nat) (cq : CmdQueue) : State :=
  { seat (Mem.writeN (words64 4096 ctx) 8192 (rec.flatMap (natLE 8))) base with queues := [cq] }

/-- QueuesFetchAndFinish: PROD at the ring's size and past it; a record armed, a malformed one, one whose successor is itself. -/
theorem witness_fetch :
    [16, 17].all (fun p =>
      let s := queued [0, p, 0, 0, 0, 0, 0, 0] (queueAt [] [] []) base
      s.serving && (queueAt [] [] []).running && s.ctxReady (queueAt [] [] []) &&
        (decide (since32 (s.ctxQuad (queueAt [] [] []) 1 % 2 ^ 32) 0 ≤ 16) == (p == 16))) = true ∧
    [nodeQuads 5 0 [0, 0, 0, 0, 0], nodeQuads 4 0 [16384], nodeQuads (4 + 2 ^ 32) 0 [16384]].all (fun rec =>
      let cq := queueAt [] [] []
      let s := ringed [] rec cq
      let n := nodeOf rec
      decide (cq.fetched ≠ cq.prod) && (match s.qRead cq (cq.ring + 128 * 0) 128, s.qRead cq (n.quad 4) (2 * (nsucc n - 8)) with
        | .ok b, .ok ovf => b == n.record && n.headBad == (nbits (n.quad 0) 0 8 == 5) &&
          (cq.succBad n (n.succOf ovf) == (nsucc n == 1))
        | _, _ => false)) = true := by decide

/-- QueuesFetchAndFinish: a malformed record with nine successors, whose ninth is in an array, and one whose array cannot be read; the queue
fetched after the last one served, before another with a record. -/
theorem witness_fetch_order :
    [20480, 20481].all (fun a =>
      let rec_ := [255 + 9 * 2 ^ 32, 0, 0, 0, a]
      let cq := queueAt [] [] []
      let s := ringed [] (rec_ ++ List.replicate 11 0) cq
      let n := nodeOf rec_
      n.headBad && (decide (8 < nsucc n ∧ n.quad 4 % 2 = 0 ∧ isGlobal (n.quad 4) = true) == (a == 20480)) &&
        (match s.qRead cq (cq.ring + 128 * 0) 128, s.qRead cq 20480 (2 * (nsucc n - 8)) with
          | .ok b, .ok ovf => b == n.record && ovf == [0#8, 0#8]
          | _, _ => false)) = true ∧
    (let s := { ringed [] [] (queueAt [] [] []) with queues := [{ queueAt [] [] [] with q := 4 }, queueAt [] [] []], fetchRR := 4 }
     s.queues.all (fun x => decide ((5 + 4095 - s.fetchRR) % 4096 ≤ (x.q + 4095 - s.fetchRR) % 4096)) = true) := by decide

/-- QueuesFetchAndFinish: a node whose work is done, with a completion word and without; a record for the exception ring's last place. -/
theorem witness_finish :
    [0, 16384].all (fun d =>
      let n := { nodeOf (nodeQuads 4 d []) with fired := true, result := some .done }
      let cq := queueAt [] [] [n]
      let s := ringed [] [] cq
      (cq.cameTo n == some .done) && s.ctxReady cq && (n.donea == d) &&
        (match s.writeWord cq.unit cq.pasid 16384 (natLE 8 (nodeDone n .done)) with
          | .ok _ => true
          | _ => false)) = true ∧
    (let cq := { queueAt [] [⟨0, []⟩] [] with eqp := 15 }
     let s := ringed [] [] cq
     s.ctxReady cq = true ∧ since32 cq.eqp (s.ctxQuad cq 4 / 2 ^ 32 % 2 ^ 32) < cq.ers ∧
      s.span cq.unit cq.pasid (cq.ering + 64 * (cq.eqp % cq.ers)) 64 true = .ok) := by decide

/-- A node that fires now, with the memory's words at 16384. -/
def firingNode (rec words : List Nat) : State :=
  { seat (words64 16384 words) base with queues := [queueAt [] [] [nodeOf rec]] }

/-- A launch record for one group: ENTRY 32, the smallest hamper division (13 Table 13.1). -/
def launchQuads : List Nat := [0, 32, 256 + 256 * 2 ^ 16 + 512 * 2 ^ 32, 0, 0, 0, 1 + 5 * 2 ^ 32] ++ List.replicate 25 0

/-- NodesPerformTheirKind: a launch, an indirect launch and an outing that fire; a record that enqueues its task; one of class 0 where the
queue's least class is 1. -/
theorem witness_launches :
    [1, 7, 8].all (fun k => (firingNode (nodeQuads k 0 [16384, 1]) launchQuads).firing 5 0 k |>.isSome) = true ∧
    [0, 1].all (fun c =>
      let n := nodeOf (nodeQuads 1 0 [16384])
      let cq := { queueAt [] [] [n] with cmin := c }
      let s := { seat (words64 16384 launchQuads) base with queues := [cq] }
      match s.nodeRead cq n with
      | .ok b counts exempt gb => (s.nodeStatus cq n b counts exempt gb).1 == (if c = 0 then some 0 else none)
      | _ => false) = true ∧
    (let n := { nodeOf (nodeQuads 8 0 [16384, 1]) with fired := true }
     n.kind = 8 ∧ n.task = 0 ∧ n.result = none ∧ n.outcome = none) := by decide

/-- NodesPerformTheirKind: a COPY node, each SIGNAL, a WAIT that fires and one that ends, and a COND. -/
theorem witness_nodes :
    (let s := firingNode (nodeQuads 2 0 [16384]) (recordQuads 1)
     (s.firing 5 0 2).isSome && (match s.engRead ⟨160, 0, 0, .die 0⟩ 16384 64 with
      | .ok b => (recOf b).kind == cpCPY && decide (recVerdict (recOf b).kind (recOf b) none 0 0 = .go)
      | _ => false) && decide ((s.engine 160).depth 0 < 16)) = true ∧
    [0, 1, 2].all (fun op =>
      let s := firingNode (nodeQuads 3 0 [16384, 2 ^ 64 - 1, op]) [1]
      match s.firing 5 0 3 with
      | some (cq, n) => n.op == op && (match s.nodeWord cq n true with
        | .at pa => (match s.readErr pa with
          | .bad _ => false
          | _ => true)
        | _ => false)
      | none => false) = true ∧
    [4, 6].all (fun k =>
      let s := firingNode (nodeQuads k 0 [16384, 2 ^ 64 - 1, 1, 0]) [1]
      match s.firing 5 0 k with
      | some (cq, n) => (match s.nodeValue cq n with
        | .ok w => nodeCond n w && cq.events.isEmpty
        | _ => false)
      | none => false) = true := by decide

/-- NodesPerformTheirKind: a LOOP of two iterations with its body in slot 1, and its first iteration ended. -/
theorem witness_loop_nodes :
    let n := nodeOf (nodeQuads 5 0 [2, 1 + 2 ^ 16 + 2 ^ 32, 1, 0, 1])
    let m := { nodeOf ((4 + 2 ^ 16) :: (nodeQuads 4 0 [16384]).drop 1) with slot := 1 }
    let cq := { queueAt [] [] [n, m] with prod := 2 }
    let s := { seat [] base with queues := [cq] }
    (s.firing 5 0 5).isSome = true ∧ loopBad cq n = false ∧ (loopBody cq n).all (fun b => (cq.node b).isSome) = true ∧ loopN n = 2 ∧
      loopExit n = 1 := by decide

/-- QueueCommands: a QCMD value. -/
def qcmd (op q : Nat) : Word := word (op + 16 * q)

/-- QueueCommands: a context in die 0's address space 0 that is registered as queue 4095; a number in use; a quiet queue. -/
theorem witness_queue_commands :
    (let s := { seat tables base with
      plat := { Platform.reset with phase := 5, qarg0 := 16384#64 }
      dies := { Die.reset with roots := [⟨0, 0⟩], tc := [lowPage] } :: List.replicate 3 Die.reset
      mem := Mem.writeN tables 16384 ([8192 + 4 * 2 ^ 56, 0, 0, 12288 + 4 * 2 ^ 56, 0, 0, 1, 0].flatMap (natLE 8)) }
     bits (qcmd 1 4095) 0 4 = 1 ∧ s.queue (bits (qcmd 1 4095) 4 12) = none ∧ s.plat.qarg0.toNat % 64 = 0 ∧ isGlobal s.plat.qarg0.toNat = true ∧
      s.ctxPlaces.find? (s.ctxNamed s.plat.qarg0.toNat) = some (0, 0) ∧ s.ctxBad (s.ctxQuads 0 0 s.plat.qarg0.toNat) = false ∧
      (s.newScope 0 0).isSome = true) ∧
    (let cq := { queueAt [] [] [] with root := 2 }
     let s := { queued [8192 + 4 * 2 ^ 56, 0, 0, 12288 + 4 * 2 ^ 56, 0, 0, 1, 0] cq base with
       plat := { Platform.reset with phase := 5, qarg1 := 16384#64 } }
     s.queue (bits (qcmd 3 5) 4 12) = some cq ∧ s.queueQuiet cq = true ∧ s.ctxReady cq = true ∧
      s.ctxBad (s.ctxQuads cq.home cq.pasid cq.ctx) = false ∧ ((s.closeRoot cq.root).newScope 0 0).isSome = true ∧
      s.plat.qarg1.toNat % 8 = 0 ∧ isGlobal s.plat.qarg1.toNat = true) ∧
    bits (qcmd 2 5) 0 4 = 2 ∧ bits (qcmd 3 5) 0 4 = 3 ∧ bits (qcmd 4 5) 0 4 = 4 ∧ (seat [] base).queue 5 = none ∧ State.reset.serving = false := by
  decide

/-- The device in a phase. -/
def phased (p : Platform) (n : Nat) : State := { State.reset with plat := { p with phase := n } }

/-- BootAndRecovery: each phase; the mailbox idle and busy, with an image that verifies or not; the ends of LEN. -/
theorem witness_boot :
    [0, 1, 2, 3, 4, 6, 7].all (fun n => (phased Platform.reset n).plat.phase == n) = true ∧
    (phased Platform.reset 6).plat.mboxBusy = false ∧ (phased { Platform.reset with mboxBusy := true } 6).plat.mboxBusy = true ∧
    (bits (word (1 + 1048576 * 2 ^ 32)) 0 2 = 1 ∧ bits (word (1 + 1048576 * 2 ^ 32)) 32 32 ≤ 1048576 ∧
      1048576 < bits (word (1 + 1048577 * 2 ^ 32)) 32 32 ∧ bits (1#64) 32 32 = 0) := by decide

/-- ManagementEvents: a PART that keeps what a busy die has and one that changes it; both answers to RANK; the bounds of heat and power. -/
theorem witness_management :
    (partOk 0xFFFF#64 = true ∧ partOk 0x0842#64 = false ∧ partOk 0x8421#64 = true) ∧
    (seat [] base).allGroups.all (fun g => !g.collective) = true ∧
    ((collected (.callred ⟨3, 1, 0⟩) 0x58).allGroups.any (·.collective)) = true ∧
    (seat [] base).dieBusy 0 = true ∧ (seat [] base).dieBusy 3 = false ∧
    reaches 0 0x10 = false ∧ (seat [] base).plat.attRun = false ∧ (seat [] base).plat.nvKey < 2 ^ 20 ∧ 95 ≤ 104 ∧ 104 < 105 := by decide

/-! ### What instructions do: one step each, against the spec's worked examples and its rules worked out by hand -/

/-- The group after a part has issued in slot k of the test device. -/
def ran (m : Mem) (k : Slot) (i : Instr) (g : Group) : Option Group :=
  match exec i (seat m (on k i g)) with
  | .next t => t.group ⟨0, 0⟩
  | _ => none

/-- What an S part that has issued will write: its n register, and the value. -/
def gives (i : Instr) (g : Group) : Option (Nat × Word) := ((ran [] .S i g).bind (fun h => h.fly.head?)).bind (·.n)

/-- 04 R119, R120: n1 = −2^63, n2 = −1, n3 = 3, n4 = 0x0246_8ACF_1357 (the LUI example), on results to n5. -/
def ints : Group := ((((base.setN 1 0x8000000000000000#64).setN 2 0xFFFFFFFFFFFFFFFF#64).setN 3 3#64).setN 4 0x02468ACF1357#64)
theorem test_integer_results :
    gives (.add ⟨2, 1, 5, 0⟩) ints = some (5, 0x7FFFFFFFFFFFFFFF#64) ∧ gives (.sub ⟨1, 3, 5, 0⟩) ints = some (5, 0x8000000000000003#64) ∧
    gives (.mulh ⟨1, 2, 5, 0⟩) ints = some (5, 0#64) ∧ gives (.mulhu ⟨1, 2, 5, 0⟩) ints = some (5, 0x7FFFFFFFFFFFFFFF#64) ∧
    gives (.mul ⟨1, 3, 5, 0⟩) ints = some (5, 0x8000000000000000#64) ∧ gives (.andn ⟨1, 2, 5, 0⟩) ints = some (5, 0x7FFFFFFFFFFFFFFF#64) ∧
    gives (.min ⟨1, 3, 5, 0⟩) ints = some (5, 0x8000000000000000#64) ∧ gives (.minu ⟨1, 3, 5, 0⟩) ints = some (5, 3#64) ∧
    gives (.sar ⟨2, 1, 5, 0⟩) ints = some (5, 0xFFFFFFFFFFFFFFFF#64) ∧ gives (.shr ⟨2, 1, 5, 0⟩) ints = some (5, 1#64) ∧
    gives (.rotr ⟨3, 3, 5, 0⟩) ints = some (5, 0x6000000000000000#64) ∧ gives (.clz ⟨0, 5, 0⟩) ints = some (5, 64#64) ∧
    gives (.popc ⟨2, 5, 0⟩) ints = some (5, 64#64) ∧ gives (.lui ⟨0x4DEF, 4, 5, 0⟩) ints = some (5, 0x0123456789ABCDEF#64) ∧
    gives (.addi ⟨0x7FFF, 3, 5, 0⟩) ints = some (5, 2#64) := by decide
theorem test_division_corners :
    gives (.div ⟨2, 1, 5, 0⟩) ints = some (5, 0x8000000000000000#64) ∧ gives (.rem ⟨2, 1, 5, 0⟩) ints = some (5, 0#64) ∧
    gives (.div ⟨0, 3, 5, 0⟩) ints = some (5, 0xFFFFFFFFFFFFFFFF#64) ∧ gives (.rem ⟨0, 3, 5, 0⟩) ints = some (5, 3#64) ∧
    gives (.div ⟨3, 1, 5, 0⟩) ints = some (5, 0xD555555555555556#64) ∧ gives (.rem ⟨3, 1, 5, 0⟩) ints = some (5, 0xFFFFFFFFFFFFFFFE#64) ∧
    gives (.divu ⟨3, 1, 5, 0⟩) ints = some (5, 0x2AAAAAAAAAAAAAAA#64) ∧ gives (.remu ⟨3, 1, 5, 0⟩) ints = some (5, 2#64) := by decide

/-- 01 ("Worked example", home of a line): PA 0x3_2580 lies in slice 2 of die 1. -/
theorem test_home_slice : homeSlice 0x32580 = 18 := by decide

/-- 05 (AINC's example): a2 = 0xFF_0000_0020_3F00, n5 = 14, 512 bytes on in a ring of 16 KiB. -/
theorem test_ainc_ring :
    (ran [] .A (.ainc ⟨512, 5, 2, 2, 0⟩) ((base.setA 2 0xFF000000203F00#64).setN 5 14#64)).map (fun g => g.areg 2) =
      some 0xFF000000200100#64 := by decide

/-- 13 (the example of R351): COUNT 3, ARRIVED 1, PHASE 6; released it is SNUFFED in phase 7, and the next arrival gives phase 8. -/
theorem test_barrier_release :
    barRelease (barWord 0 false 0 6 1 3) = barWord 0 true 0 7 0 3 ∧ barArrive (barWord 0 true 0 7 0 3) = barWord 0 true 0 8 0 3 ∧
    barArrive (barWord 0 false 0 6 1 3) = barWord 0 false 0 6 2 3 := by decide

/-- A row of .i32 or .f32 elements, the rest zero. -/
def row32 (l : List Nat) : Row := BitVec.ofNat 8192 (l.foldr (fun x a => x + a * 2 ^ 32) 0)

/-- The first elements of the rows that a V part will write, and the flags that it raises. -/
def vgives (i : Instr) (g : Group) : Option (List (Nat × List Nat) × BitVec 6) :=
  ((ran [] .V i g).bind (fun h => h.fly.head?)).map (fun f =>
    (f.vecs.map (fun x => (x.1, (List.range 5).map (fun j => (x.2.extractLsb' (32 * j) 32).toNat))), f.flags))

/-- 07 (the example of R205): VINSM and VINS of 7 and 555 into 9, 7, 7, 2 and 100, 101, 102, 103. -/
def lists : Group := ((base.setV 30 (row32 [9, 7, 7, 2, 1]) none).setV 31 (row32 [100, 101, 102, 103, 1]) none).setV 32 (row32 [7, 555]) none
theorem test_insertion_lists :
    vgives (.vinsm ⟨2, 0, 0, 4, 32, 31, 30, 31, 0⟩) lists = some ([(31, [100, 101, 102, 555, 1])], 0) ∧
    vgives (.vins ⟨2, 0, 0, 4, 0, 32, 30, 30, 0⟩) lists = some ([(30, [9, 7, 7, 7, 1])], 0) := by decide

/-- 07 (the example of R202): the tree sum of 2^24, 1, 1, 1 is 2^24 + 2, with NX. -/
theorem test_tree_sum :
    vgives (.vreda ⟨0, 0, 0, 15, 0, 0x1EA, 6, 7, 0⟩) (base.setV 6 (row32 [0x4B800000, 0x3F800000, 0x3F800000, 0x3F800000, 5]) none) =
      some ([(7, [0x4B800001, 0, 0, 0, 0])], 16) := by decide

/-- 07 (the example of R204): keys 5, 3, 4, 8 with j = 0 and k = 1 ascending become 3, 5, 8, 4. -/
theorem test_exchange :
    (vgives (.vcx ⟨0, 0, 0, 4, 1, 0, 6, 6, 0⟩) (base.setV 6 (row32 [5, 3, 4, 8]) none)).map (fun x => x.1.map (fun y => y.2.take 4)) =
      some [[3, 5, 8, 4]] := by decide

/-- 05 R155, R133: a store of 0x1122334455667788 puts its low byte lowest. -/
theorem test_store_bytes :
    (match exec (.storePerformed ⟨0, 0⟩ 15 0) (seat [] { base with stores := [storing .dev 8 8] }) with
      | .next t => (List.range 10).map (fun i => (t.memByte (7 + i)).toNat)
      | _ => []) = [0, 0x88, 0x77, 0x66, 0x55, 0x44, 0x33, 0x22, 0x11, 0] := by decide

/-- 04 R117, Table 4.5: a CALL pushes 256 bytes and goes to its target; LINK is the bundle after it. -/
theorem test_call :
    (match exec (.call ⟨1, 0⟩) (seat [] (on .S (.call ⟨1, 0⟩) base)) with
      | .next t => (t.group ⟨0, 0⟩).map (fun g => (g.pc, g.spill.length, leNat (g.spill.take 8)))
      | _ => none) = some (64 + 32, 256, 96) := by decide

/-- 14 R364, 04 R111: TRAP 5 with a handler saves the base PC and the cause, and goes to TRAP.VEC. -/
theorem test_trap_entry :
    (ran [] .S (.trap ⟨5, 0⟩) (handled 0x2000 false)).map (fun g => (g.pc, g.trap.inh, g.trap.pc, g.trap.cause.toNat % 256)) =
      some (0x2000, true, 96, 13) := by decide

/-- 22 R440, R443: the mailbox's image of VERSION 6 in slot 1 boots, as slot 0's signature does not verify; FLOOR is 5 (the example). -/
theorem test_slot_choice :
    (match exec .slotChoice (phased { Platform.reset with nvFloor := 5, slots := [⟨[], 7, 0, false⟩, ⟨[], 6, 0, true⟩] } 2) with
      | .next t => (t.plat.phase, t.plat.slot, t.plat.fail0, t.plat.fail1)
      | _ => (0, 0, false, false)) = (3, 1, true, false) := by decide

/-! ### Witnesses: further clauses -/

/-- LongInstructions: the block of an XMM and of a collective, read. -/
theorem witness_long_blocks :
    [(0x40, opXMM), (0x58, 0x58)].all (fun e => match (seat (words64 4096 (blockQuads e.1 ++ attnQuads)) base).longBlocks (seqFor 0 base) e.1 4096 with
      | .ok _ _ _ => true
      | .stop _ => false) = true := by decide

/-- A group with an XSORT on wick 3, whose sequencer is changed. -/
def sorting (f : Sequencer → Sequencer) : Group :=
  match (begun (.xsort ⟨3, 1, 0⟩) 0x43 base).longAt ⟨0, 0⟩ 3 with
  | some (g, w, q) => g.setWick 3 { w with seq := some (f q) }
  | none => base

/-- LongInstructions: XDROP of an instruction that runs a step, of a KVSHOOT's kind that awaits acknowledgements, and between two steps. -/
theorem witness_drop :
    ([fun q => { q with run := some (outcome 8192 none) }, fun q => { q with acks := [7] }, fun q => q] : List (Sequencer → Sequencer)).all (fun f =>
      can .S (.xdrop ⟨3, 0⟩) (sorting f) && decide (((sorting f).wick 3).status = stBUSY) && ((sorting f).wick 3).seq.isSome) = true := by decide

/-- LongInstructions: a step that waits for a service, one whose service was refused, and the commit of a dropped instruction whose output
page is there, and is not. -/
theorem witness_drop_commit :
    (let s := resequence (begun (.xsort ⟨3, 1, 0⟩) 0x43 base) (fun w q => { w with seq := some { q with service := some (65536, false) } })
     let t := { s with dies := { s.die 0 with refused := [⟨[seqUnit 0], 0, 65536, false, true⟩] } :: s.dies.drop 1 }
     withLong s (fun g w q => decide (w.status = stBUSY) && q.run.isNone && decide (q.stop = .none) && q.acks.isEmpty &&
       decide (s.translate (seqUnit 0) g.asid 65536 false = .miss)) = true ∧ t.translate (seqUnit 0) 0 65536 false = .refused) ∧
    [8192, 65536].all (fun a =>
      let o := outcome a none
      let s := resequence (begun (.xsort ⟨3, 1, 0⟩) 0x43 base) (fun w q => { w with seq := some { q with run := some o, stop := .drop } })
      withLong s (fun g w q => decide (w.status = stBUSY) && (q.run == some o) && decide (q.stop = .drop) && q.acks.isEmpty && w.kind != opKVSHOOT &&
        w.kind != opKVAPP && w.kind != opCRING && decide (s.outMergeErr (seqFor 0 g) o.mem = none) && o.trapGuard.isNone &&
        (s.outReady ⟨0, g, 3, w, q⟩ o == (a == 8192)))) = true := by decide

/-- SchedulingInstructions: DLINE of 2^32; TAIL beside a wick that runs and one that is stopped; TAIL with the tracker full. -/
theorem witness_scheduling_traps :
    (traps .S (.dline ⟨3, 0, 0⟩) (base.setN 3 0x100000000#64) = true ∧
      ((seat [] (base.setN 3 0x100000000#64)).operand (base.setN 3 0x100000000#64) 3#6).toNat = 2 ^ 32) ∧
    [1, 3].all (fun st => traps .S (.tail ⟨0⟩) (wicked st) && (wicked st).wicks.any (fun w => w.status == stBUSY || w.stopped)) = true ∧
    (let g := on .S (.tail ⟨0⟩) base
     let s := { seat [] g with cores := { homeCore g with tracker := List.replicate 8 base } :: List.replicate 159 Core.reset }
     s.ready g .S (part (.tail ⟨0⟩)) (.tail ⟨0⟩) ∧ g.imbalance = none ∧ 8 ≤ (s.core 0).tracker.length) := by
  refine ⟨by decide, by decide, ⟨rfl, by decide⟩, by decide, by decide⟩

/-- AccessTraps: the byte past BND1 × 1,024; an address in the scratchpad's window with VA[47:24] nonzero; a .wl load, a .dk load and an STS
of global memory; atomics at the accumulator, misaligned, and past BND1. -/
theorem witness_more_access_traps :
    (let g := base.setA 1 (word (0xFF * 2 ^ 48 + 1048568))
     (Claims.loads ⟨0, 0, 5, 0, 1, 0, 0⟩ ++ Claims.stores ⟨0, 0, 5, 0, 1, 0, 0⟩).all (fun e => traps .A e.1 g) = true ∧
      isPadWin (g.eaAM ⟨0, 0, 5, 0, 1, 0, 0⟩) = true ∧ ((seat [] g).core 0).bnd1 * 1024 < g.eaAM ⟨0, 0, 5, 0, 1, 0, 0⟩ % 2 ^ 48 + 1024) ∧
    (isPadWin (0xFF * 2 ^ 48 + 2 ^ 24) = true ∧ ((seat [] base).core 0).bnd1 ≤ 2 ^ 14 ∧ (0xFF * 2 ^ 48 + 2 ^ 24) / 2 ^ 24 % 2 ^ 24 ≠ 0) ∧
    [1, 2].all (fun qu => (Claims.loads ⟨0, BitVec.ofNat 2 qu, 3, 0, 1, 0, 0⟩).all (fun e => traps .A e.1 base)) = true ∧
    (traps .A (.sts ⟨0, 0, 3, 0, 1, 0, 0⟩) base = true ∧ isPadWin (base.eaAM ⟨0, 0, 3, 0, 1, 0, 0⟩) = false) ∧
    [0xFE * 2 ^ 48, 4097, 0xFF * 2 ^ 48 + 1048576].all (fun ea =>
      (Claims.atomics ⟨0, 0, 3, 0, 2, 1, 0, 0⟩).all (fun e => traps .A e.1 (base.setA 1 (word ea)))) = true := by decide

/-- AddressFormsAndPrefetches: a core with an L1, and sectors without an error after the prefetch. -/
theorem witness_prefetch_l1 :
    (let g := on .A (.pf ⟨0, 0, 5, 0, 1, 0, 0⟩) base
     let s := { seat [] g with tasks := [{ task1 with launch := { Launch.blank with ranges := [⟨0, 65536, 1⟩] } }] }
     issuable s g .A (part (.pf ⟨0, 0, 5, 0, 1, 0, 0⟩)) (.pf ⟨0, 0, 5, 0, 1, 0, 0⟩) = true ∧ (s.core 0).bnd1 < (s.core 0).bnd2 ∧
      (match exec (.pf ⟨0, 0, 5, 0, 1, 0, 0⟩) s with
        | .next t => [5088, 5104].all (fun pa => match t.readErr pa with
          | .bad _ => false
          | _ => true)
        | _ => false) = true) := by decide

/-- LoopEndsAndRotations: an end bundle with no loop open, and one at another address than the innermost loop's END. -/
theorem witness_loop_end_traps :
    let i := Instr.add ⟨1, 2, 15, 0⟩
    let p := { part i with hdr := 0x40#16 }
    [0, 1].all (fun n =>
      let g := looped n (base.setSlotQ .S [p])
      let g := { g with loops := g.loops.map (fun e => { e with stop := 96 }) }
      let s := seat [] g
      decide (s.headOf .S = some (g, p)) && decide (s.joint = none) && s.serving && !heldBack s s.cur g && s.hasTurn s.cur && !hazard g .S p i true &&
        (syncMates g .S p).isEmpty && hdrLE p.hdr && (g.loops.isEmpty == (n == 0)) && g.loops.all (fun e => decide (e.stop ≠ p.addr))) = true := by decide

/-- PartCompletionWrites: the vector registers in their canonical form. -/
theorem witness_vregs : SMap.wfFrom VReg.zero none base.vregs = true ∧ SMap.wfFrom VReg.zero none (base.setV 5 3 none).vregs = true := by decide

/-- LoadsDeliver: a load after a MONW at .g, by the events whose numbers go on from its pieces. -/
theorem witness_past :
    (let g := { base with loads := [{ loading .dev 0 .queue with kind := .loadG, ord := 1 }], past := some ⟨0, 2, 3, [(0, 9#8)]⟩ }
     match g.headLoad 15 with
     | some a => (seat [] g).serving && !isMonw a && a.granted && !g.fenced a && g.dataRoom a && g.pieceReady ((seat [] g).core 0) a 0 &&
        g.pastFor a == some [(0, 9#8)] && a.pieces.length == 1
     | none => false) = true := by decide

/-- StorePerformedWritesItsBytes: kinds that allocate, and a piece that covers a bad granule. -/
theorem witness_store_allocates :
    (AccKind.store.allocates = true ∧ (∀ j ∈ (seat [] base).lamps, j.unit ≠ partUnit 16) ∧ (storing .dev 16 16).kind = .store ∧ 16 % 16 = 0) := by decide

/-- MonwWaitsItsTurn: a MONW at .g with nothing outstanding before it. -/
theorem witness_monw_past :
    let x : AX := ⟨1, 0, 3, 2, 1, 1, 15, 0⟩
    let g := on .A (.monw x) base
    let s := seat [] g
    s.headOf .A = some (g, part (.monw x)) ∧ s.joint = none ∧ heldBack s s.cur g = false ∧ hazard g .A (part (.monw x)) (.monw x) false = false ∧
      leBad g (part (.monw x)) = false ∧ g.predOn (part (.monw x)) (.monw x) = true ∧ monwReady s ⟨0, 0⟩ g x = true ∧ g.monwAt 16 = none ∧
      x.scope = 0#3 ∧ g.loads = [] ∧ g.stores = [] ∧ g.fences = [] ∧
      (isPadWin 4096 = false ∧ isGlobal 4096 = true ∧ s.translate (.engine 0 .access) 0 4096 false = .hit 4096 false ∧ g.loadQ 15 < Config.addrDepth) := by
  decide

/-- CopyChunksMove: a chunk that has met a fault, whose pages are there; one whose source page is gone; and chunks that have met none. -/
theorem witness_chunk_faults :
    (let j := { chunky 1 [] with faulted := true }
     let s := engined ⟨[], [j], []⟩
     (s.engine 0).runs[0]? = some j ∧ j.puts = [] ∧ s.spanOf (engUnit 0) j.asid false (j.xrec.idxVas j.chunk) = .ok ∧
      s.spanOf (engUnit 0) j.asid true (j.chunk.map (fun i => (j.xrec.at (fun _ => 0) i).2)) = .ok ∧
      j.unread (j.xrec.idxVas j.chunk) = [] ∧ s.spanOf (engUnit 0) j.asid false (Claims.sources j) = .ok) ∧
    (let j := { job .copy 1 with loaded := true, next := 15, record := ([1, 65536, 8448, 16, 0, 0, 12288, 0].flatMap (natLE 8)) }
     let s := engined ⟨[], [j], []⟩
     s.spanOf (engUnit 0) j.asid true (j.chunk.map (fun i => (j.xrec.at (fun _ => 0) i).2)) = .ok ∧ j.unread (j.xrec.idxVas j.chunk) = [] ∧
      Claims.sources j = [65551] ∧ s.spanOf (engUnit 0) j.asid false (Claims.sources j) = .miss ∧
      s.translate (engUnit 0) j.asid 65551 false = .miss ∧ s.walkGives (engUnit 0) j.asid 65551 false = false) ∧
    (chunky 1 []).faulted = false := by decide

/-- CopiesStartAndEnd: a chain's record that writes a stamp: its OWN bit given back, or kept; the chain goes on to its next record, or ends. -/
theorem witness_chain_stamps :
    ([true, false].all (fun keep =>
      let j := { job .chain 1 with ended := some ⟨if keep then 1 else 0, 0, 16⟩, keepOwn := keep }
      let s := engined ⟨[], [j], []⟩
      let t := if keep then SmallWrite.ok s else s.smallWrite 0 j (j.recAddr + 1) [(j.record.getD 1 0#8) &&& 0xFE#8]
      !j.noStamp && !j.xrec.skip && decide (s.spanOf (engUnit 0) j.asid true ((List.range 8).map (j.stampAt.1 + ·)) ≠ .miss) &&
      (match t with
        | .ok u => (match u.smallWrite 0 j j.stampAt.1 (natLE 8 (stampWord (if keep then 1 else 0) j.stampAt.2 0 16 j.oob)) with
          | .ok _ => true
          | _ => false)
        | _ => false)) = true) ∧
    (let j := { job .chain 1 with ended := some ⟨0, 0, 16⟩ }
     j.xrec.next = 0 ∧ { j with record := (recordBytes 1).take 56 ++ natLE 8 4160 }.xrec.next = 4160 ∧ j.cut = none) := by decide

/-- ChainsReadTheirRecords: a parked chain whose record's first granule differs from what it read, and does not. -/
theorem witness_unpark :
    [0#8, 1#8].all (fun b =>
      let j := { job .chain 1 with parked := true, seen := b :: List.replicate 15 0#8 }
      let s := engined ⟨[], [j], []⟩
      let l := (List.range 16).map (j.recAddr + ·)
      decide (s.spanOf (engUnit 0) j.asid false l = .ok) && (decide (l.map (s.engByte false (j.on 0)) = j.seen) == (b == 0#8))) = true := by decide

/-- LeasesAndMatrixSteps: a step that waits behind one of another pane of its own that has been ready for longer. -/
theorem witness_turns :
    let y := { stepping .step .waiting [] with readyAt := some 3 }
    let m := { stepping .step .waiting [] with id := 10, cfg := word (2 + 2 * 32 + 2 ^ 10 + 2 ^ 11) }
    let s := { arrayCore (leased 16) [y, m] [] with clk := 5 }
    (s.core 0).steps.find? (fun x => x.id == 10) = some m ∧ (s.core 0).headStep y = true ∧ s.waitsDone (some y.gid) y.waits = true ∧
      y.readyAt = some 3 ∧ m.readyAt = none ∧ 3 < s.clk ∧ Nat.land (cfgPMASK y.cfg) (cfgPMASK m.cfg) ≠ 0 := by decide

/-- LeasesAndMatrixSteps: one request, not chosen, of a free pane; tiles without an error and tiles with one. -/
theorem witness_one_request :
    (let q : PaneReq := ⟨0, none, 1#4, 0, false, []⟩
     let s := arrayCore base [] [q]
     (s.core 0).reqs = [q] ∧ s.group ⟨0, 0⟩ = some base ∧ panesOf q.panes.toNat = [0] ∧ 0 ∈ s.panesIn 0 ∧ s.outOf (.pane 0 0) = false ∧
      (s.core 0).paneFree 0 = true) ∧
    (let m := stepping .step .waiting []
     let s := arrayCore (leased 16) [m] []
     let t := { s with cores := { s.core 0 with padPoison := [0] } :: s.cores.drop 1 }
     m.tileRanges ≠ [] ∧ (∀ x ∈ m.tileRanges, (s.core 0).padErr x.1.1 x.1.2 = none ∧ (s.core 0).padErr x.2.1 x.2.2 = none) ∧
      (∃ x ∈ m.tileRanges, (t.core 0).padErr x.1.1 x.1.2 ≠ none)) := by decide

/-- TileSteps: an XMM that holds its panes and whose turn it is. -/
theorem witness_step_turn :
    (let s := begun (.xmm ⟨3, 1, 0⟩) 0x40 (leased 16)
     withLong s (fun g w q => (s.core 0).runHolds g 0 3 w.apane 0 && (s.core 0).panesIdle 0 3 w.apane && s.inTurn 0 w.apane q.readyAt)) = true := by decide

/-- CollectivesExchange: CRING's shard, which it awaits; the send that a peer acknowledges. -/
theorem witness_shard :
    (let s := resequence (collected (.cring ⟨3, 1, 0⟩) 0x5F) (fun w q => { w with seq := some { q with agreed := [1] } })
     (s.collAt ⟨0, 0⟩ 3).isSome && withLong s (fun g w q =>
      let m : ChunkMsg := ⟨1, [], w.done, [], 0#6⟩
      (collOf q.desc).kind == opCRING && (collOf q.desc).others.contains 1 && q.agreed.contains 1 && (collOf q.desc).takes q w.done m &&
      decide (s.pageRound g.asid (longMan w.kind q.desc) none (ReadAt.needs true ⟨seqUnit 0, (collOf q.desc).shardAt m.chunk, m.data.length⟩) = .ok) &&
      decide (s.engMergeErr (seqFor 0 g) ((⟨0, g, 3, w, q⟩ : StepAt).shardWrite m) = none))) = true ∧
    (let s := resequence (collected (.cring ⟨3, 1, 0⟩) 0x5F) (fun w q => w.withCopies { q with copies := [⟨0, 2, 0, true⟩, ⟨1, 1, 0, true⟩] })
     withLong s (fun _ _ q => q.copies.find? (fun y => y.chunk == 0 && y.peer == 1) == some ⟨1, 1, 0, true⟩)) = true := by decide

/-- TasksRunAndEnd: an admission whose range every die maps and which keeps what programs read; three waiting tasks in R324's order. -/
theorem witness_admission :
    (let q := { waiting with asid := 7, launch := { Launch.blank with ranges := [⟨2 ^ 30 - 65536, 65536, 3⟩] } }
     let s := { tasked task1 q with mem := tables, dies := List.replicate 4 (walkDie [] [] []) }
     s.task 2 = some q ∧ s.mayAdmit q = true ∧ s.classFirst q = true ∧ s.placeOk q [1] = true ∧
      s.keeps (s.pteWrites []) (fun _ _ => false) = true ∧
      [0, 1, 2, 3].all (fun d => match (s.pteWrites []).walk d 7 (2 ^ 30 - 65536) with
        | .leaf e => e.w
        | _ => false) = true) ∧
    (let a := { waiting with id := 3, state := .preempted, order := 1, deadline := some 300 }
     let b := { waiting with id := 4, order := 0, deadline := some 200 }
     let c := { waiting with id := 5, order := 2, deadline := some 100 }
     let s := tasked a b
     s.rank a = 1 ∧ s.rank b = 2 ∧ s.before a b = true ∧ s.before a c = true ∧ s.before c b = true) := by decide

/-- PreemptionEvents: an instruction's wick as clocks pass. -/
theorem witness_ripen : withLong (begun (.xmm ⟨3, 1, 0⟩) 0x40 (leased 16)) (fun g _ _ => (g.wick 3).seq.isSome && decide (3 < g.wicks.length)) = true := by decide

/-- QueuesFetchAndFinish: a STATE that is due, and one that is not, with a context that can be written and with one that cannot. -/
theorem witness_state_due :
    [true, false].all (fun due =>
      let cq := { queueAt [eventAt 5] [⟨0, []⟩] [] with state := .stalled, stateDue := due }
      let s := ringed [] [] cq
      s.ctxReady cq && !({ s with dies := { Die.reset with tc := [] } :: s.dies.drop 1 } : State).ctxReady { cq with ctx := 65536 }) = true := by decide

/-- NodesPerformTheirKind: a COND in slot 2 whose ways are slots 0 and 1, and which has one successor beside. -/
theorem witness_cond_ways :
    let n := { nodeOf (nodeQuads 6 0 [16384, 1, 1, 0, 1 * 2 ^ 16]) with slot := 2, succ := [3], fired := true, iter := 1 }
    let cq := { queueAt [] [] [n] with prod := 4 }
    n.kind = 6 ∧ n.condSlots = [0, 1] ∧ ([3, 0, 1].all (fun x => cq.live x && x != n.slot)) = true ∧ cq.node 2 = some n ∧
      ({ n with iter := 2 } : Node).condSlots = [0, 1] := by decide

/-- QueueCommands: a ROOT that is there and one that an earlier SNUFF freed; misplaced ack addresses; a queue that is not quiet; a context
that breaks R396. -/
theorem witness_queue_refusals :
    (let cq := { queueAt [] [] [] with root := 2 }
     let s := { queued [] cq base with plat := { Platform.reset with phase := 5, qarg1 := 16384#64 } }
     s.queue 5 = some cq ∧ (s.scope cq.root).isSome = true ∧ s.scope 9 = none ∧ s.plat.qarg1.toNat % 8 = 0 ∧ isGlobal s.plat.qarg1.toNat = true ∧
      (4#64).toNat % 8 ≠ 0 ∧ isGlobal (word (2 ^ 56)).toNat = false) ∧
    (let cq := { queueAt [] [] [{ nodeOf (nodeQuads 4 0 [16384]) with fired := true }] with root := 2 }
     let s := queued [] cq base
     s.queue (bits (qcmd 3 5) 4 12) = some cq ∧ s.queueQuiet cq = false) ∧
    (let s := { seat tables base with
      plat := { Platform.reset with phase := 5, qarg0 := 16384#64 }
      dies := { Die.reset with roots := [⟨0, 0⟩], tc := [lowPage] } :: List.replicate 3 Die.reset
      mem := Mem.writeN tables 16384 ([8193 + 4 * 2 ^ 56, 0, 0, 12288 + 4 * 2 ^ 56, 0, 0, 1, 0].flatMap (natLE 8)) }
     s.queue (bits (qcmd 1 4095) 4 12) = none ∧ s.ctxPlaces.find? (s.ctxNamed s.plat.qarg0.toNat) = some (0, 0) ∧
      s.ctxBad (s.ctxQuads 0 0 s.plat.qarg0.toNat) = true) := by decide
end Sys2Proof.Tests
end

section
/-!
PROOFS. Decoding and encoding (02 R44, R47 to R54): a part's word and its instruction determine each other, slot by slot, and the predicate
that a word names is its instruction's.
-/

namespace Sys2Proof

/-! ### Checks and fields -/

/-- A row of an opcode map answers an instruction just where its format reads the word. -/
theorem field_eq_ok {α : Type} {f : α → Instr} {o : Option α} {i : Instr} : field f o = .ok i ↔ ∃ y, o = some y ∧ f y = i := by
  cases o <;> simp [field]

theorem firstFailing_isNone_iff {l : List (Bool × DecodeError)} : (firstFailing l).isNone = true ↔ ∀ c ∈ l, c.1 = false := by
  induction l with
  | nil => simp [firstFailing]
  | cons c l ih =>
    obtain ⟨b, e⟩ := c
    cases b <;> simp [firstFailing, ih]

/-- An instruction is well formed just where no check of its entry refuses it. -/
theorem wf_iff_checks {i : Instr} : i.wf = true ↔ ∀ c ∈ i.checks, c.1 = false := firstFailing_isNone_iff

/-- A checked reading answers the instruction read, where it is well formed, and nothing else. -/
theorem checked_eq_ok {r : Except DecodeError Instr} {i : Instr} : checked r = .ok i ↔ r = .ok i ∧ i.wf = true := by
  unfold checked Instr.wf
  cases r with
  | error e => simp
  | ok j =>
    dsimp only
    split <;> rename_i h
    · simp only [reduceCtorEq, Except.ok.injEq, false_iff, not_and]
      rintro rfl
      simp [h]
    · simp only [Except.ok.injEq, iff_self_and]
      rintro rfl
      simp [h]

/-- The lowest field of a word is read back: the opcode of every format. -/
theorem op_field {n k : Nat} (a : BitVec n) (op : BitVec k) : (a ++ op).extractLsb' 0 k = op :=
  (BitVec.extractLsb'_append_eq_of_add_le (by omega)).trans BitVec.extractLsb'_eq_self

theorem op_of_bits {n k : Nat} {a : BitVec n} {op : BitVec k} {w : BitVec (n + k)} (h : a ++ op = w) : w.extractLsb' 0 k = op :=
  h ▸ op_field a op

/-- The five bits above an 8-bit opcode are read back: the predicate of every format but the K slot's (02 R44). -/
theorem pred_field {n : Nat} (a : BitVec n) (p : BitVec 5) (op : BitVec 8) : (a ++ p ++ op).extractLsb' 8 5 = p :=
  (BitVec.extractLsb'_append_eq_of_le (by decide)).trans (op_field a p)

theorem ofNat_of_toNat {n v : Nat} {x : BitVec n} (h : x.toNat = v) : BitVec.ofNat n v = x := by
  rw [← h, BitVec.ofNat_toNat, BitVec.setWidth_eq]

/-- A one-bit field is set where its bit is. -/
theorem bit_eq_one_iff {n : Nat} (w : BitVec n) (j : Nat) : w.extractLsb' j 1 = 1#1 ↔ w.getLsbD j = true := by
  constructor
  · intro h
    simpa using congrArg (BitVec.getLsbD · 0) h
  · intro h
    ext i hi
    obtain rfl : i = 0 := by omega
    simpa using h

/-- A row of an opcode map whose format reads the word answers the row's instruction. -/
theorem rawDecode_row {α : Type} {n : Nat} {raw : BitVec n → Except DecodeError Instr} {f : α → Instr} {read : BitVec n → Option α}
    {w : BitVec n} {x : α} (hd : raw w = field f (read w)) (hr : read w = some x) : raw w = .ok (f x) := by
  rw [hd, hr]; rfl

/-! ### The opcodes with two forms -/

/-- Bit 45 of a V word is bit 5 of its vc field: QUANT's derive bit (03 R94). -/
theorem VR.bits_derive (x : VR) (op : BitVec 8) : (x.bits op).extractLsb' 45 1 = 1#1 ↔ x.vc.getLsbD 5 = true := by
  have hvc : (x.bits op).extractLsb' 40 9 = x.vc := congrArg VR.vc (Option.some.inj (VR.ofBits_bits x op))
  rw [bit_eq_one_iff, ← hvc, BitVec.getLsbD_extractLsb']
  simp

theorem quantDerive_wf {x : VR} (h : (Instr.quantDerive x).wf = true) : x.vc.getLsbD 5 = true := by
  have h5 := wf_iff_checks.mp h (refuse (x.vc.getLsbD 5 != true) .reservedBits) (by simp [Instr.checks, cvtChecks])
  simpa [refuse] using h5

theorem quantApply_wf {x : VR} (h : (Instr.quantApply x).wf = true) : ¬ x.vc.getLsbD 5 = true := by
  have h5 := wf_iff_checks.mp h (refuse (x.vc.getLsbD 5 != false) .reservedBits) (by simp [Instr.checks, cvtChecks])
  simpa [refuse] using h5

/-- MWAIT lease sets fn[23] (08 R227). -/
theorem MWl.bits_lease (x : MWl) (op : BitVec 8) : (x.bits op).extractLsb' 23 1 = 1#1 := by
  have h := MWl.ofBits_bits x op
  unfold MWl.ofBits at h
  split at h
  · rename_i hc
    rw [bit_eq_one_iff, show (x.bits op).getLsbD 23 = ((x.bits op).extractLsb' 23 9).getLsbD 0 by simp, hc.1]
    rfl
  · cases h

/-- A form with a predicate only leaves fn[23] zero (08 R227). -/
theorem M0.bits_lease (x : M0) (op : BitVec 8) : (x.bits op).extractLsb' 23 1 ≠ 1#1 := by
  have h := M0.ofBits_bits x op
  unfold M0.ofBits at h
  split at h
  · rename_i hc
    rw [Ne, bit_eq_one_iff, show (x.bits op).getLsbD 23 = ((x.bits op).extractLsb' 23 9).getLsbD 0 by simp, hc.1]
    decide
  · cases h

/-! ### The opcode maps read back the encoder's words -/

/-- The word of an S instruction reads as it (02 R48). -/
theorem rawDecodeS_of_encodePart {i : Instr} {p : PartWord} {w : BitVec 40} (h : encodePart i = some p) (hp : p = .s w) :
    rawDecodeS w = .ok i := by
  cases i <;> cases h <;> injection hp
  case nop => subst w; rfl
  all_goals
    rename_i hw
    have hop := op_of_bits (k := 8) hw
    refine rawDecode_row (by unfold rawDecodeS; rw [hop]; rfl) ?_
    subst hw
    simp only [
      R3.ofBits_bits, R2.ofBits_bits, R1.ofBits_bits, R0.ofBits_bits, RI.ofBits_bits, Cmp.ofBits_bits, CmpI.ofBits_bits, Sel.ofBits_bits,
      PLog.ofBits_bits, SB.ofBits_bits, CallF.ofBits_bits, LBrk.ofBits_bits, GSet.ofBits_bits, GRd.ofBits_bits, XL.ofBits_bits,
      XK.ofBits_bits, XS.ofBits_bits, BInit.ofBits_bits, TrapF.ofBits_bits, RttF.ofBits_bits, CsrRd.ofBits_bits, CsrWr.ofBits_bits,
      TcInv.ofBits_bits, ErrRd.ofBits_bits, BrkF.ofBits_bits]

/-- The word of an A instruction reads as it (02 R49). -/
theorem rawDecodeA_of_encodePart {i : Instr} {p : PartWord} {w : BitVec 40} (h : encodePart i = some p) (hp : p = .a w) :
    rawDecodeA w = .ok i := by
  cases i <;> cases h <;> injection hp
  case anop => subst w; rfl
  all_goals
    rename_i hw
    have hop := op_of_bits (k := 8) hw
    refine rawDecode_row (by unfold rawDecodeA; rw [hop]; rfl) ?_
    subst hw
    simp only [AM.ofBits_bits, AX.ofBits_bits, AR.ofBits_bits, AF.ofBits_bits]

/-- The word of a well-formed V instruction reads as it (02 R50): the two forms of QUANT share an opcode, and a check tells them apart. -/
theorem rawDecodeV_of_encodePart {i : Instr} {p : PartWord} {w : BitVec 64} (hwf : i.wf = true) (h : encodePart i = some p)
    (hp : p = .v w) : rawDecodeV w = .ok i := by
  cases i <;> cases h <;> injection hp
  case vnop => subst w; rfl
  case quantDerive x hw =>
    have hop := op_of_bits (k := 8) hw
    refine rawDecode_row (read := VR.ofBits) ?_ (hw ▸ VR.ofBits_bits x _)
    unfold rawDecodeV
    rw [hop]
    exact if_pos (hw ▸ (VR.bits_derive x _).mpr (quantDerive_wf hwf))
  case quantApply x hw =>
    have hop := op_of_bits (k := 8) hw
    refine rawDecode_row (read := VR.ofBits) ?_ (hw ▸ VR.ofBits_bits x _)
    unfold rawDecodeV
    rw [hop]
    exact if_neg (hw ▸ mt (VR.bits_derive x _).mp (quantApply_wf hwf))
  all_goals
    rename_i hw
    have hop := op_of_bits (k := 8) hw
    refine rawDecode_row (by unfold rawDecodeV; rw [hop]; rfl) ?_
    subst hw
    simp only [VR.ofBits_bits]

/-- The word of an M instruction reads as it (02 R51): the two forms of MWAIT share an opcode, and a fixed bit tells them apart. -/
theorem rawDecodeM_of_encodePart {i : Instr} {p : PartWord} {w : BitVec 32} (h : encodePart i = some p) (hp : p = .m w) :
    rawDecodeM w = .ok i := by
  cases i <;> cases h <;> injection hp
  case mnop => subst w; rfl
  case mwaitLease x hw =>
    have hop := op_of_bits (k := 8) hw
    refine rawDecode_row (read := MWl.ofBits) ?_ (hw ▸ MWl.ofBits_bits x _)
    unfold rawDecodeM
    rw [hop]
    exact if_pos (hw ▸ MWl.bits_lease x _)
  case mwaitSteps x hw =>
    have hop := op_of_bits (k := 8) hw
    refine rawDecode_row (read := M0.ofBits) ?_ (hw ▸ M0.ofBits_bits x _)
    unfold rawDecodeM
    rw [hop]
    exact if_neg (hw ▸ M0.bits_lease x _)
  all_goals
    rename_i hw
    have hop := op_of_bits (k := 8) hw
    refine rawDecode_row (by unfold rawDecodeM; rw [hop]; rfl) ?_
    subst hw
    simp only [MLe.ofBits_bits, M0.ofBits_bits, MN.ofBits_bits, MRd.ofBits_bits, MF.ofBits_bits, MS.ofBits_bits]

/-- The word of a C instruction reads as it (02 R52). -/
theorem rawDecodeC_of_encodePart {i : Instr} {p : PartWord} {w : BitVec 32} (h : encodePart i = some p) (hp : p = .c w) :
    rawDecodeC w = .ok i := by
  cases i <;> cases h <;> injection hp
  case cnop => subst w; rfl
  all_goals
    rename_i hw
    have hop := op_of_bits (k := 8) hw
    refine rawDecode_row (by unfold rawDecodeC; rw [hop]; rfl) ?_
    subst hw
    simp only [CC.ofBits_bits, CL.ofBits_bits, CS.ofBits_bits, CQ.ofBits_bits]

/-- The word of a K instruction reads as it (02 R53). -/
theorem rawDecodeK_of_encodePart {i : Instr} {p : PartWord} {w : BitVec 16} (h : encodePart i = some p) (hp : p = .k w) :
    rawDecodeK w = .ok i := by
  cases i <;> cases h <;> injection hp
  case knop => subst w; rfl
  all_goals
    rename_i hw
    have hop := op_of_bits (k := 4) hw
    refine rawDecode_row (by unfold rawDecodeK; rw [hop]; rfl) ?_
    subst hw
    simp only [KL.ofBits_bits, KM.ofBits_bits]

/-! ### A word that spells an instruction is its encoding -/

/-- A word of the S slot that spells an instruction is the word of that instruction. -/
theorem encodePart_of_rawDecodeS {w : BitVec 40} {i : Instr} (h : rawDecodeS w = .ok i) : encodePart i = some (.s w) := by
  unfold rawDecodeS at h
  split at h
  case h_1 =>
    split at h
    · rename_i h0; cases h; rw [h0]; rfl
    · cases h
  case h_97 => cases h
  all_goals
    rename_i hop
    obtain ⟨y, hy, rfl⟩ := field_eq_ok.mp h
    rw [encodePart, ofNat_of_toNat hop]
    simp only [
      R3.bits_ofBits, R2.bits_ofBits, R1.bits_ofBits, R0.bits_ofBits, RI.bits_ofBits, Cmp.bits_ofBits, CmpI.bits_ofBits, Sel.bits_ofBits,
      PLog.bits_ofBits, SB.bits_ofBits, CallF.bits_ofBits, LBrk.bits_ofBits, GSet.bits_ofBits, GRd.bits_ofBits, XL.bits_ofBits,
      XK.bits_ofBits, XS.bits_ofBits, BInit.bits_ofBits, TrapF.bits_ofBits, RttF.bits_ofBits, CsrRd.bits_ofBits, CsrWr.bits_ofBits,
      TcInv.bits_ofBits, ErrRd.bits_ofBits, BrkF.bits_ofBits, hy]

/-- A word of the A slot that spells an instruction is the word of that instruction. -/
theorem encodePart_of_rawDecodeA {w : BitVec 40} {i : Instr} (h : rawDecodeA w = .ok i) : encodePart i = some (.a w) := by
  unfold rawDecodeA at h
  split at h
  case h_1 =>
    split at h
    · rename_i h0; cases h; rw [h0]; rfl
    · cases h
  case h_36 => cases h
  all_goals
    rename_i hop
    obtain ⟨y, hy, rfl⟩ := field_eq_ok.mp h
    rw [encodePart, ofNat_of_toNat hop]
    simp only [AM.bits_ofBits, AX.bits_ofBits, AR.bits_ofBits, AF.bits_ofBits, hy]

/-- A word of the V slot that spells an instruction is the word of that instruction. -/
theorem encodePart_of_rawDecodeV {w : BitVec 64} {i : Instr} (h : rawDecodeV w = .ok i) : encodePart i = some (.v w) := by
  unfold rawDecodeV at h
  split at h
  case h_1 =>
    split at h
    · rename_i h0; cases h; rw [h0]; rfl
    · cases h
  case h_51 => cases h
  -- the derive bit chooses between two instructions that have the same word
  case' h_47 => split at h <;> rename_i hc <;> clear hc
  all_goals
    rename_i hop
    obtain ⟨y, hy, rfl⟩ := field_eq_ok.mp h
    rw [encodePart, ofNat_of_toNat hop]
    simp only [VR.bits_ofBits, hy]

/-- A word of the M slot that spells an instruction is the word of that instruction. -/
theorem encodePart_of_rawDecodeM {w : BitVec 32} {i : Instr} (h : rawDecodeM w = .ok i) : encodePart i = some (.m w) := by
  unfold rawDecodeM at h
  split at h
  case h_1 =>
    split at h
    · rename_i h0; cases h; rw [h0]; rfl
    · cases h
  case h_13 => cases h
  -- the lease bit chooses between two instructions, each with its own format
  case' h_8 => split at h <;> rename_i hc <;> clear hc
  all_goals
    rename_i hop
    obtain ⟨y, hy, rfl⟩ := field_eq_ok.mp h
    rw [encodePart, ofNat_of_toNat hop]
    simp only [MLe.bits_ofBits, M0.bits_ofBits, MWl.bits_ofBits, MN.bits_ofBits, MRd.bits_ofBits, MF.bits_ofBits, MS.bits_ofBits, hy]

/-- A word of the C slot that spells an instruction is the word of that instruction. -/
theorem encodePart_of_rawDecodeC {w : BitVec 32} {i : Instr} (h : rawDecodeC w = .ok i) : encodePart i = some (.c w) := by
  unfold rawDecodeC at h
  split at h
  case h_1 =>
    split at h
    · rename_i h0; cases h; rw [h0]; rfl
    · cases h
  case h_12 => cases h
  all_goals
    rename_i hop
    obtain ⟨y, hy, rfl⟩ := field_eq_ok.mp h
    rw [encodePart, ofNat_of_toNat hop]
    simp only [CC.bits_ofBits, CL.bits_ofBits, CS.bits_ofBits, CQ.bits_ofBits, hy]

/-- A word of the K slot that spells an instruction is the word of that instruction. -/
theorem encodePart_of_rawDecodeK {w : BitVec 16} {i : Instr} (h : rawDecodeK w = .ok i) : encodePart i = some (.k w) := by
  unfold rawDecodeK at h
  split at h
  case h_1 =>
    split at h
    · rename_i h0; cases h; rw [h0]; rfl
    · cases h
  case h_5 => cases h
  all_goals
    rename_i hop
    obtain ⟨y, hy, rfl⟩ := field_eq_ok.mp h
    rw [encodePart, ofNat_of_toNat hop]
    simp only [KL.bits_ofBits, KM.bits_ofBits, hy]

/-! ### Decoder and encoder -/

theorem decodePart_of_encodePart {i : Instr} {w : PartWord} (hwf : i.wf = true) (h : encodePart i = some w) : decodePart w = .ok i := by
  cases w with
  | s w => exact checked_eq_ok.mpr ⟨rawDecodeS_of_encodePart h rfl, hwf⟩
  | a w => exact checked_eq_ok.mpr ⟨rawDecodeA_of_encodePart h rfl, hwf⟩
  | v w => exact checked_eq_ok.mpr ⟨rawDecodeV_of_encodePart hwf h rfl, hwf⟩
  | m w => exact checked_eq_ok.mpr ⟨rawDecodeM_of_encodePart h rfl, hwf⟩
  | c w => exact checked_eq_ok.mpr ⟨rawDecodeC_of_encodePart h rfl, hwf⟩
  | k w => exact checked_eq_ok.mpr ⟨rawDecodeK_of_encodePart h rfl, hwf⟩

theorem encodePart_of_decodePart {i : Instr} {w : PartWord} (h : decodePart w = .ok i) : i.wf = true ∧ encodePart i = some w := by
  cases w with
  | s w => exact (checked_eq_ok.mp h).symm.imp_right encodePart_of_rawDecodeS
  | a w => exact (checked_eq_ok.mp h).symm.imp_right encodePart_of_rawDecodeA
  | v w => exact (checked_eq_ok.mp h).symm.imp_right encodePart_of_rawDecodeV
  | m w => exact (checked_eq_ok.mp h).symm.imp_right encodePart_of_rawDecodeM
  | c w => exact (checked_eq_ok.mp h).symm.imp_right encodePart_of_rawDecodeC
  | k w => exact (checked_eq_ok.mp h).symm.imp_right encodePart_of_rawDecodeK

/-- Bits [12:8] of an instruction's word hold its predicate field; a K word and a NOP have p0 (02 R44). -/
theorem predBits_of_encodePart {i : Instr} {w : PartWord} (h : encodePart i = some w) : Claims.predBits w = predOf i := by
  cases i <;> cases h
  case nop | anop | vnop | mnop | cnop | knop | kld | kldi | kmov => rfl
  all_goals exact pred_field _ _ _

end Sys2Proof

namespace Sys2Proof.Claims

/-- Settles O44: slot by slot, each row of the opcode map reads back the fields that the encoder's row wrote, and the fields read
make up the word again. -/
theorem decodeEncode : Obligations.DecodeEncode :=
  ⟨fun _ _ => decodePart_of_encodePart, fun _ _ => encodePart_of_decodePart⟩

/-- Settles O43: each word is the encoding of its well-formed instruction. -/
theorem decodeWords : Obligations.DecodeWords := by
  intro e he
  have hw : e.2.wf = true ∧ encodePart e.2 = some e.1 := by
    fin_cases he <;> exact ⟨by decide, by decide⟩
  exact decodePart_of_encodePart hw.1 hw.2

end Sys2Proof.Claims
end

section
/-!
PROOFS. The issue of a part (02 R30, R35, R37, R44, R54): every slot instruction issues through `runPart`, what a verdict of go says, and
what a part does whose predicate is false.
-/

namespace Sys2Proof.Machine

/-! ### Every slot instruction issues through `runPart` -/

/-- The meaning of a slot instruction is the issue of its part, with an effect of its own. -/
theorem exec_eq_runPart {i : Instr} {k : Slot} (h : slotOf i = some k) (s : State) : ∃ f, exec i s = runPart k i s f := by
  cases i <;> cases h
  all_goals exact ⟨_, rfl⟩

/-- The NOPs issue with no effect on their group. -/
theorem exec_of_nops {e : Slot × Instr} (he : e ∈ Claims.nops) (s : State) : exec e.2 s = runGroup e.1 e.2 s (fun _ g _ => g) := by
  simp only [Claims.nops, List.mem_cons, List.not_mem_nil, or_false] at he
  rcases he with rfl | rfl | rfl | rfl | rfl | rfl <;> rfl

/-- No rule of its own holds a NOP back: an expired lease holds back every other part of the M slot, but not MNOP. -/
theorem own_nop (s : State) (r : GRef) (g : Group) (p : Part) {e : Slot × Instr} (he : e ∈ Claims.nops) : own s r g e.1 p e.2 = .go := by
  simp only [Claims.nops, List.mem_cons, List.not_mem_nil, or_false] at he
  rcases he with rfl | rfl | rfl | rfl | rfl | rfl
  case inr.inr.inr.inl => simp [own, ownM, Verdict.then, waitIf]
  all_goals rfl

/-! ### What a verdict of go says -/

theorem waitIf_eq_go {b : Bool} : waitIf b = .go ↔ b = false := by
  cases b <;> simp [waitIf]

theorem then_eq_go {a b : Verdict} : a.then b = .go ↔ a = .go ∧ b = .go := by
  unfold Verdict.then
  split <;> simp_all

theorem eq_go_of_not_traps {v : Verdict} (hw : v ≠ .wait) (ht : v.traps = false) : v = .go := by
  cases v <;> simp_all [Verdict.traps]

/-- A part whose predicate is true may go by itself just where no interlock, limit or rule of its own holds it back. -/
theorem verdictAlone_eq_go {s : State} {r : GRef} {g : Group} {k : Slot} {p : Part} {i : Instr} {mate : Bool} (hp : g.predOn p i = true) :
    verdictAlone s r g k p i mate = .go ↔ hazard g k p i mate = false ∧ leBad g p = false ∧ own s r g k p i = .go ∧
      atSlipLimit g p = false ∧ prodPending g p i = false := by
  unfold verdictAlone
  cases hazard g k p i mate <;> cases leBad g p <;> simp [hp, then_eq_go, waitIf_eq_go]

/-- A part that may go may go by itself and with every part of its sync; where it comes last it has none, and the interlock holds nothing
against it (02 R35). -/
theorem verdict_eq_go {s : State} {r : GRef} {g : Group} {k : Slot} {p : Part} {i : Instr} (h : verdict s r g k p i = .go) :
    verdictAlone s r g k p i true = .go ∧ (∀ x ∈ syncMates g k p, verdictAlone s r g x.1 x.2 x.2.instr true = .go) ∧
      (issuesLast i = true → syncMates g k p = []) ∧ hazard g k p i false = false := by
  unfold verdict at h
  dsimp only at h
  split at h
  · cases h
  rename_i mineNoWait
  split at h
  · cases h
  rename_i matesNoWait
  split at h
  · rename_i mineTraps
    split at h
    · cases h
    · rw [h] at mineTraps; cases mineTraps
  rename_i mineNoTrap
  rw [waitIf_eq_go] at h
  simp only [Bool.or_eq_false_iff, Bool.and_eq_false_imp, List.any_map, List.any_eq_false, Function.comp] at h
  obtain ⟨⟨matesNoTrap, last⟩, hz⟩ := h
  refine ⟨eq_go_of_not_traps mineNoWait (by simpa using mineNoTrap), fun x hx => ?_, fun hi => by simpa using last hi, hz⟩
  refine eq_go_of_not_traps (fun hw => matesNoWait ?_) (by simpa using matesNoTrap x hx)
  exact List.any_eq_true.mpr ⟨_, List.mem_map_of_mem hx, by simp [hw]⟩

/-! ### What the predicate decides (02 R37) -/

/-- The zero predicate field is p0, which is always true (02 R44). -/
theorem predField_zero (g : Group) (seq : Nat) : g.predField seq 0#5 = true := by
  have h0 : g.predAt seq 0 = true := by
    unfold Group.predAt
    split <;> simp [Group.preg]
  simp [Group.predField, h0]

section
variable {s : State} {g : Group} {k : Slot} {p : Part} {i : Instr} (hh : s.headOf k = some (g, p)) (hs : s.serving = true)
  (ht : s.hasTurn s.cur = true) (hb : heldBack s s.cur g = false) (ha : g.asyncDue = false) (hj : s.joint = none)
  (hv : verdict s s.cur g k p i = .go)
include hh hs ht hb ha hj hv

/-- A part that may go and whose predicate is true passes every check. -/
theorem passes_of_verdict_go (hp : g.predOn p i = true) (hr : raises g p i = true → trapsBefore s s.cur g k p = false) :
    s.passes g k p i := by
  obtain ⟨mine, mates, last, hz⟩ := verdict_eq_go hv
  obtain ⟨hz', hl, ho, hf, hq⟩ := (verdictAlone_eq_go hp).mp mine
  refine ⟨⟨hh, (issuable_iff s g k p i).mpr ⟨by simp [hj], hs, hb, ht, hz, hz', hl, hp, hf, hq, ha, ?_, ?_, hr⟩⟩, ho⟩
  · simpa using fun a b => mates (a, b)
  · simpa using last

/-- A part that may go and whose predicate is false leaves its queue, and completes its share of its bundle's token. -/
theorem runPart_predOff (f : State → GRef → Group → Part → State) (hp : g.predOn p i = false) :
    runPart k i s f = .next ((s.setGroup s.cur ((((g.switchV k p).retire k).passToken p i).dropOld)).noteIssue s.cur) := by
  have hr : raises g p i = false := by simp [raises, hp]
  simp [runPart, hh, judged_none s k p (by simp [hj]), hs, hb, hv, ht, hr, ha, State.issuePart, hp]
end

end Sys2Proof.Machine

namespace Sys2Proof.Claims

open Sys2Proof.Machine

/-- Settles O1: each NOP issues with the identity for its effect, and its own rule lets it go. -/
theorem nopsDoNothing : Obligations.NopsDoNothing := by
  intro e he s g p ⟨hh, hi⟩
  rw [exec_of_nops he]
  exact runGroup_issues _ _ s _ g p hh hi (own_nop s s.cur g p he)

/-- Settles O45: the field is read back from the encoder's word, and the issue turns on its value. -/
theorem predicatesGovernParts : Obligations.PredicatesGovernParts := by
  refine ⟨fun w i h => ?_, fun g p i => rfl, predField_zero, ?_, ?_⟩
  · exact (predBits_of_encodePart (encodePart_of_decodePart h).2).symm
  · intro s g k p i hk hh hs ht hb ha hj hv hp
    obtain ⟨f, hf⟩ := exec_eq_runPart hk s
    rw [hf]
    exact runPart_predOff hh hs ht hb ha hj hv f hp
  · intro s g k p i _ hh hs ht hb ha hj hv hp hr
    exact passes_of_verdict_go hh hs ht hb ha hj hv hp hr

end Sys2Proof.Claims
end

section
/-!
PROOFS. Bundles (02 R28, R31, R32): what a decoded bundle holds, when a bundle traps, and what its dispatch does to the slot queues.
-/

namespace Sys2Proof.Machine

/-! ### A decoded bundle -/

/-- The parts of a bundle that decodes are what its words spell, and no INFO code is reported of it (02 R31). -/
theorem decodeBundle_eq_ok {w : BitVec 256} {b : Bundle} (h : decodeBundle w = .ok b) :
    (∀ k, b.part k = bundleInstr w k) ∧ ∀ n ∈ infoOrder, n ∉ offending w := by
  unfold decodeBundle at h
  split at h
  · cases h
  · rename_i hn
    cases h
    refine ⟨fun k => by cases k <;> rfl, ?_⟩
    simpa using hn

/-- Each slot's word of a bundle that decodes reads as the bundle's part. -/
theorem decodePart_of_decodeBundle {w : BitVec 256} {b : Bundle} (k : Slot) (h : decodeBundle w = .ok b) :
    decodePart (bundlePart w k) = .ok (b.part k) := by
  obtain ⟨hpart, hoff⟩ := decodeBundle_eq_ok h
  have hgood : partBad w k = false := by
    by_contra hb
    have hk : k.num ∈ slots.filterMap (fun k => if partBad w k then some k.num else none) :=
      List.mem_filterMap.mpr ⟨k, by cases k <;> decide, by simp [hb]⟩
    refine hoff k.num (by cases k <;> decide) ?_
    simp only [offending, List.mem_append]
    exact .inl (.inl (.inr hk))
  rw [hpart]
  unfold bundleInstr
  unfold partBad at hgood
  cases hd : decodePart (bundlePart w k) with
  | ok i => rfl
  | error e => simp [hd, Except.toOption] at hgood

/-! ### The trap of a bundle at decode -/

theorem bundleTrap_of_error {win info : Nat} {w : BitVec 256} (h : decodeBundle w = .error info) : bundleTrap win w = some (1, info) := by
  simp [bundleTrap, h]

theorem bundleTrap_of_ok {win : Nat} {w : BitVec 256} {b : Bundle} (h : decodeBundle w = .ok b) (hw : ∀ c ∈ b.windowRegs, c < win) :
    bundleTrap win w = none := by
  simpa [bundleTrap, h] using hw

theorem bundleTrap_of_window {win c : Nat} {w : BitVec 256} {b : Bundle} (h : decodeBundle w = .ok b) (hc : c ∈ b.windowRegs)
    (hw : win ≤ c) : bundleTrap win w = some (2, 0) := by
  simpa [bundleTrap, h] using ⟨c, hc, hw⟩

/-! ### BUNDLE_DECODE -/

/-- A bundle that traps comes up for decode only once every earlier part has issued (02 R31). -/
theorem allIssued_of_canDispatch {s : State} {r : GRef} {g : Group} {o : Overlay} {t : Nat × Nat} (hc : canDispatch s r g = true)
    (ho : s.residentFor r g = some o) (ht : bundleTrap g.win (o.bundleAt g.pc) = some t) : g.allIssued = true := by
  simp only [canDispatch, ho, ht, Bool.and_eq_true] at hc
  simpa using hc.2

section
variable {s : State} {r : GRef} {g : Group} {o : Overlay} (hg : s.group r = some g) (hc : canDispatch s r g = true)
  (ho : s.residentFor r g = some o)
include hg hc ho

theorem exec_bundleDecode_traps {code info : Nat} (ht : bundleTrap g.win (o.bundleAt g.pc) = some (code, info)) :
    g.allIssued = true ∧
    exec (.bundleDecode r) s = .next (trapBundle (s.setCore r.core ((s.core r.core).touch o s.clk)) r g code info 0 g.pc) :=
  ⟨allIssued_of_canDispatch hc ho ht, by simp [exec_bundleDecode, execBundleDecode, hg, hc, ho, ht]⟩

theorem exec_bundleDecode_dispatches {b : Bundle} (hb : decodeBundle (o.bundleAt g.pc) = .ok b)
    (ht : bundleTrap g.win (o.bundleAt g.pc) = none) :
    exec (.bundleDecode r) s =
      .next ((s.setCore r.core ((s.core r.core).touch o s.clk)).setGroup r (g.tidy.dispatch (o.bundleAt g.pc) b)) := by
  simp [exec_bundleDecode, execBundleDecode, hg, hc, ho, ht, hb]
end

/-! ### Dispatch -/

/-- The part that a bundle's dispatch gives a slot's queue (02 R32). -/
def Group.dispatchedPart (g : Group) (w : BitVec 256) (b : Bundle) (k : Slot) : Part :=
  ⟨g.pc, g.seq, b.hdr, b.tw, b.switchPoint, hdrLE b.hdr || hdrPP b.hdr || isControl b.s, bundlePart w k⟩

section
variable {g : Group} (hs : g.skip = [0, 0, 0, 0, 0, 0]) (w : BitVec 256) (b : Bundle)
include hs

theorem Group.dispatch_n : (g.dispatch w b).n = g.n := by simp [Group.dispatch, slots, Slot.num, hs]

theorem Group.dispatch_p : (g.dispatch w b).p = g.p := by simp [Group.dispatch, slots, Slot.num, hs]

/-- Where no return skips a part, every slot's queue receives its part at its end. -/
theorem Group.slotQ_dispatch (k : Slot) : (g.dispatch w b).slotQ k = g.slotQ k ++ [g.dispatchedPart w b k] := by
  cases k <;> simp [Group.dispatch, slots, Slot.num, hs, Group.slotQ, Group.setSlotQ, Group.dispatchedPart]
end

end Sys2Proof.Machine

namespace Sys2Proof.Claims

open Sys2Proof.Machine

/-- Settles O29: the bundle's trap, or its absence, decides which branch of BUNDLE_DECODE is taken. -/
theorem bundlesDispatch : Obligations.BundlesDispatch := by
  refine ⟨?_, ?_, ?_, ?_⟩
  · intro s r g o b hg hc ho hb hw
    exact exec_bundleDecode_dispatches hg hc ho hb (bundleTrap_of_ok hb hw)
  · intro g w b k hs
    exact ⟨rfl, rfl, g.dispatch_n hs w b, g.dispatch_p hs w b, _, g.slotQ_dispatch hs w b k, rfl, rfl, rfl, rfl, rfl⟩
  · intro s r g o info hg hc ho hb
    exact exec_bundleDecode_traps hg hc ho (bundleTrap_of_error hb)
  · intro s r g o b c hg hc ho hb hm hw
    exact exec_bundleDecode_traps hg hc ho (bundleTrap_of_window hb hm hw)

end Sys2Proof.Claims
end

section
/-!
PROOFS. The step (02 R31, R32, R35, R36; logs 1, 7, 64): a slot's turn, an event's turn, the default turn, and clocks that pass.
-/

namespace Sys2Proof.Machine

theorem Part.instr_of_decodePart {p : Part} {i : Instr} (h : decodePart p.word = .ok i) : p.instr = i := by
  simp [Part.instr, h]

/-! ### A slot's turn (02 R35) -/

section
variable {s : State} {g : Group} {k : Slot} {p : Part} (hh : s.headOf k = some (g, p))
include hh

theorem State.issueSlot_alone (hm : syncMates g k p = []) : s.issueSlot k = exec p.instr s := by
  simp [State.issueSlot, hh, hm]

theorem State.issueSlot_together {t : State} (hm : syncMates g k p ≠ []) (hg : goTogether s s.cur g k p = true)
    (ht : State.issueEach p.seq ((List.replicate 6 slots).flatten) { s with joint := some p.seq } = .next t) :
    s.issueSlot k = .next { t with joint := none } := by
  simp only [State.issueSlot, hh, List.isEmpty_iff, hm, if_false, hg, if_true, ht]

theorem State.issueSlot_held (hm : syncMates g k p ≠ []) (hg : goTogether s s.cur g k p = false) (hs : syncGoes s s.cur g k p = true) :
    s.issueSlot k = .next s := by
  simp [State.issueSlot, hh, hm, hg, hs]

theorem State.issueSlot_apart (hm : syncMates g k p ≠ []) (hs : syncGoes s s.cur g k p = false) :
    s.issueSlot k = State.issueEach p.seq slots s := by
  have hg : goTogether s s.cur g k p = false := by simp [goTogether, hs]
  simp [State.issueSlot, hh, hm, hg, hs]

theorem State.issueEach_of_named {t : State} {rest : List Slot} (hn : syncNames p k = true) (ht : exec p.instr s = .next t) :
    State.issueEach p.seq (k :: rest) s = State.issueEach p.seq rest t := by
  simp [State.issueEach, hh, hn, ht]

theorem State.issueEach_of_not_named {seq : Nat} {rest : List Slot} (hn : p.seq ≠ seq ∨ syncNames p k = false) :
    State.issueEach seq (k :: rest) s = State.issueEach seq rest s := by
  have hnot : ¬ (p.seq = seq ∧ syncNames p k = true) := by simpa [imp_iff_not_or] using hn
  simp only [State.issueEach, hh, hnot, if_false]

/-- In the midst of a sync's issue a part waits for the parts whose effects come before its own (log 64). -/
theorem exec_waits_for_mates {i : Instr} (hk : slotOf i = some k) (hj : s.joint = some p.seq) (hn : syncNames p k = true)
    (hm : matesFirst g k p i = true) : exec i s = .next s := by
  obtain ⟨f, hf⟩ := exec_eq_runPart hk s
  simp [hf, runPart, hh, State.judged, hj, hn, hm]
end

/-! ### The agenda's turns -/

theorem step_part {s : State} {r : GRef} {k : Slot} {c : Nat} {rest : List Turn} (ha : s.agenda = ⟨c, .part r k⟩ :: rest) :
    step s = ({ ({ s with agenda := rest } : State).pass c with cur := r } : State).issueSlot k := by
  simp [step, ha, State.act]

theorem step_event {s : State} {i : Instr} {c : Nat} {rest : List Turn} (ha : s.agenda = ⟨c, .event i⟩ :: rest) (hi : slotOf i = none) :
    step s = exec i (({ s with agenda := rest } : State).pass c) := by
  simp [step, ha, State.act, hi]

/-! ### The default turn (log 1) -/

/-- Where no ready head is a NOP, no NOP is passed. -/
theorem State.passNops_of_none {s : State} (h : ∀ j g q, s.readyHead j = some (g, q) → isNop q.instr = false) (l : List Slot) :
    State.passNops l s = .next s := by
  induction l with
  | nil => rfl
  | cons k l ih =>
    unfold State.passNops
    split
    · rename_i g q hk
      simp [nopSync, h k g q hk, ih]
    · exact ih

/-- What a fold chooses that keeps its choice or takes the next element is one of the elements. -/
theorem foldl_choice_mem {α : Type} {f : Option α → α → Option α} (hf : ∀ m x, f m x = some x ∨ f m x = m) {y : α} (l : List α)
    (m : Option α) (h : l.foldl f m = some y) : m = some y ∨ y ∈ l := by
  induction l generalizing m with
  | nil => exact .inl h
  | cons x l ih =>
    rcases ih _ h with h' | h'
    · rcases hf m x with hx | hx
      · rw [hx] at h'; cases h'; exact .inr (List.mem_cons_self ..)
      · exact .inl (hx ▸ h')
    · exact .inr (List.mem_cons_of_mem _ h')

/-- The part picked is the head of its slot. -/
theorem State.headOf_of_pickSlot {s : State} {k : Slot} {p : Part} (h : s.pickSlot = some (k, p)) : ∃ g, s.headOf k = some (g, p) := by
  have hmem := (foldl_choice_mem (fun m x => ?_) _ _ h).resolve_left nofun
  · obtain ⟨j, -, hj⟩ := List.mem_filterMap.mp hmem
    obtain ⟨⟨g, q⟩, hr, he⟩ := Option.map_eq_some_iff.mp hj
    cases he
    refine ⟨g, ?_⟩
    unfold State.readyHead at hr
    split at hr
    · rename_i hh
      split at hr
      · cases hr
      · rw [hh, hr]
    · cases hr
  · split
    · exact .inl rfl
    · split
      · exact .inl rfl
      · exact .inr rfl

theorem State.issueNext_of_no_nops {s : State} {k : Slot} {p : Part} (h : ∀ j g q, s.readyHead j = some (g, q) → isNop q.instr = false)
    (hp : s.pickSlot = some (k, p)) : s.issueNext = s.issueSlot k := by
  simp [State.issueNext, State.passNops_of_none h, hp]

section
variable {s : State} {g : Group} (ha : s.agenda = []) (hg : s.group s.cur = some g) (hf : g.fly = [])
  (hr : g.qh.any g.rotateDue = false) (hl : g.qh.any g.loopEndDue = false)
include ha hg hf hr hl

theorem step_issues (hp : s.pickSlot.isSome = true) : step s = s.issueNext := by
  simp [step, ha, State.defaultTurn, hg, hf, hr, hl, hp]

theorem step_dispatches {t : State} (hp : s.pickSlot = none) (hc : canDispatch s s.cur g = true)
    (ht : exec (.bundleDecode s.cur) s = .next t) : step s = t.issueNext := by
  rw [exec_bundleDecode] at ht
  simp [step, ha, State.defaultTurn, hg, hf, hr, hl, hp, hc, ht]
end

/-! ### Clocks that pass (log 7) -/

theorem State.pass_zero (s : State) : s.pass 0 = s := by simp [State.pass]

theorem State.pass_clk (s : State) (n : Nat) : (s.pass n).clk = s.clk + n := by
  unfold State.pass
  split <;> simp_all

theorem Core.ages_reset (s : State) (c : Nat) : Core.reset.ages s c = Core.reset := by
  simp [Core.ages, Core.reset]

/-- Each core ages by itself as clocks pass. -/
theorem State.pass_core (s : State) {n : Nat} (hn : n ≠ 0) (c : Nat) : (s.pass n).core c = (s.core c).ages s c := by
  rw [State.pass, if_neg hn]
  simp only [State.core, List.getD_eq_getElem?_getD, List.getElem?_map, List.getElem?_zipIdx, Option.map_map]
  cases s.cores[c]? with
  | none => simp [Core.ages_reset]
  | some x => simp

@[simp] theorem Core.ages_hamper (s : State) (c : Nat) (x : Core) : (x.ages s c).hamper = x.hamper := by
  unfold Core.ages; split <;> rfl

@[simp] theorem Core.ages_tracker (s : State) (c : Nat) (x : Core) : (x.ages s c).tracker = x.tracker := by
  unfold Core.ages; split <;> rfl

theorem State.sameBytes_pass (s : State) (n : Nat) : s.sameBytes (s.pass n) := by
  by_cases hn : n = 0
  · subst hn
    rw [State.pass_zero]
    exact ⟨fun _ => rfl, fun _ => rfl, fun _ _ => rfl⟩
  · refine ⟨fun a => ?_, fun a => ?_, fun c a => ?_⟩
    · simp [State.memByte, State.pass, hn]
    · simp [State.hostByte, State.pass, hn]
    · simp [State.padByte, State.pass_core s hn]

/-- A wick but for the mark of how long its step has been ready (08 R222). -/
def Wick.unmarked (w : Wick) : Wick := { w with seq := w.seq.map (fun (q : Sequencer) => { q with readyAt := none }) }

/-- Tile steps that ripen change nothing but their marks. -/
theorem Group.ripen_unmarked (s : State) (core slot : Nat) (g : Group) :
    (g.ripen s core slot).wicks.map Wick.unmarked = g.wicks.map Wick.unmarked := by
  have hmark (y : Wick × Nat) : Wick.unmarked { y.1 with seq := y.1.seq.map (fun q =>
      { q with readyAt := sinceWhen (StepAt.ripe s slot ⟨core, g, y.2, y.1, q⟩) q.readyAt s.clk }) } = Wick.unmarked y.1 := by
    simp [Wick.unmarked, Function.comp_def]
  calc (g.ripen s core slot).wicks.map Wick.unmarked
    _ = g.wicks.zipIdx.map (Wick.unmarked ∘ Prod.fst) := by simp only [Group.ripen, List.map_map, Function.comp_def, hmark]
    _ = g.wicks.map Wick.unmarked := by rw [← List.map_map, List.zipIdx_map_fst]

/-- Group `h` differs from `g` in nothing but the marks of how long it, and a step of its long instructions, has been ready (13 R330,
08 R222). -/
def Group.sameButMarks (g h : Group) : Prop :=
  { h with readySince := g.readySince, promoted := g.promoted, wicks := g.wicks } = g ∧
    h.wicks.map Wick.unmarked = g.wicks.map Wick.unmarked

theorem Group.sameButMarks_refl (g : Group) : g.sameButMarks g := ⟨rfl, rfl⟩

/-- A group seated in a core stays there as clocks pass, but for its marks. -/
theorem Core.ages_slot {s : State} {c k : Nat} {x : Core} {g : Group} (h : x.slots.getD k none = some g) :
    ∃ h : Group, (x.ages s c).slots.getD k none = some h ∧ g.sameButMarks h := by
  unfold Core.ages
  split
  · exact ⟨g, h, g.sameButMarks_refl⟩
  · rw [List.getD_eq_getElem?_getD, Option.getD_eq_iff] at h
    have hk : x.slots[k]? = some (some g) := by simpa using h
    simp only [List.getD_eq_getElem?_getD, List.getElem?_map, List.getElem?_zipIdx, hk, Option.map_some, Option.getD_some]
    split
    · exact ⟨_, rfl, rfl, g.ripen_unmarked s c _⟩
    · exact ⟨_, rfl, rfl, g.ripen_unmarked s c _⟩

theorem State.pass_group (s : State) (n : Nat) {r : GRef} {g : Group} (h : s.group r = some g) :
    ∃ h : Group, (s.pass n).group r = some h ∧ g.sameButMarks h := by
  by_cases hn : n = 0
  · subst hn
    exact ⟨g, by rw [State.pass_zero, h], g.sameButMarks_refl⟩
  · unfold State.group at h ⊢
    rw [State.pass_core s hn, Core.ages_tracker]
    split
    · rename_i hr
      rw [if_pos hr] at h
      exact Core.ages_slot h
    · rename_i hr
      rw [if_neg hr] at h
      exact ⟨g, h, g.sameButMarks_refl⟩

end Sys2Proof.Machine

namespace Sys2Proof.Claims

open Sys2Proof.Machine

/-- Settles O46: a turn of the agenda and the default turn each come down to the issue of a slot, and a part alone in its sync runs as the
instruction that its word spells. -/
theorem stepRunsDecoded : Obligations.StepRunsDecoded := by
  refine ⟨?_, ?_, ?_, ?_, ?_, ?_, ?_, ?_⟩
  · intro s u r k c rest g p i ha hu hh hd
    rw [step_part ha, ← hu, ← Part.instr_of_decodePart hd]
    exact ⟨State.issueSlot_alone hh, fun hm hg t => State.issueSlot_together hh hm hg,
      State.issueSlot_held hh, State.issueSlot_apart hh⟩
  · intro s seq k rest g p i hh hd
    refine ⟨?_, State.issueEach_of_not_named hh⟩
    rintro rfl hn t ht
    exact State.issueEach_of_named hh hn (by rw [Part.instr_of_decodePart hd, ht])
  · intro s k g p i hk hh hj hn hm
    exact exec_waits_for_mates hh hk hj hn hm
  · intro s n
    exact ⟨s.pass_clk n, s.sameBytes_pass n, s.pass_zero, fun r g hg => s.pass_group n hg⟩
  · intro s i c rest ha hi
    exact step_event ha hi
  · intro s g k p i ha hg hf hr hl hp hd hn hm
    obtain ⟨g', hh⟩ := State.headOf_of_pickSlot hp
    obtain rfl : g' = g := Option.some.inj ((headOf_group hh).1.symm.trans hg)
    rw [step_issues ha hg hf hr hl (by rw [hp]; rfl), State.issueNext_of_no_nops hn hp, State.issueSlot_alone hh hm,
      Part.instr_of_decodePart hd]
  · intro s t g ha hg hf hr hl
    exact step_dispatches ha hg hf hr hl
  · intro w b k hb
    exact decodePart_of_decodeBundle k hb

end Sys2Proof.Claims
end

section
/-!
PROOFS. Range guards (03 R86, R91) and scale registers (03 R80 to R85): what the guard instructions answer and leave, and when a scale
write is seen.
-/

namespace Sys2Proof.Machine

/-! ### Packed elements (03 R63) -/

theorem packElems_lt (w : Nat) (l : List Nat) : packElems w l < 2 ^ (w * l.length) := by
  induction l with
  | nil => simp [packElems]
  | cons x l ih =>
    have hx : x % 2 ^ w < 2 ^ w := Nat.mod_lt _ (Nat.two_pow_pos w)
    calc packElems w (x :: l)
      _ < 2 ^ w + 2 ^ w * packElems w l := Nat.add_lt_add_right hx _
      _ = 2 ^ w * (packElems w l + 1) := by ring
      _ ≤ 2 ^ w * 2 ^ (w * l.length) := Nat.mul_le_mul_left _ ih
      _ = 2 ^ (w * (x :: l).length) := by rw [← pow_add, List.length_cons]; ring_nf

/-- An element packed is read back at its place, cut to its width. -/
theorem nbits_packElems (w : Nat) (l : List Nat) (j : Nat) : nbits (packElems w l) (w * j) w = l.getD j 0 % 2 ^ w := by
  induction l generalizing j with
  | nil => simp [packElems, nbits]
  | cons x l ih =>
    cases j with
    | zero => simp [packElems, nbits]
    | succ j =>
      have htail : (x % 2 ^ w + 2 ^ w * packElems w l) >>> w = packElems w l := by
        rw [Nat.shiftRight_eq_div_pow, Nat.add_mul_div_left _ _ (Nat.two_pow_pos w),
          Nat.div_eq_of_lt (Nat.mod_lt _ (Nat.two_pow_pos w)), Nat.zero_add]
      rw [packElems, nbits, Nat.mul_succ, Nat.add_comm (w * j), Nat.shiftRight_add, htail]
      exact ih j

/-- The elements packed into a register wide enough for all of them are its fields. -/
theorem extractLsb'_packElems {n w j : Nat} {l : List Nat} (hj : j < l.length) (hn : w * l.length ≤ n) :
    ((BitVec.ofNat n (packElems w l)).extractLsb' (w * j) w).toNat = l[j] % 2 ^ w := by
  have hlt : packElems w l < 2 ^ n := (packElems_lt w l).trans_le (Nat.pow_le_pow_right (by decide) hn)
  rw [BitVec.extractLsb'_toNat, BitVec.toNat_ofNat, Nat.mod_eq_of_lt hlt, List.getElem_eq_getD (h := hj) 0]
  exact nbits_packElems w l j

/-! ### What an issue leaves of guards and scale registers -/

@[simp] theorem issued_guard (g : Group) (k : Slot) (p : Part) (i : Instr) (n : Nat) : (issued g k p i).guard n = g.guard n := by
  simp [Group.guard]

@[simp] theorem issued_areg (g : Group) (k : Slot) (p : Part) (i : Instr) (n : Nat) : (issued g k p i).areg n = g.areg n := by
  simp [Group.areg]

@[simp] theorem issued_scaleAt (g : Group) (k : Slot) (p : Part) (i : Instr) (seq n : Nat) :
    (issued g k p i).scaleAt seq n = g.scaleAt seq n := by
  simp [Group.scaleAt]

/-- Only a V part empties the latches as it issues (02 R40). -/
theorem Group.switchV_of_ne {k : Slot} (h : k ≠ .V) (g : Group) (p : Part) : g.switchV k p = g := if_neg fun hk => h hk.1

/-! ### GRD (03 R91) -/

theorem Guard.sel_toNat (y : Guard) (sel : BitVec 2) :
    y.sel sel.toNat = if sel = 0#2 then y.lower else if sel = 1#2 then y.upper else y.low := by
  unfold Guard.sel
  split
  · rename_i h
    rw [if_pos (BitVec.eq_of_toNat_eq h)]
  · rename_i h
    obtain rfl : sel = 1#2 := BitVec.eq_of_toNat_eq h
    rfl
  · rename_i h0 h1
    rw [if_neg (fun h => h0 (congrArg BitVec.toNat h)), if_neg (fun h => h1 (congrArg BitVec.toNat h))]

/-! ### GCLR (03 R91) -/

/-- The answer's bit i says that guard i is in the mask and had tripped. -/
theorem Group.clearGuards_answer (g : Group) (mask : Word) {i : Nat} (hi : i < 16) :
    (g.clearGuards mask).1.getLsbD i = (mask.getLsbD i && (g.guard i).sticky) := by
  have hsorted := (List.sortedLT_range 16).pairwise.filter (fun i => mask.getLsbD i && (g.guard i).sticky)
  rw [Bool.eq_iff_iff, Group.clearGuards, BitVec.getLsbD_ofNat, Bool.and_eq_true, ← Nat.mem_bitIndices,
    Nat.bitIndices_sum_map_two_pow hsorted.sortedLT, List.mem_filter, List.mem_range]
  have hword : i < 64 := by omega
  simp [hi, hword]

theorem Group.clearGuards_guard (g : Group) (mask : Word) {i : Nat} (hi : i < 16) :
    (g.clearGuards mask).2.guard i = if mask.getLsbD i then { g.guard i with sticky := false, count := 0 } else g.guard i := by
  simp [Group.clearGuards, Group.guard, hi]

/-- GCLR changes nothing of a group but its guards. -/
theorem Group.clearGuards_frame (g : Group) (mask : Word) : { (g.clearGuards mask).2 with guards := g.guards } = g := rfl

/-! ### Scale writes (03 R81) -/

/-- A reader at distance four or more sees the write. -/
theorem Group.scaleAt_writeScale_of_far (g : Group) {seq q : Nat} (k : Nat) (v : Scales) (h : seq + 4 ≤ q) :
    (g.writeScale seq k v).scaleAt q k = v := by
  simp [Group.scaleAt, Group.writeScale, h]

/-- A nearer reader sees what the register held, where no other write is on its way. -/
theorem Group.scaleAt_writeScale_of_near (g : Group) {seq q : Nat} (k j : Nat) (v : Scales) (h : q < seq + 4) (hb : g.cbuf = []) :
    (g.writeScale seq k v).scaleAt q j = g.scaleAt q j := by
  simp [Group.scaleAt, Group.writeScale, h, hb]

end Sys2Proof.Machine

namespace Sys2Proof.Claims

open Sys2Proof.Machine

/-- Settles O9: each instruction's own rule decides between issue and trap, and GCLR's answer is a sum of distinct powers of two. -/
theorem guardInstructions : Obligations.GuardInstructions := by
  refine ⟨?_, ?_, ?_, ?_⟩
  · intro x s g p ⟨hh, hi⟩ hok
    have hgo : own s s.cur g .S p (.gset x) = .go := if_neg (Bool.eq_false_iff.mp hok)
    rw [exec_gset, execGset, runGroup_issues _ _ s _ g p hh hi hgo]
    simp [State.operand, scalarSrc_issued]
  · intro x s g p ⟨⟨hh, hi⟩, hd, hb⟩ hbad
    have htrap : own s s.cur g .S p (.gset x) = .trap 2 0 0 := if_pos hbad
    rw [exec_gset, execGset, runGroup, runPart_traps _ _ s _ g p 2 0 0 hh hi htrap hd hb (by decide) (by decide),
      Group.switchV_of_ne (by decide)]
  · intro x s g p ⟨hh, hi⟩
    rw [exec_grd, execGrd, runGroup_issues _ _ s _ g p hh hi rfl]
    simp [Guard.sel_toNat]
  · intro x s g p ⟨hh, hi⟩
    have hop : scalarSrc s.cur (issued g .S p (.gclr x)) x.sa.toNat = s.operand g x.sa := scalarSrc_issued ..
    refine ⟨_, _, by rw [exec_gclr, execGclr, runGroup_issues _ _ s _ g p hh hi rfl], ?_, ?_, ?_⟩
    · intro i hlt
      rw [hop, Group.clearGuards_answer _ _ hlt, issued_guard]
    · intro i hlt
      rw [hop, Group.clearGuards_guard _ _ hlt, issued_guard]
    · rw [← issued_guards g .S p (.gclr x)]
      exact Group.clearGuards_frame ..

/-- Settles O28: each load issues with its write, and a reader's distance decides whether the write is seen. -/
theorem scaleLoads : Obligations.ScaleLoads := by
  refine ⟨?_, ?_, ?_, ?_⟩
  · intro x s g p ⟨⟨hh, hi⟩, ho⟩
    rw [exec_kld, execKld, runPart_issues _ _ s _ g p hh hi ho, kldEa, issued_areg]
    rfl
  · intro x s g p ⟨hh, hi⟩
    refine ⟨_, by rw [exec_kldi, execKldi, runGroup_issues _ _ s _ g p hh hi rfl], fun j hj => ?_⟩
    rw [extractLsb'_packElems (by simpa using hj) (by simp), List.getElem_replicate]
    omega
  · intro x s g p ⟨hh, hi⟩ hw
    have hgo : own s s.cur g .K p (.kmov x) = .go := waitIf_eq_go.mpr hw
    rw [exec_kmov, execKmov, runGroup_issues _ _ s _ g p hh hi hgo, issued_scaleAt]
  · intro g seq k q v
    exact ⟨g.scaleAt_writeScale_of_far k v, fun h hb j => g.scaleAt_writeScale_of_near k j v h hb⟩

end Sys2Proof.Claims
end

section
/-!
PROOFS. Integer arithmetic, logic and shifts (04 R119, R120): the value of each row, the issue of a form, and the record of its result.
-/

namespace Sys2Proof.Machine

/-! ### The values of the rows -/

theorem word_toNat (a : Word) : word a.toNat = a := BitVec.eq_of_toNat_eq (by simp)

theorem add_eq_word (a b : Word) : a + b = word (a.toNat + b.toNat) := by simp [BitVec.ofNat_add]

theorem mul_eq_word (a b : Word) : a * b = word (a.toNat * b.toNat) := by simp [BitVec.ofNat_mul]

theorem sub_eq_ofInt (a b : Word) : a - b = BitVec.ofInt 64 (a.toInt - b.toInt) :=
  BitVec.eq_of_toInt_eq (by simp)

theorem add_eq_ofInt (a b : Word) : a + b = BitVec.ofInt 64 (a.toInt + b.toInt) :=
  BitVec.eq_of_toInt_eq (by simp)

theorem eq_zero_iff_toNat (b : Word) : b = 0#64 ↔ b.toNat = 0 := BitVec.toNat_eq.trans (by simp)

/-- The one signed division that overflows: the least number by −1. -/
theorem overflows_iff (a b : Word) : (a = 0x8000000000000000#64 ∧ b = 0xFFFFFFFFFFFFFFFF#64) ↔ (a.toInt = -2 ^ 63 ∧ b.toInt = -1) := by
  rw [← BitVec.toInt_inj, ← BitVec.toInt_inj]
  exact Iff.rfl

theorem divVal_eq (a b : Word) : divVal a b = if b.toNat = 0 then word (2 ^ 64 - 1) else
    if a.toInt = -2 ^ 63 ∧ b.toInt = -1 then a else BitVec.ofInt 64 (a.toInt.tdiv b.toInt) := by
  simp only [divVal, eq_zero_iff_toNat, overflows_iff]
  rfl

theorem remVal_eq (a b : Word) : remVal a b = if b.toNat = 0 then a else
    if a.toInt = -2 ^ 63 ∧ b.toInt = -1 then 0#64 else BitVec.ofInt 64 (a.toInt - b.toInt * a.toInt.tdiv b.toInt) := by
  simp only [remVal, eq_zero_iff_toNat, overflows_iff]

theorem divuVal_eq (a b : Word) : divuVal a b = if b.toNat = 0 then word (2 ^ 64 - 1) else word (a.toNat / b.toNat) := by
  simp only [divuVal, eq_zero_iff_toNat]
  rfl

theorem remuVal_eq (a b : Word) : remuVal a b = if b.toNat = 0 then a else word (a.toNat % b.toNat) := by
  simp only [remuVal, eq_zero_iff_toNat]

theorem shl_eq_word (a : Word) (n : Nat) : a <<< n = word (a.toNat * 2 ^ n) :=
  BitVec.eq_of_toNat_eq (by simp [Nat.shiftLeft_eq])

theorem shr_eq_word (a : Word) (n : Nat) : a >>> n = word (a.toNat / 2 ^ n) := by
  rw [← Nat.shiftRight_eq_div_pow, ← BitVec.toNat_ushiftRight, word_toNat]

theorem sar_eq_ofInt (a : Word) (n : Nat) : a.sshiftRight n = BitVec.ofInt 64 (a.toInt / 2 ^ n) := by
  rw [BitVec.sshiftRight, Int.shiftRight_eq_div_pow]
  norm_cast

/-- A rotation right is the sum of its two parts, the low bits shifted past the top. -/
theorem rotr_eq_word (a : Word) {n : Nat} (hn : n < 64) : a.rotateRight n = word (a.toNat / 2 ^ n + a.toNat * 2 ^ (64 - n)) := by
  have disjoint : a >>> n &&& a <<< (64 - n) = 0#64 := by
    ext i hi
    by_cases hlow : i < 64 - n
    · simp [hlow]
    · simp [BitVec.getLsbD_of_ge a (n + i) (by omega)]
  calc a.rotateRight n
    _ = a >>> n ||| a <<< (64 - n) := by rw [BitVec.rotateRight_def, Nat.mod_eq_of_lt hn]
    _ = a >>> n + a <<< (64 - n) := (BitVec.add_eq_or_of_and_eq_zero _ _ disjoint).symm
    _ = word (a.toNat / 2 ^ n) + word (a.toNat * 2 ^ (64 - n)) := by rw [shr_eq_word, shl_eq_word]
    _ = word (a.toNat / 2 ^ n + a.toNat * 2 ^ (64 - n)) := (BitVec.ofNat_add ..).symm

theorem minVal_eq (a b : Word) : minVal a b = BitVec.ofInt 64 (min a.toInt b.toInt) := by
  rw [minVal, min_def, apply_ite (BitVec.ofInt 64), BitVec.ofInt_toInt, BitVec.ofInt_toInt]

theorem maxVal_eq (a b : Word) : maxVal a b = BitVec.ofInt 64 (max a.toInt b.toInt) := by
  rw [maxVal, max_def, apply_ite (BitVec.ofInt 64), BitVec.ofInt_toInt, BitVec.ofInt_toInt]

theorem minuVal_eq (a b : Word) : minuVal a b = word (min a.toNat b.toNat) := by
  rw [minuVal, min_def, apply_ite word, word_toNat, word_toNat]

theorem maxuVal_eq (a b : Word) : maxuVal a b = word (max a.toNat b.toNat) := by
  rw [maxuVal, max_def, apply_ite word, word_toNat, word_toNat]

/-- The immediate enters below the source's bits, which the shift has cleared (04 R120). -/
theorem luiVal_eq (a : Word) (imm : BitVec 15) : luiVal a imm = word (a.toNat * 2 ^ 15 ||| imm.toNat) := by
  simp only [luiVal, word, BitVec.ofNat_or, shl_eq_word, BitVec.ofNat_toNat]

theorem addi_eq_ofInt (a : Word) (imm : BitVec 15) : a + sext imm = BitVec.ofInt 64 (a.toInt + imm.toInt) := by
  rw [add_eq_ofInt, sext, BitVec.toInt_signExtend_of_le (by decide)]

/-! ### The issue of an integer form -/

/-- An operand of an issued part is the group's from before its issue (02 R34). -/
theorem operand_issued (s : State) (g : Group) (k : Slot) (p : Part) (i : Instr) (c : BitVec 6) :
    scalarSrc s.cur (issued g k p i) c.toNat = s.operand g c := scalarSrc_issued ..

theorem runR3_congr {i : Instr} {x : R3} {s : State} {f f' : Word → Word → Word} (h : ∀ a b, f a b = f' a b) :
    runR3 i x s f = runR3 i x s f' := by rw [funext₂ h]

theorem runR2_congr {i : Instr} {x : R2} {s : State} {f f' : Word → Word} (h : ∀ a, f a = f' a) : runR2 i x s f = runR2 i x s f' := by
  rw [funext h]

theorem runRI_congr {i : Instr} {x : RI} {s : State} {f f' : Word → Word} (h : ∀ a, f a = f' a) : runRI i x s f = runRI i x s f' := by
  rw [funext h]

/-- Each two-source form runs with the value of its row. -/
theorem exec_of_intRows {x : R3} {e : Instr × (Word → Word → Word)} (he : e ∈ Claims.intRows x) (s : State) :
    exec e.1 s = runR3 e.1 x s e.2 := by
  simp only [Claims.intRows, List.mem_cons, List.not_mem_nil, or_false] at he
  have hk (b : Word) : shiftOf b < 64 := Nat.mod_lt _ (by decide)
  rcases he with rfl | rfl | rfl | rfl | rfl | rfl | rfl | rfl | rfl | rfl | rfl | rfl | rfl | rfl | rfl | rfl | rfl | rfl | rfl | rfl | rfl
  · exact (exec_add x s).trans (runR3_congr add_eq_word)
  · exact (exec_sub x s).trans (runR3_congr sub_eq_ofInt)
  · exact (exec_mul x s).trans (runR3_congr mul_eq_word)
  · exact exec_mulh x s
  · exact exec_mulhu x s
  · exact (exec_div x s).trans (runR3_congr divVal_eq)
  · exact (exec_divu x s).trans (runR3_congr divuVal_eq)
  · exact (exec_rem x s).trans (runR3_congr remVal_eq)
  · exact (exec_remu x s).trans (runR3_congr remuVal_eq)
  · exact exec_and x s
  · exact exec_or x s
  · exact exec_xor x s
  · exact exec_andn x s
  · exact (exec_shl x s).trans (runR3_congr fun a b => shl_eq_word a (shiftOf b))
  · exact (exec_shr x s).trans (runR3_congr fun a b => shr_eq_word a (shiftOf b))
  · exact (exec_sar x s).trans (runR3_congr fun a b => sar_eq_ofInt a (shiftOf b))
  · exact (exec_rotr x s).trans (runR3_congr fun a b => rotr_eq_word a (hk b))
  · exact (exec_min x s).trans (runR3_congr minVal_eq)
  · exact (exec_max x s).trans (runR3_congr maxVal_eq)
  · exact (exec_minu x s).trans (runR3_congr minuVal_eq)
  · exact (exec_maxu x s).trans (runR3_congr maxuVal_eq)

/-- Each one-source form runs with the value of its row. -/
theorem exec_of_unaryRows {x : R2} {e : Instr × (Word → Word)} (he : e ∈ Claims.unaryRows x) (s : State) :
    exec e.1 s = runR2 e.1 x s e.2 := by
  simp only [Claims.unaryRows, List.mem_cons, List.not_mem_nil, or_false] at he
  rcases he with rfl | rfl
  · exact exec_clz x s
  · exact exec_popc x s

/-- Each immediate form runs with the value of its row. -/
theorem exec_of_immRows {x : RI} {e : Instr × (Word → Word)} (he : e ∈ Claims.immRows x) (s : State) :
    exec e.1 s = runRI e.1 x s e.2 := by
  simp only [Claims.immRows, List.mem_cons, List.not_mem_nil, or_false] at he
  rcases he with rfl | rfl | rfl | rfl | rfl | rfl | rfl | rfl
  · exact (exec_addi x s).trans (runRI_congr fun a => addi_eq_ofInt a x.imm)
  · exact exec_andi x s
  · exact exec_ori x s
  · exact exec_xori x s
  · exact (exec_shli x s).trans (runRI_congr fun a => shl_eq_word a x.imm.toNat)
  · exact (exec_shri x s).trans (runRI_congr fun a => shr_eq_word a x.imm.toNat)
  · exact (exec_sari x s).trans (runRI_congr fun a => sar_eq_ofInt a x.imm.toNat)
  · exact (exec_lui x s).trans (runRI_congr fun a => luiVal_eq a x.imm)

section
variable (s : State) (r : GRef) (g : Group) (p : Part)

/-- No integer form has a rule of its own that holds it back. -/
theorem own_of_intRows {x : R3} {e : Instr × (Word → Word → Word)} (he : e ∈ Claims.intRows x) : own s r g .S p e.1 = .go := by
  simp only [Claims.intRows, List.mem_cons, List.not_mem_nil, or_false] at he
  rcases he with rfl | rfl | rfl | rfl | rfl | rfl | rfl | rfl | rfl | rfl | rfl | rfl | rfl | rfl | rfl | rfl | rfl | rfl | rfl | rfl | rfl
  all_goals rfl

theorem own_of_unaryRows {x : R2} {e : Instr × (Word → Word)} (he : e ∈ Claims.unaryRows x) : own s r g .S p e.1 = .go := by
  simp only [Claims.unaryRows, List.mem_cons, List.not_mem_nil, or_false] at he
  rcases he with rfl | rfl
  all_goals rfl

theorem own_of_immRows {x : RI} {e : Instr × (Word → Word)} (he : e ∈ Claims.immRows x) : own s r g .S p e.1 = .go := by
  simp only [Claims.immRows, List.mem_cons, List.not_mem_nil, or_false] at he
  rcases he with rfl | rfl | rfl | rfl | rfl | rfl | rfl | rfl
  all_goals rfl
end

end Sys2Proof.Machine

namespace Sys2Proof.Claims

open Sys2Proof.Machine

/-- Settles O2: each form runs with the value of its row, which its operands give as they stood before its issue. -/
theorem integerForms : Obligations.IntegerForms := by
  refine ⟨?_, ?_, ?_, ?_⟩
  · intro x e he s g p ⟨hh, hi⟩
    rw [exec_of_intRows he, runR3, runGroup_issues _ _ s _ g p hh hi (own_of_intRows s s.cur g p he), operand_issued, operand_issued]
  · intro x e he s g p ⟨hh, hi⟩
    rw [exec_of_unaryRows he, runR2, runGroup_issues _ _ s _ g p hh hi (own_of_unaryRows s s.cur g p he), operand_issued]
  · intro x e he s g p ⟨hh, hi⟩
    rw [exec_of_immRows he, runRI, runGroup_issues _ _ s _ g p hh hi (own_of_immRows s s.cur g p he), operand_issued]
  · intro g seq dst v
    exact ⟨rfl, rfl, _, rfl, rfl, rfl, rfl, rfl, rfl, rfl, rfl, rfl⟩

end Sys2Proof.Claims
end

section
/-!
PROOFS. Compare, select and predicate logic (04 R121 to R124): the order of binary64 codes is the order of their values, the conditions of
04 Table 4.7, and the issue of each form.
-/

namespace Sys2Proof.Machine

/-! ### The magnitudes of binary64 codes (03 Table 3.2) -/

/-- The magnitude of a binary64 code without its sign, in units of the least subnormal; infinity's code gives a magnitude past every finite
one. -/
def magnitude64 (n : Nat) : Nat := if n < 2 ^ 52 then n else (2 ^ 52 + n % 2 ^ 52) * 2 ^ (n / 2 ^ 52 - 1)

theorem magnitude64_of_subnormal {n : Nat} (h : n < 2 ^ 52) : magnitude64 n = n := if_pos h

theorem magnitude64_of_normal {n : Nat} (h : ¬ n < 2 ^ 52) : magnitude64 n = (2 ^ 52 + n % 2 ^ 52) * 2 ^ (n / 2 ^ 52 - 1) := if_neg h

/-- A greater code has a greater magnitude: the next code adds one unit of its exponent, or starts the next exponent. -/
theorem magnitude64_strictMono : StrictMono magnitude64 := by
  refine strictMono_nat_of_lt_succ fun n => ?_
  by_cases hn : n < 2 ^ 52
  · rw [magnitude64_of_subnormal hn]
    by_cases hs : n + 1 < 2 ^ 52
    · rw [magnitude64_of_subnormal hs]
      exact Nat.lt_succ_self n
    · obtain rfl : n = 2 ^ 52 - 1 := by omega
      decide
  · rw [magnitude64_of_normal hn, magnitude64_of_normal (by omega)]
    by_cases hc : (n + 1) % 2 ^ 52 = 0
    · have hexp : (n + 1) / 2 ^ 52 - 1 = (n / 2 ^ 52 - 1) + 1 := by omega
      have hman : 2 ^ 52 + n % 2 ^ 52 < (2 ^ 52 + (n + 1) % 2 ^ 52) * 2 := by omega
      rw [hexp, pow_succ' 2 (n / 2 ^ 52 - 1), ← Nat.mul_assoc]
      exact Nat.mul_lt_mul_of_pos_right hman (Nat.two_pow_pos _)
    · have hexp : (n + 1) / 2 ^ 52 = n / 2 ^ 52 := by omega
      have hman : 2 ^ 52 + n % 2 ^ 52 < 2 ^ 52 + (n + 1) % 2 ^ 52 := by omega
      rw [hexp]
      exact Nat.mul_lt_mul_of_pos_right hman (Nat.two_pow_pos _)

/-- A magnitude with the sign of its code as a signed number. -/
def signedMagnitude (k : Int) : Int := k.sign * magnitude64 k.natAbs

theorem signedMagnitude_of_nonneg {k : Int} (h : 0 ≤ k) : signedMagnitude k = magnitude64 k.natAbs := by
  obtain rfl | hpos := h.eq_or_lt
  · decide
  · rw [signedMagnitude, Int.sign_eq_one_of_pos hpos, one_mul]

theorem signedMagnitude_neg (k : Int) : signedMagnitude (-k) = -signedMagnitude k := by
  simp [signedMagnitude]

theorem signedMagnitude_strictMono : StrictMono signedMagnitude := by
  refine strictMono_of_odd_strictMonoOn_nonneg signedMagnitude_neg fun x hx y hy hxy => ?_
  rw [signedMagnitude_of_nonneg hx, signedMagnitude_of_nonneg hy, Int.ofNat_lt]
  exact magnitude64_strictMono (Int.natAbs_lt_natAbs_of_nonneg_of_lt hx hxy)

/-! ### The order of values -/

@[simp] theorem signedM_false (m : Nat) : signedM false m = m := rfl

@[simp] theorem signedM_true (m : Nat) : signedM true m = -(m : Int) := rfl

/-- The code of infinity without its sign. -/
def infCode64 : Nat := 2047 * 2 ^ 52

/-- A value in units of the least subnormal of binary64, an infinity as its code's magnitude. -/
def FVal.units : FVal → Int
  | .nan _ => 0
  | .inf s => signedM s (magnitude64 infCode64)
  | .fin s m e => signedM s m * 2 ^ (e + 1074).toNat

/-- A binary64 value that is no NaN: an infinity, or a multiple of the least subnormal below the infinities. -/
def FVal.binary64 : FVal → Prop
  | .nan _ => False
  | .inf _ => True
  | .fin _ m e => -1074 ≤ e ∧ m * 2 ^ (e + 1074).toNat < magnitude64 infCode64

/-- The exact comparison has the sign of the difference in any common unit. -/
theorem cmpDyadic_mul_pow {a b e f lo : Int} (he : lo ≤ e) (hf : lo ≤ f) :
    cmpDyadic a e b f * 2 ^ (min e f - lo).toNat = a * 2 ^ (e - lo).toNat - b * 2 ^ (f - lo).toNat := by
  have split (x : Int) (hx : min e f ≤ x) : (x - lo).toNat = (x - min e f).toNat + (min e f - lo).toNat := by omega
  rw [split e (by omega), split f (by omega), cmpDyadic, pow_add, pow_add]
  ring

theorem FVal.units_fin_lt {s : Bool} {m : Nat} {e : Int} (h : (FVal.fin s m e).binary64) :
    (FVal.fin s m e).units.natAbs < magnitude64 infCode64 := by
  have hs : (signedM s m).natAbs = m := by cases s <;> simp
  simpa [FVal.units, Int.natAbs_mul, hs, Int.natAbs_pow] using h.2

/-- The order of two values has the sign of their difference. -/
theorem FVal.sign_order {a b : FVal} (ha : a.binary64) (hb : b.binary64) : (a.order b).sign = (a.units - b.units).sign := by
  match a, b with
  | .nan _, _ => exact ha.elim
  | _, .nan _ => exact hb.elim
  | .inf s, .inf t =>
    have hinf : 0 < magnitude64 infCode64 := magnitude64_strictMono (show 0 < infCode64 by decide)
    simp only [FVal.units]
    generalize magnitude64 infCode64 = top at hinf
    cases s <;> cases t
    · simp [FVal.order]
    · exact (Int.sign_eq_one_of_pos (by rw [signedM_false, signedM_true]; omega)).symm
    · exact (Int.sign_eq_neg_one_of_neg (by rw [signedM_false, signedM_true]; omega)).symm
    · simp [FVal.order]
  | .inf s, .fin t n f =>
    have hlt := FVal.units_fin_lt hb
    simp only [FVal.units] at hlt ⊢
    generalize magnitude64 infCode64 = top at hlt
    generalize signedM t n * 2 ^ (f + 1074).toNat = u at hlt
    cases s
    · exact (Int.sign_eq_one_of_pos (by rw [signedM_false]; omega)).symm
    · exact (Int.sign_eq_neg_one_of_neg (by rw [signedM_true]; omega)).symm
  | .fin s m e, .inf t =>
    have hlt := FVal.units_fin_lt ha
    simp only [FVal.units] at hlt ⊢
    generalize magnitude64 infCode64 = top at hlt
    generalize signedM s m * 2 ^ (e + 1074).toNat = u at hlt
    cases t
    · exact (Int.sign_eq_neg_one_of_neg (by rw [signedM_false]; omega)).symm
    · exact (Int.sign_eq_one_of_pos (by rw [signedM_true]; omega)).symm
  | .fin s m e, .fin t n f =>
    have h := cmpDyadic_mul_pow (a := signedM s m) (b := signedM t n) ha.1 hb.1
    simp only [sub_neg_eq_add] at h
    simp only [FVal.order, FVal.units, ← h, Int.sign_mul]
    rw [Int.sign_eq_one_of_pos (a := 2 ^ _) (by positivity), mul_one]

/-! ### Reading a binary64 code (03 R65) -/

/-- The exponent field of a binary64 code. -/
def expField64 (w : Word) : Nat := w.toNat % 2 ^ 63 / 2 ^ 52

/-- A code but for its sign is its exponent field and its mantissa. -/
theorem mod_eq_fields (w : Word) : w.toNat % 2 ^ 63 = 2 ^ 52 * expField64 w + w.toNat % 2 ^ 52 := by
  unfold expField64
  omega

/-- A code read as an operand, by its exponent field. -/
theorem readF64_eq (w : Word) : readF 16 false w.toNat =
    if expField64 w = 2047 then
      (if w.toNat % 2 ^ 52 = 0 then .inf (2 ^ 63 ≤ w.toNat) else .nan (w.toNat % 2 ^ 52 < 2 ^ 51))
    else if expField64 w = 0 then .fin (2 ^ 63 ≤ w.toNat) (w.toNat % 2 ^ 52) (-1074)
    else .fin (2 ^ 63 ≤ w.toNat) (2 ^ 52 + w.toNat % 2 ^ 52) (expField64 w - 1075) := by
  have hneg : w.toNat % 2 ^ 64 = w.toNat := Nat.mod_eq_of_lt w.isLt
  have hex : nbits w.toNat 52 11 = expField64 w := by
    rw [nbits, Nat.shiftRight_eq_div_pow, expField64]
    omega
  have hmt : nbits w.toNat 0 52 = w.toNat % 2 ^ 52 := rfl
  unfold readF
  simp only [mantBits, expBits, bias, signBit, typeWidth, hneg, hex, hmt, Bool.false_and]
  norm_num [sub_sub]

theorem isNan_readF64 (w : Word) : (readF 16 false w.toNat).isNan = true ↔ Claims.isNaN64 w := by
  have hfields := mod_eq_fields w
  rw [readF64_eq, Claims.isNaN64]
  split
  · split <;> simp only [FVal.isNan, Bool.false_eq_true, false_iff, true_iff] <;> omega
  · split <;> simp only [FVal.isNan, Bool.false_eq_true, false_iff] <;> omega

/-- A NaN signals where its highest mantissa bit is clear. -/
theorem isSig_readF64 (w : Word) : (readF 16 false w.toNat).isSig = true ↔ Claims.isSig64 w := by
  have hfields := mod_eq_fields w
  have hbit : w.getLsbD 51 = false ↔ w.toNat % 2 ^ 52 < 2 ^ 51 := by
    rw [BitVec.getLsbD, Nat.testBit_eq_decide_div_mod_eq, decide_eq_false_iff_not]
    omega
  rw [readF64_eq, Claims.isSig64, hbit, Claims.isNaN64]
  split
  · split <;> simp only [FVal.isSig, Bool.false_eq_true, false_iff, decide_eq_true_eq] <;> omega
  · split <;> simp only [FVal.isSig, Bool.false_eq_true, false_iff] <;> omega

theorem signedM_mul (s : Bool) (m k : Nat) : signedM s m * (2 : Int) ^ k = signedM s (m * 2 ^ k) := by
  cases s <;> simp

/-- The signed magnitude of a code is its magnitude with its sign. -/
theorem signedMagnitude_order64 (w : Word) :
    signedMagnitude (Claims.order64 w) = signedM (2 ^ 63 ≤ w.toNat) (magnitude64 (w.toNat % 2 ^ 63)) := by
  have hw := w.isLt
  unfold Claims.order64
  split
  · rename_i h
    rw [signedMagnitude_of_nonneg (by omega), Nat.mod_eq_of_lt h, decide_eq_false (not_le.mpr h), Int.natAbs_natCast]
    rfl
  · rename_i h
    have hmod : w.toNat % 2 ^ 63 = ((w.toNat : Int) - 2 ^ 63).natAbs := by omega
    rw [← neg_sub, signedMagnitude_neg, signedMagnitude_of_nonneg (by omega), hmod, decide_eq_true (not_lt.mp h)]
    rfl

/-- What is no NaN is a binary64 value, in units of the least subnormal the signed magnitude of its code. -/
theorem units_readF64 {w : Word} (h : ¬ Claims.isNaN64 w) :
    (readF 16 false w.toNat).binary64 ∧ (readF 16 false w.toNat).units = signedMagnitude (Claims.order64 w) := by
  have hfields := mod_eq_fields w
  have hle : w.toNat % 2 ^ 63 ≤ infCode64 := not_lt.mp h
  have finite {m : Nat} {e : Int} (he : -1074 ≤ e) (hlt : w.toNat % 2 ^ 63 < infCode64)
      (hm : m * 2 ^ (e + 1074).toNat = magnitude64 (w.toNat % 2 ^ 63)) :
      (FVal.fin (2 ^ 63 ≤ w.toNat) m e).binary64 ∧ (FVal.fin (2 ^ 63 ≤ w.toNat) m e).units = signedMagnitude (Claims.order64 w) := by
    rw [FVal.binary64, FVal.units, signedM_mul, hm, signedMagnitude_order64]
    exact ⟨⟨he, magnitude64_strictMono hlt⟩, rfl⟩
  rw [readF64_eq]
  unfold infCode64 at hle finite
  split
  · have hinf : w.toNat % 2 ^ 63 = infCode64 := by unfold infCode64; omega
    rw [if_pos (by omega), signedMagnitude_order64, hinf]
    exact ⟨trivial, rfl⟩
  · split
    · exact finite (by decide) (by omega) (by rw [magnitude64_of_subnormal (by omega)]; exact (Nat.mul_one _).trans (by omega))
    · refine finite (by omega) (by omega) ?_
      rw [magnitude64_of_normal (by omega)]
      congr 2
      · omega
      · rw [expField64] at *
        omega

/-! ### The conditions of 04 Table 4.7 -/

/-- The order of two binary64 values is that of their codes. -/
theorem order_readF64 {a b : Word} (ha : ¬ Claims.isNaN64 a) (hb : ¬ Claims.isNaN64 b) :
    ((readF 16 false a.toNat).order (readF 16 false b.toNat)).sign =
      (signedMagnitude (Claims.order64 a) - signedMagnitude (Claims.order64 b)).sign := by
  obtain ⟨hva, hua⟩ := units_readF64 ha
  obtain ⟨hvb, hub⟩ := units_readF64 hb
  rw [FVal.sign_order hva hvb, hua, hub]

theorem order_eq_zero_iff {a b : Word} (ha : ¬ Claims.isNaN64 a) (hb : ¬ Claims.isNaN64 b) :
    (readF 16 false a.toNat).order (readF 16 false b.toNat) = 0 ↔ Claims.order64 a = Claims.order64 b := by
  rw [← Int.sign_eq_zero_iff_zero, order_readF64 ha hb, Int.sign_eq_zero_iff_zero, sub_eq_zero,
    signedMagnitude_strictMono.injective.eq_iff]

theorem order_neg_iff {a b : Word} (ha : ¬ Claims.isNaN64 a) (hb : ¬ Claims.isNaN64 b) :
    (readF 16 false a.toNat).order (readF 16 false b.toNat) < 0 ↔ Claims.order64 a < Claims.order64 b := by
  rw [← Int.sign_eq_neg_one_iff_neg, order_readF64 ha hb, Int.sign_eq_neg_one_iff_neg, sub_neg, signedMagnitude_strictMono.lt_iff_lt]

theorem order_nonpos_iff {a b : Word} (ha : ¬ Claims.isNaN64 a) (hb : ¬ Claims.isNaN64 b) :
    (readF 16 false a.toNat).order (readF 16 false b.toNat) ≤ 0 ↔ Claims.order64 a ≤ Claims.order64 b := by
  rw [le_iff_lt_or_eq, order_neg_iff ha hb, order_eq_zero_iff ha hb, ← le_iff_lt_or_eq]

/-- SEL's choice by a predicate, negated where the bit says so (04 R123). -/
theorem apply_ite_bne {α β : Type} (f : α → β) (q neg : Bool) (a b : α) :
    f (if (q != neg) = true then a else b) = if q = neg then f b else f a := by
  cases q <;> cases neg <;> rfl

/-- PLOG's place in its table (04 R124). -/
theorem tableIndex (q r : Bool) : ((if q = true then 2 else 0) + if r = true then 1 else 0) = 2 * q.toNat + r.toNat := by
  cases q <;> cases r <;> rfl

/-- An integer condition of the table holds where the model says so, and raises no flag. -/
theorem condVal_of_intConds {e : Nat × (Word → Word → Prop)} (he : e ∈ Claims.intConds) (a b : Word) :
    condVal e.1 a b = (icond e.1 a b, 0#6) ∧ (icond e.1 a b = true ↔ e.2 a b) := by
  simp only [Claims.intConds, List.mem_cons, List.not_mem_nil, or_false] at he
  rcases he with rfl | rfl | rfl | rfl | rfl | rfl | rfl | rfl
  all_goals exact ⟨rfl, by simp [icond]⟩

/-- An F-condition of the table holds where the model says so, and raises NV where the table has it. -/
theorem condVal_of_floatConds {e : Nat × (Word → Word → Prop) × (Word → Word → Prop)} (he : e ∈ Claims.floatConds) (a b : Word) :
    ((condVal e.1 a b).1 = true ↔ e.2.1 a b) ∧ ∃ nv : Bool, (condVal e.1 a b).2 = flagIf nv fNV ∧ (nv = true ↔ e.2.2 a b) := by
  have hnan : ((readF 16 false a.toNat).isNan || (readF 16 false b.toNat).isNan) = true ↔ Claims.isNaN64 a ∨ Claims.isNaN64 b := by
    rw [Bool.or_eq_true, isNan_readF64, isNan_readF64]
  have hsig : ((readF 16 false a.toNat).isSig || (readF 16 false b.toNat).isSig) = true ↔ Claims.isSig64 a ∨ Claims.isSig64 b := by
    rw [Bool.or_eq_true, isSig_readF64, isSig_readF64]
  have ordered {c : Bool} {q : Prop} (hc : ¬ Claims.isNaN64 a → ¬ Claims.isNaN64 b → (c = true ↔ q)) :
      (!((readF 16 false a.toNat).isNan || (readF 16 false b.toNat).isNan) && c) = true ↔
        ¬ Claims.isNaN64 a ∧ ¬ Claims.isNaN64 b ∧ q := by
    rw [Bool.and_eq_true, Bool.not_eq_true', ← Bool.not_eq_true, hnan, not_or, and_assoc]
    exact and_congr_right fun ha => and_congr_right fun hb => hc ha hb
  simp only [Claims.floatConds, List.mem_cons, List.not_mem_nil, or_false] at he
  rcases he with rfl | rfl | rfl | rfl
  · exact ⟨ordered fun ha hb => beq_iff_eq.trans (order_eq_zero_iff ha hb), _, rfl, hsig⟩
  · exact ⟨ordered fun ha hb => decide_eq_true_iff.trans (order_neg_iff ha hb), _, rfl, hnan⟩
  · exact ⟨ordered fun ha hb => decide_eq_true_iff.trans (order_nonpos_iff ha hb), _, rfl, hnan⟩
  · exact ⟨hnan, _, rfl, hsig⟩

end Sys2Proof.Machine

namespace Sys2Proof.Claims

open Sys2Proof.Machine

/-- Settles O3: each form issues with the model's condition, which the table's conditions decide, a binary64 comparison by the order of
codes. -/
theorem compareSelectLogic : Obligations.CompareSelectLogic := by
  refine ⟨?_, ?_, ?_, ?_, ?_, ?_⟩
  · intro x e he hc s g p ⟨hh, hi⟩
    obtain ⟨hv, hcond⟩ := condVal_of_intConds he (s.operand g x.sa) (s.operand g x.sb)
    refine ⟨_, ?_, hcond⟩
    rw [exec_cmp, execCmp, runGroup_issues _ _ s _ g p hh hi rfl, operand_issued, operand_issued, hc, hv]
  · intro x e he hc s g p ⟨hh, hi⟩
    obtain ⟨hcond, nv, hfl, hnv⟩ := condVal_of_floatConds he (s.operand g x.sa) (s.operand g x.sb)
    refine ⟨_, flagIf nv fNV, ?_, hcond, fun h => ?_, fun h => ?_⟩
    · rw [exec_cmp, execCmp, runGroup_issues _ _ s _ g p hh hi rfl, operand_issued, operand_issued, hc, ← hfl]
    · rw [hnv.mpr h]
      rfl
    · rw [Bool.eq_false_iff.mpr (mt hnv.mp h)]
      rfl
  · intro x e he hc s g p ⟨hh, hi⟩
    obtain ⟨-, hcond⟩ := condVal_of_intConds he (s.operand g x.sa) (x.imm.signExtend 64)
    refine ⟨_, ?_, hcond⟩
    rw [exec_cmpi, execCmpi, runGroup_issues _ _ s _ g p hh hi rfl, operand_issued, hc]
    rfl
  · intro x s g p ⟨hh, hi⟩
    rw [exec_sel, execSel, runGroup_issues _ _ s _ g p hh hi rfl]
    simp only [operand_issued]
    rw [apply_ite_bne (s.operand g)]
  · intro x s g p ⟨hh, hi⟩
    rw [exec_plog, execPlog, runGroup_issues _ _ s _ g p hh hi rfl]
    simp only [tableIndex]
  · intro g seq pd c fl
    exact ⟨rfl, rfl, _, rfl, rfl, rfl, rfl, rfl, rfl, rfl, rfl, rfl⟩

end Sys2Proof.Claims
end

section
/-!
PROOFS. Branches, jumps and hardware loops (04 R104, R106, R125 to R128): when each issues and when it traps, and what loop operands read.
-/

namespace Sys2Proof.Machine

/-! ### The trap of an S part's own rule -/

/-- An S part that its own rule traps takes the trap of that rule, whatever its effect would be. -/
theorem exec_traps {s : State} {g : Group} {p : Part} {i : Instr} {code info addr : Nat} (hk : slotOf i = some .S)
    (h : s.mayTrap g .S p i) (ho : own s s.cur g .S p i = .trap code info addr) (h7 : code ≠ 7) (h8 : code ≠ 8) :
    exec i s = .next (trapPart (s.noteIssue s.cur) s.cur g .S code info addr) := by
  obtain ⟨⟨hh, hi⟩, hd, hb⟩ := h
  obtain ⟨f, hf⟩ := exec_eq_runPart hk s
  rw [hf, runPart_traps _ _ s f g p code info addr hh hi ho hd hb h7 h8, Group.switchV_of_ne (by decide)]

theorem trapIf_of_true {b : Bool} (h : b = true) (code info addr : Nat) : trapIf b code info addr = .trap code info addr := if_pos h

theorem trapIf_of_false {b : Bool} (h : b = false) (code info addr : Nat) : trapIf b code info addr = .go := by
  rw [h]
  rfl

/-! ### Branches and jumps (04 R125, R126) -/

theorem brTaken_of_ge {c : Nat} (h : 4 ≤ c) (a : Word) : brTaken c a = !a.msb := by
  obtain ⟨m, rfl⟩ := Nat.exists_eq_add_of_le' h
  rfl

theorem brTaken_iff (fn : BitVec 3) (a : Word) : brTaken fn.toNat a = true ↔
    fn = 0#3 ∨ (fn = 1#3 ∧ a = 0#64) ∨ (fn = 2#3 ∧ a ≠ 0#64) ∨ (fn = 3#3 ∧ a.toInt < 0) ∨ (4#3 ≤ fn ∧ 0 ≤ a.toInt) := by
  have codes : fn.toNat = 0 ∨ fn.toNat = 1 ∨ fn.toNat = 2 ∨ fn.toNat = 3 ∨ 4 ≤ fn.toNat := by omega
  simp only [← BitVec.toNat_inj (x := fn), BitVec.le_def]
  rcases codes with h | h | h | h | h
  · simp [h, brTaken]
  · simp [h, brTaken]
  · simp [h, brTaken]
  · simp [h, brTaken, BitVec.msb_eq_toInt]
  · rw [brTaken_of_ge h]
    simp only [BitVec.msb_eq_toInt, Bool.not_eq_eq_eq_not, Bool.not_true, decide_eq_false_iff_not, not_lt, BitVec.toNat_ofNat,
      Nat.reducePow, Nat.zero_mod, Nat.one_mod, Nat.reduceMod]
    omega

/-- A jump's operand is sound where it is a multiple of 32 below 2^56. -/
theorem jumpBad_eq_false_iff (v : Word) : (bits v 0 5 != 0 || bits v 56 8 != 0) = false ↔ v.toNat % 32 = 0 ∧ v.toNat < 2 ^ 56 := by
  have hv := v.isLt
  rw [Bool.or_eq_false_iff, bne_eq_false_iff_eq, bne_eq_false_iff_eq, bits, bits, Nat.shiftRight_eq_div_pow, Nat.shiftRight_eq_div_pow]
  omega

/-! ### Opening and leaving loops (04 R104, R127, R128) -/

section
variable {g : Group} {p : Part} {n d : Nat} {off : BitVec 18}

theorem Group.openLoop_zero : g.openLoop p 0 d off = { g with pc := (bundleOff p.addr off + 32) % 2 ^ 56 } := rfl

theorem Group.openLoop_loops (hn : n ≠ 0) :
    (g.openLoop p n d off).loops = ⟨(p.addr + 32) % 2 ^ 56, bundleOff p.addr off, d, n, 0⟩ :: g.loops := by
  unfold Group.openLoop
  rw [if_neg hn]
  dsimp only
  split <;> rfl

/-- A loop without a drain leaves the predicates. -/
theorem Group.openLoop_p_of_no_drain (hn : n ≠ 0) : (g.openLoop p n 0 off).p = g.p := by
  rw [Group.openLoop, if_neg hn]
  rfl

/-- A loop with a drain seeds the stage predicates. -/
theorem Group.openLoop_p_of_drain (hn : n ≠ 0) (hd : d ≠ 0) {k : Nat} (hk : k < 16) :
    (g.openLoop p n d off).p.getD k false = if k < 8 then g.p.getD k false else decide (k = 8) := by
  simp only [Group.openLoop, hn, hd, if_false]
  simp [hk]

theorem Group.openLoop_frame (hn : n ≠ 0) : { g.openLoop p n d off with loops := g.loops, p := g.p } = g := by
  unfold Group.openLoop
  rw [if_neg hn]
  dsimp only
  split <;> rfl
end

/-- LOOP and LOOPI with the count that each reads. -/
def loopForms (x : SB) : List (Instr × (State → Group → Nat)) :=
  [(.loop x, fun s g => (s.operand g x.sa).toNat), (.loopi x, fun _ _ => x.sa.toNat)]

section
variable {x : SB} {e : Instr × (State → Group → Nat)} (he : e ∈ loopForms x)
include he

theorem slotOf_of_loopForms : slotOf e.1 = some .S := by
  simp only [loopForms, List.mem_cons, List.not_mem_nil, or_false] at he
  rcases he with rfl | rfl
  all_goals rfl

theorem own_of_loopForms (s : State) (g : Group) (p : Part) : own s s.cur g .S p e.1 = ownLoop g (e.2 s g) x.fn.toNat := by
  simp only [loopForms, List.mem_cons, List.not_mem_nil, or_false] at he
  rcases he with rfl | rfl
  all_goals rfl

/-- A loop instruction that its own rule lets go opens its loop. -/
theorem exec_of_loopForms {s : State} {g : Group} {p : Part} (h : s.ready g .S p e.1) (ho : ownLoop g (e.2 s g) x.fn.toNat = .go) :
    exec e.1 s = .next (s.issueWith ((issued g .S p e.1).openLoop p (e.2 s g) x.fn.toNat x.off)) := by
  obtain ⟨hh, hi⟩ := h
  rw [← own_of_loopForms he s g p] at ho
  simp only [loopForms, List.mem_cons, List.not_mem_nil, or_false] at he
  rcases he with rfl | rfl
  · rw [exec_loop, execLoop, runGroup_issues _ _ s _ g p hh hi ho, operand_issued]
  · rw [exec_loopi, execLoopi, runGroup_issues _ _ s _ g p hh hi ho]
end

theorem ownLoop_eq_go {g : Group} {n d : Nat} (hs : n + d ≤ 0xFFFFFFFF) (hl : n = 0 ∨ g.loops.length ≠ 6) : ownLoop g n d = .go := by
  have hroom : (n != 0 && g.loops.length == 6) = false := by
    rw [Bool.and_eq_false_imp, bne_iff_ne]
    exact fun hn => beq_false_of_ne (hl.resolve_left hn)
  rw [ownLoop, trapIf_of_false (decide_eq_false (not_lt.mpr hs)), trapIf_of_false hroom]
  rfl

theorem ownLoop_of_overflow {g : Group} {n d : Nat} (hs : 0xFFFFFFFF < n + d) : ownLoop g n d = .trap 2 0 0 := by
  rw [ownLoop, trapIf_of_true (decide_eq_true hs)]
  rfl

theorem ownLoop_of_full {g : Group} {n d : Nat} (hs : n + d ≤ 0xFFFFFFFF) (hn : n ≠ 0) (hl : g.loops.length = 6) :
    ownLoop g n d = .trap 4 0 0 := by
  rw [ownLoop, trapIf_of_false (decide_eq_false (not_lt.mpr hs)), trapIf_of_true (by simp [hn, hl])]
  rfl

/-! ### Loop operands (04 R106) -/

theorem Group.loopAt_eq (g : Group) (k : Nat) :
    g.loopAt k = if h : k < g.loops.length then some g.loops[g.loops.length - 1 - k] else none := by
  unfold Group.loopAt
  split
  · rename_i h
    rw [List.getElem?_reverse h, List.getElem?_eq_getElem]
  · rename_i h
    exact List.getElem?_eq_none (by simpa using h)

theorem scalarSrc_li (r : GRef) (g : Group) {k : Nat} (hk : k < 6) :
    scalarSrc r g (32 + k) = (match g.loopAt k with
      | some e => word e.index
      | none => 0#64) := by
  interval_cases k
  all_goals rfl

end Sys2Proof.Machine

namespace Sys2Proof.Claims

open Sys2Proof.Machine

/-- Settles O4: BR's function code decides the next bundle, and JMP's own rule reads the bits that make its operand a bundle's address. -/
theorem branchesAndJumps : Obligations.BranchesAndJumps := by
  refine ⟨?_, ?_, ?_⟩
  · intro x s g p ⟨hh, hi⟩
    rw [exec_br, execBr, runGroup_issues _ _ s _ g p hh hi rfl, operand_issued]
    simp only [brTaken_iff]
  · intro x s g p ⟨hh, hi⟩ ha hlt
    have hgo : own s s.cur g .S p (.jmp x) = .go := trapIf_of_false ((jumpBad_eq_false_iff _).mpr ⟨ha, hlt⟩) ..
    rw [exec_jmp, execJmp, runGroup_issues _ _ s _ g p hh hi hgo, operand_issued]
  · intro x s g p h hbad
    refine exec_traps rfl h (trapIf_of_true ?_ ..) (by decide) (by decide)
    rw [← Bool.not_eq_false, jumpBad_eq_false_iff, not_and_or, not_lt]
    exact hbad

/-- Settles O7: LOOP and LOOPI open one loop of the count they read, or trap by the sum or the depth that their own rule tests. -/
theorem hardwareLoops : Obligations.HardwareLoops := by
  refine ⟨fun x e he s g p => ⟨?_, ?_, ?_, ?_⟩, ?_, ?_⟩
  · intro h hn
    have hfn := x.fn.isLt
    rw [exec_of_loopForms he h (ownLoop_eq_go (by omega) (.inl hn)), hn, Group.openLoop_zero]
  · intro h hn hs hl
    have hne : e.2 s g ≠ 0 := hn.ne'
    refine ⟨_, exec_of_loopForms he h (ownLoop_eq_go hs (.inr hl.ne)), ?_, ?_, ?_, ?_⟩
    · rw [Group.openLoop_loops hne, issued_loops]
    · intro hd
      rw [hd]
      exact (Group.openLoop_p_of_no_drain hne).trans (issued_p ..)
    · intro hd k hk
      have hd' : x.fn.toNat ≠ 0 := fun h0 => hd (BitVec.eq_of_toNat_eq h0)
      rw [Group.openLoop_p_of_drain hne hd' hk, issued_p]
    · rw [← issued_loops g .S p e.1, ← issued_p g .S p e.1]
      exact Group.openLoop_frame hne
  · intro h hs
    exact exec_traps (slotOf_of_loopForms he) h ((own_of_loopForms he s g p).trans (ownLoop_of_overflow hs)) (by decide) (by decide)
  · intro h hn hs hl
    exact exec_traps (slotOf_of_loopForms he) h ((own_of_loopForms he s g p).trans (ownLoop_of_full hs hn.ne' hl)) (by decide) (by decide)
  · intro x s g p ⟨hh, hi⟩ hl
    have hgo : own s s.cur g .S p (.lbrk x) = .go := trapIf_of_false (decide_eq_false (not_lt.mpr hl)) ..
    rw [exec_lbrk, execLbrk, runGroup_issues _ _ s _ g p hh hi hgo, issued_loops]
  · intro x s g p h hl
    exact exec_traps rfl h (trapIf_of_true (decide_eq_true hl) ..) (by decide) (by decide)

/-- Settles O8: the entry at depth k stands k places from the end of the stack, and %lcount reads its first. -/
theorem loopIndexOperands : Obligations.LoopIndexOperands := by
  refine ⟨?_, ?_⟩
  · intro r g k hk
    rw [scalarSrc_li r g hk, Group.loopAt_eq]
    by_cases h : k < g.loops.length
    · rw [dif_pos h, dif_pos h]
    · rw [dif_neg h, dif_neg h]
  · intro r g
    have hcode : scalarSrc r g 59 = word g.lcount := rfl
    rw [hcode, Group.lcount]
    cases g.loops <;> rfl

end Sys2Proof.Claims
end

section
/-!
PROOFS. Calls and returns (04 R114 to R117): the layout of a frame, the granules that its burst replaces, and when CALL and RET issue and trap.
-/

namespace Sys2Proof.Machine

/-! ### Little-endian words (00 R2) -/

theorem length_natLE (n v : Nat) : (natLE n v).length = n := by
  induction n generalizing v with
  | zero => rfl
  | succ n ih => rw [natLE, List.length_cons, ih]

theorem leNat_natLE (n v : Nat) : leNat (natLE n v) = v % 256 ^ n := by
  induction n generalizing v with
  | zero => simp [natLE, leNat, Nat.mod_one]
  | succ n ih => rw [natLE, leNat, ih, pow_succ', Nat.mod_mul, BitVec.toNat_ofNat]

theorem length_flatMap_natLE (l : List Nat) : (l.flatMap (natLE 8)).length = 8 * l.length := by
  induction l with
  | nil => rfl
  | cons v l ih => rw [List.flatMap_cons, List.length_append, length_natLE, ih, List.length_cons, Nat.mul_succ, Nat.add_comm]

/-- Of words laid out one after another, each is read back at its place. -/
theorem frameWord_flatMap (l : List Nat) (rest : List Byte) {j : Nat} (hj : j < l.length) :
    frameWord (l.flatMap (natLE 8) ++ rest) (8 * j) = word l[j] := by
  induction l generalizing j with
  | nil => simp at hj
  | cons v l ih =>
    have hv : (natLE 8 v).length = 8 := length_natLE 8 v
    cases j with
    | zero =>
      have htake : (natLE 8 v ++ (l.flatMap (natLE 8) ++ rest)).take 8 = natLE 8 v := List.take_left' hv
      rw [frameWord, List.flatMap_cons, List.append_assoc, Nat.mul_zero, List.drop_zero, htake, leNat_natLE]
      exact BitVec.eq_of_toNat_eq (by simp)
    | succ j =>
      have hdrop : (natLE 8 v ++ (l.flatMap (natLE 8) ++ rest)).drop (8 * (j + 1)) = (l.flatMap (natLE 8) ++ rest).drop (8 * j) := by
        rw [Nat.mul_succ, Nat.add_comm, ← List.drop_drop, List.drop_left' hv]
      rw [frameWord, List.flatMap_cons, List.append_assoc, hdrop]
      exact ih (by simpa using hj)

/-! ### Frames (04 Table 4.5) -/

/-- The words of a frame in the order of 04 Table 4.5: the link, the loop depth, n8 to n15, the embers. -/
def Group.frameNats (g : Group) (ret : Nat) : List Nat :=
  ret :: g.loops.length :: ((List.range 8).map (fun i => (g.nreg (8 + i)).toNat) ++
    (List.range 16).map (fun i => ((g.e.getD i (.filled 0#64)).val).toNat))

section
variable (g : Group) (ret : Nat)

theorem Group.frame_eq : g.frame ret = (g.frameNats ret).flatMap (natLE 8) ++ List.replicate 48 0#8 := by
  simp only [Group.frame, Group.frameNats, List.flatMap_cons, List.flatMap_append, List.flatMap_map, List.append_assoc]

theorem Group.length_frameNats : (g.frameNats ret).length = 26 := by simp [Group.frameNats]

theorem Group.length_frame : (g.frame ret).length = 256 := by
  rw [Group.frame_eq, List.length_append, length_flatMap_natLE, Group.length_frameNats, List.length_replicate]

theorem Group.frameWord_frame {j : Nat} (hj : j < 26) : frameWord (g.frame ret) (8 * j) = word ((g.frameNats ret).getD j 0) := by
  have hlen : j < (g.frameNats ret).length := by rw [Group.length_frameNats]; exact hj
  rw [Group.frame_eq, frameWord_flatMap _ _ hlen, List.getD_eq_getElem _ _ hlen]

theorem Group.frameWord_link : frameWord (g.frame ret) 0 = word ret := g.frameWord_frame ret (j := 0) (by decide)

theorem Group.frameWord_depth : frameWord (g.frame ret) 8 = word g.loops.length := g.frameWord_frame ret (j := 1) (by decide)

theorem Group.frameWord_nreg {k : Nat} (hk : k < 8) : frameWord (g.frame ret) (16 + 8 * k) = g.nreg (8 + k) := by
  have hplace : 16 + 8 * k = 8 * (k + 2) := by omega
  have hnat : (g.frameNats ret).getD (k + 2) 0 = (g.nreg (8 + k)).toNat := by
    rw [Group.frameNats, List.getD_cons_succ, List.getD_cons_succ, List.getD_append _ _ _ _ (by simpa using hk)]
    simp [hk]
  rw [hplace, Group.frameWord_frame _ _ (by omega), hnat, word_toNat]

theorem Group.frameWord_ember {k : Nat} {w : Word} (hk : k < 16) (hw : g.e[k]? = some (.filled w)) :
    frameWord (g.frame ret) (80 + 8 * k) = w := by
  have hplace : 80 + 8 * k = 8 * (k + 8 + 2) := by omega
  have hnat : (g.frameNats ret).getD (k + 8 + 2) 0 = w.toNat := by
    rw [Group.frameNats, List.getD_cons_succ, List.getD_cons_succ, List.getD_append_right _ _ _ _ (by simp)]
    simp [hk, hw, Ember.val]
  rw [hplace, Group.frameWord_frame _ _ (by omega), hnat, word_toNat]

theorem Group.frame_padding {i : Nat} (hlo : 208 ≤ i) (hhi : i < 256) : (g.frame ret)[i]? = some 0#8 := by
  have hlen : ((g.frameNats ret).flatMap (natLE 8)).length = 208 := by rw [length_flatMap_natLE, Group.length_frameNats]
  rw [Group.frame_eq, List.getElem?_append_right (by omega), List.getElem?_replicate_of_lt (by omega)]

/-- A part's issue changes nothing that a frame holds. -/
theorem Group.frame_issued (k : Slot) (p : Part) (i : Instr) : (issued g k p i).frame ret = g.frame ret := by
  simp [Group.frame, Group.nreg]
end

/-! ### The burst (04 R116; log 89) -/

theorem granules_aligned {a : Nat} (ha : a % 16 = 0) :
    (granules a 256).map (fun x => x.1 / 16) = (List.range 16).map (fun i => a / 16 + i) := by
  have hcount : (a + 256 - 1) / 16 - a / 16 + 1 = 16 := by omega
  rw [granules, if_neg (by decide), hcount, List.map_map]
  refine List.map_congr_left fun i _ => ?_
  have hlo : Nat.max a ((a / 16 + i) * 16) = (a / 16 + i) * 16 := Nat.max_eq_right (by omega)
  simp only [Function.comp, hlo]
  omega

/-- The granules of a frame are sixteen, one after another. -/
theorem mem_granules_aligned {a k : Nat} (ha : a % 16 = 0) :
    k ∈ (granules a 256).map (fun x => x.1 / 16) ↔ a / 16 ≤ k ∧ k < a / 16 + 16 := by
  rw [granules_aligned ha, List.mem_map]
  constructor
  · rintro ⟨i, hi, rfl⟩
    rw [List.mem_range] at hi
    omega
  · rintro ⟨hlo, hhi⟩
    exact ⟨k - a / 16, by rw [List.mem_range]; omega, by omega⟩

theorem spillBase_mod (c : Core) (slot : Nat) : spillBase c slot % 16 = 0 := by
  unfold spillBase
  omega

/-! ### The rules of CALL and RET (04 R116, R117) -/

theorem ownRet_of_empty {s : State} {r : GRef} {g : Group} (h : g.spill = []) : ownRet s r g = .trap 6 0 0 := by
  simp [ownRet, h]

/-- A sound frame lets RET go where its loop depth is the group's. -/
theorem ownRet_of_sound {s : State} {r : GRef} {g : Group} (h : g.spill ≠ [])
    (he : (s.core r.core).padErr (spillBase (s.core r.core) r.slot + g.spill.length - 256) 256 = none) :
    ownRet s r g = trapIf ((frameWord g.topFrame 8).toNat != g.loops.length) 4 0 0 := by
  simp [ownRet, h, he]

/-! ### What a return restores (04 R117) -/

/-- The newest frame of a spill area that ends in a frame is that frame. -/
theorem Group.topFrame_of_spill {c g : Group} {l : List Byte} {ret : Nat} (h : c.spill = l ++ g.frame ret) : c.topFrame = g.frame ret := by
  have hlen : c.spill.length - 256 = l.length := by simp [h, Group.length_frame]
  rw [Group.topFrame, hlen, h, List.drop_left]

theorem Group.spill_unframe {c g : Group} {l : List Byte} {ret : Nat} (h : c.spill = l ++ g.frame ret) : c.unframe.spill = l := by
  have hlen : c.spill.length - 256 = l.length := by simp [h, Group.length_frame]
  rw [Group.unframe]
  dsimp only
  rw [hlen, h, List.take_left]

section
variable {c : Group} (hn : c.n.length = 16)
include hn

theorem Group.nreg_unframe_low {k : Nat} (hk : k < 8) : c.unframe.nreg k = c.nreg k := by
  simp [Group.unframe, Group.nreg, List.getD_eq_getElem?_getD, hn, hk, lt_trans hk]

theorem Group.nreg_unframe_high {k : Nat} (hk : k < 8) : c.unframe.nreg (8 + k) = frameWord c.topFrame (16 + 8 * k) := by
  simp [Group.unframe, Group.nreg, List.getD_eq_getElem?_getD, List.getElem?_append, hn, hk]
end

/-- The embers of a frame of filled places are the caller's. -/
theorem Group.e_unframe {c g : Group} {ret : Nat} (ht : c.topFrame = g.frame ret) (hlen : g.e.length = 16)
    (he : ∀ k, k < 16 → ∃ w, g.e[k]? = some (.filled w)) : c.unframe.e = g.e := by
  refine List.ext_getElem? fun k => ?_
  by_cases hk : k < 16
  · obtain ⟨w, hw⟩ := he k hk
    simp [Group.unframe, ht, hk, hw, g.frameWord_ember ret hk hw]
  · have hout : c.unframe.e.length ≤ k := by simpa [Group.unframe] using hk
    rw [List.getElem?_eq_none hout, List.getElem?_eq_none (by omega)]

end Sys2Proof.Machine

namespace Sys2Proof.Claims

open Sys2Proof.Machine

/-- Settles O5: a frame's words lie at their places, the burst replaces the frame's sixteen granules, and the own rules of CALL and RET
decide between issue and trap. -/
theorem callsAndReturns : Obligations.CallsAndReturns := by
  refine ⟨?_, ?_, ?_, ?_, ?_, ?_, ?_⟩
  · intro x s g p ⟨hh, hi⟩ hroom
    have hgo : own s s.cur g .S p (.call x) = .go := trapIf_of_false (decide_eq_false (not_lt.mpr hroom)) ..
    rw [exec_call, execCall, runPart_issues _ _ s _ g p hh hi hgo, issued_spill, Group.frame_issued]
  · intro g link hl hd
    refine ⟨g.length_frame link, ?_, ?_, fun k => g.frameWord_nreg link, fun k w => g.frameWord_ember link, fun i => g.frame_padding link⟩
    · rw [g.frameWord_link link, BitVec.toNat_ofNat, Nat.mod_eq_of_lt hl]
    · rw [g.frameWord_depth link, BitVec.toNat_ofNat, Nat.mod_eq_of_lt hd]
  · intro s r g _ hs
    have ha : (spillBase (s.core r.core) r.slot + g.spill.length) % 16 = 0 := by
      rw [Nat.add_mod, spillBase_mod, hs]
    refine ⟨_, rfl, fun k => ?_⟩
    rw [List.mem_filter, Bool.not_eq_true', ← Bool.not_eq_true, List.contains_iff_mem, mem_granules_aligned ha, not_and_or, not_le,
      not_lt]
  · intro x s g p h hfull
    exact exec_traps rfl h (trapIf_of_true (decide_eq_true hfull) ..) (by decide) (by decide)
  · intro x s g p ⟨hh, hi⟩ hs he hd
    have hgo : own s s.cur g .S p (.ret x) = .go := (ownRet_of_sound hs he).trans (trapIf_of_false (by simp [hd]) ..)
    rw [exec_ret, execRet, runGroup_issues _ _ s _ g p hh hi hgo]
  · intro x s g p h hs
    exact exec_traps rfl h (ownRet_of_empty hs) (by decide) (by decide)
  · intro x s g p h hs he hd
    exact exec_traps rfl h ((ownRet_of_sound hs he).trans (trapIf_of_true (by simp [hd]) ..)) (by decide) (by decide)

/-- Settles O6: the top frame of the callee's spill area is the one that the call wrote, and a return reads it. -/
theorem returnUndoesCall : Obligations.ReturnUndoesCall := by
  intro g c link _ he hn _ hl hf hs
  have htop := Group.topFrame_of_spill hs
  refine ⟨_, rfl, fun k => Group.nreg_unframe_low hn, fun k hlo hhi => ?_, Group.e_unframe htop he hf, Group.spill_unframe hs, ?_, rfl⟩
  · obtain ⟨j, rfl⟩ := Nat.exists_eq_add_of_le hlo
    rw [Group.nreg_unframe_high hn (by omega), htop, g.frameWord_nreg link (by omega)]
  · rw [Group.unframe]
    dsimp only
    rw [htop, g.frameWord_link link, BitVec.toNat_ofNat]
    omega

end Sys2Proof.Claims
end

section
/-!
PROOFS. Header actions (04 R105, R107) and the completion of parts (02 R34, R40, 03 R73, 04 R100, 05 R138): loop ends, the trap of an end
bundle, rotations, and what a result in flight writes.
-/

namespace Sys2Proof.Machine

/-! ### Loop ends (04 R105) -/

theorem Group.loopedEnd_cons {g : Group} {e : LoopEntry} {rest : List LoopEntry} (h : g.loops = e :: rest) :
    g.loopedEnd = if e.index + 1 < e.count + e.drain then { g with loops := { e with index := e.index + 1 } :: rest, pc := e.start }
      else { g with loops := rest, pc := (e.stop + 32) % 2 ^ 56 } := by
  simp only [Group.loopedEnd, h]

theorem exec_loopEnd_due {s : State} {r : GRef} {g : Group} {h : HdrEntry} (hg : s.group r = some g)
    (hf : g.qh.find? g.loopEndDue = some h) :
    exec (.loopEnd r) s = .next (s.setGroup r { g.loopedEnd with qh := g.qh.filter (fun x => decide (x.seq ≠ h.seq)) }) := by
  simp only [exec_loopEnd, execLoopEnd, hg, hf]

theorem leBad_of_loops {g : Group} {p : Part} (hle : hdrLE p.hdr = true)
    (hl : g.loops = [] ∨ ∃ e rest, g.loops = e :: rest ∧ e.stop ≠ p.addr) : leBad g p = true := by
  rcases hl with hl | ⟨e, rest, hl, hstop⟩
  · simp [leBad, hle, hl]
  · simp [leBad, hle, hl, hstop]

/-- No part of a bundle comes before its S part, so a wrong end bundle traps at the S part once no part of its sync waits (04 R105, R108). -/
theorem verdict_of_leBad {s : State} {r : GRef} {g : Group} {p : Part} {i : Instr} (hz : hazard g .S p i true = false)
    (hl : leBad g p = true) (hm : ∀ x ∈ syncMates g .S p, verdictAlone s r g x.1 x.2 x.2.instr true ≠ .wait) :
    verdict s r g .S p i = .atBundle 4 0 := by
  have mine : verdictAlone s r g .S p i true = .atBundle 4 0 := by simp [verdictAlone, hz, hl]
  have noneWaits : ((syncMates g .S p).map (fun x => (x.1.num, verdictAlone s r g x.1 x.2 x.2.instr true))).any
      (fun x => x.2 == .wait) = false := by
    rw [List.any_map, List.any_eq_false]
    intro x hx
    simpa using hm x hx
  have noneBefore : ((syncMates g .S p).map (fun x => (x.1.num, verdictAlone s r g x.1 x.2 x.2.instr true))).any
      (fun x => x.2.traps && decide (x.1 < Slot.S.num)) = false := by
    rw [List.any_eq_false]
    intro x _
    simp [Slot.num]
  simp only [verdict, mine, noneWaits, noneBefore]
  simp [Verdict.traps]

/-- A verdict of a trap at the bundle is taken at the bundle, by the group whose turn it is. -/
theorem runPart_traps_at_bundle {s : State} {g : Group} {k : Slot} {p : Part} {i : Instr} {code info : Nat}
    (hh : s.headOf k = some (g, p)) (hj : s.joint = none) (hs : s.serving = true) (hb : heldBack s s.cur g = false)
    (ht : s.hasTurn s.cur = true) (hv : verdict s s.cur g k p i = .atBundle code info) (f : State → GRef → Group → Part → State) :
    runPart k i s f = .next (trapBundle (s.noteIssue s.cur) s.cur g code info 0 p.addr) := by
  simp [runPart, hh, judged_none s k p (by simp [hj]), hs, hb, hv, ht]

/-! ### Rotations (04 R107) -/

theorem rotatePreds_getD (p8 : Bool) (l : List Bool) {k : Nat} (hk : k < 16) :
    (rotatePreds p8 l).getD k false = if k < 8 then l.getD k false else if k = 8 then p8 else l.getD (k - 1) false := by
  simp [rotatePreds, hk]

theorem exec_rotate_due {s : State} {r : GRef} {g : Group} {h : HdrEntry} (hg : s.group r = some g)
    (hf : g.qh.find? g.rotateDue = some h) :
    exec (.rotate r) s = .next (s.setGroup r { g.rotated h with
      qh := g.qh.map (fun x => if x.seq = h.seq then { x with rotated := true } else x) }) := by
  simp only [exec_rotate, execRotate, hg, hf]

/-- The header of a bundle that has rotated says so. -/
theorem find?_rotated {l : List HdrEntry} {h : HdrEntry} (hm : h ∈ l) :
    ((l.map (fun x => if x.seq = h.seq then { x with rotated := true } else x)).find? (fun x => x.seq == h.seq)).map (·.rotated) =
      some true := by
  have hkeeps : (fun x : HdrEntry => x.seq == h.seq) ∘ (fun x => if x.seq = h.seq then { x with rotated := true } else x) =
      fun x => x.seq == h.seq := by
    funext x
    simp only [Function.comp]
    split <;> rfl
  obtain ⟨y, hy⟩ := Option.isSome_iff_exists.mp
    (List.find?_isSome.mpr ⟨h, hm, beq_self_eq_true h.seq⟩ : (l.find? (fun x => x.seq == h.seq)).isSome = true)
  have hseq : y.seq = h.seq := by simpa using List.find?_some hy
  rw [List.find?_map, hkeeps, hy, Option.map_some, Option.map_some, if_pos hseq]

/-! ### The headers of dispatched bundles (log 22) -/

/-- The header that a bundle with an action of its own leaves at its dispatch: its rotation gives p8 by the loop stack as it stood. -/
def Group.dispatchedHeader (g : Group) (b : Bundle) : HdrEntry where
  addr := g.pc
  seq := g.seq
  rs := hdrRS b.hdr
  rotated := hdrRS b.hdr && g.hskip != 0
  le := hdrLE b.hdr
  p8 := match g.loops with
    | e :: _ => decide (e.index + 1 < e.count)
    | [] => false

theorem Group.dispatch_qh (g : Group) (w : BitVec 256) (b : Bundle) : (g.dispatch w b).qh =
    if (hdrRS b.hdr || hdrLE b.hdr) = true then g.qh ++ [g.dispatchedHeader b] else g.qh := rfl

/-! ### What a completing part writes (04 R100, 02 R40, R34) -/

/-- Vector registers written one after another (02 R39). -/
def writeVecs (m : SMap VReg) (l : List (Nat × Row)) : SMap VReg := l.foldl (fun m x => SMap.set VReg.zero m x.1 ⟨x.2, none⟩) m

theorem writeVecs_append (m : SMap VReg) (l : List (Nat × Row)) (x : Nat × Row) :
    writeVecs m (l ++ [x]) = SMap.set VReg.zero (writeVecs m l) x.1 ⟨x.2, none⟩ := by
  simp [writeVecs]

section
variable {m : SMap VReg} (hm : SMap.wfFrom VReg.zero none m = true)
include hm

theorem writeVecs_wf (l : List (Nat × Row)) : SMap.wfFrom VReg.zero none (writeVecs m l) = true := by
  induction l using List.reverseRecOn with
  | nil => exact hm
  | append_singleton l x ih =>
    rw [writeVecs_append]
    exact SMap.set_wf _ _ _ _ ih

/-- Of several writes to one register the last stands. -/
theorem get_writeVecs (l : List (Nat × Row)) (c : Nat) : SMap.get VReg.zero (writeVecs m l) c =
    (((l.filter (fun x => decide (x.1 = c))).getLast?).map (fun x => (⟨x.2, none⟩ : VReg))).getD (SMap.get VReg.zero m c) := by
  induction l using List.reverseRecOn with
  | nil => rfl
  | append_singleton l x ih =>
    rw [writeVecs_append, List.filter_append]
    by_cases hx : x.1 = c
    · subst hx
      rw [SMap.get_set_same _ _ _ _ _ (writeVecs_wf hm l)]
      simp
    · rw [SMap.get_set_other _ _ _ _ (Ne.symm hx) _ _ (writeVecs_wf hm l), ih]
      simp [hx]
end

/-- The n registers with a result. -/
def putN : Option (Nat × Word) → List Word → List Word
  | some (k, v), l => l.set k v
  | none, l => l

/-- The predicates kept from before a bundle with an earlier part's result (02 R34). -/
def keepP : Option (Nat × Bool) → List Bool → List Bool
  | some (k, b), l => l.set k b
  | none, l => l

/-- The predicates with a result; p0 is not written (04 R122). -/
def putP : Option (Nat × Bool) → List Bool → List Bool
  | some (k, b), l => if k = 0 then l else l.set k b
  | none, l => l

/-- The embers with the place of a part filled (04 R100). -/
def putEmber (id : Nat) : Option Word → List Ember → List Ember
  | some w, l => l.map (fillEmber id w)
  | none, l => l

/-- A latch set with the place of a part filled (02 R40). -/
def putLatch (id : Nat) : Option Row → List Latch → List Latch
  | some r, l => l.map (fillLatch id r)
  | none, l => l

/-- The store-data queues with a row at the end of its stream's (05 R138). -/
def putRow : Option (Nat × Row) → List (List Row) → List (List Row)
  | some (k, r), l => l.set k (l.getD k [] ++ [r])
  | none, l => l

section
variable (g : Group)

/-- The group with a completing part's n register. -/
def Group.takeN : Option (Nat × Word) → Group
  | some (k, v) => g.setN k v
  | none => g

/-- The group with a completing part's predicate, also where predicates are kept for a later bundle. -/
def Group.takeP (seq : Nat) : Option (Nat × Bool) → Group
  | some (k, b) => { g.setP k b with pOld := g.pOld.map (fun (x : Before) => if seq < x.seq then { x with p := x.p.set k b } else x) }
  | none => g

/-- The group with a completing part's ember place filled. -/
def Group.takeEmber (id : Nat) : Option Word → Group
  | some w => { g with e := g.e.map (fillEmber id w) }
  | none => g

/-- The group with a completing part's latch place filled. -/
def Group.takeLatch (id : Nat) : Option Row → Group
  | some r => { g with lat := g.lat.map (fillLatch id r), held := g.held.map (fillLatch id r) }
  | none => g

/-- The group with a completing part's vector registers. -/
def Group.takeVecs (l : List (Nat × Row)) : Group := l.foldl (fun g (c, r) => g.setV c r none) g

/-- The group with a completing part's row in its stream's store-data queue. -/
def Group.takeRow : Option (Nat × Row) → Group
  | some (k, r) => { g with sdata := g.sdata.set k (g.sdata.getD k [] ++ [r]) }
  | none => g

/-- The group with a completing part's flags, and without its record. -/
def Group.takeFlags (f : InFlight) : Group :=
  { g with
    fpflags := g.fpflags ||| f.flags
    pOld := g.pOld.map (fun (x : Before) => if f.seq < x.seq then { x with flags := x.flags ||| f.flags } else x)
    fly := g.fly.filter (fun x => x.id ≠ f.id) }

/-- A completion takes the results of its part one after another. -/
theorem Group.complete_eq_takes (f : InFlight) : g.complete f =
    ((((((g.takeN f.n).takeP f.seq f.p).takeEmber f.id f.ember).takeLatch f.id f.latch).takeVecs f.vecs).takeRow f.push).takeFlags f :=
  rfl

theorem Group.takeN_eq (o : Option (Nat × Word)) : g.takeN o = { g with n := putN o g.n } := by
  cases o <;> rfl

theorem Group.takeP_eq (seq : Nat) (o : Option (Nat × Bool)) : g.takeP seq o = { g with
    p := putP o g.p
    pOld := g.pOld.map (fun (x : Before) => if seq < x.seq then { x with p := keepP o x.p } else x) } := by
  cases o with
  | none => simp [Group.takeP, putP, keepP]
  | some x =>
    simp only [Group.takeP, Group.setP, putP, keepP]
    split <;> rfl

theorem Group.takeEmber_eq (id : Nat) (o : Option Word) : g.takeEmber id o = { g with e := putEmber id o g.e } := by
  cases o <;> rfl

theorem Group.takeLatch_eq (id : Nat) (o : Option Row) :
    g.takeLatch id o = { g with lat := putLatch id o g.lat, held := putLatch id o g.held } := by
  cases o <;> rfl

theorem Group.takeVecs_eq (l : List (Nat × Row)) : g.takeVecs l = { g with vregs := writeVecs g.vregs l } := by
  induction l generalizing g with
  | nil => rfl
  | cons x l ih => exact ih _

theorem Group.takeRow_eq (o : Option (Nat × Row)) : g.takeRow o = { g with sdata := putRow o g.sdata } := by
  cases o <;> rfl

/-- What is kept from before a bundle, with the result of an earlier part (02 R34). -/
def InFlight.keep (f : InFlight) (x : Before) : Before :=
  if f.seq < x.seq then { x with flags := x.flags ||| f.flags, p := keepP f.p x.p } else x

/-- EVERYTHING A COMPLETION WRITES: one update of the group's record. -/
theorem Group.complete_eq (f : InFlight) : g.complete f = { g with
    n := putN f.n g.n
    p := putP f.p g.p
    e := putEmber f.id f.ember g.e
    lat := putLatch f.id f.latch g.lat
    held := putLatch f.id f.latch g.held
    vregs := writeVecs g.vregs f.vecs
    sdata := putRow f.push g.sdata
    fpflags := g.fpflags ||| f.flags
    pOld := g.pOld.map f.keep
    fly := g.fly.filter (fun x => x.id ≠ f.id) } := by
  have kept : (fun (x : Before) => if f.seq < x.seq then { x with flags := x.flags ||| f.flags } else x) ∘
      (fun (x : Before) => if f.seq < x.seq then { x with p := keepP f.p x.p } else x) = f.keep := by
    funext x
    by_cases h : f.seq < x.seq <;> simp [InFlight.keep, h]
  simp only [Group.complete_eq_takes, Group.takeN_eq, Group.takeP_eq, Group.takeEmber_eq, Group.takeLatch_eq, Group.takeVecs_eq,
    Group.takeRow_eq, Group.takeFlags, Option.map_map, kept]
end

/-- A part whose row comes first of its stream's completes. -/
theorem exec_partCompletion_writes {s : State} {r : GRef} {g : Group} {idx : Nat} {f : InFlight} (hg : s.group r = some g)
    (hf : g.fly[idx]? = some f) (he : earlierPush g idx f = false) : exec (.partCompletion r idx) s =
      .next (s.setGroup r (f.push.elim (g.complete f) (fun x => (g.complete f).matchStore x.1))) := by
  simp only [exec_partCompletion, execPartCompletion, hg, hf, he]
  cases f.push <;> rfl

end Sys2Proof.Machine

namespace Sys2Proof.Claims

open Sys2Proof.Machine

/-- Settles O30: each header action that is due does its own, and a wrong end bundle traps before any rule of its S part is asked. -/
theorem loopEndsAndRotations : Obligations.LoopEndsAndRotations := by
  refine ⟨?_, ?_, ?_, ?_, ?_⟩
  · intro s r g h e rest hg hf hl
    rw [exec_loopEnd_due hg hf, Group.loopedEnd_cons hl]
    split <;> rfl
  · intro i s g p hk hh hj hs hb ht hz hm hle hl
    obtain ⟨f, hf⟩ := exec_eq_runPart hk s
    rw [hf]
    exact runPart_traps_at_bundle hh hj hs hb ht (verdict_of_leBad hz (leBad_of_loops hle hl) hm) f
  · intro s r g h hg hf
    refine ⟨_, exec_rotate_due hg hf, ?_, ?_, ?_, rfl, find?_rotated (List.mem_of_find?_eq_some hf)⟩
    · intro k hk
      exact (rotatePreds_getD _ _ (by omega)).trans (if_pos hk)
    · intro k hlo hhi
      exact ((rotatePreds_getD _ _ hhi).trans (if_neg (by omega))).trans (if_neg (by omega))
    · exact rotatePreds_getD h.p8 g.p (k := 8) (by decide)
  · intro g w b
    rw [Group.dispatch_qh]
    split
    · exact .inr ⟨_, rfl, rfl, rfl, rfl, rfl, rfl⟩
    · exact .inl rfl
  · intro g w b hd
    rw [Group.dispatch_qh, if_pos (Bool.or_eq_true_iff.mpr hd), List.find?_isSome]
    exact ⟨g.dispatchedHeader b, by simp, beq_self_eq_true g.seq⟩

/-- Settles O31: a completion is one update of its group's record, of which each clause reads a field. -/
theorem partCompletionWrites : Obligations.PartCompletionWrites := by
  refine ⟨?_, ?_, ?_⟩
  · intro s r g idx f hg hf hp
    rw [exec_partCompletion_writes hg hf (by simp [earlierPush, hp]), hp]
    rfl
  · intro s r g idx f k row hg hf hp he
    rw [exec_partCompletion_writes hg hf he, hp]
    rfl
  · intro g f
    rw [Group.complete_eq]
    refine ⟨?_, ?_, ?_, ?_, ?_, fun hm c => (get_writeVecs hm f.vecs c).trans ?_, ?_, rfl, ?_, rfl, rfl⟩
    · cases f.n <;> rfl
    · cases f.p <;> rfl
    · cases f.ember <;> rfl
    · cases f.latch <;> rfl
    · cases f.latch <;> rfl
    · cases (f.vecs.filter (fun x => decide (x.1 = c))).getLast? <;> rfl
    · cases f.push <;> rfl
    · refine congrArg (Option.map · g.pOld) (funext fun x => ?_)
      unfold InFlight.keep
      cases f.p <;> rfl

end Sys2Proof.Claims
end

section
/-!
PROOFS. What the device's memories hold (05 R146, R135): device memory, host memory and the hampers as one value, and what leaves it as it
was: the operations of the state that a slot part's issue is made of.
-/

namespace Sys2Proof.Machine

/-- What the memories hold: device memory and host memory, and each core's hamper. -/
def State.memories (s : State) : (Mem × Mem) × List Mem := ((s.mem, s.host), s.cores.map Core.hamper)

/-! ### The memories as a reader sees them -/

theorem State.core_hamper (s : State) (c : Nat) : (s.core c).hamper = s.memories.2.getD c Core.reset.hamper := by
  simp only [State.core, State.memories, List.getD_eq_getElem?_getD, List.getElem?_map]
  cases s.cores[c]? <;> rfl

theorem State.padByte_of_memories {s t : State} (h : t.memories.2 = s.memories.2) (c a : Nat) : t.padByte c a = s.padByte c a := by
  unfold State.padByte
  rw [State.core_hamper, State.core_hamper, h]

/-- Memories that hold the same read the same. -/
theorem State.sameBytes_of_memories {s t : State} (h : t.memories = s.memories) : s.sameBytes t :=
  ⟨fun a => congrArg (fun m => m.1.1.read a) h, fun a => congrArg (fun m => m.1.2.read a) h,
    State.padByte_of_memories (congrArg Prod.snd h)⟩

/-! ### The parts of a state that are not memory

A frame that holds by computation is proved by `(rfl)`, so that `simp` rewrites with it under the side condition of another lemma too. -/

/-- A state written out holds the memories written there. -/
@[simp] theorem State.memories_mk (clk : Nat) (cores : List Core) (dies : List Die) (lanterns : List Lantern) (mem host : Mem)
    (poison : SMap Nat) (hbmBad : List (Nat × Nat)) (healed : List Nat) (llc : SMap Nat) (lamps : List LampJob)
    (withdrawn : List LampUnit) (tasks : List Task) (scopes : List Scope) (scopeGen : List (Nat × Nat)) (gone : List Nat)
    (snuffs : List Snuff) (queues : List CmdQueue) (fetchRR ids order : Nat) (plat : Platform) (cur : GRef) (agenda : List Turn)
    (free : Nat) (joint : Option Nat) :
    State.memories ⟨clk, cores, dies, lanterns, mem, host, poison, hbmBad, healed, llc, lamps, withdrawn, tasks, scopes, scopeGen, gone,
      snuffs, queues, fetchRR, ids, order, plat, cur, agenda, free, joint⟩ = ((mem, host), cores.map Core.hamper) := rfl

@[simp] theorem State.memories_fst_eta (s : State) : (s.mem, s.host) = s.memories.1 := (rfl)

@[simp] theorem State.memories_eta (s : State) : (s.memories.1, s.cores.map Core.hamper) = s.memories := (rfl)

theorem State.map_hamper_setCore {s : State} {c : Nat} {x : Core} (h : x.hamper = (s.core c).hamper) :
    (s.setCore c x).cores.map Core.hamper = s.cores.map Core.hamper := by
  refine List.ext_getElem (by simp) fun n _ h2 => ?_
  have hn : n < s.cores.length := by simpa using h2
  simp only [State.setCore, List.getElem_map, List.getElem_set]
  split
  · subst_vars
    rw [h, State.core, List.getD_eq_getElem _ _ hn]
  · rfl

/-- A core that keeps its hamper. -/
@[simp] theorem State.setCore_memories {s : State} {c : Nat} {x : Core} (h : x.hamper = (s.core c).hamper) :
    (s.setCore c x).memories = s.memories :=
  Prod.ext rfl (State.map_hamper_setCore h)

/-- No core holds device memory or host memory. -/
@[simp] theorem State.setCore_memories_fst (s : State) (c : Nat) (x : Core) : (s.setCore c x).memories.1 = s.memories.1 := (rfl)

@[simp] theorem State.setGroup_memories (s : State) (r : GRef) (g : Group) : (s.setGroup r g).memories = s.memories := by
  unfold State.setGroup
  split <;> exact State.setCore_memories rfl

@[simp] theorem State.setDie_memories (s : State) (d : Nat) (x : Die) : (s.setDie d x).memories = s.memories := (rfl)

@[simp] theorem State.setTask_memories (s : State) (t : Task) : (s.setTask t).memories = s.memories := (rfl)

@[simp] theorem State.setQueue_memories (s : State) (q : CmdQueue) : (s.setQueue q).memories = s.memories := (rfl)

@[simp] theorem State.setEngine_memories (s : State) (e : Nat) (x : CopyEngine) : (s.setEngine e x).memories = s.memories := by
  unfold State.setEngine
  split
  · exact State.setCore_memories rfl
  · rfl

/-- A fold of steps each of which leaves the memories. -/
@[simp] theorem State.foldl_memories {β : Type} {f : State → β → State} (hf : ∀ s x, (f s x).memories = s.memories) (l : List β)
    (s : State) : (l.foldl f s).memories = s.memories := by
  induction l generalizing s with
  | nil => rfl
  | cons x rest ih => exact (ih _).trans (hf s x)

/-- A fold that carries another value beside the state. -/
theorem State.foldl_memories_snd {α β : Type} {f : α × State → β → α × State} (hf : ∀ p x, (f p x).2.memories = p.2.memories)
    (l : List β) (p : α × State) : (l.foldl f p).2.memories = p.2.memories := by
  induction l generalizing p with
  | nil => rfl
  | cons x rest ih => exact (ih _).trans (hf p x)

/-! ### Error logs and refusals (14 R373, R384) -/

@[simp] theorem State.clearRefused_memories (s : State) (u : XUnit) (asid va n : Nat) : (s.clearRefused u asid va n).memories = s.memories := (rfl)

@[simp] theorem State.dropRefusals_memories (s : State) (core asid va : Nat) : (s.dropRefusals core asid va).memories = s.memories := (rfl)

@[simp] theorem State.logError_memories (s : State) (task : Nat) (e : ErrEntry) (u : LampUnit) :
    (s.logError task e u).memories = s.memories := by
  unfold State.logError
  split <;> rfl

@[simp] theorem State.logRead_memories (s : State) (task pa va : Nat) : (s.logRead task pa va).memories = s.memories := by
  unfold State.logRead
  split <;> simp

@[simp] theorem State.logTrap_memories (s : State) (r : GRef) (g : Group) (k : Slot) (i : Instr) (unit addr : Nat) :
    (s.logTrap r g k i unit addr).memories = s.memories := by
  unfold State.logTrap
  dsimp only
  split_ifs
  · rfl
  · simp
  · split <;> simp

/-! ### The lines of the LLC slices and of the L1 (05 R145, R146) -/

@[simp] theorem State.llcEvict_memories (s : State) (line : Nat) : (s.llcEvict line).memories = s.memories := (rfl)

@[simp] theorem State.llcRoom_memories (s : State) (line : Nat) : (s.llcRoom line).memories = s.memories := by
  unfold State.llcRoom
  dsimp only
  split <;> rfl

/-- Errors that a fill brings in mark granules and move no byte. -/
@[simp] theorem State.llcSoak_memories (s : State) (sector : Nat) : (s.llcSoak sector).memories = s.memories :=
  State.foldl_memories (fun _ _ => by split <;> rfl) _ _

@[simp] theorem State.llcFill_memories (s : State) (pa : Nat) (dirty : Bool) : (s.llcFill pa dirty).memories = s.memories := by
  unfold State.llcFill
  dsimp only
  split
  · rfl
  · exact (State.llcSoak_memories _ _).trans (State.llcRoom_memories _ _)

@[simp] theorem State.logFill_memories (s : State) (task pa va : Nat) (l : List Nat) : (s.logFill task pa va l).memories = s.memories := by
  unfold State.logFill
  dsimp only
  split
  · rfl
  · split <;> simp

@[simp] theorem State.fillRead_memories (s : State) (task pa va : Nat) (dirty : Bool) : (s.fillRead task pa va dirty).memories = s.memories := by
  simp [State.fillRead]

@[simp] theorem State.inval_memories (s : State) (c : Nat) : (s.inval c).memories = s.memories := State.setCore_memories rfl

@[simp] theorem Core.l1Fill_hamper (c : Core) (sector : Nat) (v : BitVec 256) (evict : List Nat) (pick : Nat) :
    (c.l1Fill sector v evict pick).hamper = c.hamper := by
  unfold Core.l1Fill
  dsimp only
  split
  · rfl
  · split <;> rfl

@[simp] theorem State.l1Bring_memories (s : State) (core sector : Nat) (evict : List Nat) :
    (s.l1Bring core sector evict).memories = s.memories := by
  unfold State.l1Bring
  split
  · rfl
  · rfl
  · exact State.setCore_memories (s := s) (c := core) (Core.l1Fill_hamper _ _ _ _ _)

@[simp] theorem prefetch_memories (s : State) (r : GRef) (g : Group) (x : AM) (l1 : Bool) : (prefetch s r g x l1).memories = s.memories := by
  unfold prefetch
  dsimp only
  split
  · rfl
  · refine State.foldl_memories (fun t i => ?_) _ _
    cases t.peekPhysical (accessUnit r) g.asid (g.eaAM x / 128 * 128 + 32 * i) with
    | none => rfl
    | some pa => cases l1 <;> simp

/-! ### Traps (14 R364 to R366) -/

@[simp] theorem State.post_memories (s : State) (q : Nat) (quads : List Word) : (s.post q quads).2.memories = s.memories := by
  unfold State.post
  split <;> rfl

@[simp] theorem stopGroup_memories (s : State) (r : GRef) (g : Group) (base : Nat) (skew cause addr : Word) (hskip : Nat)
    (pOld : Option Before) (code : Nat) (nest abortOnly : Bool) :
    (stopGroup s r g base skew cause addr hskip pOld code nest abortOnly).memories = s.memories := by
  simp [stopGroup]

@[simp] theorem enterTrap_memories (s : State) (r : GRef) (g : Group) (code info addr base : Nat) (skew : Word) (hskip : Nat) (mult : Bool) :
    (enterTrap s r g code info addr base skew hskip mult).memories = s.memories := by
  unfold enterTrap
  dsimp only
  split
  · exact stopGroup_memories ..
  · split
    · exact stopGroup_memories ..
    · exact State.setGroup_memories ..

@[simp] theorem trapPart_memories (s : State) (r : GRef) (g : Group) (k : Slot) (code info addr : Nat) :
    (trapPart s r g k code info addr).memories = s.memories := enterTrap_memories ..

@[simp] theorem trapBundle_memories (s : State) (r : GRef) (g : Group) (code info addr base : Nat) :
    (trapBundle s r g code info addr base).memories = s.memories := enterTrap_memories ..

@[simp] theorem trapAsync_memories (s : State) (r : GRef) (g : Group) (code : Nat) (t : PendTrap) :
    (trapAsync s r g code t).memories = s.memories := enterTrap_memories ..

/-! ### The issue of a part (02 R35) -/

@[simp] theorem State.noteIssue_memories (s : State) (r : GRef) : (s.noteIssue r).memories = s.memories := State.setCore_memories rfl

@[simp] theorem State.afterIssue_memories (s : State) (r : GRef) : (s.afterIssue r).memories = s.memories := by
  unfold State.afterIssue
  split <;> simp

@[simp] theorem State.settle_memories (s : State) (r : GRef) : (s.settle r).memories = s.memories := by
  unfold State.settle
  split
  · rfl
  · dsimp only
    split <;> simp

@[simp] theorem Core.request_hamper (c : Core) (slot : Nat) (panes : BitVec 4) (now : Nat) : (c.request slot panes now).hamper = c.hamper := by
  unfold Core.request
  split <;> rfl

@[simp] theorem Core.unrequest_hamper (c : Core) (slot : Nat) : (c.unrequest slot).hamper = c.hamper := (rfl)

@[simp] theorem Core.dropTrans_hamper (c : Core) (f : TransEnt → Bool) : (c.dropTrans f).hamper = c.hamper := (rfl)

/-- A part that waits takes a place in load order or asks for a lease, and no more. -/
@[simp] theorem waitEffect_memories (s : State) (r : GRef) (g : Group) (k : Slot) (p : Part) (i : Instr) :
    (waitEffect s r g k p i).memories = s.memories := by
  unfold waitEffect
  dsimp only
  split
  · rfl
  · split <;> simp [apply_ite State.memories]

/-- WHAT AN ISSUE LEAVES: a part whose effect leaves the memories leaves them however it issues, waits or traps. -/
theorem runPart_memories {k : Slot} {i : Instr} {s t : State} {f : State → GRef → Group → Part → State}
    (hf : ∀ s r g p, (f s r g p).memories = s.memories) (h : runPart k i s f = .next t) : t.memories = s.memories := by
  have key : ∀ u : State, u.memories = s.memories → runPart k i s f = .next u → t.memories = s.memories := by
    intro u hu hr
    cases hr.symm.trans h
    exact hu
  rcases runPart_cases k i s f with hr | ⟨g, p, -, hr | ⟨code, info, addr, -, s', hs, hr⟩ | ⟨code, info, -, hr⟩ | hr | ⟨-, -, hr⟩⟩
  · exact key _ rfl hr
  · exact key _ (by simp) hr
  · refine key _ ?_ hr
    rcases hs with rfl | rfl | rfl <;> simp
  · exact key _ (by simp) hr
  · exact key _ (by simp) hr
  · exact key _ (by simp [hf]) hr

/-! ### Copies (11 R285, R291, R299) -/

@[simp] theorem Core.mapGroup_hamper (c : Core) (id : GId) (f : Group → Group) : (c.mapGroup id f).hamper = c.hamper := (rfl)

@[simp] theorem State.mapGroup_memories (s : State) (id : GId) (f : Group → Group) : (s.mapGroup id f).memories = s.memories := by
  refine Prod.ext rfl ?_
  exact List.map_map.trans (congrArg (List.map · s.cores) (funext fun c => c.mapGroup_hamper id f))

@[simp] theorem State.dropRun_memories (s : State) (e run : Nat) : (s.dropRun e run).memories = s.memories := by simp [State.dropRun]

@[simp] theorem State.finishJob_memories (s : State) (j : CopyJob) (ok : Bool) : (s.finishJob j ok).memories = s.memories := by
  unfold State.finishJob
  have owner : (match j.owner with
      | some id => s.mapGroup id (fun g => g.completeProd j.prod (!ok))
      | none => s).memories = s.memories := by
    split <;> simp
  dsimp only
  split
  · exact owner
  · split <;> exact owner

@[simp] theorem State.endParked_memories (s : State) (c : Nat) (id : GId) : (s.endParked c id).memories = s.memories := by
  simp [State.endParked]

@[simp] theorem State.logCorrected_memories (s : State) (e : Nat) (j : CopyJob) (vas : List Nat) :
    (s.logCorrected e j vas).memories = s.memories :=
  State.foldl_memories_snd (fun p x => by split <;> simp) _ _

@[simp] theorem State.enqueueCopy_memories (s : State) (e : Nat) (j : CopyJob) : (s.enqueueCopy e j).memories = s.memories :=
  State.setEngine_memories s e _

@[simp] theorem issueCopy_memories (s : State) (r : GRef) (g : Group) (p : Part) (x : CC) : (issueCopy s r g p x).memories = s.memories := by
  simp [issueCopy]

/-! ### Long instructions and the array's steps (09 R239, R240, 08 R214) -/

@[simp] theorem issueLong_memories (s : State) (r : GRef) (g : Group) (op wk nd : Nat) : (issueLong s r g op wk nd).memories = s.memories := by
  unfold issueLong
  dsimp only
  split <;> simp

@[simp] theorem issueStep_memories (s : State) (r : GRef) (g : Group) (seq : Nat) (tw : BitVec 16) (kind : StepKind) (x : Option MS) :
    (issueStep s r g seq tw kind x).memories = s.memories :=
  (State.setGroup_memories _ _ _).trans (State.setCore_memories (s := s) (c := r.core) rfl)

@[simp] theorem Core.releaseRun_hamper (c : Core) (slot wk : Nat) : (c.releaseRun slot wk).hamper = c.hamper := (rfl)

@[simp] theorem State.stopWick_memories (s : State) (r : GRef) (g : Group) (wk status ecode : Nat) (fva : Option (Nat × Bool)) :
    (s.stopWick r g wk status ecode fva).memories = s.memories := by
  simp [State.stopWick]

@[simp] theorem State.boundary_memories (s : State) (r : GRef) (g : Group) (wk : Nat) : (s.boundary r g wk).memories = s.memories := by
  unfold State.boundary
  dsimp only
  split
  · simp
  · split
    · simp
    · split <;> simp

@[simp] theorem State.dropWick_memories (s : State) (r : GRef) (g : Group) (wk : Nat) : (s.dropWick r g wk).memories = s.memories := by
  unfold State.dropWick
  dsimp only
  split_ifs <;> simp

/-! ### Atomics at issue (05 R161) -/

@[simp] theorem issueAtomic_memories (s : State) (r : GRef) (g : Group) (seq op : Nat) (x : AX) :
    (issueAtomic s r g seq op x).memories = s.memories := by
  unfold issueAtomic
  dsimp only
  rw [State.setGroup_memories]
  split
  · exact State.setCore_memories rfl
  · rfl

/-! ### Tasks and scopes (13 R328, R343 to R347) -/

@[simp] theorem State.setScope_memories (s : State) (x : Scope) : (s.setScope x).memories = s.memories := (rfl)

@[simp] theorem State.sweepN_memories (n : Nat) (s : State) : (s.sweepN n).memories = s.memories := by
  induction n generalizing s with
  | zero => rfl
  | succ n ih =>
    unfold State.sweepN
    dsimp only
    split
    · rfl
    · exact ih _

@[simp] theorem State.sweep_memories (s : State) : s.sweep.memories = s.memories := State.sweepN_memories 33 s

theorem State.newScope_memories {s t : State} {parent maker id : Nat} (h : s.newScope parent maker = some (id, t)) :
    t.memories = s.memories := by
  unfold State.newScope at h
  split at h
  · cases h
  · split at h
    · cases h
    · cases h
      rfl

@[simp] theorem State.closeScope_memories (s : State) (own id : Nat) : (s.closeScope own id).2.memories = s.memories := by
  unfold State.closeScope
  split
  · rfl
  · split
    · rfl
    · split <;> simp

@[simp] theorem State.snuffScope_memories (s : State) (id ack asid rootQ : Nat) : (s.snuffScope id ack asid rootQ).memories = s.memories :=
  State.sweep_memories _

@[simp] theorem State.snuffAgain_memories (s : State) (id ack asid rootQ : Nat) : (s.snuffAgain id ack asid rootQ).memories = s.memories := by
  unfold State.snuffAgain
  split <;> rfl

@[simp] theorem State.snuff_memories (s : State) (own id ack asid rootQ : Nat) : (s.snuff own id ack asid rootQ).2.memories = s.memories := by
  unfold State.snuff
  split
  · rfl
  · split_ifs <;> simp

@[simp] theorem State.enqueue_memories (s : State) (e : Enqueuer) (l : Launch) : (s.enqueue e l).2.memories = s.memories := (rfl)

@[simp] theorem State.countRefused_memories (s : State) (scope : Nat) : (s.countRefused scope).memories = s.memories := (rfl)

@[simp] theorem State.spawn_memories (s : State) (r : GRef) (g : Group) (ra : Nat) (sb : Option Nat) :
    (s.spawn r g ra sb).2.memories = s.memories := by
  unfold State.spawn
  split
  · rfl
  · dsimp only
    split
    · rfl
    · dsimp only
      split <;> rfl

/-! ### Frames and lamp tests (04 R116, 14 R385) -/

@[simp] theorem State.spillBurst_memories (s : State) (r : GRef) (g : Group) : (s.spillBurst r g).memories = s.memories :=
  State.setCore_memories rfl

@[simp] theorem State.withdraw_memories (s : State) (u : LampUnit) : (s.withdraw u).memories = s.memories := by
  unfold State.withdraw
  cases u <;> dsimp only <;> split <;> rfl

@[simp] theorem State.lampTest_memories (s : State) (r : GRef) (g : Group) (sa sb : Word) : (s.lampTest r g sa sb).2.memories = s.memories := by
  unfold State.lampTest
  split
  · rfl
  · dsimp only
    split_ifs
    · rfl
    · exact State.withdraw_memories _ _
    · rfl

end Sys2Proof.Machine
end

section
/-!
PROOFS. No issue writes memory (05 R135, R146, 06 R165): the effect of each slot instruction but BINIT and BARR leaves the memories, so that the
part leaves them however it issues, waits or traps.
-/

namespace Sys2Proof.Machine

/-- An effect at issue that leaves the memories. -/
def KeepsMemories (f : State → GRef → Group → Part → State) : Prop := ∀ s r g p, (f s r g p).memories = s.memories

/-- An effect on the group alone. -/
theorem keepsMemories_of_group (f : State → GRef → Group → Part → Group) : KeepsMemories fun s r g p => s.setGroup r (f s r g p) :=
  fun _ _ _ _ => State.setGroup_memories _ _ _

/-- An effect on the group, after which fences settle. -/
theorem keepsMemories_of_settled (f : State → GRef → Group → Part → Group) :
    KeepsMemories fun s r g p => (s.setGroup r (f s r g p)).settle r :=
  fun _ _ _ _ => (State.settle_memories _ _).trans (State.setGroup_memories _ _ _)

section
variable {i : Instr} (s : State)

/-- Scalar and control parts: long instructions, wicks, spawns, scopes and lamps leave the memories as the group's own updates do. -/
theorem exec_keepsMemories_S (hk : slotOf i = some .S) (hinit : ∀ x, i ≠ .binit x) (harr : ∀ x, i ≠ .barr x) :
    ∃ f, exec i s = runPart .S i s f ∧ KeepsMemories f := by
  cases i <;> cases hk
  case binit.refl x => exact absurd rfl (hinit x)
  case barr.refl x => exact absurd rfl (harr x)
  all_goals refine ⟨_, rfl, ?_⟩
  case xmm.refl | xconv.refl | xgath.refl | xsort.refl | xtopk.refl | xnorm.refl | xattn.refl | kvshoot.refl | kvfreq.refl | kvapp.refl
      | kvpre.refl | callred.refl | credsc.refl | cgath.refl | cbcast.refl | ca2a.refl | csend.refl | crecv.refl | cring.refl | ctopk.refl =>
    exact fun _ _ _ _ => issueLong_memories ..
  case xdrop.refl => exact fun _ _ _ _ => State.dropWick_memories ..
  case xwait.refl | snuffw.refl => exact fun _ _ _ _ => (State.inval_memories _ _).trans (State.setGroup_memories _ _ _)
  case bwait.refl => exact fun _ _ _ _ => by dsimp only; split <;> simp [apply_ite State.memories]
  case call.refl => exact fun _ _ _ _ => (State.setGroup_memories _ _ _).trans (State.spillBurst_memories _ _ _)
  case trap.refl | brk.refl => exact fun _ _ _ _ => enterTrap_memories ..
  case rtt.refl => exact fun _ _ _ _ => by dsimp only; split <;> simp
  case spawn.refl | spawni.refl => exact fun _ _ _ _ => (State.setGroup_memories _ _ _).trans (State.spawn_memories ..)
  case scope.refl =>
    intro s r g p
    dsimp only
    split
    · rename_i h
      exact (State.setGroup_memories _ _ _).trans (State.newScope_memories h)
    · exact State.setGroup_memories _ _ _
  case sclose.refl => exact fun _ _ _ _ => (State.setGroup_memories _ _ _).trans (State.closeScope_memories _ _ _)
  case snuff.refl => exact fun _ _ _ _ => (State.setGroup_memories _ _ _).trans (State.snuff_memories _ _ _ _ _ _)
  case endGroup.refl =>
    intro s r g _
    dsimp only
    rw [State.setCore_memories (Core.unrequest_hamper _ _), State.endParked_memories, State.setGroup_memories]
  case tail.refl => exact fun _ _ _ _ => State.setCore_memories rfl
  case tcinv.refl => exact fun _ _ _ _ => by simp
  case dline.refl | errclr.refl => exact fun _ _ _ _ => by dsimp only; split <;> simp
  case lamp.refl => exact fun _ _ _ _ => by simp
  all_goals exact keepsMemories_of_group _

/-- Accesses wait in their queues and fences in theirs: none writes at issue, and a prefetch only brings lines in (05 R135, R156). -/
theorem exec_keepsMemories_A (hk : slotOf i = some .A) : ∃ f, exec i s = runPart .A i s f ∧ KeepsMemories f := by
  cases i <;> cases hk
  all_goals refine ⟨_, rfl, ?_⟩
  case pf.refl | pfna.refl => exact fun _ _ _ _ => (prefetch_memories ..).trans (State.setGroup_memories _ _ _)
  case atadd.refl | atfadd.refl | atmin.refl | atmax.refl | atminu.refl | atmaxu.refl | atand.refl | ator.refl | atxor.refl | atswp.refl
      | atcas.refl =>
    exact fun _ _ _ _ => (State.settle_memories _ _).trans (issueAtomic_memories ..)
  case monw.refl | mark.refl | fence.refl | fenceX.refl | acq.refl | rel.refl | acqrel.refl => exact keepsMemories_of_settled _
  case tkw.refl => exact fun _ _ _ _ => by simp [apply_ite State.memories]
  all_goals exact keepsMemories_of_group _

theorem exec_keepsMemories_V (hk : slotOf i = some .V) : ∃ f, exec i s = runPart .V i s f ∧ KeepsMemories f := by
  cases i <;> cases hk
  all_goals exact ⟨_, rfl, keepsMemories_of_group _⟩

/-- Matrix parts: a step joins the array's queue, a lease is asked for. -/
theorem exec_keepsMemories_M (hk : slotOf i = some .M) : ∃ f, exec i s = runPart .M i s f ∧ KeepsMemories f := by
  cases i <;> cases hk
  all_goals refine ⟨_, rfl, ?_⟩
  case mstep.refl | mstepz.refl | mstept.refl | mzero.refl => exact fun _ _ _ _ => issueStep_memories ..
  case mlease.refl | mrel.refl => exact fun _ _ _ _ => by simp
  all_goals exact keepsMemories_of_group _

/-- Copy parts: a command joins its engine's queue. -/
theorem exec_keepsMemories_C (hk : slotOf i = some .C) : ∃ f, exec i s = runPart .C i s f ∧ KeepsMemories f := by
  cases i <;> cases hk
  all_goals refine ⟨_, rfl, ?_⟩
  case cpy.refl | cpy2.refl | cpyh.refl | cpln.refl | accld.refl | accst.refl | gstep.refl => exact fun _ _ _ _ => issueCopy_memories ..
  case stamp.refl => exact fun _ _ _ _ => (State.enqueueCopy_memories _ _ _).trans (State.setGroup_memories _ _ _)
  case cpyl.refl =>
    intro s r g p
    dsimp only
    split_ifs
    · simp
    · simp
    · split
      · simp
      · split <;> simp
  all_goals exact keepsMemories_of_group _

theorem exec_keepsMemories_K (hk : slotOf i = some .K) : ∃ f, exec i s = runPart .K i s f ∧ KeepsMemories f := by
  cases i <;> cases hk
  all_goals exact ⟨_, rfl, keepsMemories_of_group _⟩

/-- Every slot instruction but BINIT and BARR issues with an effect that leaves the memories. -/
theorem exec_keepsMemories {k : Slot} (hk : slotOf i = some k) (hinit : ∀ x, i ≠ .binit x) (harr : ∀ x, i ≠ .barr x) :
    ∃ f, exec i s = runPart k i s f ∧ KeepsMemories f := by
  cases k with
  | S => exact exec_keepsMemories_S s hk hinit harr
  | A => exact exec_keepsMemories_A s hk
  | V => exact exec_keepsMemories_V s hk
  | M => exact exec_keepsMemories_M s hk
  | C => exact exec_keepsMemories_C s hk
  | K => exact exec_keepsMemories_K s hk
end

theorem exec_slot_memories {i : Instr} {k : Slot} {s t : State} (hk : slotOf i = some k) (hinit : ∀ x, i ≠ .binit x) (harr : ∀ x, i ≠ .barr x)
    (h : exec i s = .next t) : t.memories = s.memories := by
  obtain ⟨f, hf, keeps⟩ := exec_keepsMemories s hk hinit harr
  exact runPart_memories keeps (hf ▸ h)

end Sys2Proof.Machine

namespace Sys2Proof.Claims

open Sys2Proof.Machine

/-- Settles O49: every effect at issue but BINIT's and BARR's leaves the memories, and so do waits and traps. -/
theorem issuesWriteNoMemory : Obligations.IssuesWriteNoMemory := by
  intro i s t hi hinit harr h
  obtain ⟨k, hk⟩ := Option.isSome_iff_exists.mp hi
  exact State.sameBytes_of_memories (exec_slot_memories hk hinit harr h)

end Sys2Proof.Claims
end

section
/-!
PROOFS. The canonical form of device memory and host memory (05 R146): the operations of the device's agents, which leave both as they were or
write them through operations that keep the form.
-/

namespace Sys2Proof.Machine

/-- Device memory and host memory are in their canonical form. -/
def Canonical (m : Mem × Mem) : Prop := Memory.wf m.1 = true ∧ Memory.wf m.2 = true

theorem State.memsWf_iff (s : State) : s.memsWf ↔ Canonical s.memories.1 := Iff.rfl

theorem foldl_canonical {β : Type} {f : State → β → State} (hf : ∀ s x, Canonical s.memories.1 → Canonical (f s x).memories.1) (l : List β)
    {s : State} (h : Canonical s.memories.1) : Canonical (l.foldl f s).memories.1 :=
  State.foldl_memsWf f hf l s h

@[simp] theorem State.foldl_memories_fst {β : Type} {f : State → β → State} (hf : ∀ s x, (f s x).memories.1 = s.memories.1) (l : List β)
    (s : State) : (l.foldl f s).memories.1 = s.memories.1 := by
  induction l generalizing s with
  | nil => rfl
  | cons x rest ih => exact (ih _).trans (hf s x)

theorem State.foldl_memories_fst_snd {α β : Type} {f : α × State → β → α × State} (hf : ∀ p x, (f p x).2.memories.1 = p.2.memories.1)
    (l : List β) (p : α × State) : (l.foldl f p).2.memories.1 = p.2.memories.1 := by
  induction l generalizing p with
  | nil => rfl
  | cons x rest ih => exact (ih _).trans (hf p x)

/-! ### Writes (05 R146, 14 R448) -/

section
variable {s : State} (h : Canonical s.memories.1)
include h

@[simp] theorem State.putGranule_canonical (pa : Nat) (host : Bool) (bs : List Byte) : Canonical (s.putGranule pa host bs).memories.1 :=
  State.putGranule_memsWf s pa host bs h

@[simp] theorem State.vwrite_canonical (u : XUnit) (asid va : Nat) (bs : List Byte) : Canonical (s.vwrite u asid va bs).memories.1 :=
  State.vwrite_memsWf s u asid va bs h

@[simp] theorem State.hostWrite_canonical (dev : Bool) (a : Nat) (bs : List Byte) : Canonical (s.hostWrite dev a bs).memories.1 :=
  State.hostWrite_memsWf s dev a bs h

@[simp] theorem State.pteWrites_canonical (l : List PteWrite) : Canonical (s.pteWrites l).memories.1 := State.pteWrites_memsWf s l h

@[simp] theorem State.storePiece_canonical (r : GRef) (g : Group) (a : Access) (x : Piece) : Canonical (s.storePiece r g a x).1.memories.1 :=
  State.storePiece_memsWf s r g a x h

@[simp] theorem State.atomicWrite_canonical (r : GRef) (x : Piece) (v : Nat) : Canonical (s.atomicWrite r x v).memories.1 :=
  State.atomicWrite_memsWf s r x v h

@[simp] theorem State.setBarrier_canonical (pa w : Nat) : Canonical (s.setBarrier pa w).memories.1 := State.putGranule_canonical h ..

@[simp] theorem State.releaseBarriers_canonical (l : List Nat) : Canonical (s.releaseBarriers l).memories.1 :=
  foldl_canonical (fun _ _ ht => State.setBarrier_canonical ht ..) l h

@[simp] theorem State.putCtx_canonical (cq : CmdQueue) (off n v : Nat) : Canonical (s.putCtx cq off n v).memories.1 :=
  State.vwrite_canonical h ..

@[simp] theorem State.putPosting_canonical (cq : CmdQueue) (va : Nat) (p : Posting) : Canonical (s.putPosting cq va p).memories.1 :=
  State.vwrite_canonical h ..
end

/-- Bytes written one by one, at places and with values that a list gives. -/
theorem Mem.foldl_write_wf {β : Type} (place : β → Nat) (val : β → Byte) (l : List β) {m : Mem} (h : Memory.wf m = true) :
    Memory.wf (l.foldl (fun (m : Mem) x => m.write (place x) (val x)) m) = true := by
  induction l generalizing m with
  | nil => exact h
  | cons x rest ih => exact ih (Mem.write_wf m _ _ h)

/-! ### Barriers at issue (13 R350) -/

section
variable {s : State} (h : Canonical s.memories.1)
include h

theorem State.binit_canonical (g : Group) (pa sq : Nat) (sb : Word) : Canonical (s.binit g pa sq sb).2.memories.1 := by
  unfold State.binit
  dsimp only
  split
  · exact h
  · split_ifs
    · exact h
    · exact h
    · exact State.setBarrier_canonical h ..

theorem State.barr_canonical (pa : Nat) : Canonical (s.barr pa).2.memories.1 := by
  unfold State.barr
  dsimp only
  split
  · exact h
  · exact State.setBarrier_canonical h ..

end

/-! ### The engines (11 R288 to R299) -/

@[simp] theorem State.mapRun_memories_fst (s : State) (e run : Nat) (f : CopyJob → CopyJob) : (s.mapRun e run f).memories.1 = s.memories.1 := by
  unfold State.mapRun
  dsimp only
  split <;> simp

@[simp] theorem State.hold_memories_fst (s : State) (e : Nat) (j : CopyJob) (addr : Nat) : (s.hold e j addr).memories.1 = s.memories.1 := by
  unfold State.hold
  split <;> simp

@[simp] theorem State.logJob_memories_fst (s : State) (e : Nat) (j : CopyJob) (p : Poison) : (s.logJob e j p).memories.1 = s.memories.1 := by
  unfold State.logJob
  (repeat' split) <;> simp

/-- A read of an engine brings lines in and moves no byte. -/
@[simp] theorem State.engFill_memories_fst (s : State) (w : EngFor) (na : Bool) (vas : List Nat) :
    (s.engFill w na vas).memories.1 = s.memories.1 := by
  unfold State.engFill
  split
  · rfl
  · refine State.foldl_memories_fst (fun t k => ?_) _ _
    split
    · simp
    · split <;> simp

@[simp] theorem State.faultChunk_memories_fst (s : State) (eng run : Nat) (j : CopyJob) (va : Nat) :
    (s.faultChunk eng run j va).memories.1 = s.memories.1 := by
  simp [State.faultChunk]

@[simp] theorem State.errorChunk_memories_fst (s : State) (eng run : Nat) (j : CopyJob) (ecode : Nat) (p : Poison) :
    (s.errorChunk eng run j ecode p).memories.1 = s.memories.1 := by
  simp [State.errorChunk]

@[simp] theorem State.planChunk_memories_fst (s : State) (eng run : Nat) (j : CopyJob) : (s.planChunk eng run j).memories.1 = s.memories.1 := by
  unfold State.planChunk
  dsimp only
  split <;> simp

@[simp] theorem State.logPut_memories_fst (s : State) (j : CopyJob) (p : CopyPut) : (s.logPut j p).memories.1 = s.memories.1 := by
  unfold State.logPut
  dsimp only
  split <;> simp

@[simp] theorem State.awaitPages_memories_fst (s : State) (eng run : Nat) (j : CopyJob) (wr : Bool) (vas : List Nat) :
    (s.awaitPages eng run j wr vas).memories.1 = s.memories.1 := by
  unfold State.awaitPages
  dsimp only
  split <;> simp

@[simp] theorem State.endRun_memories_fst (s : State) (eng run : Nat) (j : CopyJob) (ok : Bool) :
    (s.endRun eng run j ok).memories.1 = s.memories.1 := by
  simp [State.endRun]

@[simp] theorem State.afterStamp_memories_fst (s : State) (eng run : Nat) (j : CopyJob) (ok : Bool) :
    (s.afterStamp eng run j ok).memories.1 = s.memories.1 := by
  unfold State.afterStamp
  dsimp only
  (repeat' split) <;> simp

@[simp] theorem State.readChunk_memories_fst (s : State) (eng run : Nat) (j : CopyJob) (left : List Nat) (piece : Nat) :
    (s.readChunk eng run j left piece).memories.1 = s.memories.1 := by
  unfold State.readChunk
  dsimp only
  split <;> simp

section
variable {s : State} (h : Canonical s.memories.1)
include h

/-- A write of an engine reaches host memory, device memory or a hamper. -/
theorem State.putPiece_canonical (w : EngFor) (fill : Bool) (p : CopyPut) : Canonical (s.putPiece w fill p).memories.1 := by
  unfold State.putPiece
  dsimp only
  split
  · exact ⟨h.1, Mem.foldl_write_wf _ _ _ h.2⟩
  · have lines : Canonical (if fill then s.llcFill p.pa true else s.llcMerge p.pa).memories.1 := by
      split
      · simpa using h
      · exact State.llcMerge_memsWf s p.pa h
    have written := Mem.foldl_write_wf (fun x : Nat × Byte => p.pa + x.1 % 16) Prod.snd p.bytes lines.1
    split <;> split <;> exact ⟨written, lines.2⟩
  · split
    · exact h
    · split <;> exact h

@[simp] theorem State.engWrite_canonical (w : EngFor) (l : List (Nat × Byte)) : Canonical (s.engWrite w l).memories.1 :=
  foldl_canonical (fun _ _ ht => State.putPiece_canonical ht ..) _ h

@[simp] theorem State.putOuts_canonical (w : EngFor) (m : List (Nat × Nat × Nat)) : Canonical (s.putOuts w m).memories.1 :=
  State.engWrite_canonical h ..

@[simp] theorem State.writeChunk_canonical (eng run : Nat) (j : CopyJob) (piece : Nat) :
    Canonical (s.writeChunk eng run j piece).memories.1 := by
  unfold State.writeChunk
  dsimp only
  split
  · exact h
  · rw [State.mapRun_memories_fst]
    exact State.putPiece_canonical (by simpa using h) ..

/-- A small write that is made, and one that fails, each keep the form. -/
theorem State.smallWrite_canonical {t : State} {eng : Nat} {j : CopyJob} {va : Nat} {bs : List Byte}
    (ht : s.smallWrite eng j va bs = .ok t ∨ s.smallWrite eng j va bs = .failed t) : Canonical t.memories.1 := by
  unfold State.smallWrite at ht
  dsimp only at ht
  split at ht
  · simp at ht
  · rcases ht with ht | ht <;> cases ht
    simpa using h
  · split at ht <;> rcases ht with ht | ht <;> cases ht <;> simp [h]

@[simp] theorem State.stampEntry_canonical (eng run : Nat) (j : CopyJob) (e : CopyEnd) : Canonical (s.stampEntry eng run j e).memories.1 := by
  unfold State.stampEntry
  dsimp only
  split
  · simpa using h
  · split
    · exact h
    · rename_i hw
      simpa using State.smallWrite_canonical h (.inr hw)
    · rename_i hw
      simpa using State.smallWrite_canonical h (.inl hw)
end

/-! ### Queues and their nodes (15 R396 to R406) -/

@[simp] theorem State.dueState_memories_fst (s : State) (q : Nat) (due : Bool) : (s.dueState q due).memories.1 = s.memories.1 := by
  unfold State.dueState
  split <;> simp

@[simp] theorem State.fire_memories_fst (s : State) (cq : CmdQueue) (n : Node) : (s.fire cq n).memories.1 = s.memories.1 := (rfl)

@[simp] theorem State.fireEnd_memories_fst (s : State) (cq : CmdQueue) (n : Node) (o : NodeOutcome) :
    (s.fireEnd cq n o).memories.1 = s.memories.1 := (rfl)

@[simp] theorem State.clearNode_memories_fst (s : State) (cq : CmdQueue) (n : Node) : (s.clearNode cq n).memories.1 = s.memories.1 := (rfl)

@[simp] theorem State.launchNode_memories_fst (s : State) (cq : CmdQueue) (n : Node) : (s.launchNode cq n).memories.1 = s.memories.1 := by
  unfold State.launchNode
  dsimp only
  (repeat' split) <;> simp

section
variable {s : State} (h : Canonical s.memories.1)
include h

@[simp] theorem State.putState_canonical (cq : CmdQueue) : Canonical (s.putState cq).memories.1 := by
  unfold State.putState
  split
  · exact State.putCtx_canonical (by simpa using h) ..
  · simpa using h

@[simp] theorem State.putRoot_canonical (cq : CmdQueue) : Canonical (s.putRoot cq).memories.1 :=
  State.putState_canonical (State.putCtx_canonical h ..) _

@[simp] theorem State.clearValid_canonical (cq : CmdQueue) : Canonical (s.clearValid cq).memories.1 := State.putCtx_canonical h ..

@[simp] theorem State.raiseEvent_canonical (q code slot addr : Nat) (w : List Byte) :
    Canonical (s.raiseEvent q code slot addr w).memories.1 := by
  have posted (quads : List Word) : Canonical (s.post q quads).2.memories.1 := by simpa using h
  unfold State.raiseEvent
  dsimp only
  split
  · exact posted _
  · refine State.putState_canonical ?_ _
    exact posted _

@[simp] theorem State.malformedNode_canonical (cq : CmdQueue) (slot va : Nat) (b : List Byte) (succ : List Nat) :
    Canonical (s.malformedNode cq slot va b succ).memories.1 := by
  simp [State.malformedNode, h]

@[simp] theorem State.fetchError_canonical (cq : CmdQueue) (slot : Nat) (p : Poison) : Canonical (s.fetchError cq slot p).memories.1 := by
  unfold State.fetchError
  refine State.raiseEvent_canonical ?_ ..
  split <;> simp [h]

@[simp] theorem State.finishNode_canonical (q slot : Nat) (o : NodeOutcome) : Canonical (s.finishNode q slot o).memories.1 := by
  unfold State.finishNode
  split
  · exact h
  · split
    · exact h
    · simp [h]

@[simp] theorem State.signal_canonical (cq : CmdQueue) (n : Node) (f : Nat → Nat → Nat) : Canonical (s.signal cq n f).memories.1 := by
  unfold State.signal
  split
  · exact h
  · exact h
  · split
    · exact h
    · exact State.putGranule_canonical h ..

@[simp] theorem State.abortQueue_canonical (cq : CmdQueue) (e : QueueEvent) : Canonical (s.abortQueue cq e).memories.1 := by
  simp [State.abortQueue, h]

/-- A queue event's word written again, or the event raised once more (15 Table 15.4). -/
theorem State.writeWord_canonical {t : State} {u : XUnit} {asid va : Nat} {bs : List Byte}
    (ht : s.writeWord u asid va bs = .ok t ∨ s.writeWord u asid va bs = .refused t) : Canonical t.memories.1 := by
  unfold State.writeWord at ht
  split at ht
  · simp at ht
  · rcases ht with ht | ht <;> cases ht
    exact h
  · split at ht <;> rcases ht with ht | ht <;> cases ht <;> simp [h]

theorem State.answerEvent_canonical {t : State} {cq : CmdQueue} {e : QueueEvent} {resume : Bool}
    (ht : s.answerEvent cq e resume = some t) : Canonical t.memories.1 := by
  unfold State.answerEvent at ht
  dsimp only at ht
  split at ht
  · split at ht
    · cases ht
    · rename_i hw
      rw [← Option.some.inj ht]
      have hu := State.writeWord_canonical h (.inr hw)
      simp [hu]
    · rename_i hw
      rw [← Option.some.inj ht]
      have hu := State.writeWord_canonical h (.inl hw)
      simp [hu]
  · rw [← Option.some.inj ht]
    simp [h]
end

@[simp] theorem State.logCore_memories_fst (s : State) (task core : Nat) (p : Poison) : (s.logCore task core p).memories.1 = s.memories.1 := by
  unfold State.logCore
  (repeat' split) <;> simp

@[simp] theorem State.logStep_memories_fst (s : State) (x : StepAt) (p : Poison) : (s.logStep x p).memories.1 = s.memories.1 := by
  unfold State.logStep
  dsimp only
  (repeat' split) <;> simp

@[simp] theorem State.fetchTrap_memories_fst (s : State) (r : GRef) (g : Group) (code info addr base : Nat) :
    (s.fetchTrap r g code info addr base).memories.1 = s.memories.1 := by
  unfold State.fetchTrap
  (repeat' split) <;> simp

@[simp] theorem State.stopLost_memories_fst (s : State) (r : GRef) : (s.stopLost r).memories.1 = s.memories.1 := by
  unfold State.stopLost
  (repeat' split) <;> simp

/-! ### Long instructions and collectives (09 R240 to R247, 10 R271, 12 R306 to R312) -/

@[simp] theorem State.fillEntry_memories_fst (s : State) (core : Nat) (x : EntryLine) (blockPa : Option Nat) :
    (s.fillEntry core x blockPa).memories.1 = s.memories.1 := by
  unfold State.fillEntry
  split <;> simp

@[simp] theorem State.dropLines_memories_fst (s : State) (buf asid : Nat) (span : Option (Nat × Nat × Nat)) :
    (s.dropLines buf asid span).2.memories.1 = s.memories.1 := by
  unfold State.dropLines
  split <;> simp

@[simp] theorem State.fillCopy_memories_fst (s : State) (r : GRef) (x : StepAt) (y : SeqCopy) :
    (s.fillCopy r x y).memories.1 = s.memories.1 := by
  simp [State.fillCopy]

@[simp] theorem State.dropCopy_memories_fst (s : State) (r : GRef) (x : StepAt) (y : SeqCopy) :
    (s.dropCopy r x y).memories.1 = s.memories.1 := by
  simp [State.dropCopy]

@[simp] theorem State.faultCopy_memories_fst (s : State) (r : GRef) (x : StepAt) (low : Option (Nat × Bool)) :
    (s.faultCopy r x low).memories.1 = s.memories.1 := by
  simp [State.faultCopy]

@[simp] theorem State.advance_memories_fst (s : State) (r : GRef) (g : Group) (wk : Nat) : (s.advance r g wk).memories.1 = s.memories.1 := by
  unfold State.advance
  dsimp only
  (repeat' split) <;> simp

@[simp] theorem State.writeCarry_memories_fst (s : State) (r : GRef) (x : StepAt) : (s.writeCarry r x).memories.1 = s.memories.1 := (rfl)

@[simp] theorem State.receive_memories_fst (s : State) (r : GRef) (x : StepAt) (m : ChunkMsg) :
    (s.receive r x m).memories.1 = s.memories.1 := by
  simp [State.receive]

@[simp] theorem State.stopColl_memories_fst (s : State) (r : GRef) (wk ecode : Nat) : (s.stopColl r wk ecode).memories.1 = s.memories.1 := by
  unfold State.stopColl
  split <;> simp

@[simp] theorem State.fillBlock_memories_fst (s : State) (x : StepAt) (va n : Nat) : (s.fillBlock x va n).memories.1 = s.memories.1 :=
  State.foldl_memories_fst (fun _ _ => by split <;> simp) _ _

@[simp] theorem State.fillEntries_memories_fst (s : State) (x : StepAt) : (s.fillEntries x).memories.1 = s.memories.1 := by
  unfold State.fillEntries
  dsimp only
  split_ifs
  · exact State.foldl_memories_fst (fun _ _ => by split <;> simp) _ _
  · exact State.foldl_memories_fst (fun _ _ => by split <;> simp) _ _
  · rfl

@[simp] theorem State.logFixed_memories_fst (s : State) (x : StepAt) (l : List ReadAt) : (s.logFixed x l).memories.1 = s.memories.1 :=
  State.foldl_memories_fst_snd (fun _ _ => by split <;> simp) _ _

@[simp] theorem State.clearStep_memories_fst (s : State) (x : StepAt) : (s.clearStep x).memories.1 = s.memories.1 :=
  State.foldl_memories_fst (fun _ _ => congrArg Prod.fst (State.clearRefused_memories ..)) _ _

@[simp] theorem State.completeCopy_memories_fst (s : State) (r : GRef) (x : StepAt) (y : SeqCopy) :
    (s.completeCopy r x y).memories.1 = s.memories.1 := by
  unfold State.completeCopy
  (repeat' split) <;> simp

@[simp] theorem State.tryStep_memories_fst (s : State) (r : GRef) (x : StepAt) : (s.tryStep r x).memories.1 = s.memories.1 := by
  have entries : (if s.round1Ok x then s.fillEntries x else s).memories.1 = s.memories.1 := by
    split <;> simp
  unfold State.tryStep
  dsimp only
  split
  · simp [entries]
  · simp [entries]
  · split <;> simp [entries]
  · rename_i e p _
    cases p <;> simp [entries]
  · exact (congrArg Prod.fst (State.setGroup_memories _ _ _)).trans ((State.logFixed_memories_fst _ _ _).trans entries)

@[simp] theorem State.startStep_memories_fst (s : State) (r : GRef) (x : StepAt) : (s.startStep r x).memories.1 = s.memories.1 := by
  unfold State.startStep
  dsimp only
  split_ifs <;> simp

section
variable {s : State} (h : Canonical s.memories.1)
include h

@[simp] theorem State.commitStep_canonical (r : GRef) (x : StepAt) (o : StepOut) : Canonical (s.commitStep r x o).memories.1 := by
  have outs := State.putOuts_canonical h x.eng o.mem
  unfold State.commitStep
  dsimp only
  split_ifs <;> simpa using outs

@[simp] theorem State.receiveShard_canonical (r : GRef) (x : StepAt) (m : ChunkMsg) : Canonical (s.receiveShard r x m).memories.1 :=
  State.engWrite_canonical (by simpa using h) ..
end

/-! ### Accesses, steps of the array, overlays (05 R143, 08 R221, 13 R337) -/

@[simp] theorem State.logPiece_memories (s : State) (r : GRef) (g : Group) (x : Piece) : (s.logPiece r g x).memories = s.memories := by
  unfold State.logPiece
  (repeat' split) <;> simp

@[simp] theorem State.fillL1_memories (s : State) (r : GRef) (a : Access) (x : Piece) (evict : List Nat) :
    (s.fillL1 r a x evict).memories = s.memories := by
  unfold State.fillL1
  dsimp only
  (repeat' split) <;> simp

@[simp] theorem State.arbitrate_memories_fst (s : State) (core : Nat) : (s.arbitrate core).memories.1 = s.memories.1 := by
  unfold State.arbitrate
  split <;> simp

@[simp] theorem State.endStep_memories_fst (s : State) (core : Nat) (m : MatStep) (failed : Bool) :
    (s.endStep core m failed).memories.1 = s.memories.1 := (rfl)

@[simp] theorem State.dropBad_memories_fst (s : State) (r : GRef) (g : Group) (image k : Nat) :
    (s.dropBad r g image k).memories.1 = s.memories.1 := by
  unfold State.dropBad
  dsimp only
  split <;> simp

/-- A read of a fetch goes on with the bytes, or traps. -/
theorem State.fetchRead_memories_fst {s : State} {k : List Byte → State} (hk : ∀ l, (k l).memories.1 = s.memories.1) (r : GRef) (g : Group)
    (va n : Nat) : (s.fetchRead r g va n k).memories.1 = s.memories.1 := by
  unfold State.fetchRead
  split <;> simp [hk]

@[simp] theorem State.checkImage_memories_fst (s : State) (r : GRef) (g : Group) (t : Task) : (s.checkImage r g t).memories.1 = s.memories.1 := by
  unfold State.checkImage
  dsimp only
  refine State.fetchRead_memories_fst (fun header => ?_) ..
  split
  · simp
  · refine State.fetchRead_memories_fst (fun table => ?_) ..
    split <;> simp

@[simp] theorem State.loadOverlay_memories_fst (s : State) (r : GRef) (g : Group) (image : Nat) :
    (s.loadOverlay r g image).memories.1 = s.memories.1 := by
  unfold State.loadOverlay
  refine State.fetchRead_memories_fst (fun header => State.fetchRead_memories_fst (fun table => ?_) ..) ..
  dsimp only
  split
  · simp
  · refine (State.fetchRead_memories_fst (s := s.dropBad r g image _) (fun bytes => ?_) ..).trans (State.dropBad_memories_fst ..)
    split <;> simp

/-! ### Tasks, SNUFF and aborts (13 R340 to R347) -/

@[simp] theorem State.snuffRoot_memories_fst (s : State) (root ack asid q : Nat) : (s.snuffRoot root ack asid q).memories.1 = s.memories.1 := by
  unfold State.snuffRoot
  split <;> simp

@[simp] theorem State.cutWick_memories_fst (s : State) (r : GRef) (wk : Nat) : (s.cutWick r wk).memories.1 = s.memories.1 := by
  unfold State.cutWick
  dsimp only
  (repeat' split) <;> simp

@[simp] theorem State.retireUnstarted_memories_fst (s : State) (c task code : Nat) :
    (s.retireUnstarted c task code).memories.1 = s.memories.1 := by
  unfold State.retireUnstarted
  dsimp only
  (repeat' split) <;> simp

@[simp] theorem State.cutChannel_memories_fst (s : State) (e ch : Nat) (tasks : List Nat) (id : Nat) :
    (s.cutChannel e ch tasks id).2.memories.1 = s.memories.1 := by
  simp [State.cutChannel]

@[simp] theorem State.cutQueue_memories_fst (s : State) (d : Nat) (tasks : List Nat) (code : Nat) :
    (s.cutQueue d tasks code).2.memories.1 = s.memories.1 := (rfl)

@[simp] theorem State.closeRoot_memories_fst (s : State) (root : Nat) : (s.closeRoot root).memories.1 = s.memories.1 := by
  unfold State.closeRoot
  split <;> simp

@[simp] theorem State.retireOne_memories_fst (s : State) (task : Nat) : (s.retireOne task).memories.1 = s.memories.1 := by
  unfold State.retireOne
  split <;> simp

@[simp] theorem State.closeTask_memories_fst (s : State) (t : Task) : (s.closeTask t).memories.1 = s.memories.1 := by
  unfold State.closeTask
  dsimp only
  (repeat' split) <;> simp

@[simp] theorem State.setSnuff_memories_fst (s : State) (u : Snuff) : (s.setSnuff u).memories.1 = s.memories.1 := (rfl)

@[simp] theorem State.cutGroup_memories_fst (s : State) (r : GRef) (g : Group) : (s.cutGroup r g).memories.1 = s.memories.1 := by
  simp [State.cutGroup]

@[simp] theorem State.cutCore_memories_fst (s : State) (c : Nat) (tasks : List Nat) (code : Nat) :
    (s.cutCore c tasks code).2.memories.1 = s.memories.1 := by
  unfold State.cutCore
  refine (State.foldl_memories_fst_snd (fun p k => ?_) _ _).trans (State.foldl_memories_fst (fun _ _ => State.retireUnstarted_memories_fst ..) _ _)
  split
  · rfl
  · split
    · rfl
    · dsimp only
      split <;> simp

/-- The definition is opened as a function, and its last match is split on a variable (`id` keeps it one): to compare two matches on the state
that the cuts leave, the kernel would run them over all 160 cores. -/
@[simp] theorem State.abortTask_canonical {s : State} (h : Canonical s.memories.1) (task : Nat) : Canonical (s.abortTask task).memories.1 := by
  generalize hf : State.abortTask = f
  delta State.abortTask at hf
  subst hf
  beta_reduce
  extract_lets ts queued cut released
  have hqueued : queued.memories.1 = s.memories.1 := State.foldl_memories_fst (fun _ _ => State.cutQueue_memories_fst ..) _ _
  have hcut : cut.memories.1 = queued.memories.1 := State.foldl_memories_fst (fun t c =>
    (State.foldl_memories_fst (fun _ _ => State.cutChannel_memories_fst ..) _ _).trans (State.cutCore_memories_fst t c ts 2)) _ _
  have hreleased : Canonical released.memories.1 := by
    clear_value cut
    exact State.releaseBarriers_canonical (hcut.trans hqueued ▸ h) _
  clear_value released
  revert released
  refine id fun released hreleased => ?_
  split <;> exact hreleased

/-! ### Traps, answers and stops (14 R363 to R367) -/

@[simp] theorem State.applyAnswer_canonical {s : State} (h : Canonical s.memories.1) (r : GRef) (g : Group) (x : StopRec) (a : Answer) :
    Canonical (s.applyAnswer r g x a).memories.1 := by
  unfold State.applyAnswer
  (repeat' split) <;> simp [h]

@[simp] theorem State.lateAnswer_canonical {s : State} (h : Canonical s.memories.1) (r : GRef) : Canonical (s.lateAnswer r).memories.1 := by
  unfold State.lateAnswer
  (repeat' split) <;> simp [h]

@[simp] theorem State.answerGroup_canonical {s : State} (h : Canonical s.memories.1) (id : GId) (a : Answer) :
    Canonical (s.answerGroup id a).memories.1 := by
  unfold State.answerGroup
  dsimp only
  (repeat' split) <;> simp [h]

@[simp] theorem State.takeAnswer_canonical {s : State} (h : Canonical s.memories.1) (q code : Nat) (a : Answer) :
    Canonical (s.takeAnswer q code a).memories.1 := by
  unfold State.takeAnswer
  split
  · exact h
  split
  · exact h
  split
  · exact h
  split
  · exact h
  split
  · exact h
  · exact State.answerGroup_canonical (State.clearValid_canonical h _) _ _
  · split
    · exact State.abortQueue_canonical (State.clearValid_canonical h _) _ _
    · generalize ha : State.answerEvent _ _ _ _ = o
      cases o with
      | none => exact h
      | some t => exact State.answerEvent_canonical (State.clearValid_canonical h _) ha

/-! ### Translations and mappings (14 R371 to R378) -/

@[simp] theorem State.fillDie_memories_fst (s : State) (d : Nat) (e : TransEnt) : (s.fillDie d e).memories.1 = s.memories.1 := (rfl)

@[simp] theorem State.fillCore_memories_fst (s : State) (c : Nat) (e : TransEnt) : (s.fillCore c e).memories.1 = s.memories.1 := (rfl)

@[simp] theorem State.fillUnit_memories_fst (s : State) (u : XUnit) (e : TransEnt) : (s.fillUnit u e).memories.1 = s.memories.1 := by
  unfold State.fillUnit
  split <;> simp

@[simp] theorem State.dropEntries_memories_fst (s : State) (f : TransEnt → Bool) : (s.dropEntries f).memories.1 = s.memories.1 := (rfl)

@[simp] theorem State.demandFault_memories_fst (s : State) (d : Nat) (f : DemandFault) : (s.demandFault d f).memories.1 = s.memories.1 := (rfl)

@[simp] theorem State.restartRuns_memories_fst (s : State) (f : DemandFault) : (s.restartRuns f).memories.1 = s.memories.1 := by
  simp [State.restartRuns]

@[simp] theorem State.moveTies_memories_fst (s : State) (l : List (Nat × Nat × Option PageAt × Option PageAt)) :
    (s.moveTies l).memories.1 = s.memories.1 := (rfl)

@[simp] theorem State.retargetAll_memories_fst (s : State) (x : VaRange) : (s.retargetAll x).memories.1 = s.memories.1 := (rfl)

@[simp] theorem State.dropFrames_memories_fst (s : State) (l : List (Nat × Nat × Option PageAt × Option PageAt)) :
    (s.dropFrames l).memories.1 = s.memories.1 := (rfl)

@[simp] theorem State.setRoot_memories_fst (s : State) (d asid : Nat) (pa : Option Nat) : (s.setRoot d asid pa).memories.1 = s.memories.1 := by
  unfold State.setRoot
  dsimp only
  split_ifs <;> rfl

@[simp] theorem State.settleRuns_memories_fst (s : State) : s.settleRuns.memories.1 = s.memories.1 := by
  refine State.foldl_memories_fst (fun _ _ => State.foldl_memories_fst (fun _ _ => State.foldl_memories_fst (fun t wk => ?_) _ _) _ _) _ _
  split
  · rfl
  · split <;> simp

@[simp] theorem State.discardSteps_memories_fst (s : State) (asid : Nat) : (s.discardSteps asid).memories.1 = s.memories.1 :=
  State.settleRuns_memories_fst _

section
variable {s : State} (h : Canonical s.memories.1)
include h

theorem State.serviceWrites_canonical {t : State} {l : List PteWrite} (ht : s.serviceWrites l = some t) : Canonical t.memories.1 := by
  have key : ∀ (l : List PteWrite) (o : Option State), (∀ u, o = some u → Canonical u.memories.1) →
      ∀ u, l.foldl (fun o x => o.bind (fun (s : State) => if s.mayService x then some (s.putPte x) else none)) o = some u →
        Canonical u.memories.1 := by
    intro l
    induction l with
    | nil => exact fun _ ho => ho
    | cons x rest ih =>
      refine fun o ho => ih _ fun u hu => ?_
      obtain ⟨v, hv, hw⟩ := Option.bind_eq_some_iff.mp hu
      split at hw <;> cases hw
      exact State.putPte_memsWf v x (ho v hv)
  exact key l (some s) (fun u hu => by cases hu; exact h) t ht

/-- A page's image replaces what the place held. -/
@[simp] theorem State.putImage_canonical (pa n : Nat) (im : Mem × List (Nat × Nat)) : Canonical (s.putImage pa n im).memories.1 :=
  ⟨Mem.foldl_write_wf _ _ _ (SMap.filter_wf _ _ _ _ h.1), h.2⟩

@[simp] theorem State.putPage_canonical (p : PageAt) (im : Mem × List (Nat × Nat)) : Canonical (s.putPage p im).memories.1 := by
  cases p with
  | dev pa => exact State.putImage_canonical h ..
  | host a => exact ⟨h.1, Mem.foldl_write_wf _ _ _ (SMap.filter_wf _ _ _ _ h.2)⟩

@[simp] theorem State.moveBytes_canonical (src dst n : Nat) : Canonical (s.moveBytes src dst n).memories.1 := State.putImage_canonical h ..

@[simp] theorem copyHostPages_canonical (u : State) (l : List (Nat × Nat × Option PageAt × Option PageAt)) :
    Canonical (copyHostPages u s l).memories.1 :=
  foldl_canonical (fun _ _ ht => by split <;> simp [ht]) l h
end

/-! ### The platform (22 R437 to R446) -/

@[simp] theorem State.refuseWrite_memories_fst (s : State) : s.refuseWrite.memories.1 = s.memories.1 := (rfl)

@[simp] theorem State.denied_memories_fst (s : State) : s.denied.memories.1 = s.memories.1 := (rfl)

@[simp] theorem State.onPlat_memories_fst (s : State) (f : Platform → Platform) : (s.onPlat f).memories.1 = s.memories.1 := (rfl)

@[simp] theorem State.bar2Write_memories_fst (s : State) (off : Nat) (val : Word) : (s.bar2Write off val).memories.1 = s.memories.1 := by
  unfold State.bar2Write
  (repeat' split) <;> simp

@[simp] theorem State.setTemp_memories_fst (s : State) (die celsius : Nat) : (s.setTemp die celsius).memories.1 = s.memories.1 := by
  unfold State.setTemp
  (repeat' split) <;> simp

@[simp] theorem State.flushL1_memories_fst (s : State) : s.flushL1.memories.1 = s.memories.1 := (rfl)

@[simp] theorem State.dropLeased_memories_fst (s : State) : s.dropLeased.memories.1 = s.memories.1 := (rfl)

@[simp] theorem State.qDone_memories_fst (s : State) (val : Word) : (s.qDone val).memories.1 = s.memories.1 :=
  State.onPlat_memories_fst s (fun _ => _)

@[simp] theorem State.inReady_canonical {s : State} (h : Canonical s.memories.1) {k : State → State}
    (hk : ∀ t, Canonical t.memories.1 → Canonical (k t).memories.1) : Canonical (s.inReady k).memories.1 := by
  unfold State.inReady
  split
  · exact hk s h
  · exact h

@[simp] theorem State.attCommand_canonical {s : State} (h : Canonical s.memories.1) (val : Word) : Canonical (s.attCommand val).memories.1 :=
  State.inReady_canonical h fun _ ht => ht

@[simp] theorem State.mbox_canonical {s : State} (h : Canonical s.memories.1) {k : State → State}
    (hk : ∀ t, Canonical t.memories.1 → Canonical (k t).memories.1) : Canonical (s.mbox k).memories.1 := by
  unfold State.mbox
  split_ifs
  · exact h
  · exact h
  · exact hk s h

theorem State.command_canonical {s : State} (h : Canonical s.memories.1) (val : Word) (op : Nat)
    {k : Nat → Option CmdQueue → Option State} (hk : ∀ q o t, k q o = some t → Canonical t.memories.1) :
    Canonical (s.command val op k).memories.1 := by
  unfold State.command
  split_ifs
  · simpa using h
  · exact h
  · simpa using h
  · dsimp only
    split
    · rename_i ht
      simpa using hk _ _ _ ht
    · simpa using h

/-- A reset empties device memory and leaves host memory. -/
@[simp] theorem State.resetDevice_canonical {s : State} (h : Canonical s.memories.1) : Canonical s.resetDevice.memories.1 := ⟨rfl, h.2⟩

/-! ### Errors of memory cells, and clocks (14 R380, log 7) -/

@[simp] theorem State.upset_memories_fst (s : State) (u : Upset) : (s.upset u).memories.1 = s.memories.1 := by
  cases u with
  | vreg r code =>
    unfold State.upset
    dsimp only
    split
    · split <;> simp
    · rfl
  | _ => rfl

@[simp] theorem State.pass_memories_fst (s : State) (n : Nat) : (s.pass n).memories.1 = s.memories.1 := by
  unfold State.pass
  split <;> rfl

end Sys2Proof.Machine
end

section
/-!
PROOFS. The canonical form of device memory and host memory (05 R146): every instruction and event keeps it, and so does a step. The operations'
lemmas do the work: where each branch of an event is a chain of them, its branches are split and `simp` goes along each chain; an event that writes
by an operation with an answer of its own, or in a fold, is followed by hand.
-/

namespace Sys2Proof.Machine

/-- A step that answers a next state answers one whose memories are in canonical form. -/
def KeepsForm (o : Host.Outcome State Fault Refusal) : Prop := ∀ t, o = .next t → Canonical t.memories.1

theorem KeepsForm.canonical {o : Host.Outcome State Fault Refusal} {t : State} (ho : KeepsForm o) (ht : o = .next t) :
    Canonical t.memories.1 :=
  ho t ht

@[simp] theorem keepsForm_next (t : State) : KeepsForm (.next t) ↔ Canonical t.memories.1 :=
  ⟨fun h => h t rfl, fun h u hu => by cases hu; exact h⟩

@[simp] theorem keepsForm_fault (r : Fault) : KeepsForm (.fault r) := fun _ h => by cases h

@[simp] theorem keepsForm_refused (r : Refusal) : KeepsForm (.refused r) := fun _ h => by cases h

theorem State.dies_canonical {s : State} (h : Canonical s.memories.1) (l : List Die) :
    Canonical ({ s with dies := l } : State).memories.1 := h

/-! ### Accesses (05 R136 to R161) -/

theorem execTagGrant_keepsForm (core : Nat) {s : State} (h : Canonical s.memories.1) : KeepsForm (execTagGrant core s) := by
  unfold execTagGrant
  dsimp only
  (repeat' split) <;> simp [h]

theorem execLoadPerformed_keepsForm (g : GRef) (st : Nat) (piece : Nat) (evict : List Nat) {s : State} (h : Canonical s.memories.1) :
    KeepsForm (execLoadPerformed g st piece evict s) := by
  unfold execLoadPerformed
  split
  · simp [h]
  · split
    · simp [h]
    · extract_lets old i ps rd a' s1 s2 s3 x'
      split
      · simp [h]
      · have h1 : Canonical s1.memories.1 := foldl_canonical (fun u y hu => by split <;> simp [hu]) _ h
        have h2 : Canonical s2.memories.1 := foldl_canonical (fun u y hu => by simpa using hu) _ h1
        have h3 : Canonical s3.memories.1 := by
          dsimp only [s3]
          split <;> simp [h2]
        simpa using h3

theorem execStorePerformed_keepsForm (g : GRef) (st : Nat) (piece : Nat) {s : State} (h : Canonical s.memories.1) :
    KeepsForm (execStorePerformed g st piece s) := by
  unfold execStorePerformed
  dsimp only
  (repeat' split) <;> simp [h]

theorem execWriteAcknowledgement_keepsForm (g : GRef) (st : Nat) {s : State} (h : Canonical s.memories.1) :
    KeepsForm (execWriteAcknowledgement g st s) := by
  unfold execWriteAcknowledgement
  (repeat' split) <;> simp [h]

theorem execHostStoreAcknowledgement_keepsForm (g : GRef) (st : Nat) {s : State} (h : Canonical s.memories.1) :
    KeepsForm (execHostStoreAcknowledgement g st s) := by
  unfold execHostStoreAcknowledgement
  (repeat' split) <;> simp [h]

theorem execAtomicPerformed_keepsForm (g : GRef) (st : Nat) {s : State} (h : Canonical s.memories.1) : KeepsForm (execAtomicPerformed g st s) := by
  unfold execAtomicPerformed
  (repeat' split) <;> simp [h]

theorem execMonwTest_keepsForm (g : GRef) {s : State} (h : Canonical s.memories.1) : KeepsForm (execMonwTest g s) := by
  unfold execMonwTest
  (repeat' split) <;> simp [h]

/-! ### The copy engines (11 R287 to R293, 08 R225) -/

theorem execCopyStart_keepsForm (eng : Nat) (ch : Nat) {s : State} (h : Canonical s.memories.1) : KeepsForm (execCopyStart eng ch s) := by
  unfold execCopyStart
  dsimp only
  (repeat' split) <;> simp [h]

theorem execCopyChunk_keepsForm (eng : Nat) (run : RunPiece) {s : State} (h : Canonical s.memories.1) : KeepsForm (execCopyChunk eng run s) := by
  unfold execCopyChunk
  dsimp only
  (repeat' split) <;> simp [h]

theorem execCompletionStamp_keepsForm (eng : Nat) (run : Nat) {s : State} (h : Canonical s.memories.1) :
    KeepsForm (execCompletionStamp eng run s) := by
  unfold execCompletionStamp
  split
  · simp [h]
  · split
    · simp [h]
    · dsimp only
      split_ifs
      · simp [h]
      · simp [h]
      · split
        · simp [h]
        · rename_i hw
          simpa using State.smallWrite_canonical h (.inr hw)
        · rename_i hw
          simp [State.smallWrite_canonical h (.inl hw)]

theorem execChainRecordRead_keepsForm (eng : Nat) (run : Nat) {s : State} (h : Canonical s.memories.1) :
    KeepsForm (execChainRecordRead eng run s) := by
  unfold execChainRecordRead
  dsimp only
  (repeat' split) <;> simp [h]

theorem execChainUnpark_keepsForm (eng : Nat) (run : Nat) {s : State} (h : Canonical s.memories.1) : KeepsForm (execChainUnpark eng run s) := by
  unfold execChainUnpark
  dsimp only
  (repeat' split) <;> simp [h]

/-! ### A group's bundles (02 R31, 04 R105, R107) -/

theorem execBundleDecode_keepsForm (r : GRef) {s : State} (h : Canonical s.memories.1) : KeepsForm (execBundleDecode r s) := by
  unfold execBundleDecode
  dsimp only
  (repeat' split) <;> simp [h]

theorem execRotate_keepsForm (r : GRef) {s : State} (h : Canonical s.memories.1) : KeepsForm (execRotate r s) := by
  unfold execRotate
  (repeat' split) <;> simp [h]

theorem execLoopEnd_keepsForm (r : GRef) {s : State} (h : Canonical s.memories.1) : KeepsForm (execLoopEnd r s) := by
  unfold execLoopEnd
  (repeat' split) <;> simp [h]

theorem execPartCompletion_keepsForm (r : GRef) (idx : Nat) {s : State} (h : Canonical s.memories.1) : KeepsForm (execPartCompletion r idx s) := by
  unfold execPartCompletion
  (repeat' split) <;> simp [h]

/-! ### Queues and their nodes (15 R396 to R406) -/

theorem execProdUpdate_keepsForm (q : Nat) {s : State} (h : Canonical s.memories.1) : KeepsForm (execProdUpdate q s) := by
  unfold execProdUpdate
  dsimp only
  (repeat' split) <;> simp [h]

theorem execRecordFetch_keepsForm (q : Nat) {s : State} (h : Canonical s.memories.1) : KeepsForm (execRecordFetch q s) := by
  unfold execRecordFetch
  dsimp only
  (repeat' split) <;> simp [h]

theorem execNodeFinal_keepsForm (q : Nat) (slot : Nat) {s : State} (h : Canonical s.memories.1) : KeepsForm (execNodeFinal q slot s) := by
  unfold execNodeFinal
  split
  · simp [h]
  · split
    · simp [h]
    · split
      · simp [h]
      · dsimp only
        split_ifs
        · simp [h]
        · simp [h]
        · split
          · simp [h]
          · rename_i hw
            have ht := State.writeWord_canonical h (.inr hw)
            simp [ht]
          · rename_i hw
            have ht := State.writeWord_canonical h (.inl hw)
            simp [ht]

theorem execLaunch_keepsForm (q : Nat) (slot : Nat) {s : State} (h : Canonical s.memories.1) : KeepsForm (execLaunch q slot s) := by
  unfold execLaunch
  split <;> simp [h]

theorem execIlaunch_keepsForm (q : Nat) (slot : Nat) {s : State} (h : Canonical s.memories.1) : KeepsForm (execIlaunch q slot s) := by
  unfold execIlaunch
  split <;> simp [h]

theorem execOuting_keepsForm (q : Nat) (slot : Nat) {s : State} (h : Canonical s.memories.1) : KeepsForm (execOuting q slot s) := by
  unfold execOuting
  split <;> simp [h]

theorem execOutingRetry_keepsForm (q : Nat) (slot : Nat) {s : State} (h : Canonical s.memories.1) : KeepsForm (execOutingRetry q slot s) := by
  unfold execOutingRetry
  (repeat' split) <;> simp [h]

theorem execCopyNode_keepsForm (q : Nat) (slot : Nat) {s : State} (h : Canonical s.memories.1) : KeepsForm (execCopyNode q slot s) := by
  unfold execCopyNode
  dsimp only
  (repeat' split) <;> simp [h]

theorem execSignalStore_keepsForm (q : Nat) (slot : Nat) {s : State} (h : Canonical s.memories.1) : KeepsForm (execSignalStore q slot s) := by
  unfold execSignalStore
  (repeat' split) <;> simp [h]

theorem execSignalAdd_keepsForm (q : Nat) (slot : Nat) {s : State} (h : Canonical s.memories.1) : KeepsForm (execSignalAdd q slot s) := by
  unfold execSignalAdd
  (repeat' split) <;> simp [h]

theorem execSignalOr_keepsForm (q : Nat) (slot : Nat) {s : State} (h : Canonical s.memories.1) : KeepsForm (execSignalOr q slot s) := by
  unfold execSignalOr
  (repeat' split) <;> simp [h]

theorem execWaitNode_keepsForm (q : Nat) (slot : Nat) {s : State} (h : Canonical s.memories.1) : KeepsForm (execWaitNode q slot s) := by
  unfold execWaitNode
  (repeat' split) <;> simp [h]

theorem execWaitSatisfied_keepsForm (q : Nat) (slot : Nat) {s : State} (h : Canonical s.memories.1) : KeepsForm (execWaitSatisfied q slot s) := by
  unfold execWaitSatisfied
  (repeat' split) <;> simp [h]

theorem execCondNode_keepsForm (q : Nat) (slot : Nat) {s : State} (h : Canonical s.memories.1) : KeepsForm (execCondNode q slot s) := by
  unfold execCondNode
  (repeat' split) <;> simp [h]

theorem execLoopNode_keepsForm (q : Nat) (slot : Nat) {s : State} (h : Canonical s.memories.1) : KeepsForm (execLoopNode q slot s) := by
  unfold execLoopNode
  (repeat' split) <;> simp [h]

theorem execLoopIteration_keepsForm (q : Nat) (slot : Nat) {s : State} (h : Canonical s.memories.1) : KeepsForm (execLoopIteration q slot s) := by
  unfold execLoopIteration
  dsimp only
  (repeat' split) <;> simp [h]

theorem execQueueEventPost_keepsForm (q : Nat) {s : State} (h : Canonical s.memories.1) : KeepsForm (execQueueEventPost q s) := by
  unfold execQueueEventPost
  split
  · simp [h]
  · split
    · simp [h]
    · split
      · simp [h]
      · dsimp only
        split_ifs
        · simp [h]
        · simp [h]
        · split
          · simp [h]
          · simp [h]
          · rw [keepsForm_next]
            refine State.putState_canonical (State.putCtx_canonical ?_ ..) _
            simp [h]

theorem execQueueRegister_keepsForm (val : Word) {s : State} (h : Canonical s.memories.1) : KeepsForm (execQueueRegister val s) := by
  unfold execQueueRegister
  extract_lets ctx places
  split
  · simp [h]
  · rw [keepsForm_next]
    refine State.command_canonical h _ _ fun q o t ht => ?_
    split at ht
    · extract_lets x at ht
      split at ht
      · cases ht
      · split at ht
        · cases ht
        · rename_i hn
          rw [← Option.some.inj ht]
          refine State.putRoot_canonical ?_ _
          exact (State.newScope_memories hn).symm ▸ h
    · cases ht

theorem execQueueUnregister_keepsForm (val : Word) {s : State} (h : Canonical s.memories.1) : KeepsForm (execQueueUnregister val s) := by
  unfold execQueueUnregister
  rw [keepsForm_next]
  refine State.command_canonical h _ _ fun q o t ht => ?_
  split at ht
  · cases ht
  · split at ht
    · rw [← Option.some.inj ht]
      simpa using h
    · cases ht

theorem execQueueReset_keepsForm (val : Word) {s : State} (h : Canonical s.memories.1) : KeepsForm (execQueueReset val s) := by
  unfold execQueueReset
  split
  · split
    · simp [h]
    · rw [keepsForm_next]
      refine State.command_canonical h _ _ fun q o t ht => ?_
      dsimp only at ht
      split at ht
      · cases ht
      · split at ht
        · cases ht
        · rename_i hn
          rw [← Option.some.inj ht]
          refine State.putRoot_canonical (State.putCtx_canonical (State.putCtx_canonical ?_ ..) ..) _
          simpa [State.newScope_memories hn] using h
  · rw [keepsForm_next]
    exact State.command_canonical h _ _ fun q o t ht => by cases ht

theorem execQueueSnuffRoot_keepsForm (val : Word) {s : State} (h : Canonical s.memories.1) : KeepsForm (execQueueSnuffRoot val s) := by
  unfold execQueueSnuffRoot
  rw [keepsForm_next]
  refine State.command_canonical h _ _ fun q o t ht => ?_
  split at ht
  · cases ht
  · dsimp only at ht
    split at ht
    · cases ht
    · rw [← Option.some.inj ht]
      simpa using h

/-! ### Tile steps, buffers and links (09 R243 to R251, 10 R273, 12 R306 to R312) -/

theorem execTileStepStart_keepsForm (g : GRef) (wk : WickCopy) {s : State} (h : Canonical s.memories.1) : KeepsForm (execTileStepStart g wk s) := by
  unfold execTileStepStart
  split
  · simp [h]
  · dsimp only
    split
    · simp [h]
    · split
      · rename_i i hi
        cases (_ : Sequencer).copies[i]? <;> simp [h]
      · split
        · simp [h]
        · split
          · simp [h]
          · simp [h]
          · split
            · simp [h]
            · split
              · split
                · simp [h]
                · split
                  · simp [h]
                  · rename_i st e va p hr
                    cases va <;> cases p <;> simp [h]
                  · simp [h]
              · simp [h]

theorem execTileStepCommit_keepsForm (g : GRef) (wk : Nat) {s : State} (h : Canonical s.memories.1) : KeepsForm (execTileStepCommit g wk s) := by
  unfold execTileStepCommit
  dsimp only
  (repeat' split) <;> simp [h]

theorem execBufferAcknowledge_keepsForm (g : GRef) (wk : Nat) (buf : Nat) {s : State} (h : Canonical s.memories.1) :
    KeepsForm (execBufferAcknowledge g wk buf s) := by
  unfold execBufferAcknowledge
  dsimp only
  (repeat' split) <;> simp [h]

theorem execKvshootComplete_keepsForm (g : GRef) (wk : Nat) {s : State} (h : Canonical s.memories.1) : KeepsForm (execKvshootComplete g wk s) := by
  unfold execKvshootComplete
  dsimp only
  (repeat' split) <;> simp [h]

theorem execChunkRequest_keepsForm (g : GRef) (wk : Nat) (chunk : Nat) (dst : Nat) {s : State} (h : Canonical s.memories.1) :
    KeepsForm (execChunkRequest g wk chunk dst s) := by
  unfold execChunkRequest
  dsimp only
  (repeat' split) <;> simp [h]

theorem execChunkReceive_keepsForm (g : GRef) (wk : Nat) (msg : ChunkMsg) {s : State} (h : Canonical s.memories.1) :
    KeepsForm (execChunkReceive g wk msg s) := by
  unfold execChunkReceive
  dsimp only
  (repeat' split) <;> simp [h]

theorem execSendAcknowledgement_keepsForm (g : GRef) (wk : Nat) (chunk : ChunkSend) {s : State} (h : Canonical s.memories.1) :
    KeepsForm (execSendAcknowledgement g wk chunk s) := by
  unfold execSendAcknowledgement
  (repeat' split) <;> simp [h]

theorem execChunkRetry_keepsForm (_g : GRef) (_wk : Nat) (_chunk : Nat) {s : State} (h : Canonical s.memories.1) :
    KeepsForm (execChunkRetry _g _wk _chunk s) := by
  simp [execChunkRetry, h]

theorem execLaneRetrain_keepsForm (_lane : Nat) {s : State} (h : Canonical s.memories.1) : KeepsForm (execLaneRetrain _lane s) := by
  simp [execLaneRetrain, h]

theorem execLostLink_keepsForm (g : GRef) (wk : Nat) {s : State} (h : Canonical s.memories.1) : KeepsForm (execLostLink g wk s) := by
  simp [execLostLink, h]

theorem execPeerNotice_keepsForm (g : GRef) (wk : Nat) {s : State} (h : Canonical s.memories.1) : KeepsForm (execPeerNotice g wk s) := by
  simp [execPeerNotice, h]

/-! ### Leases and matrix steps (08 R207 to R233) -/

theorem execLeaseGrant_keepsForm (core : Nat) {s : State} (h : Canonical s.memories.1) : KeepsForm (execLeaseGrant core s) := by
  unfold execLeaseGrant
  dsimp only
  (repeat' split) <;> simp [h]

theorem execLeaseTimeout_keepsForm (g : GRef) {s : State} (h : Canonical s.memories.1) : KeepsForm (execLeaseTimeout g s) := by
  unfold execLeaseTimeout
  (repeat' split) <;> simp [h]

theorem execMatrixStepStart_keepsForm (core : Nat) (step : Nat) {s : State} (h : Canonical s.memories.1) :
    KeepsForm (execMatrixStepStart core step s) := by
  unfold execMatrixStepStart
  dsimp only
  (repeat' split) <;> simp [h]

theorem execMatrixStepCommit_keepsForm (core : Nat) (step : Nat) {s : State} (h : Canonical s.memories.1) :
    KeepsForm (execMatrixStepCommit core step s) := by
  unfold execMatrixStepCommit
  dsimp only
  (repeat' split) <;> simp [h]

/-! ### Traps and answers (14 R363, 15 R404) -/

theorem execAsyncTrapTaken_keepsForm (g : GRef) {s : State} (h : Canonical s.memories.1) : KeepsForm (execAsyncTrapTaken g s) := by
  unfold execAsyncTrapTaken
  (repeat' split) <;> simp [h]

theorem execAnswerResume_keepsForm (q : Nat) {s : State} (h : Canonical s.memories.1) : KeepsForm (execAnswerResume q s) := by
  simp [execAnswerResume, h]

theorem execAnswerSkip_keepsForm (q : Nat) {s : State} (h : Canonical s.memories.1) : KeepsForm (execAnswerSkip q s) := by
  simp [execAnswerSkip, h]

theorem execAnswerAbort_keepsForm (q : Nat) {s : State} (h : Canonical s.memories.1) : KeepsForm (execAnswerAbort q s) := by
  simp [execAnswerAbort, h]

theorem execAnswerInvalid_keepsForm (q : Nat) {s : State} (h : Canonical s.memories.1) : KeepsForm (execAnswerInvalid q s) := by
  unfold execAnswerInvalid
  (repeat' split) <;> simp [h]

/-! ### Management and boot (22 R439 to R446) -/

theorem execPartWrite_keepsForm (val : Word) {s : State} (h : Canonical s.memories.1) : KeepsForm (execPartWrite val s) := by
  unfold execPartWrite
  rw [keepsForm_next]
  refine State.inReady_canonical h fun t ht => ?_
  split <;> simp [ht]

theorem execRankWrite_keepsForm (val : Word) {s : State} (h : Canonical s.memories.1) : KeepsForm (execRankWrite val s) := by
  unfold execRankWrite
  rw [keepsForm_next]
  refine State.inReady_canonical h fun t ht => ?_
  split <;> simp [ht]

theorem execPthWrite_keepsForm (p : Nat) (val : Word) {s : State} (h : Canonical s.memories.1) : KeepsForm (execPthWrite p val s) := by
  simp [execPthWrite, h]

theorem execManagementRegisterWrite_keepsForm (reg : MgmtReg) (val : Word) {s : State} (h : Canonical s.memories.1) :
    KeepsForm (execManagementRegisterWrite reg val s) := by
  unfold execManagementRegisterWrite
  (repeat' split) <;> simp [h]

theorem execDeniedAccess_keepsForm (acc : HostAccess) {s : State} (h : Canonical s.memories.1) : KeepsForm (execDeniedAccess acc s) := by
  unfold execDeniedAccess
  split <;> simp [h]

theorem execDeviceReset_keepsForm {s : State} (h : Canonical s.memories.1) : KeepsForm (execDeviceReset s) := by
  unfold execDeviceReset
  split <;> simp [h]

theorem execBootRomHash_keepsForm {s : State} (h : Canonical s.memories.1) : KeepsForm (execBootRomHash s) := by
  unfold execBootRomHash
  split <;> simp [h]

theorem execSlotChoice_keepsForm {s : State} (h : Canonical s.memories.1) : KeepsForm (execSlotChoice s) := by
  unfold execSlotChoice
  split <;> simp [h]

theorem execFirmwareLoad_keepsForm {s : State} (h : Canonical s.memories.1) : KeepsForm (execFirmwareLoad s) := by
  unfold execFirmwareLoad
  split <;> simp [h]

theorem execHbmTrain_keepsForm (failed : List LampUnit) {s : State} (h : Canonical s.memories.1) : KeepsForm (execHbmTrain failed s) := by
  unfold execHbmTrain
  split <;> simp [h]

theorem execMboxNone_keepsForm (val : Word) {s : State} (h : Canonical s.memories.1) : KeepsForm (execMboxNone val s) := by
  unfold execMboxNone
  split <;> simp [h]

theorem execMboxVerifyWrite_keepsForm (val : Word) {s : State} (h : Canonical s.memories.1) : KeepsForm (execMboxVerifyWrite val s) := by
  unfold execMboxVerifyWrite
  split <;> simp [h]

theorem execMboxClear_keepsForm (val : Word) {s : State} (h : Canonical s.memories.1) : KeepsForm (execMboxClear val s) := by
  unfold execMboxClear
  split <;> simp [h]

theorem execMboxRefused_keepsForm (val : Word) {s : State} (h : Canonical s.memories.1) : KeepsForm (execMboxRefused val s) := by
  unfold execMboxRefused
  split <;> simp [h]

theorem execRecoveryImageVerified_keepsForm {s : State} (h : Canonical s.memories.1) : KeepsForm (execRecoveryImageVerified s) := by
  unfold execRecoveryImageVerified
  dsimp only
  (repeat' split) <;> simp [h]

theorem execPowerLoss_keepsForm {s : State} (h : Canonical s.memories.1) : KeepsForm (execPowerLoss s) := by
  simp [execPowerLoss, h]

theorem execAttNonceWrite_keepsForm (nonce : BitVec 256) {s : State} (h : Canonical s.memories.1) : KeepsForm (execAttNonceWrite nonce s) := by
  unfold execAttNonceWrite
  rw [keepsForm_next]
  refine State.inReady_canonical h fun t ht => ?_
  split <;> simp [ht]

theorem execAttestationRequest_keepsForm {s : State} (h : Canonical s.memories.1) : KeepsForm (execAttestationRequest s) := by
  simp [execAttestationRequest, h]

theorem execAttestationDone_keepsForm {s : State} (h : Canonical s.memories.1) : KeepsForm (execAttestationDone s) := by
  unfold execAttestationDone
  (repeat' split) <;> simp [h]

theorem execPowerSample_keepsForm (watts : Nat) {s : State} (h : Canonical s.memories.1) : KeepsForm (execPowerSample watts s) := by
  unfold execPowerSample
  split <;> simp [h]

theorem execThermalTrip_keepsForm (die : Nat) (celsius : Nat) {s : State} (h : Canonical s.memories.1) :
    KeepsForm (execThermalTrip die celsius s) := by
  simp [execThermalTrip, h]

theorem execPtmExchange_keepsForm (host : Nat) {s : State} (h : Canonical s.memories.1) : KeepsForm (execPtmExchange host s) := by
  simp [execPtmExchange, h]

/-! ### Tasks, groups and SNUFF (13 R324 to R351) -/

theorem execAdmission_keepsForm (task : Nat) (place : List Nat) (writes : List PteWrite) {s : State} (h : Canonical s.memories.1) :
    KeepsForm (execAdmission task place writes s) := by
  unfold execAdmission
  dsimp only
  (repeat' split) <;> simp [h]

theorem execGroupStart_keepsForm (core : Nat) {s : State} (h : Canonical s.memories.1) : KeepsForm (execGroupStart core s) := by
  unfold execGroupStart
  dsimp only
  (repeat' split) <;> simp [h]

theorem execIssueAgePromotion_keepsForm (g : GRef) {s : State} (h : Canonical s.memories.1) : KeepsForm (execIssueAgePromotion g s) := by
  unfold execIssueAgePromotion
  (repeat' split) <;> simp [h]

theorem execYieldExpiry_keepsForm (g : GRef) {s : State} (h : Canonical s.memories.1) : KeepsForm (execYieldExpiry g s) := by
  unfold execYieldExpiry
  (repeat' split) <;> simp [h]

theorem execOverlayLoad_keepsForm (g : GRef) {s : State} (h : Canonical s.memories.1) : KeepsForm (execOverlayLoad g s) := by
  unfold execOverlayLoad
  (repeat' split) <;> simp [h]

theorem execPreemptionDecision_keepsForm (task : Nat) (victim : Nat) (cores : List Nat) {s : State} (h : Canonical s.memories.1) :
    KeepsForm (execPreemptionDecision task victim cores s) := by
  unfold execPreemptionDecision
  (repeat' split) <;> simp [h]

theorem execPreemptionLanding_keepsForm (g : GRef) {s : State} (h : Canonical s.memories.1) : KeepsForm (execPreemptionLanding g s) := by
  unfold execPreemptionLanding
  (repeat' split) <;> simp [h]

theorem execPreemptionSave_keepsForm (core : Nat) {s : State} (h : Canonical s.memories.1) : KeepsForm (execPreemptionSave core s) := by
  unfold execPreemptionSave
  dsimp only
  (repeat' split) <;> simp [h]

theorem execResumption_keepsForm (task : Nat) (core : Nat) {s : State} (h : Canonical s.memories.1) : KeepsForm (execResumption task core s) := by
  unfold execResumption
  dsimp only
  split
  · split
    · simp [h]
    · rw [keepsForm_next]
      refine foldl_canonical (fun u k hu => ?_) _ ?_
      · exact State.lateAnswer_canonical (by simpa using hu) _
      · split <;> simpa using h
  · simp [h]

theorem execGroupRetire_keepsForm (core : Nat) (eng : Nat) {s : State} (h : Canonical s.memories.1) : KeepsForm (execGroupRetire core eng s) := by
  unfold execGroupRetire
  dsimp only
  (repeat' split) <;> simp [h]

theorem execRetirementTrackerDrain_keepsForm (core : Nat) (entry : Nat) {s : State} (h : Canonical s.memories.1) :
    KeepsForm (execRetirementTrackerDrain core entry s) := by
  unfold execRetirementTrackerDrain
  dsimp only
  (repeat' split) <;> simp [h]

theorem execTaskEnd_keepsForm (task : Nat) {s : State} (h : Canonical s.memories.1) : KeepsForm (execTaskEnd task s) := by
  unfold execTaskEnd
  split
  · simp [h]
  · dsimp only
    have hf : Canonical (State.flushL1 s).memories.1 := by simpa using h
    split_ifs
    · simp [h]
    · simp [h]
    · split
      · simp [h]
      · rename_i hw
        have ht := State.writeWord_canonical hf (.inr hw)
        simp [ht]
      · rename_i hw
        have ht := State.writeWord_canonical hf (.inl hw)
        simp [ht]

theorem execSnuffArrival_keepsForm (snuff : Nat) (site : SnuffSite) {s : State} (h : Canonical s.memories.1) :
    KeepsForm (execSnuffArrival snuff site s) := by
  unfold execSnuffArrival
  dsimp only
  (repeat' split) <;> simp [h]

theorem execSnuffComplete_keepsForm (snuff : Nat) {s : State} (h : Canonical s.memories.1) : KeepsForm (execSnuffComplete snuff s) := by
  unfold execSnuffComplete
  split
  · simp [h]
  · dsimp only
    split_ifs
    · simp [h]
    · rw [keepsForm_next]
      refine foldl_canonical (fun t a ht => ?_) _ h
      split
      · exact ht
      · rename_i hw
        have hu := State.writeWord_canonical ht (.inr hw)
        simp [hu]
      · rename_i hw
        exact State.writeWord_canonical ht (.inl hw)

theorem execLampTest_keepsForm (unit : LampUnit) (pass : Bool) {s : State} (h : Canonical s.memories.1) : KeepsForm (execLampTest unit pass s) := by
  unfold execLampTest
  dsimp only
  (repeat' split) <;> simp [h]

/-! ### Translation (14 R371 to R378) -/

theorem execPageWalk_keepsForm (u : XUnit) (asid : Nat) (va : Nat) (wr : Bool) {s : State} (h : Canonical s.memories.1) :
    KeepsForm (execPageWalk u asid va wr s) := by
  unfold execPageWalk
  dsimp only
  split
  · simp [h]
  · split
    · cases s.cached u asid va <;> simp [h]
    · simp [h]
    · split
      · simp [h]
      · (repeat' split) <;> simp [h]

theorem execDemandFaultService_keepsForm (die : Nat) (serviced : Bool) (writes : List PteWrite) {s : State} (h : Canonical s.memories.1) :
    KeepsForm (execDemandFaultService die serviced writes s) := by
  unfold execDemandFaultService
  dsimp only
  split
  · simp [h]
  · split
    · simp [h]
    · split
      · split
        · simp [h]
        · rename_i hw
          have ht := State.serviceWrites_canonical (by simpa using h) hw
          split <;> simp [h, ht]
      · simp [h]

theorem execAtsTranslationResponse_keepsForm (asid : Nat) (va : Nat) (found : Bool) (wr : Bool) {s : State} (h : Canonical s.memories.1) :
    KeepsForm (execAtsTranslationResponse asid va found wr s) := by
  unfold execAtsTranslationResponse
  split
  · simp [h]
  · rw [keepsForm_next]
    refine foldl_canonical (fun u k hu => ?_) _ h
    extract_lets d mine u1
    have h1 : Canonical u1.memories.1 := by simpa [u1] using hu
    split
    · refine foldl_canonical (fun v f hv => ?_) _ h1
      split
      · extract_lets v0 v1 v2
        have h2 : Canonical v2.memories.1 := foldl_canonical (fun w x hw => by simpa using hw) _ (by simpa [v1] using hv)
        split
        · exact h2
        · split
          · simpa using h2
          · simpa using hv
      · exact hv
    · exact h1

theorem execPriResponse_keepsForm (asid : Nat) (va : Nat) (ok : Bool) {s : State} (h : Canonical s.memories.1) :
    KeepsForm (execPriResponse asid va ok s) := by
  unfold execPriResponse
  split <;> simp [h]

theorem execAtsInvalidation_keepsForm (asid : Nat) (va : Nat) {s : State} (h : Canonical s.memories.1) :
    KeepsForm (execAtsInvalidation asid va s) := by
  unfold execAtsInvalidation
  extract_lets x busy t
  have ht : Canonical t.memories.1 := by
    rw [State.dropEntries_memories_fst, State.discardSteps_memories_fst]
    exact h
  clear_value x busy t
  split
  · exact (keepsForm_next _).mpr h
  · exact (keepsForm_next _).mpr (State.dies_canonical ht _)

theorem execMappingChange_keepsForm (asid : Nat) (va : Nat) (revoke : List PteWrite) (move : Option (Nat × Nat × Nat)) (install : List PteWrite)
    {s : State} (h : Canonical s.memories.1) :
    KeepsForm (execMappingChange asid va revoke move install s) := by
  unfold execMappingChange
  extract_lets x t0 t1 t2 l t3
  have h1 : Canonical t1.memories.1 := by
    dsimp only [t1]
    (repeat' split) <;> simp [h, t0]
  have h3 : Canonical t3.memories.1 := copyHostPages_canonical (State.pteWrites_canonical h1 _) ..
  clear_value t3
  split
  · simp [h]
  · simpa using h3

/-! ### Every instruction, and a step -/

/-- WHAT AN ISSUE KEEPS: a part whose effect keeps the form keeps it however it issues, waits or traps. -/
theorem runPart_keepsForm {k : Slot} {i : Instr} {s : State} {f : State → GRef → Group → Part → State} (h : Canonical s.memories.1)
    (hf : ∀ r g p, Canonical (f s r g p).memories.1) : KeepsForm (runPart k i s f) := by
  rcases runPart_cases k i s f with hr | ⟨g, p, -, hr | ⟨code, info, addr, -, s', hs, hr⟩ | ⟨code, info, -, hr⟩ | hr | ⟨-, -, hr⟩⟩ <;>
    rw [hr, keepsForm_next]
  · exact h
  · simpa using h
  · rcases hs with rfl | rfl | rfl <;> simpa using h
  · simpa using h
  · simpa using h
  · simpa using hf ..

theorem execBinit_keepsForm (x : BInit) {s : State} (h : Canonical s.memories.1) : KeepsForm (execBinit x s) := by
  refine runPart_keepsForm h fun r g p => ?_
  split
  · simpa using h
  · simpa using State.binit_canonical h ..

theorem execBarr_keepsForm (x : R2) {s : State} (h : Canonical s.memories.1) : KeepsForm (execBarr x s) := by
  refine runPart_keepsForm h fun r g p => ?_
  split
  · simpa using h
  · simpa using State.barr_canonical h ..

theorem exec_event_keepsForm {i : Instr} (hi : slotOf i = none) {s : State} (h : Canonical s.memories.1) : KeepsForm (exec i s) := by
  cases i with
  | bundleDecode => exact execBundleDecode_keepsForm _ h
  | loopEnd => exact execLoopEnd_keepsForm _ h
  | rotate => exact execRotate_keepsForm _ h
  | tagGrant => exact execTagGrant_keepsForm _ h
  | loadPerformed => exact execLoadPerformed_keepsForm _ _ _ _ h
  | storePerformed => exact execStorePerformed_keepsForm _ _ _ h
  | writeAcknowledgement => exact execWriteAcknowledgement_keepsForm _ _ h
  | atomicPerformed => exact execAtomicPerformed_keepsForm _ _ h
  | monwTest => exact execMonwTest_keepsForm _ h
  | pageWalk => exact execPageWalk_keepsForm _ _ _ _ h
  | demandFaultService => exact execDemandFaultService_keepsForm _ _ _ h
  | mappingChange => exact execMappingChange_keepsForm _ _ _ _ _ h
  | atsInvalidation => exact execAtsInvalidation_keepsForm _ _ h
  | priResponse => exact execPriResponse_keepsForm _ _ _ h
  | asyncTrapTaken => exact execAsyncTrapTaken_keepsForm _ h
  | answerResume => exact execAnswerResume_keepsForm _ h
  | answerSkip => exact execAnswerSkip_keepsForm _ h
  | answerAbort => exact execAnswerAbort_keepsForm _ h
  | answerInvalid => exact execAnswerInvalid_keepsForm _ h
  | leaseGrant => exact execLeaseGrant_keepsForm _ h
  | leaseTimeout => exact execLeaseTimeout_keepsForm _ h
  | matrixStepStart => exact execMatrixStepStart_keepsForm _ _ h
  | matrixStepCommit => exact execMatrixStepCommit_keepsForm _ _ h
  | tileStepStart => exact execTileStepStart_keepsForm _ _ h
  | tileStepCommit => exact execTileStepCommit_keepsForm _ _ h
  | kvshootComplete => exact execKvshootComplete_keepsForm _ _ h
  | bufferAcknowledge => exact execBufferAcknowledge_keepsForm _ _ _ h
  | chunkRequest => exact execChunkRequest_keepsForm _ _ _ _ h
  | chunkReceive => exact execChunkReceive_keepsForm _ _ _ h
  | chunkRetry g wk chunk => exact execChunkRetry_keepsForm g wk chunk h
  | laneRetrain lane => exact execLaneRetrain_keepsForm lane h
  | lostLink => exact execLostLink_keepsForm _ _ h
  | peerNotice => exact execPeerNotice_keepsForm _ _ h
  | copyStart => exact execCopyStart_keepsForm _ _ h
  | copyChunk => exact execCopyChunk_keepsForm _ _ h
  | completionStamp => exact execCompletionStamp_keepsForm _ _ h
  | chainRecordRead => exact execChainRecordRead_keepsForm _ _ h
  | chainUnpark => exact execChainUnpark_keepsForm _ _ h
  | admission => exact execAdmission_keepsForm _ _ _ h
  | groupStart => exact execGroupStart_keepsForm _ h
  | issueAgePromotion => exact execIssueAgePromotion_keepsForm _ h
  | yieldExpiry => exact execYieldExpiry_keepsForm _ h
  | preemptionDecision => exact execPreemptionDecision_keepsForm _ _ _ h
  | preemptionLanding => exact execPreemptionLanding_keepsForm _ h
  | preemptionSave => exact execPreemptionSave_keepsForm _ h
  | resumption => exact execResumption_keepsForm _ _ h
  | overlayLoad => exact execOverlayLoad_keepsForm _ h
  | groupRetire => exact execGroupRetire_keepsForm _ _ h
  | retirementTrackerDrain => exact execRetirementTrackerDrain_keepsForm _ _ h
  | taskEnd => exact execTaskEnd_keepsForm _ h
  | snuffArrival => exact execSnuffArrival_keepsForm _ _ h
  | snuffComplete => exact execSnuffComplete_keepsForm _ h
  | lampTest => exact execLampTest_keepsForm _ _ h
  | prodUpdate => exact execProdUpdate_keepsForm _ h
  | recordFetch => exact execRecordFetch_keepsForm _ h
  | nodeFinal => exact execNodeFinal_keepsForm _ _ h
  | launch => exact execLaunch_keepsForm _ _ h
  | ilaunch => exact execIlaunch_keepsForm _ _ h
  | outing => exact execOuting_keepsForm _ _ h
  | outingRetry => exact execOutingRetry_keepsForm _ _ h
  | copyNode => exact execCopyNode_keepsForm _ _ h
  | signalStore => exact execSignalStore_keepsForm _ _ h
  | signalAdd => exact execSignalAdd_keepsForm _ _ h
  | signalOr => exact execSignalOr_keepsForm _ _ h
  | waitNode => exact execWaitNode_keepsForm _ _ h
  | waitSatisfied => exact execWaitSatisfied_keepsForm _ _ h
  | condNode => exact execCondNode_keepsForm _ _ h
  | loopNode => exact execLoopNode_keepsForm _ _ h
  | loopIteration => exact execLoopIteration_keepsForm _ _ h
  | queueEventPost => exact execQueueEventPost_keepsForm _ h
  | queueRegister => exact execQueueRegister_keepsForm _ h
  | queueUnregister => exact execQueueUnregister_keepsForm _ h
  | queueReset => exact execQueueReset_keepsForm _ h
  | queueSnuffRoot => exact execQueueSnuffRoot_keepsForm _ h
  | partWrite => exact execPartWrite_keepsForm _ h
  | rankWrite => exact execRankWrite_keepsForm _ h
  | pthWrite => exact execPthWrite_keepsForm _ _ h
  | managementRegisterWrite => exact execManagementRegisterWrite_keepsForm _ _ h
  | deniedAccess => exact execDeniedAccess_keepsForm _ h
  | mboxNone => exact execMboxNone_keepsForm _ h
  | mboxVerifyWrite => exact execMboxVerifyWrite_keepsForm _ h
  | mboxClear => exact execMboxClear_keepsForm _ h
  | mboxRefused => exact execMboxRefused_keepsForm _ h
  | recoveryImageVerified => exact execRecoveryImageVerified_keepsForm h
  | attNonceWrite => exact execAttNonceWrite_keepsForm _ h
  | attestationRequest => exact execAttestationRequest_keepsForm h
  | attestationDone => exact execAttestationDone_keepsForm h
  | deviceReset => exact execDeviceReset_keepsForm h
  | bootRomHash => exact execBootRomHash_keepsForm h
  | slotChoice => exact execSlotChoice_keepsForm h
  | firmwareLoad => exact execFirmwareLoad_keepsForm h
  | hbmTrain => exact execHbmTrain_keepsForm _ h
  | powerSample => exact execPowerSample_keepsForm _ h
  | thermalTrip => exact execThermalTrip_keepsForm _ _ h
  | ptmExchange => exact execPtmExchange_keepsForm _ h
  | powerLoss => exact execPowerLoss_keepsForm h
  | partCompletion => exact execPartCompletion_keepsForm _ _ h
  | atsTranslationResponse => exact execAtsTranslationResponse_keepsForm _ _ _ _ h
  | sendAcknowledgement => exact execSendAcknowledgement_keepsForm _ _ _ h
  | hostStoreAcknowledgement => exact execHostStoreAcknowledgement_keepsForm _ _ h
  | _ => cases hi

theorem exec_slot_keepsForm {i : Instr} {k : Slot} (hi : slotOf i = some k) {s : State} (h : Canonical s.memories.1) :
    KeepsForm (exec i s) := by
  by_cases hinit : ∃ x, i = .binit x
  · obtain ⟨x, rfl⟩ := hinit
    exact execBinit_keepsForm x h
  · by_cases harr : ∃ x, i = .barr x
    · obtain ⟨x, rfl⟩ := harr
      exact execBarr_keepsForm x h
    · intro t ht
      have hm := exec_slot_memories hi (fun x hx => hinit ⟨x, hx⟩) (fun x hx => harr ⟨x, hx⟩) ht
      exact hm ▸ h

theorem exec_keepsForm (i : Instr) {s : State} (h : Canonical s.memories.1) : KeepsForm (exec i s) := by
  cases hi : slotOf i with
  | none => exact exec_event_keepsForm hi h
  | some k => exact exec_slot_keepsForm hi h

theorem State.issueEach_keepsForm (seq : Nat) (l : List Slot) {s : State} (h : Canonical s.memories.1) : KeepsForm (s.issueEach seq l) := by
  induction l generalizing s with
  | nil => exact (keepsForm_next s).mpr h
  | cons k rest ih =>
    unfold State.issueEach
    split
    · split
      · split
        · rename_i ht
          exact ih ((exec_keepsForm _ h).canonical ht)
        · exact exec_keepsForm _ h
      · exact ih h
    · exact ih h

theorem State.issueSlot_keepsForm (k : Slot) {s : State} (h : Canonical s.memories.1) : KeepsForm (s.issueSlot k) := by
  unfold State.issueSlot
  split
  · exact (keepsForm_next s).mpr h
  · have hj : ∀ seq l, KeepsForm (State.issueEach seq l { s with joint := some seq }) := fun seq l => State.issueEach_keepsForm seq l h
    split_ifs
    · exact exec_keepsForm _ h
    · split
      · rename_i ht
        have hc := (hj _ _).canonical ht
        exact (keepsForm_next _).mpr hc
      · exact hj _ _
    · exact (keepsForm_next s).mpr h
    · exact State.issueEach_keepsForm _ _ h

theorem State.passNops_keepsForm (l : List Slot) {s : State} (h : Canonical s.memories.1) : KeepsForm (s.passNops l) := by
  induction l generalizing s with
  | nil => exact (keepsForm_next s).mpr h
  | cons k rest ih =>
    unfold State.passNops
    split
    · split
      · split
        · rename_i ht
          exact ih ((State.issueSlot_keepsForm k h).canonical ht)
        · exact State.issueSlot_keepsForm k h
      · exact ih h
    · exact ih h

theorem State.issueNext_keepsForm {s : State} (h : Canonical s.memories.1) : KeepsForm s.issueNext := by
  unfold State.issueNext
  split
  · rename_i ht
    have ht := (State.passNops_keepsForm slots h).canonical ht
    split
    · exact State.issueSlot_keepsForm _ ht
    · exact (keepsForm_next _).mpr ht
  · exact State.passNops_keepsForm slots h

theorem State.defaultTurn_keepsForm {s : State} (h : Canonical s.memories.1) : KeepsForm s.defaultTurn := by
  have hp : KeepsForm (.next (s.pass 1)) := by simpa using h
  unfold State.defaultTurn
  split
  · exact hp
  · split_ifs
    · exact execPartCompletion_keepsForm _ _ h
    · exact execRotate_keepsForm _ h
    · exact execLoopEnd_keepsForm _ h
    · exact State.issueNext_keepsForm h
    · split
      · rename_i ht
        exact State.issueNext_keepsForm ((execBundleDecode_keepsForm _ h).canonical ht)
      · exact execBundleDecode_keepsForm _ h
    · exact hp

theorem State.act_keepsForm (a : Act) {s : State} (h : Canonical s.memories.1) : KeepsForm (s.act a) := by
  cases a with
  | part g k => exact State.issueSlot_keepsForm (s := { s with cur := g }) k h
  | event i =>
    unfold State.act
    dsimp only
    split
    · exact (keepsForm_next s).mpr h
    · exact exec_keepsForm i h
  | _ => simp [State.act, h]

theorem step_keepsForm {s : State} (h : Canonical s.memories.1) : KeepsForm (step s) := by
  unfold step
  split
  · exact State.act_keepsForm _ (by simpa using h)
  · exact State.defaultTurn_keepsForm h

end Sys2Proof.Machine

namespace Sys2Proof.Claims

open Sys2Proof.Machine

/-- Settles O48: every operation that writes device memory or host memory keeps the form, and a step is made of them. -/
theorem stepKeepsCanonical : Obligations.StepKeepsCanonical := by
  intro s t hs ht
  exact t.memsWf_iff.mpr (step_keepsForm (s.memsWf_iff.mp hs) t ht)

end Sys2Proof.Claims
end

section
/-!
PROOFS. The checks of an access (05 R131, R141, R143, R149), and what loads, stores and atomics put into their streams' queues at issue (05
R153, R155, R161).
-/

namespace Sys2Proof.Machine

/-! ### Translation of an access's pages -/

/-- A span whose every page is translated may be reached. -/
theorem State.span_ok {s : State} {u : XUnit} {asid va n : Nat} {wr : Bool}
    (h : ∀ a ∈ pagesOf va n, ∃ pa host, s.translate u asid a wr = .hit pa host) : s.span u asid va n wr = .ok := by
  have hits : ∀ x ∈ (pagesOf va n).map (fun a => (a, s.translate u asid a wr)), ∃ pa host, x.2 = .hit pa host := by
    intro x hx
    obtain ⟨a, ha, rfl⟩ := List.mem_map.mp hx
    exact h a ha
  have noRefusal : ((pagesOf va n).map (fun a => (a, s.translate u asid a wr))).find? (fun x => decide (x.2 = .refused)) = none := by
    rw [List.find?_eq_none]
    intro x hx
    obtain ⟨pa, host, hit⟩ := hits x hx
    simp [hit]
  have noMiss : ((pagesOf va n).map (fun a => (a, s.translate u asid a wr))).any (fun x => decide (x.2 = .miss)) = false := by
    rw [List.any_eq_false]
    intro x hx
    obtain ⟨pa, host, hit⟩ := hits x hx
    simp [hit]
  simp only [State.span, noRefusal, noMiss]
  rfl

/-! ### The checks of an access -/

section
variable {s : State} {g : Group} {c : AccCheck}

/-- An access that need not be aligned to its size, and may go ahead, passes its checks. -/
theorem State.checkAccess_go (hc : c.strict = false) (h : Claims.accessGoes s g c.ea c.size false c.wr c.lit c.sts) :
    s.checkAccess s.cur g c = .go := by
  unfold State.checkAccess
  rcases h with ⟨pad, lo, hi, small, row⟩ | ⟨notPad, low, high, lit, sts, -, row, pages⟩
  · have has : (s.core s.cur.core).padHas (c.ea % 2 ^ 48) c.size = true := by simp [Core.padHas, -Nat.reducePow, lo, hi]
    have aligned : c.aligned true = true := by
      by_cases hn : c.size = 1024
      · simp [AccCheck.aligned, hc, hn, row rfl hn]
      · simp [AccCheck.aligned, hc, hn, small (.inr hn)]
    simp [-Nat.reducePow, pad, has, aligned]
  · have aligned : c.aligned false = true := by
      by_cases hn : c.size = 1024
      · simp [AccCheck.aligned, hc, hn, row rfl hn]
      · simp [AccCheck.aligned, hc, hn]
    have span : s.span (accessUnit s.cur) g.asid c.ea c.size (s.asWrite s.cur g c) = .ok := by
      refine State.span_ok fun a ha => ?_
      obtain ⟨pa, host, hit, -⟩ := pages a ha
      exact ⟨pa, host, by simpa [State.asWrite, hc, accessUnit] using hit⟩
    simp only [notPad, low, high, aligned, lit, sts, span, hc]
    simp only [Bool.not_true, Bool.or_self, Bool.false_eq_true, if_false]
    split <;> rfl

theorem padHas_of_padAstray {ea n : Nat} (h : Claims.padAstray s ea n) : (s.core s.cur.core).padHas (ea % 2 ^ 48) n = false := by
  obtain ⟨-, h | h⟩ := h <;> simp [Core.padHas, -Nat.reducePow] <;> omega

/-- Where an access is refused at once: in the scratchpad's window outside its bounds or misaligned, elsewhere outside the global window,
misaligned, or where it names the scratchpad alone. -/
theorem State.checkAccess_trap (r : GRef)
    (h : (isPadWin c.ea = true ∧ ((s.core r.core).padHas (c.ea % 2 ^ 48) c.size = false ∨ c.aligned true = false)) ∨
      (isPadWin c.ea = false ∧ (isGlobal c.ea = false ∨ c.aligned false = false ∨ c.lit = true ∨ c.sts = true))) :
    s.checkAccess r g c = accessTrap c.ea := by
  unfold State.checkAccess
  rcases h with ⟨pad, h | h⟩ | ⟨notPad, h | h | h | h⟩ <;> simp [-Nat.reducePow, *]

/-- What refuses a load or a store whichever it is (05 R131, R141). -/
theorem State.checkAccess_trap_of_plain (hc : c.strict = false)
    (h : (¬ isGlobal c.ea ∧ ¬ isPadWin c.ea) ∨ (isPadWin c.ea = true ∧ c.size < 1024 ∧ c.ea % c.size ≠ 0) ∨
      (c.size = 1024 ∧ c.ea % 16 ≠ 0) ∨ Claims.padAstray s c.ea c.size) : s.checkAccess s.cur g c = accessTrap c.ea := by
  refine State.checkAccess_trap s.cur ?_
  rcases h with ⟨notGlobal, notPad⟩ | ⟨pad, small, odd⟩ | ⟨row, odd⟩ | astray
  · exact .inr ⟨by simpa using notPad, .inl (by simpa using notGlobal)⟩
  · exact .inl ⟨pad, .inr (by simp [AccCheck.aligned, hc, odd, Nat.ne_of_lt small])⟩
  · have aligned (b : Bool) : c.aligned b = false := by simp [AccCheck.aligned, hc, row, odd]
    cases pad : isPadWin c.ea
    · exact .inr ⟨rfl, .inr (.inl (aligned false))⟩
    · exact .inl ⟨rfl, .inr (aligned true)⟩
  · exact .inl ⟨astray.1, .inl (padHas_of_padAstray astray)⟩

/-- What refuses an access that must be aligned to its size (05 R131, R141, R161). -/
theorem State.checkAccess_trap_of_strict (hc : c.strict = true)
    (h : (¬ isGlobal c.ea ∧ ¬ isPadWin c.ea) ∨ c.ea % c.size ≠ 0 ∨ Claims.padAstray s c.ea c.size) :
    s.checkAccess s.cur g c = accessTrap c.ea := by
  refine State.checkAccess_trap s.cur ?_
  rcases h with ⟨notGlobal, notPad⟩ | odd | astray
  · exact .inr ⟨by simpa using notPad, .inl (by simpa using notGlobal)⟩
  · have aligned (b : Bool) : c.aligned b = false := by simp [AccCheck.aligned, hc, odd]
    cases pad : isPadWin c.ea
    · exact .inr ⟨rfl, .inr (.inl (aligned false))⟩
    · exact .inl ⟨rfl, .inr (aligned true)⟩
  · exact .inl ⟨astray.1, .inl (padHas_of_padAstray astray)⟩

/-- The checks come first of the rules that hold an access back, so that their trap is taken. -/
theorem then_trap {a b : Verdict} {ea : Nat} (h : a = accessTrap ea) : a.then b = .trap 3 0 ea := by
  subst h
  rfl
end

/-- An address of the scratchpad's window beyond its first 16 MiB lies past the task's part of it (05 R131). -/
theorem padAstray_of_high {s : State} {ea n : Nat} (hn : 0 < n) (pad : isPadWin ea = true) (bnd : (s.core s.cur.core).bnd1 ≤ 2 ^ 14)
    (high : ea / 2 ^ 24 % 2 ^ 24 ≠ 0) : Claims.padAstray s ea n := by
  refine ⟨pad, .inr ?_⟩
  omega

/-! ### Loads and stores (05 R153, R155) -/

section
variable (s : State) (r : GRef) (g : Group) (p : Part)

theorem own_of_loads {x : AM} {e : Instr × AccKind} (he : e ∈ Claims.loads x) : own s r g .A p e.1 = ownLoad s r g x := by
  simp only [Claims.loads, List.mem_cons, List.not_mem_nil, or_false] at he
  rcases he with rfl | rfl | rfl | rfl
  all_goals rfl

theorem own_of_stores {x : AM} {e : Instr × AccKind} (he : e ∈ Claims.stores x) :
    own s r g .A p e.1 = ownStore s r g x (decide (e.2 = .storeS)) := by
  simp only [Claims.stores, List.mem_cons, List.not_mem_nil, or_false] at he
  rcases he with rfl | rfl | rfl | rfl
  all_goals rfl

theorem own_of_atomics {x : AX} {e : Instr × Nat} (he : e ∈ Claims.atomics x) : own s r g .A p e.1 = ownAtomic s r g x := by
  simp only [Claims.atomics, List.mem_cons, List.not_mem_nil, or_false] at he
  rcases he with rfl | rfl | rfl | rfl | rfl | rfl | rfl | rfl | rfl | rfl | rfl
  all_goals rfl

theorem exec_of_loads {x : AM} {e : Instr × AccKind} (he : e ∈ Claims.loads x) :
    exec e.1 s = runPart .A e.1 s (fun s r g p => s.setGroup r (issueLoad s r g p.seq e.2 x)) := by
  simp only [Claims.loads, List.mem_cons, List.not_mem_nil, or_false] at he
  rcases he with rfl | rfl | rfl | rfl
  all_goals rfl

theorem exec_of_stores {x : AM} {e : Instr × AccKind} (he : e ∈ Claims.stores x) :
    exec e.1 s = runPart .A e.1 s (fun s r g p => s.setGroup r (issueStore s r g p.seq e.2 x)) := by
  simp only [Claims.stores, List.mem_cons, List.not_mem_nil, or_false] at he
  rcases he with rfl | rfl | rfl | rfl
  all_goals rfl

theorem exec_of_atomics {x : AX} {e : Instr × Nat} (he : e ∈ Claims.atomics x) :
    exec e.1 s = runPart .A e.1 s (fun s r g p => (issueAtomic s r g p.seq e.2 x).settle r) := by
  simp only [Claims.atomics, List.mem_cons, List.not_mem_nil, or_false] at he
  rcases he with rfl | rfl | rfl | rfl | rfl | rfl | rfl | rfl | rfl | rfl | rfl
  all_goals rfl

@[simp] theorem Group.eaAM_issued (k : Slot) (i : Instr) (x : AM) : (issued g k p i).eaAM x = g.eaAM x := by simp [Group.eaAM]

@[simp] theorem State.pieces_issued (k : Slot) (i : Instr) (ea n : Nat) : s.pieces r (issued g k p i) ea n = s.pieces r g ea n := by
  simp [State.pieces]

theorem storeData_issued (k : Slot) (i : Instr) (x : AM) : storeData r (issued g k p i) x = storeData r g x := by
  simp [storeData, scalarSrc_issued, Group.vreg]

end

/-- What a load puts into its stream's load-address queue. -/
def loadEntry (s : State) (r : GRef) (g : Group) (seq : Nat) (kind : AccKind) (x : AM) : Access :=
  { g.newAccess seq x.st.toNat kind (g.eaAM x) (accessBytes x.size) (s.pieces r g (g.eaAM x) (accessBytes x.size)) with
    dst := loadDst x, wl := AM.wl x, dk := AM.dk x }

/-- What a store puts into its stream's store-address queue. -/
def storeEntry (s : State) (r : GRef) (g : Group) (seq : Nat) (kind : AccKind) (x : AM) : Access :=
  { g.newAccess seq x.st.toNat kind (g.eaAM x) (accessBytes x.size) (s.pieces r g (g.eaAM x) (accessBytes x.size)) with
    data := storeData r g x }

theorem issueLoad_eq (s : State) (r : GRef) (g : Group) (seq : Nat) (kind : AccKind) (x : AM) :
    issueLoad s r g seq kind x = g.pushLoad (loadEntry s r g seq kind x) := rfl

theorem issueStore_eq (s : State) (r : GRef) (g : Group) (seq : Nat) (kind : AccKind) (x : AM) :
    issueStore s r g seq kind x = (g.pushStore (storeEntry s r g seq kind x)).matchStore x.st.toNat := rfl

@[simp] theorem State.issueWith_memories (s : State) (g : Group) : (s.issueWith g).memories = s.memories := by simp [State.issueWith]

end Sys2Proof.Machine

namespace Sys2Proof.Claims

open Sys2Proof.Machine

/-- Settles O18: the checks of an access that may go ahead pass, and its issue pushes its entry onto its queue. -/
theorem accessesEnterTheirQueues : Obligations.AccessesEnterTheirQueues := by
  refine ⟨?_, ?_, ?_, ?_⟩
  · intro x e he s g p ⟨⟨hh, hi⟩, ho⟩
    refine ⟨(issued g .A p e.1).pushLoad (loadEntry s s.cur (issued g .A p e.1) p.seq e.2 x),
      loadEntry s s.cur (issued g .A p e.1) p.seq e.2 x, ?_, State.sameBytes_of_memories (State.issueWith_memories ..), ?_⟩
    · rw [exec_of_loads s he, runPart_issues _ _ s _ g p hh hi ho, issueLoad_eq]
      rfl
    · refine ⟨by simp [Group.pushLoad], ?_, by simp [Group.pushLoad], ?_⟩
      · simp only [Group.pushLoad]
        rw [← issued_loads g .A p e.1, ← issued_ord g .A p e.1]
      · simp [loadEntry, Group.newAccess, AM.wl, AM.dk, Group.eaAM, sext]
  · intro x e he s g p ⟨⟨hh, hi⟩, ho⟩
    refine ⟨storeEntry s s.cur (issued g .A p e.1) p.seq e.2 x, ?_, State.sameBytes_of_memories (State.issueWith_memories ..), ?_⟩
    · rw [exec_of_stores s he, runPart_issues _ _ s _ g p hh hi ho, issueStore_eq]
      rfl
    · refine ⟨by simp [storeEntry, Group.newAccess], rfl, rfl, ?_, rfl, ?_, storeData_issued ..⟩
      · simp [storeEntry, Group.newAccess, Group.eaAM, sext]
      · simp [storeEntry, Group.newAccess]
  · intro x e he s g p hr goes room
    refine ⟨hr, ?_⟩
    rw [own_of_loads s s.cur g p he, ownLoad, State.checkAccess_go rfl goes]
    simp [Verdict.then, waitIf, Group.loadRoom, room]
  · intro x e he s g p hr goes room clean
    refine ⟨hr, ?_⟩
    rw [own_of_stores s s.cur g p he, ownStore, State.checkAccess_go rfl goes]
    have noPoison : (if x.data.toNat < 0x110 then (g.vreg x.data.toNat).poison else none) = none := by
      split
      · rename_i hd
        exact clean hd
      · rfl
    simp [Verdict.then, waitIf, Group.storeRoom, room, noPoison]

/-- Settles O19: an access's checks come before every other rule that could hold it back, and refuse it there. -/
theorem accessTraps : Obligations.AccessTraps := by
  have trap {i : Instr} {s : State} {g : Group} {p : Part} {ea : Nat} (f : State → GRef → Group → Part → State)
      (h : s.mayTrap g .A p i) (ho : own s s.cur g .A p i = .trap 3 0 ea) :
      runPart .A i s f = .next (trapPart (s.noteIssue s.cur) s.cur g .A 3 0 ea) := by
    obtain ⟨⟨hh, hi⟩, hd, hb⟩ := h
    rw [runPart_traps _ _ s f g p 3 0 ea hh hi ho hd hb (by decide) (by decide), Group.switchV_of_ne (by decide)]
  refine ⟨?_, ?_, ?_, ?_, fun s ea n hn pad bnd high => padAstray_of_high hn pad bnd high⟩
  · intro x e he s g p h refuses
    rcases List.mem_append.mp he with he | he
    · rw [exec_of_loads s he]
      refine trap _ h ?_
      rw [own_of_loads s s.cur g p he]
      exact then_trap (State.checkAccess_trap_of_plain rfl refuses)
    · rw [exec_of_stores s he]
      refine trap _ h ?_
      rw [own_of_stores s s.cur g p he]
      exact then_trap (State.checkAccess_trap_of_plain rfl refuses)
  · intro x e he s g p h hq hp
    rw [exec_of_loads s he]
    refine trap _ h ?_
    rw [own_of_loads s s.cur g p he]
    refine then_trap (State.checkAccess_trap s.cur (.inr ⟨hp, .inr (.inr (.inl ?_))⟩))
    simpa [amCheck, AM.wl, AM.dk] using hq
  · intro x s g p h hp
    rw [exec_of_stores s (x := x) (e := (.sts x, .storeS)) (by simp [Claims.stores])]
    refine trap _ h ?_
    exact then_trap (State.checkAccess_trap s.cur (.inr ⟨hp, .inr (.inr (.inr rfl))⟩))
  · rintro x e he s g p ea h rfl refuses
    rw [exec_of_atomics s he]
    refine trap _ h ?_
    rw [own_of_atomics s s.cur g p he]
    exact then_trap (State.checkAccess_trap_of_strict rfl refuses)

end Sys2Proof.Claims
end

section
/-!
PROOFS. Three refutations, each at a concrete state and the reserved size code 6 (02 R47), which no decoded instruction has: an access of no
bytes has no page to check and no last byte, so statements about every AX or AM fail at one.
-/

namespace Sys2Proof.Machine

/-! ### A device with one group and one translation -/

/-- A part of the A slot, its bundle at 64 and at place 16 in program order. -/
def lonePart : Part := ⟨64, 16, 0#16, 0#16, false, false, .s 0#40⟩

/-- A started group of task 1 with the part at the head of its A slot: a0 = 0, a1 = 4096. -/
def loneGroup : Group :=
  { Group.start ⟨1, 0⟩ 0 0 8192 Launch.blank with started := true, seq := 17, a := [0#64, 4096#64] }.setSlotQ .A [lonePart]

/-- Task 1, which runs on core 0 and declares addresses 0 to 65,535. -/
def loneTask : Task where
  id := 1
  launch := { Launch.blank with ranges := [⟨0, 65536, 1⟩] }
  asid := 0
  queue := .command 1
  rootQ := 1
  node := none
  home := 0
  dies := 1
  outing := false
  order := 0
  state := .running
  wasPreempted := false
  deadline := none
  scope := 0
  cores := [0]
  admitted := 0
  todo := []
  left := 1
  log := []
  errCnt := 0
  endCode := 0
  acked := false
  victims := []

/-- The device with the group seated on core 0, in its turn, and addresses 0 to 65,535 translated to the same ones of device memory or of host
memory. -/
def loneState (host : Bool) : State :=
  { State.reset with
    plat := { Platform.reset with phase := 5 }
    tasks := [loneTask]
    dies := { Die.reset with tc := [⟨0, 0, 16, 0, true, false, host⟩] } :: List.replicate 3 Die.reset
    cores := { Core.reset with slots := some loneGroup :: List.replicate 7 none, lastSlot := 0, lastClk := some 0 } ::
      List.replicate 159 Core.reset }

theorem loneState_ready (host : Bool) {i : Instr} (h : issuable (loneState host) loneGroup .A lonePart i = true) :
    (loneState host).ready loneGroup .A lonePart i := ⟨rfl, h⟩

/-! ### An atomic and a MONW of no bytes at a host-backed address -/

/-- An access of the reserved size 6 at a0 = 0, in stream 0. -/
def sizeless : AX := ⟨0, 0, 6, 0, 2, 0, 0, 0⟩

/-- With no bytes there is no page that could be host memory. -/
theorem accessGoes_sizeless (wr : Bool) :
    Claims.accessGoes (loneState true) loneGroup (loneGroup.areg sizeless.base.toNat).toNat (accessBytes sizeless.size) true wr false false :=
  .inr ⟨by decide, by decide, by decide, rfl, rfl, fun _ => rfl, fun h => Bool.noConfusion h, fun a ha => by cases ha⟩

/-! ### A prefetch of no bytes at the start of a line -/

/-- A prefetch of the reserved size 6 at a1 = 4096. -/
def sizelessPf : AM := ⟨0, 0, 6, 0, 1, 0, 0⟩

/-- What the prefetch of no bytes brings into the LLC is the line of its address, not the one before. -/
theorem exec_sizelessPf : (match exec (.pfna sizelessPf) (loneState false) with
    | .next t => !t.llcHas 4064
    | _ => false) = true := by decide

theorem not_pfDropped_sizelessPf : ¬ Claims.pfDropped (loneState false) loneGroup 4096 0 := by
  rintro (low | high | undeclared | ⟨a, ha, -⟩ | tags)
  · revert low; decide
  · revert high; decide
  · have h := undeclared loneTask rfl
    revert h; decide
  · cases ha
  · revert tags; decide

@[simp] theorem State.issueWith_llc (s : State) (g : Group) : (s.issueWith g).llc = s.llc := by
  unfold State.issueWith State.afterIssue
  split <;> simp [State.noteIssue]

end Sys2Proof.Machine

namespace Sys2Proof.Claims

open Sys2Proof.Machine

/-- Refutes O21: ATADD of the reserved size 6 at address 0 whose page is host memory may go ahead by the statement's conditions, which ask only
about the pages of its bytes, and takes the access trap. -/
theorem not_atomicsEnterTheirQueue : ¬ Obligations.AtomicsEnterTheirQueue := by
  intro h
  obtain ⟨-, goes⟩ := h
  have passes := goes sizeless (.atadd sizeless, 0x10) (by simp [Claims.atomics]) (loneState true) loneGroup lonePart
    (loneState_ready true (by decide)) (accessGoes_sizeless true) (by decide) (by decide)
  exact absurd passes.2 (by decide)

/-- Refutes O36: a MONW of the reserved size 6 at address 0 whose page is host memory may go ahead by the statement's conditions, and is not
ready. -/
theorem not_monwWaitsItsTurn : ¬ Obligations.MonwWaitsItsTurn := by
  intro h
  obtain ⟨-, -, -, goes⟩ := h
  have ready := goes sizeless (loneState true) loneGroup (accessGoes_sizeless _) (by decide)
  exact absurd ready (by decide)

/-- Refutes O20: a prefetch of the reserved size 6 at address 4096 brings line 32 into the LLC; the statement counts the line of its last byte,
at 4095, which stays out. -/
theorem not_addressFormsAndPrefetches : ¬ Obligations.AddressFormsAndPrefetches := by
  intro h
  obtain ⟨-, prefetches, -⟩ := h
  obtain ⟨-, t, c, next, -, -, -, -, -, -, lines⟩ := prefetches sizelessPf (.pfna sizelessPf) (by simp) (loneState false) loneGroup lonePart
    (loneState_ready false (by decide))
  have brought : t.llcHas 4064 = true := (lines 4064 (by decide) not_pfDropped_sizelessPf (by decide)).1
  have stays := exec_sizelessPf
  rw [next] at stays
  simp only [State.llcHas, State.issueWith_llc] at brought stays
  simp [brought] at stays

end Sys2Proof.Claims
end

section
/-!
PROOFS. The events of the memory system (05 R136, R140, R155, R161, 06 R165, R170): the group that an event answers for, and what each does to the
group's queues and to the bytes.
-/

namespace Sys2Proof.Machine

/-! ### Where a group is kept -/

/-- What every step of a fold keeps, the fold keeps. -/
theorem foldl_keeps {α β γ : Type} (π : α → γ) {f : α → β → α} (hf : ∀ a x, π (f a x) = π a) (l : List β) (a : α) :
    π (l.foldl f a) = π a := by
  induction l generalizing a with
  | nil => rfl
  | cons x l ih => exact (ih _).trans (hf a x)

theorem State.core_of_cores {s t : State} (h : t.cores = s.cores) (c : Nat) : t.core c = s.core c := by simp [State.core, h]

theorem State.group_of_cores {s t : State} (h : t.cores = s.cores) (r : GRef) : t.group r = s.group r := by
  simp [State.group, State.core_of_cores h]

/-- A core written with the groups it had. -/
theorem State.group_setCore {s : State} {c : Nat} {x : Core} (hs : x.slots = (s.core c).slots) (ht : x.tracker = (s.core c).tracker) (r : GRef) :
    (s.setCore c x).group r = s.group r := by
  by_cases hc : r.core = c
  · subst hc
    by_cases hl : r.core < s.cores.length
    · simp [State.group, State.core_setCore_same s r.core x hl, hs, ht]
    · have same : s.setCore r.core x = s := by simp [State.setCore, List.set_eq_of_length_le (Nat.not_lt.mp hl)]
      rw [same]
  · simp [State.group, State.core_setCore_other s c r.core x hc]

/-! ### The operations of the memories leave the cores -/

@[simp] theorem State.logError_cores (s : State) (task : Nat) (e : ErrEntry) (u : LampUnit) : (s.logError task e u).cores = s.cores := by
  unfold State.logError
  split <;> rfl

@[simp] theorem State.logRead_cores (s : State) (task pa va : Nat) : (s.logRead task pa va).cores = s.cores := by
  unfold State.logRead
  split <;> simp

@[simp] theorem State.logPiece_cores (s : State) (r : GRef) (g : Group) (x : Piece) : (s.logPiece r g x).cores = s.cores := by
  unfold State.logPiece
  split
  · simp
  · split <;> simp
  · rfl

@[simp] theorem State.logFill_cores (s : State) (task pa va : Nat) (reads : List Nat) : (s.logFill task pa va reads).cores = s.cores := by
  unfold State.logFill
  dsimp only
  split
  · rfl
  · split <;> simp

@[simp] theorem State.llcRoom_cores (s : State) (line : Nat) : (s.llcRoom line).cores = s.cores := by
  unfold State.llcRoom
  dsimp only
  split <;> rfl

@[simp] theorem State.llcSoak_cores (s : State) (sector : Nat) : (s.llcSoak sector).cores = s.cores :=
  foldl_keeps State.cores (fun t k => by split <;> rfl) _ s

@[simp] theorem State.llcFill_cores (s : State) (pa : Nat) (dirty : Bool) : (s.llcFill pa dirty).cores = s.cores := by
  unfold State.llcFill
  dsimp only
  split <;> simp

@[simp] theorem State.llcMerge_cores (s : State) (pa : Nat) : (s.llcMerge pa).cores = s.cores := by
  unfold State.llcMerge
  split <;> simp

@[simp] theorem State.putGranule_cores (s : State) (pa : Nat) (host : Bool) (bs : List Byte) : (s.putGranule pa host bs).cores = s.cores := by
  unfold State.putGranule
  split
  · rfl
  · dsimp only
    split <;> simp [State.soundGranule]

/-! ### The operations of the cores leave the groups -/

@[simp] theorem Core.l1Fill_slots (c : Core) (sector : Nat) (v : BitVec 256) (evict : List Nat) (pick : Nat) :
    (c.l1Fill sector v evict pick).slots = c.slots := by
  unfold Core.l1Fill
  dsimp only
  split
  · rfl
  · split <;> rfl

@[simp] theorem Core.l1Fill_tracker (c : Core) (sector : Nat) (v : BitVec 256) (evict : List Nat) (pick : Nat) :
    (c.l1Fill sector v evict pick).tracker = c.tracker := by
  unfold Core.l1Fill
  dsimp only
  split
  · rfl
  · split <;> rfl

@[simp] theorem State.l1Bring_group (s : State) (core sector : Nat) (evict : List Nat) (r : GRef) :
    (s.l1Bring core sector evict).group r = s.group r := by
  unfold State.l1Bring
  split
  · rfl
  · rfl
  · exact State.group_setCore (s := s) (by simp) (by simp) r

@[simp] theorem State.fillL1_group (s : State) (q : GRef) (a : Access) (x : Piece) (evict : List Nat) (r : GRef) :
    (s.fillL1 q a x evict).group r = s.group r := by
  unfold State.fillL1
  dsimp only
  have fill : (if a.kind.allocates = true then s.llcFill x.pa false else s).group r = s.group r := by
    split
    · exact State.group_of_cores (by simp) r
    · rfl
  split
  · rfl
  · split
    · rw [State.l1Bring_group, fill]
    · exact fill

@[simp] theorem State.inval_group (s : State) (c : Nat) (r : GRef) : (s.inval c).group r = s.group r := State.group_setCore (by rfl) (by rfl) r

/-- A group whose accesses of one place in order are granted their tags. -/
def Group.grant (g : Group) (ord : Nat) : Group :=
  { g with
    loads := markOrd (fun b => { b with granted := true }) ord g.loads
    stores := markOrd (fun b => { b with granted := true }) ord g.stores }

/-! ### A group written and its open fences dropped (06 R173) -/

/-- A group without the fences that are open. -/
def Group.settled (g : Group) : Group := { g with fences := g.fences.filter (fun f => !g.fenceOpen f) }

theorem State.settle_group {s : State} {r : GRef} {g : Group} (h : s.group r = some g) : (s.settle r).group r = some g.settled := by
  unfold State.settle
  rw [h]
  dsimp only
  refine State.group_setGroup_same _ r _ g ?_
  split <;> simpa using h

theorem State.setGroup_settle_group {s : State} {r : GRef} {g x : Group} (h : s.group r = some g) :
    ((s.setGroup r x).settle r).group r = some x.settled :=
  State.settle_group (State.group_setGroup_same s r x g h)

@[simp] theorem State.setGroup_settle_memories (s : State) (r : GRef) (x : Group) : ((s.setGroup r x).settle r).memories = s.memories := by
  simp

end Sys2Proof.Machine

namespace Sys2Proof.Claims

open Sys2Proof.Machine

/-- Settles O34: each event writes its group's queues and no byte. -/
theorem tagsAndAcknowledgements : Obligations.TagsAndAcknowledgements := by
  refine ⟨?_, ?_, ?_⟩
  · intro s c slot st a g next serving tags hslot hg
    have room : ¬ (if a.isWrite then Config.writeTags else Config.readTags) < (s.core c).tagsHeld a.isWrite + a.tags := Nat.not_lt.mpr tags
    have hc : c < (s.setGroup ⟨c, slot⟩ (g.grant a.ord)).cores.length := by simpa using State.core_lt_of_group s _ g hg
    refine ⟨(s.setGroup ⟨c, slot⟩ (g.grant a.ord)).setCore c
      { (s.setGroup ⟨c, slot⟩ (g.grant a.ord)).core c with tagRR := 16 * slot + st }, g.grant a.ord, ?_, ?_, ?_, rfl, rfl, rfl, ?_⟩
    · simp only [exec, execTagGrant, next, serving, room, hg, hslot]
      rfl
    · rw [State.group_setCore (by rfl) (by rfl)]
      exact State.group_setGroup_same s _ _ g hg
    · exact State.sameBytes_of_memories ((State.setCore_memories (by rfl)).trans (State.setGroup_memories ..))
    · rw [State.core_setCore_same _ c _ hc]
  · intro s r st g a hg serving head performed
    simp only [exec, execWriteAcknowledgement, hg, head, serving, performed, Bool.not_true, Bool.or_self, Bool.false_eq_true, if_false,
      apply_ite (g.hostUnacked ++ ·), List.append_nil]
  · intro s r st g hg serving waits
    simp [exec, execHostStoreAcknowledgement, hg, serving, waits]

end Sys2Proof.Claims
end

section
/-!
PROOFS. A load performed (05 R136, R143, R150, 17 R418): its pieces are read, and the last one delivers.
-/

namespace Sys2Proof.Machine

/-! ### The pieces read keep the rest of a load -/

@[simp] theorem Access.doPieces_ord (a : Access) (l : List Piece) : (a.doPieces l).ord = a.ord := rfl
@[simp] theorem Access.doPieces_dst (a : Access) (l : List Piece) : (a.doPieces l).dst = a.dst := rfl
@[simp] theorem Access.doPieces_stream (a : Access) (l : List Piece) : (a.doPieces l).stream = a.stream := rfl

/-- Reads pieces into a load's row. -/
def Access.takes (a : Access) (rd : Piece → List Byte × Option Poison) (l : List Piece) : Access := l.foldl (fun x y => x.take y (rd y)) a

@[simp] theorem Access.takes_ord (a : Access) (rd : Piece → List Byte × Option Poison) (l : List Piece) : (a.takes rd l).ord = a.ord :=
  foldl_keeps Access.ord (fun _ _ => by rfl) l a

@[simp] theorem Access.takes_dst (a : Access) (rd : Piece → List Byte × Option Poison) (l : List Piece) : (a.takes rd l).dst = a.dst :=
  foldl_keeps Access.dst (fun _ _ => by rfl) l a

@[simp] theorem Access.takes_stream (a : Access) (rd : Piece → List Byte × Option Poison) (l : List Piece) :
    (a.takes rd l).stream = a.stream :=
  foldl_keeps Access.stream (fun _ _ => by rfl) l a

/-! ### The state that the reads leave -/

/-- The errors that the reads of a load's pieces meet are logged; a sector that the L1 holds is not read from its home. -/
def State.logLoad (s : State) (r : GRef) (g : Group) (a : Access) (l : List Piece) : State :=
  l.foldl (fun s y => if y.space == .dev && a.kind.l1Lookup && ((s.core r.core).l1Get (y.pa / 32)).isSome then s else s.logPiece r g y) s

@[simp] theorem State.logLoad_memories (s : State) (r : GRef) (g : Group) (a : Access) (l : List Piece) :
    (s.logLoad r g a l).memories = s.memories :=
  State.foldl_memories (fun s y => by split <;> simp) l s

@[simp] theorem State.logLoad_cores (s : State) (r : GRef) (g : Group) (a : Access) (l : List Piece) :
    (s.logLoad r g a l).cores = s.cores :=
  foldl_keeps State.cores (fun s y => by split <;> simp) l s

/-- The pieces' sectors are brought into the L1 and the LLC. -/
def State.fillLoad (s : State) (r : GRef) (a : Access) (evict : List Nat) (l : List Piece) : State :=
  l.foldl (fun s y => s.fillL1 r a y evict) s

@[simp] theorem State.fillLoad_memories (s : State) (r : GRef) (a : Access) (evict : List Nat) (l : List Piece) :
    (s.fillLoad r a evict l).memories = s.memories :=
  State.foldl_memories (fun s y => by simp) l s

@[simp] theorem State.fillLoad_group (s : State) (r : GRef) (a : Access) (evict : List Nat) (l : List Piece) (q : GRef) :
    (s.fillLoad r a evict l).group q = s.group q :=
  foldl_keeps (fun s : State => s.group q) (fun s y => by simp) l s

/-- The pieces' granules of the scratchpad go dark. -/
def Core.darkens (c : Core) (l : List Piece) : Core := l.foldl (fun c y => c.darken y.pa y.len) c

@[simp] theorem Core.darkens_hamper (c : Core) (l : List Piece) : (c.darkens l).hamper = c.hamper :=
  foldl_keeps Core.hamper (fun _ _ => by rfl) l c
@[simp] theorem Core.darkens_slots (c : Core) (l : List Piece) : (c.darkens l).slots = c.slots :=
  foldl_keeps Core.slots (fun _ _ => by rfl) l c
@[simp] theorem Core.darkens_tracker (c : Core) (l : List Piece) : (c.darkens l).tracker = c.tracker :=
  foldl_keeps Core.tracker (fun _ _ => by rfl) l c

/-- What reading a load's pieces does to the device: errors are logged, the L1 and the LLC filled, and a .dk load's granules go dark. -/
def State.readLoad (s : State) (r : GRef) (g : Group) (a : Access) (evict : List Nat) (l : List Piece) : State :=
  let s := (s.logLoad r g a l).fillLoad r a evict l
  if a.dk then s.setCore r.core ((s.core r.core).darkens l) else s

@[simp] theorem State.readLoad_memories (s : State) (r : GRef) (g : Group) (a : Access) (evict : List Nat) (l : List Piece) :
    (s.readLoad r g a evict l).memories = s.memories := by
  unfold State.readLoad
  dsimp only
  split <;> simp

@[simp] theorem State.readLoad_group (s : State) (r : GRef) (g : Group) (a : Access) (evict : List Nat) (l : List Piece) (q : GRef) :
    (s.readLoad r g a evict l).group q = s.group q := by
  unfold State.readLoad
  dsimp only
  have logged : (s.logLoad r g a l).group q = s.group q := State.group_of_cores (by simp) q
  split
  · rw [State.group_setCore (by simp) (by simp), State.fillLoad_group, logged]
  · rw [State.fillLoad_group, logged]

/-! ### Delivery (05 R136) -/

@[simp] theorem Group.deliver_loads (g : Group) (a : Access) : (g.deliver a).loads = g.loads.filter (fun b => decide (b.ord ≠ a.ord)) := by
  unfold Group.deliver
  dsimp only
  split <;> rfl

theorem Group.deliver_reg (g : Group) {a : Access} {c : Nat} (h : a.dst = .reg c) :
    (g.deliver a).ldata = g.ldata ∧ (g.deliver a).vregs = (g.setV c a.got a.poison).vregs := by
  simp [Group.deliver, h, Group.setV]

theorem Group.deliver_queue (g : Group) {a : Access} (h : a.dst = .queue) :
    (g.deliver a).vregs = g.vregs ∧ (g.deliver a).ldata = g.ldata.set a.stream (g.ldataOf a.stream ++ [⟨a.got, a.poison⟩]) := by
  simp [Group.deliver, h, Group.ldataOf]

theorem Group.deliver_discard (g : Group) {a : Access} (h : a.dst = .discard) :
    (g.deliver a).vregs = g.vregs ∧ (g.deliver a).ldata = g.ldata := by
  simp [Group.deliver, h]

/-- A delivery writes the queues of loads and the vector registers alone. -/
theorem Group.deliver_frame (g : Group) (a : Access) : { g.deliver a with loads := g.loads, vregs := g.vregs, ldata := g.ldata } = g := by
  unfold Group.deliver
  dsimp only
  split <;> rfl

/-! ### The load's event -/

/-- The group of a load of which pieces were read, given its place in order and what it comes to: it delivers where they were the last. -/
def Group.afterLoad (g : Group) (ord : Nat) (b : Access) : Group :=
  if b.performed then g.deliver b else { g with loads := markOrd (fun _ => b) ord g.loads }

theorem Group.afterLoad_frame (g : Group) (ord : Nat) (b : Access) :
    { g.afterLoad ord b with loads := g.loads, vregs := g.vregs, ldata := g.ldata } = g := by
  unfold Group.afterLoad
  split
  · exact g.deliver_frame b
  · rfl

theorem Group.afterLoad_last (g : Group) (ord : Nat) {b : Access} (h : b.performed = true) : g.afterLoad ord b = g.deliver b := if_pos h

theorem Group.afterLoad_more (g : Group) (ord : Nat) {b : Access} (h : b.performed = false) :
    g.afterLoad ord b = { g with loads := markOrd (fun _ => b) ord g.loads } := if_neg (by simp [h])

section
variable {s : State} {r : GRef} {st piece n : Nat} {g : Group} {a : Access} (hg : s.group r = some g) (head : g.headLoad st = some a)
  (serving : s.serving = true) (plain : isMonw a = false) (granted : a.granted = true) (unfenced : g.fenced a = false)
  (room : g.dataRoom a = true) (ready : g.pieceReady (s.core r.core) a piece = true)
include hg head serving plain granted unfenced room ready

/-- A piece that may be performed is read with those of its sector, from its home as it is or, for the later numbers, from memory as it stood
before the group's MONW. -/
theorem execLoadPerformed_reads {rd : Piece → List Byte × Option Poison} (evict : List Nat)
    (hn : (n = piece ∧ rd = s.readPiece r a) ∨
      (n = a.pieces.length + piece ∧ ∃ m, g.pastFor a = some m ∧ rd = fun y => (m.readN y.pa y.len, (s.readPiece r a y).2))) :
    exec (.loadPerformed r st n evict) s = .next (((s.readLoad r g a evict (a.together piece)).setGroup r
      (g.afterLoad a.ord ((a.takes rd (a.together piece)).doPieces (a.together piece)))).settle r) := by
  have inRange : piece < a.pieces.length := by
    by_contra h
    simp [Group.pieceReady, Nat.not_lt.mp h] at ready
  rcases hn with ⟨rfl, rfl⟩ | ⟨rfl, m, past, rfl⟩
  · have now : (if a.pieces.length ≤ n then g.pastFor a else none) = none := if_neg (Nat.not_le.mpr inRange)
    simp only [exec_loadPerformed, execLoadPerformed, hg, head, serving, plain, granted, unfenced, room, now, Option.isSome_none,
      Bool.false_eq_true, if_false, ready, Bool.not_true, Bool.or_self]
    rfl
  · have before : (if a.pieces.length ≤ a.pieces.length + piece then g.pastFor a else none) = some m := by simpa using past
    simp only [exec_loadPerformed, execLoadPerformed, hg, head, serving, plain, granted, unfenced, room, before, Option.isSome_some,
      if_true, Nat.add_sub_cancel_left, ready, Bool.not_true, Bool.or_self, Bool.false_eq_true, if_false]
    rfl
end

end Sys2Proof.Machine

namespace Sys2Proof.Claims

open Sys2Proof.Machine

/-- Settles O32: the event reads the pieces, and the group delivers with the last of them. -/
theorem loadsDeliver : Obligations.LoadsDeliver := by
  rintro s r st piece n evict g a b rd hg head serving plain granted unfenced room ready hn rfl
  refine ⟨_, _, execLoadPerformed_reads hg head serving plain granted unfenced room ready evict hn, State.sameBytes_of_memories (by simp),
    State.setGroup_settle_group (by simpa using hg), ?_⟩
  have ord : ((a.takes rd (a.together piece)).doPieces (a.together piece)).ord = a.ord := by simp
  have dst : ((a.takes rd (a.together piece)).doPieces (a.together piece)).dst = a.dst := by simp
  have stream : ((a.takes rd (a.together piece)).doPieces (a.together piece)).stream = a.stream := by simp
  rw [← Access.takes]
  generalize (a.takes rd (a.together piece)).doPieces (a.together piece) = b at ord dst stream
  have keepsN := congrArg Group.n (g.afterLoad_frame a.ord b)
  have keepsE := congrArg Group.e (g.afterLoad_frame a.ord b)
  have keepsA := congrArg Group.a (g.afterLoad_frame a.ord b)
  have keepsStores := congrArg Group.stores (g.afterLoad_frame a.ord b)
  refine ⟨keepsN, keepsE, keepsA, keepsStores, fun more => ?_, fun last => ?_⟩
  · rw [g.afterLoad_more _ more]
    exact ⟨rfl, rfl, rfl⟩
  · rw [g.afterLoad_last _ last]
    refine ⟨ord ▸ g.deliver_loads b, fun c hc => g.deliver_reg (dst.trans hc), fun hq => ?_, fun hd => g.deliver_discard (dst.trans hd)⟩
    rw [← stream]
    exact g.deliver_queue (dst.trans hq)

end Sys2Proof.Claims
end

section
/-!
PROOFS. An atomic performed (05 R161, Table 5.5): the operations on numbers, and the word read and written in one event.
-/

namespace Sys2Proof.Machine

/-! ### Bytes written (05 R146) -/

/-- Bytes written are read back. -/
theorem Mem.readN_writeN {m : Mem} (h : Memory.wf m = true) (a : Nat) (l : List Byte) : (m.writeN a l).readN a l.length = l := by
  refine List.ext_getElem (by simp [Mem.readN]) fun i _ hi => ?_
  simpa [Mem.readN] using Mem.read_writeN_inside l m a i hi h

theorem State.putGranule_memories (s : State) (pa : Nat) (bs : List Byte) :
    (s.putGranule pa false bs).memories = ((s.mem.writeN pa bs, s.host), s.memories.2) := by
  have merged (u : State) : (u.llcMerge pa).memories = u.memories := by
    unfold State.llcMerge
    split <;> simp
  rw [State.putGranule, if_neg (by decide), merged]
  split <;> rfl

/-- What a write of device memory alone leaves to be read. -/
theorem State.bytes_of_memWrite {s t : State} {pa : Nat} {bs : List Byte} (wf : Memory.wf s.mem = true)
    (h : t.memories = ((s.mem.writeN pa bs, s.host), s.memories.2)) :
    (∀ i (hi : i < bs.length), t.memByte (pa + i) = bs[i]) ∧
    (∀ x, (x < pa ∨ pa + bs.length ≤ x) → t.memByte x = s.memByte x) ∧
    (∀ x, t.hostByte x = s.hostByte x) ∧ ∀ c x, t.padByte c x = s.padByte c x := by
  have pads : t.memories.2 = s.memories.2 := by rw [h]
  have mem : t.mem = s.mem.writeN pa bs := congrArg (fun m => m.1.1) h
  refine ⟨fun i hi => ?_, fun x hx => ?_, fun x => congrArg (fun m => m.1.2.read x) h, State.padByte_of_memories pads⟩
  · rw [State.memByte, mem]
    exact Mem.read_writeN_inside bs s.mem pa i hi wf
  · rw [State.memByte, mem]
    exact Mem.read_writeN_outside bs s.mem pa x wf hx

/-! ### The operations (05 Table 5.5) -/

/-- A number below 2h, h added modulo 2h: the order of numbers read with a sign (00 R4). -/
theorem add_half_mod {h m : Nat} (hm : m < 2 * h) : (m + h) % (2 * h) = if m < h then m + h else m - h := by
  split
  · exact Nat.mod_eq_of_lt (by omega)
  · rw [Nat.mod_eq_sub_mod (by omega), Nat.mod_eq_of_lt (by omega)]
    omega

/-- Numbers read with a sign are ordered as they are with half the range added. -/
theorem signed_le_iff {h m v : Nat} (hm : m < 2 * h) (hv : v < 2 * h) :
    ((if 2 * m < 2 * h then (m : Int) else (m : Int) - (2 * h : Nat)) ≤ if 2 * v < 2 * h then (v : Int) else (v : Int) - (2 * h : Nat)) ↔
      (m + h) % (2 * h) ≤ (v + h) % (2 * h) := by
  rw [add_half_mod hm, add_half_mod hv]
  split_ifs <;> omega

theorem two_pow_width {z : Nat} (hz : 0 < z) : 2 ^ (8 * z) = 2 * 2 ^ (8 * z - 1) := by
  rw [← pow_succ', Nat.sub_add_cancel (by omega)]

theorem ite_lt_of_lt {p : Prop} [Decidable p] {a b n : Nat} (ha : a < n) (hb : b < n) : (if p then a else b) < n := by
  split <;> assumption

/-- An operation but the sum of floats keeps to its width. -/
theorem atomicOp_lt {op z m v c : Nat} (hop : op ≠ 0x11) (hm : m < 2 ^ (8 * z)) (hv : v < 2 ^ (8 * z)) : atomicOp op z m v c < 2 ^ (8 * z) := by
  unfold atomicOp
  split
  · exact Nat.mod_lt _ (by positivity)
  · exact absurd rfl hop
  · exact ite_lt_of_lt hm hv
  · exact ite_lt_of_lt hv hm
  · exact Nat.lt_of_le_of_lt (Nat.min_le_left ..) hm
  · exact Nat.max_lt.mpr ⟨hm, hv⟩
  · exact Nat.lt_of_le_of_lt Nat.and_le_left hm
  · exact Nat.or_lt_two_pow hm hv
  · exact Nat.xor_lt_two_pow hm hv
  · exact hv
  · split <;> assumption

theorem atomicOp_min {z m v c : Nat} (hz : 0 < z) (hm : m < 2 ^ (8 * z)) (hv : v < 2 ^ (8 * z)) :
    atomicOp 0x12 z m v c = if (m + 2 ^ (8 * z - 1)) % 2 ^ (8 * z) ≤ (v + 2 ^ (8 * z - 1)) % 2 ^ (8 * z) then m else v := by
  unfold atomicOp
  dsimp only
  rw [two_pow_width hz] at *
  simp only [signed_le_iff hm hv]

theorem atomicOp_max {z m v c : Nat} (hz : 0 < z) (hm : m < 2 ^ (8 * z)) (hv : v < 2 ^ (8 * z)) :
    atomicOp 0x13 z m v c = if (m + 2 ^ (8 * z - 1)) % 2 ^ (8 * z) ≤ (v + 2 ^ (8 * z - 1)) % 2 ^ (8 * z) then v else m := by
  unfold atomicOp
  dsimp only
  rw [two_pow_width hz] at *
  simp only [signed_le_iff hm hv]

/-! ### The atomic's event -/

@[simp] theorem State.atomicWrite_group (s : State) (r : GRef) {x : Piece} (hx : x.space = .dev) (v : Nat) (q : GRef) :
    (s.atomicWrite r x v).group q = s.group q := by
  rw [State.atomicWrite, hx]
  dsimp only
  rw [State.group_setCore (by rfl) (by rfl)]
  exact State.group_of_cores (by simp) q

theorem State.atomicWrite_memories (s : State) (r : GRef) {x : Piece} (hx : x.space = .dev) (v : Nat) :
    (s.atomicWrite r x v).memories = ((s.mem.writeN x.pa (natLE x.len v), s.host), s.memories.2) := by
  rw [State.atomicWrite, hx]
  dsimp only
  rw [State.setCore_memories (by rfl), State.llcFill_memories, State.putGranule_memories]

/-- Logging the read leaves the bytes that the atomic then writes over. -/
theorem State.logged_atomicWrite_memories (s : State) (r : GRef) (g : Group) {y : Piece} (hy : y.space = .dev) (v : Nat) :
    ((s.logPiece r g y).atomicWrite r y v).memories = ((s.mem.writeN y.pa (natLE y.len v), s.host), s.memories.2) := by
  have logged := s.logPiece_memories r g y
  have mem : (s.logPiece r g y).mem = s.mem := congrArg (fun m => m.1.1) logged
  have host : (s.logPiece r g y).host = s.host := congrArg (fun m => m.1.2) logged
  rw [State.atomicWrite_memories _ r hy, mem, host, logged]

/-- The group of an atomic performed without an error, that read a word: with return the word enters its stream's load-data queue. -/
def Group.afterAtomic (g : Group) (a : Access) (st : Nat) (ret : Bool) (y : Piece) (m : Nat) : Group :=
  { (if ret then { g with ldata := g.ldata.set st (g.ldataOf st ++ [⟨BitVec.ofNat 8192 m, none⟩]) } else g) with
    stores := markOrd (fun b => b.doPieces [y]) a.ord g.stores }

theorem execAtomicPerformed_writes {s : State} {r : GRef} {st op : Nat} {ret : Bool} {g : Group} {a : Access} {y : Piece} (hg : s.group r = some g)
    (head : g.headStore st = some a) (kind : a.kind = .atomic op ret) (word : a.pieces = [y]) (serving : s.serving = true)
    (granted : a.granted = true) (unfenced : g.fenced a = false) (room : g.dataRoom a = true)
    (turn : ret = true → ∀ b ∈ g.loads, b.stream = st → a.ord ≤ b.ord) (sound : (s.atomicRead r y).2 = none) :
    exec (.atomicPerformed r st) s = .next ((((s.logPiece r g y).atomicWrite r y (atomicOp op a.size (s.atomicRead r y).1
      (a.val.toNat % 2 ^ (8 * a.size)) (a.cmp.toNat % 2 ^ (8 * a.size)))).setGroup r
        (g.afterAtomic a st ret y (s.atomicRead r y).1)).settle r) := by
  have inTurn : (ret && g.loads.any (fun b => b.stream == st && decide (b.ord < a.ord))) = false := by
    cases ret
    · rfl
    · simpa using turn rfl
  simp only [exec_atomicPerformed, execAtomicPerformed, hg, head, kind, word, serving, granted, unfenced, room, inTurn, sound]
  cases ret <;> rfl

end Sys2Proof.Machine

namespace Sys2Proof.Claims

open Sys2Proof.Machine

/-- Settles O35: the event writes the operation's value over the word that it read, and the operations are read off their definition. -/
theorem atomicsReadAndWrite : Obligations.AtomicsReadAndWrite := by
  refine ⟨?_, fun z m v c hz hm hv _ => ⟨rfl, atomicOp_min hz hm hv, atomicOp_max hz hm hv, rfl, rfl, rfl, rfl, rfl, rfl, rfl,
    fun op hop => atomicOp_lt hop hm hv⟩⟩
  intro s r st op ret g a y wf hg head kind word serving granted unfenced room turn space len sound queue
  have read : (s.atomicRead r y).1 = leNat (s.mem.readN y.pa y.len) := by rw [State.atomicRead, space]
  have seated (v : Nat) : ((s.logPiece r g y).atomicWrite r y v).group r = some g := by
    rw [State.atomicWrite_group _ _ space, State.group_of_cores (State.logPiece_cores s r g y), hg]
  refine ⟨_, _, execAtomicPerformed_writes hg head kind word serving granted unfenced room turn sound,
    State.setGroup_settle_group (seated _), ?_⟩
  rw [read]
  generalize atomicOp op a.size _ _ _ = v
  have mems := (State.setGroup_settle_memories _ r (g.afterAtomic a st ret y (leNat (s.mem.readN y.pa y.len)))).trans
    (s.logged_atomicWrite_memories r g space v)
  obtain ⟨-, outside, host, pads⟩ := State.bytes_of_memWrite wf.1 mems
  refine ⟨?_, by simpa [length_natLE] using outside, host, pads, fun hr => ?_, fun hr => ?_⟩
  · have readBack := Mem.readN_writeN wf.1 y.pa (natLE y.len v)
    rw [length_natLE] at readBack
    calc _ = leNat ((s.mem.writeN y.pa (natLE y.len v)).readN y.pa y.len) := congrArg (fun m => leNat (m.1.1.readN y.pa y.len)) mems
      _ = v % 2 ^ (8 * a.size) := by
        rw [readBack, leNat_natLE, len, pow_mul]
        rfl
  · subst hr
    simp [Group.settled, Group.afterAtomic, Group.ldataOf, queue]
  · subst hr
    rfl

end Sys2Proof.Claims
end

section
/-!
PROOFS. A store performed (05 R155, 14 R382): the bytes that it writes at its own place, the granule it cannot merge into, and the granule that it
covers.
-/

namespace Sys2Proof.Machine

/-! ### Bytes of a row (00 R2) -/

theorem getElem_natLE (n v i : Nat) (hi : i < (natLE n v).length) : (natLE n v)[i] = BitVec.ofNat 8 (v / 256 ^ i) := by
  induction n generalizing v i with
  | zero => simp [natLE] at hi
  | succ n ih =>
    cases i with
    | zero => simp [natLE]
    | succ i =>
      simp only [natLE, List.getElem_cons_succ]
      rw [ih, Nat.div_div_eq_div_mul, pow_succ']

@[simp] theorem length_rowBytes (row : Row) (off n : Nat) : (rowBytes row off n).length = n := length_natLE ..

theorem getElem_rowBytes (row : Row) (off n i : Nat) (hi : i < (rowBytes row off n).length) :
    (rowBytes row off n)[i] = row.extractLsb' (8 * (off + i)) 8 := by
  have place : row.toNat >>> (8 * off) / 256 ^ i = row.toNat >>> (8 * (off + i)) := by
    rw [Nat.shiftRight_eq_div_pow, Nat.shiftRight_eq_div_pow, Nat.div_div_eq_div_mul, Nat.mul_add, pow_add, pow_mul 2 8 i]
    rfl
  simp only [rowBytes, getElem_natLE, place]
  rfl

/-! ### Errors of a granule (14 R379 to R382) -/

/-- A key written with a value that is not the default reads as that value, in canonical form or not. -/
theorem SMap.get_set_of_ne {α : Type} [DecidableEq α] {d v : α} (hv : v ≠ d) (m : SMap α) (a : Nat) : SMap.get d (SMap.set d m a v) a = v := by
  induction m with
  | nil => simp [SMap.set, SMap.get, hv]
  | cons x rest ih =>
    obtain ⟨k, w⟩ := x
    unfold SMap.set
    split_ifs with below same
    · simp [SMap.get]
    · simp [SMap.get]
    · simp [SMap.get, Ne.symm same, ih]

/-- A sector brought into the LLC is in it. -/
theorem State.llcFill_llcHas (s : State) (pa : Nat) (dirty : Bool) : (s.llcFill pa dirty).llcHas pa = true := by
  have bit : ∀ i < 4, ∀ b : Bool, (2 ^ i + if b then 16 * 2 ^ i else 0).testBit i = true := by decide
  have set : ∀ old, (Nat.lor old (2 ^ (pa / 32 % 4) + if dirty then 16 * 2 ^ (pa / 32 % 4) else 0)).testBit (pa / 32 % 4) = true := by
    intro old
    have h : (old ||| (2 ^ (pa / 32 % 4) + if dirty then 16 * 2 ^ (pa / 32 % 4) else 0)).testBit (pa / 32 % 4) = true := by
      rw [Nat.testBit_or, bit _ (Nat.mod_lt _ (by decide)), Bool.or_true]
    exact h
  have nonzero : ∀ old, Nat.lor old (2 ^ (pa / 32 % 4) + if dirty then 16 * 2 ^ (pa / 32 % 4) else 0) ≠ 0 := by
    intro old h
    have := set old
    rw [h] at this
    simp at this
  unfold State.llcFill State.llcHas
  dsimp only
  rw [SMap.get_set_of_ne (nonzero _)]
  exact set _

/-- A sound granule in the LLC has no error. -/
theorem State.readErr_of_llcHas {s : State} {pa : Nat} (sound : SMap.get 0 s.poison (pa / 16) = 0) (has : s.llcHas pa = true) :
    s.readErr pa = .none := by
  simp [State.readErr, sound, has]

theorem mem_insertNat (l : List Nat) (a : Nat) : a ∈ insertNat l a := by
  induction l with
  | nil => simp [insertNat]
  | cons k rest ih =>
    unfold insertNat
    split_ifs with below same
    · simp
    · simp [same]
    · simp [ih]

/-- A part of a stripe but its parity has its home on the channel of its bytes (14 R379). -/
theorem partHome_part (pa : Nat) : partHome (2816 * (pa / 2816) + 256 * (pa / 256 % 11)) = partHome pa := by
  have stripe : stripeOf (2816 * (pa / 2816) + 256 * (pa / 256 % 11)) = stripeOf pa := by
    unfold stripeOf
    refine Prod.ext ?_ ?_ <;> dsimp only <;> omega
  simp only [partHome, stripe]

/-- A part is lost by itself or with its channel. -/
theorem State.partBad_eq (s : State) (pa : Nat) : s.partBad pa = (s.hbmBad.contains (stripeOf pa) || s.outOf (partUnit pa)) := by
  have data : ¬ pa / 256 % 11 = 11 := by omega
  simp only [State.partBad, State.partLost, stripeOf, data, if_false, partHome_part]
  rfl

/-- A granule written whole, whose channel no lamp test runs on, is readable: it is healed, or its part is not lost. -/
theorem State.soundGranule_readable {s : State} {pa : Nat} (granule : pa % 16 = 0) (wf : SMap.wfFrom 0 none s.poison = true)
    (noTest : ∀ j ∈ s.lamps, j.unit ≠ partUnit pa) (u : Nat) : (s.soundGranule (pa / 16)).readErr pa ≠ .bad u := by
  have back : 16 * (pa / 16) = pa := by omega
  have sound : SMap.get 0 (s.soundGranule (pa / 16)).poison (pa / 16) = 0 := SMap.get_set_same 0 _ _ _ none wf
  have out : s.outOf (partUnit pa) = s.withdrawn.contains (partUnit pa) := by
    have none : s.lamps.any (fun j => decide (j.unit = partUnit pa)) = false := by simpa using noTest
    rw [State.outOf, none, Bool.or_false]
  have healed : s.partBad pa = true → ¬ s.stripeBad pa ≤ 1 → (s.soundGranule (pa / 16)).healed.contains (pa / 16) = true := by
    intro bad stripe
    have heals : s.heals (pa / 16) = true := by
      rw [State.partBad_eq] at bad
      rw [State.heals, back]
      split_ifs with lost
      · exact decide_eq_true (Nat.not_le.mp stripe)
      · simpa [lost] using bad
    simp [State.soundGranule, heals, mem_insertNat]
  have test : (s.withdrawn.contains (partUnit pa) || !s.outOf (partUnit pa)) = true := by
    rw [out, Bool.or_not_self]
  rw [State.readErr, sound, if_neg (by simp)]
  split_ifs with reached healedNow withdrawn stripe
  · simp
  · simp
  · simp
  · simp
  · have bad : s.partBad pa = true := by
      by_contra good
      exact reached (by rw [Bool.or_eq_true]; exact .inr (congrArg not (Bool.eq_false_of_not_eq_true good)))
    exact absurd (by rw [healed bad stripe, Bool.true_and]; exact test) healedNow

/-- A granule written whole is readable where its sector is in the LLC or no lamp test of its channel runs. -/
theorem State.putGranule_readable {s : State} {pa : Nat} {bs : List Byte} (granule : pa % 16 = 0) (whole : bs.length = 16)
    (wf : SMap.wfFrom 0 none s.poison = true) (h : s.llcHas pa = true ∨ ∀ j ∈ s.lamps, j.unit ≠ partUnit pa) (u : Nat) :
    (s.putGranule pa false bs).readErr pa ≠ .bad u := by
  have covers : coversGranule pa bs.length = true := by simp [coversGranule, granule, whole]
  have put : s.putGranule pa false bs = (({ s with mem := s.mem.writeN pa bs } : State).soundGranule (pa / 16)).llcMerge pa := by
    rw [State.putGranule, if_neg (by decide)]
    simp only [covers, if_true]
  have sound : SMap.get 0 (SMap.set 0 s.poison (pa / 16) 0) (pa / 16) = 0 := SMap.get_set_same 0 _ _ _ none wf
  rw [put, State.llcMerge]
  split
  · rename_i has
    have filled : ∀ v : State, v.llcHas pa = true → (v.llcFill pa true).poison = v.poison := fun v hv => by
      simp [State.llcFill, hv]
    rw [State.readErr_of_llcHas (by rw [filled _ has]; exact sound) (State.llcFill_llcHas ..)]
    simp
  · rename_i miss
    rcases h with has | noTest
    · exact absurd has miss
    · exact State.soundGranule_readable (s := { s with mem := s.mem.writeN pa bs }) granule wf noTest u

/-! ### Errors and the groups -/

@[simp] theorem State.setCore_readErr (s : State) (c : Nat) (x : Core) (pa : Nat) : (s.setCore c x).readErr pa = s.readErr pa := (rfl)

@[simp] theorem State.setGroup_readErr (s : State) (r : GRef) (g : Group) (pa : Nat) : (s.setGroup r g).readErr pa = s.readErr pa := by
  unfold State.setGroup
  split <;> exact State.setCore_readErr ..

@[simp] theorem State.settle_readErr (s : State) (r : GRef) (pa : Nat) : (s.settle r).readErr pa = s.readErr pa := by
  unfold State.settle
  split
  · rfl
  · dsimp only
    rw [State.setGroup_readErr]
    split
    · exact State.setCore_readErr ..
    · rfl

/-! ### The store's event -/

@[simp] theorem Core.ownStore_hamper (c : Core) (kind : AccKind) (pa : Nat) (bs : List Byte) : (c.ownStore kind pa bs).hamper = c.hamper := by
  unfold Core.ownStore
  split <;> rfl
/-- A store's group with the piece done. -/
def Group.storeDone (g : Group) (a : Access) (y : Piece) : Group := { g with stores := markOrd (fun b => b.doPieces [y]) a.ord g.stores }

/-- Device memory as a store's piece finds it: what the rest of its sector's read meets is logged, and the sector brought into the LLC, where the
store allocates. -/
def State.storeFill (s : State) (g : Group) (a : Access) (y : Piece) : State :=
  if a.kind.allocates then
    (if a.wholeSector y then s else s.logFill g.gid.task y.pa y.va (fillReads y.pa (coversGranule y.pa y.len))).llcFill y.pa true
  else s

@[simp] theorem State.storeFill_memories (s : State) (g : Group) (a : Access) (y : Piece) : (s.storeFill g a y).memories = s.memories := by
  unfold State.storeFill
  (repeat' split) <;> simp

/-- What a store's piece leaves of a device whose memory it may write. -/
def State.storeDev (s : State) (r : GRef) (g : Group) (a : Access) (y : Piece) (row : Row) : State :=
  let s := (s.storeFill g a y).putGranule y.pa false (rowBytes row y.off y.len)
  s.setCore r.core ((s.core r.core).ownStore a.kind y.pa (rowBytes row y.off y.len))

theorem State.storeDev_memories (s : State) (r : GRef) (g : Group) (a : Access) (y : Piece) (row : Row) :
    (s.storeDev r g a y row).memories = ((s.mem.writeN y.pa (rowBytes row y.off y.len), s.host), s.memories.2) := by
  have filled := s.storeFill_memories g a y
  have mem : (s.storeFill g a y).mem = s.mem := congrArg (fun m => m.1.1) filled
  have host : (s.storeFill g a y).host = s.host := congrArg (fun m => m.1.2) filled
  rw [State.storeDev, State.setCore_memories (by simp), State.putGranule_memories, mem, host, filled]

@[simp] theorem State.logError_poison (s : State) (task : Nat) (e : ErrEntry) (u : LampUnit) : (s.logError task e u).poison = s.poison := by
  unfold State.logError
  split <;> rfl

@[simp] theorem State.logRead_poison (s : State) (task pa va : Nat) : (s.logRead task pa va).poison = s.poison := by
  unfold State.logRead
  split <;> simp

@[simp] theorem State.logFill_poison (s : State) (task pa va : Nat) (reads : List Nat) : (s.logFill task pa va reads).poison = s.poison := by
  unfold State.logFill
  dsimp only
  split
  · rfl
  · split <;> simp

/-- The granules in error are kept in canonical form as a sector comes into the LLC. -/
theorem State.llcFill_poison_wf {s : State} (h : SMap.wfFrom 0 none s.poison = true) (pa : Nat) (dirty : Bool) :
    SMap.wfFrom 0 none (s.llcFill pa dirty).poison = true := by
  have room : (s.llcRoom (pa / 128)).poison = s.poison := by
    unfold State.llcRoom
    dsimp only
    split <;> rfl
  have soak (t : State) (ht : SMap.wfFrom 0 none t.poison = true) (k : Nat) : SMap.wfFrom 0 none (t.llcSoak k).poison = true := by
    refine List.foldlRecOn (motive := fun t : State => SMap.wfFrom 0 none t.poison = true) _ _ ht fun t ht k _ => ?_
    split
    · exact SMap.set_wf 0 k _ _ ht
    · exact ht
  unfold State.llcFill
  dsimp only
  split
  · exact h
  · exact soak _ (room ▸ h) _

theorem State.storeFill_poison_wf {s : State} (h : SMap.wfFrom 0 none s.poison = true) (g : Group) (a : Access) (y : Piece) :
    SMap.wfFrom 0 none (s.storeFill g a y).poison = true := by
  unfold State.storeFill
  split
  · refine State.llcFill_poison_wf ?_ _ _
    split
    · exact h
    · simpa using h
  · exact h

theorem State.storeDev_readable {s : State} {a : Access} {y : Piece} (r : GRef) (g : Group) (row : Row) (granule : y.pa % 16 = 0)
    (whole : y.len = 16) (wf : SMap.wfFrom 0 none s.poison = true)
    (h : a.kind.allocates = true ∨ ∀ j ∈ s.lamps, j.unit ≠ partUnit y.pa) (u : Nat) : (s.storeDev r g a y row).readErr y.pa ≠ .bad u := by
  refine State.putGranule_readable granule (by simp [whole]) (State.storeFill_poison_wf wf g a y) ?_ u
  cases allocates : a.kind.allocates
  · refine .inr ?_
    simpa [State.storeFill, allocates] using h
  · refine .inl ?_
    simp [State.storeFill, allocates, State.llcFill_llcHas]

/-- A core whose scratchpad a store's piece writes. -/
def Core.storePad (c : Core) (a : Access) (y : Piece) (row : Row) : Core :=
  if a.kind = .storeS then (c.padWrite y.pa (rowBytes row y.off y.len)).light y.pa y.len else c.padWrite y.pa (rowBytes row y.off y.len)

theorem Core.storePad_hamper (c : Core) (a : Access) (y : Piece) (row : Row) :
    (c.storePad a y row).hamper = c.hamper.writeN y.pa (rowBytes row y.off y.len) := by
  unfold Core.storePad
  split <;> rfl
section
variable {s : State} {r : GRef} {st piece : Nat} {g : Group} {a : Access} {y : Piece} {row : Row} (hg : s.group r = some g)
  (head : g.headStore st = some a) (hy : a.pieces[piece]? = some y) (serving : s.serving = true) (plain : a.isAtomic = false)
  (granted : a.granted = true) (data : a.data = some row) (unfenced : g.fenced a = false) (due : y.done = false)
include hg head hy serving plain granted data unfenced due

theorem execStorePerformed_dev (space : y.space = .dev) (merge : s.mergeUnit y.pa y.len = none) :
    exec (.storePerformed r st piece) s = .next (((s.storeDev r g a y row).setGroup r (g.storeDone a y)).settle r) := by
  have stored : s.storePiece r g a y = (s.storeDev r g a y row, g) := by
    simp only [State.storePiece, space, merge, data]
    rfl
  simp only [exec_storePerformed, execStorePerformed, hg, head, hy, serving, plain, granted, data, unfenced, due, space, merge, stored]
  rfl

theorem execStorePerformed_bad {u : Nat} (space : y.space = .dev) (merge : s.mergeUnit y.pa y.len = some u) :
    exec (.storePerformed r st piece) s = .next (((s.logError g.gid.task ⟨y.va / 16 * 16, homeSlice y.pa, 0xFF, 0, 1, u⟩
      (memUnit y.pa u)).setGroup r ((g.pendDataErr u (y.va / 16 * 16)).storeDone a y)).settle r) := by
  have stored : s.storePiece r g a y = (s, g.pendDataErr u (y.va / 16 * 16)) := by
    simp only [State.storePiece, space, merge]
  simp only [exec_storePerformed, execStorePerformed, hg, head, hy, serving, plain, granted, data, unfenced, due, space, merge, stored]
  rfl

theorem execStorePerformed_host (space : y.space = .host) :
    exec (.storePerformed r st piece) s =
      .next ((({ s with host := s.host.writeN y.pa (rowBytes row y.off y.len) } : State).setGroup r (g.storeDone a y)).settle r) := by
  have stored : s.storePiece r g a y = ({ s with host := s.host.writeN y.pa (rowBytes row y.off y.len) }, g) := by
    simp only [State.storePiece, space, data]
    rfl
  simp only [exec_storePerformed, execStorePerformed, hg, head, hy, serving, plain, granted, data, unfenced, due, space, stored]
  rfl

theorem execStorePerformed_pad (space : y.space = .pad) :
    exec (.storePerformed r st piece) s =
      .next (((s.setCore r.core ((s.core r.core).storePad a y row)).setGroup r (g.storeDone a y)).settle r) := by
  have stored : s.storePiece r g a y = (s.setCore r.core ((s.core r.core).storePad a y row), g) := by
    simp only [State.storePiece, space, data]
    rfl
  simp only [exec_storePerformed, execStorePerformed, hg, head, hy, serving, plain, granted, data, unfenced, due, space, stored]
  rfl
end

theorem mergePend_isSome (old : Option PendTrap) (info addr : Nat) : (mergePend old info addr).isSome = true := by
  cases old <;> rfl

/-- A granule in error that a piece does not cover is one that it cannot merge into, and no other is. -/
theorem State.mergeUnit_eq_some_iff (s : State) (pa n u : Nat) :
    s.mergeUnit pa n = some u ↔ s.readErr pa = .bad u ∧ ¬ (pa % 16 = 0 ∧ n = 16) := by
  unfold State.mergeUnit
  by_cases covers : pa % 16 = 0 ∧ n = 16
  · simp [coversGranule, covers]
  · have notCovers : ¬ coversGranule pa n = true := by simpa [coversGranule] using covers
    rw [if_neg notCovers]
    cases s.readErr pa <;> simp [covers]

theorem State.mergeUnit_eq_none {s : State} {pa n : Nat} (h : (∀ u, s.readErr pa ≠ .bad u) ∨ (pa % 16 = 0 ∧ n = 16)) :
    s.mergeUnit pa n = none := by
  rw [Option.eq_none_iff_forall_ne_some]
  intro u hu
  obtain ⟨bad, notCovers⟩ := (s.mergeUnit_eq_some_iff pa n u).mp hu
  rcases h with sound | covers
  · exact sound u bad
  · exact notCovers covers

/-- What a write of host memory alone leaves to be read. -/
theorem State.bytes_of_hostWrite {s t : State} {pa : Nat} {bs : List Byte} (wf : Memory.wf s.host = true)
    (h : t.memories = ((s.mem, s.host.writeN pa bs), s.memories.2)) :
    (∀ i (hi : i < bs.length), t.hostByte (pa + i) = bs[i]) ∧
    (∀ x, (x < pa ∨ pa + bs.length ≤ x) → t.hostByte x = s.hostByte x) ∧
    (∀ x, t.memByte x = s.memByte x) ∧ ∀ c x, t.padByte c x = s.padByte c x := by
  have pads : t.memories.2 = s.memories.2 := by rw [h]
  have host : t.host = s.host.writeN pa bs := congrArg (fun m => m.1.2) h
  refine ⟨fun i hi => ?_, fun x hx => ?_, fun x => congrArg (fun m => m.1.1.read x) h, State.padByte_of_memories pads⟩
  · rw [State.hostByte, host]
    exact Mem.read_writeN_inside bs s.host pa i hi wf
  · rw [State.hostByte, host]
    exact Mem.read_writeN_outside bs s.host pa x wf hx

/-- What a write of one core's scratchpad alone leaves to be read. -/
theorem State.bytes_of_padWrite {s t : State} {c pa : Nat} {x : Core} {bs : List Byte} (wf : Memory.wf (s.core c).hamper = true)
    (hc : c < s.cores.length) (hx : x.hamper = (s.core c).hamper.writeN pa bs) (h : t.memories = (s.setCore c x).memories) :
    (∀ i (hi : i < bs.length), t.padByte c (pa + i) = bs[i]) ∧
    (∀ b, (b < pa ∨ pa + bs.length ≤ b) → t.padByte c b = s.padByte c b) ∧
    (∀ d b, d ≠ c → t.padByte d b = s.padByte d b) ∧ (∀ b, t.memByte b = s.memByte b) ∧ ∀ b, t.hostByte b = s.hostByte b := by
  have pads : ∀ d b, t.padByte d b = (s.setCore c x).padByte d b := State.padByte_of_memories (congrArg Prod.snd h)
  refine ⟨fun i hi => ?_, fun b hb => ?_, fun d b hd => ?_, fun b => congrArg (fun m => m.1.1.read b) h,
    fun b => congrArg (fun m => m.1.2.read b) h⟩
  · rw [pads, State.padByte, State.core_setCore_same s c x hc, hx]
    exact Mem.read_writeN_inside bs _ pa i hi wf
  · rw [pads, State.padByte, State.core_setCore_same s c x hc, hx]
    exact Mem.read_writeN_outside bs _ pa b wf hb
  · rw [pads, State.padByte, State.core_setCore_other s c d x hd]
    rfl

end Sys2Proof.Machine

namespace Sys2Proof.Claims

open Sys2Proof.Machine

/-- Settles O33: the three memories, device memory apart as it can or cannot be merged into. -/
theorem storePerformedWritesItsBytes : Obligations.StorePerformedWritesItsBytes := by
  intro s r st piece g a y row wf wfPad hg head hy serving plain granted data unfenced due
  cases space : y.space with
  | dev =>
    cases merge : s.mergeUnit y.pa y.len with
    | none =>
      refine ⟨_, execStorePerformed_dev hg head hy serving plain granted data unfenced due space merge, fun _ _ => ?_, fun _ u bad partly => ?_,
        fun _ granule whole wfPoison kept u => ?_, fun h => (by cases h), fun h => (by cases h)⟩
      · have mems := (State.setGroup_settle_memories _ r (g.storeDone a y)).trans (s.storeDev_memories r g a y row)
        obtain ⟨inside, outside, host, pads⟩ := State.bytes_of_memWrite wf.1 mems
        refine ⟨fun i hi => ?_, by simpa using outside, host, pads⟩
        rw [inside i (by simpa using hi), getElem_rowBytes]
      · cases merge.symm.trans ((s.mergeUnit_eq_some_iff ..).mpr ⟨bad, partly⟩)
      · rw [State.settle_readErr, State.setGroup_readErr]
        exact State.storeDev_readable r g row granule whole wfPoison kept u
    | some u =>
      obtain ⟨bad, partly⟩ := (s.mergeUnit_eq_some_iff ..).mp merge
      refine ⟨_, execStorePerformed_bad hg head hy serving plain granted data unfenced due space merge, fun _ sound => ?_, fun _ _ _ _ => ?_,
        fun _ granule whole => absurd ⟨granule, whole⟩ partly, fun h => (by cases h), fun h => (by cases h)⟩
      · cases merge.symm.trans (State.mergeUnit_eq_none sound)
      · exact ⟨State.sameBytes_of_memories (by simp), _, State.setGroup_settle_group ((State.group_of_cores (by simp) r).trans hg),
          mergePend_isSome ..⟩
  | host =>
    refine ⟨_, execStorePerformed_host hg head hy serving plain granted data unfenced due space, fun h => (by cases h), fun h => (by cases h),
      fun h => (by cases h), fun _ => ?_, fun h => (by cases h)⟩
    have mems := State.setGroup_settle_memories { s with host := s.host.writeN y.pa (rowBytes row y.off y.len) } r (g.storeDone a y)
    obtain ⟨inside, outside, mem, pads⟩ := State.bytes_of_hostWrite (s := s) wf.2 mems
    refine ⟨fun i hi => ?_, by simpa using outside, mem, pads⟩
    rw [inside i (by simpa using hi), getElem_rowBytes]
  | pad =>
    refine ⟨_, execStorePerformed_pad hg head hy serving plain granted data unfenced due space, fun h => (by cases h), fun h => (by cases h),
      fun h => (by cases h), fun h => (by cases h), fun _ => ?_⟩
    obtain ⟨inside, outside, others, mem, host⟩ := State.bytes_of_padWrite wfPad (State.core_lt_of_group s r g hg) (Core.storePad_hamper _ a y row)
      (State.setGroup_settle_memories _ r (g.storeDone a y))
    refine ⟨fun i hi => ?_, by simpa using outside, fun c b hc => others c b hc, mem, host⟩
    rw [inside i (by simpa using hi), getElem_rowBytes]

end Sys2Proof.Claims
end

section
/-!
PROOFS. The ordering parts (06 R172 to R174): the fence each puts into force, and what DRAIN and TKW wait for.
-/

namespace Sys2Proof.Machine

/-! ### Fences in force -/

/-- The acquire of a scope invalidates the L1 just where the scope is above .g (06 Table 6.2). -/
theorem scopeInval_toNat (sc : BitVec 3) : scopeInval sc.toNat = (sc != 0#3) := by
  revert sc
  decide

/-- The release of a scope waits for the host just where the scope is .s (06 Table 6.2). -/
theorem toNat_beq_five (sc : BitVec 3) : (sc.toNat == 5) = (sc == 5#3) := by
  revert sc
  decide

/-- Each ordering part puts the fence of its row into force. -/
theorem exec_of_fences {x : AF} {e : Instr × (Nat → Fence)} (he : e ∈ Claims.fences x) (s : State) : exec e.1 s = runFence e.1 s e.2 := by
  simp only [Claims.fences, ← scopeInval_toNat, ← toNat_beq_five, List.mem_cons, List.not_mem_nil, or_false] at he
  rcases he with rfl | rfl | rfl | rfl | rfl
  all_goals rfl

/-- No rule of its own holds back a part that puts a fence into force. -/
theorem own_of_fences {x : AF} {e : Instr × (Nat → Fence)} (he : e ∈ Claims.fences x) (s : State) (r : GRef) (g : Group) (p : Part) :
    own s r g .A p e.1 = .go := by
  simp only [Claims.fences, List.mem_cons, List.not_mem_nil, or_false] at he
  rcases he with rfl | rfl | rfl | rfl | rfl
  all_goals rfl

/-- A fence put into force leaves all of its group but the fences and the order. -/
theorem Group.settled_addFence_frame (g : Group) (f : Nat → Fence) : { (g.addFence f).settled with fences := g.fences, ord := g.ord } = g := rfl

/-! ### A part that its own rule holds back -/

/-- THE WAIT: a part that nothing but its own rule holds back does what a waiting part does, and stays. -/
theorem runPart_waits {k : Slot} {i : Instr} {s : State} (f : State → GRef → Group → Part → State) {g : Group} {p : Part}
    (h : s.ready g k p i) (ho : own s s.cur g k p i = .wait) : runPart k i s f = .next (waitEffect s s.cur g k p i) := by
  obtain ⟨hh, hi⟩ := h
  obtain ⟨hj, hs, hb, -, -, hz, hl, hp, -⟩ := (issuable_iff s g k p i).mp hi
  have alone : verdictAlone s s.cur g k p i true = .wait := by simp [verdictAlone, hz, hl, hp, ho, Verdict.then]
  have waits : verdict s s.cur g k p i = .wait := by simp [verdict, alone]
  simp [runPart, hh, judged_none s k p hj, hs, hb, waits]

theorem waitEffect_drain (s : State) (r : GRef) (g : Group) (p : Part) (x : AF) : waitEffect s r g .A p (.drain x) = s := ite_self s

theorem waitEffect_tkw (s : State) (r : GRef) (g : Group) (p : Part) (x : AF) : waitEffect s r g .A p (.tkw x) = s := ite_self s

/-! ### What DRAIN and TKW wait for (06 R173) -/

theorem waitIf_eq_wait {b : Bool} : waitIf b = .wait ↔ b = true := by
  cases b <;> simp [waitIf]

theorem ownDrain_eq_go {g : Group} {m : BitVec 16} : ownDrain g m = .go ↔ ∀ a ∈ g.stores, m.getLsbD a.stream = false := by
  simp [ownDrain, waitIf_eq_go]

theorem ownDrain_eq_wait {g : Group} {m : BitVec 16} : ownDrain g m = .wait ↔ ∃ a ∈ g.stores, m.getLsbD a.stream = true := by
  simp [ownDrain, waitIf_eq_wait]

/-- A token of a TKW whose latest production has not completed. -/
def Group.tokenOpen (g : Group) (seq tk : Nat) : Bool := (g.latestProd tk seq).any (fun t => t.left != 0)

theorem Group.tokenOpen_iff {g : Group} {seq tk : Nat} : g.tokenOpen seq tk = true ↔ ∃ t, g.latestProd tk seq = some t ∧ t.left ≠ 0 := by
  simp [Group.tokenOpen, Option.any_eq_true]

theorem ownTkw_eq (g : Group) (seq : Nat) (m : BitVec 16) : ownTkw g seq m = waitIf ((tkwTokens m).any (g.tokenOpen seq)) := by
  unfold ownTkw
  congr 2
  funext tk
  unfold Group.tokenOpen
  cases g.latestProd tk seq <;> rfl

theorem ownTkw_eq_wait {g : Group} {seq : Nat} {m : BitVec 16} :
    ownTkw g seq m = .wait ↔ ∃ k ∈ tkwTokens m, ∃ t, g.latestProd k seq = some t ∧ t.left ≠ 0 := by
  simp only [ownTkw_eq, waitIf_eq_wait, List.any_eq_true, Group.tokenOpen_iff]

theorem ownTkw_eq_go {g : Group} {seq : Nat} {m : BitVec 16} :
    ownTkw g seq m = .go ↔ ∀ k t, k ∈ tkwTokens m → g.latestProd k seq = some t → t.left = 0 := by
  simp only [ownTkw_eq, waitIf_eq_go, List.any_eq_false, Group.tokenOpen_iff, not_exists, not_and, not_not]
  exact ⟨fun h k t hk => h k hk t, fun h k hk t => h k t hk⟩

/-- TKW's effect as it issues: above .g the core's L1 is invalidated. -/
theorem exec_tkw_issues {x : AF} {s : State} {g : Group} {p : Part} (h : s.passes g .A p (.tkw x)) :
    exec (.tkw x) s = .next ((if x.scope = 0#3 then s.setGroup s.cur (issued g .A p (.tkw x))
      else (s.setGroup s.cur (issued g .A p (.tkw x))).inval s.cur.core).afterIssue s.cur) := by
  obtain ⟨⟨hh, hi⟩, ho⟩ := h
  rw [exec_tkw, execTkw, runPart_issues _ _ s _ g p hh hi ho]
  dsimp only
  rw [scopeInval_toNat]
  by_cases hx : x.scope = 0#3 <;> simp [hx]

end Sys2Proof.Machine

namespace Sys2Proof.Claims

open Sys2Proof.Machine

/-- Settles O22: a fence, an acquire, a release and MARK issue with their fences in force, and the rules of DRAIN and TKW say when each goes and
when it waits. -/
theorem orderingParts : Obligations.OrderingParts := by
  refine ⟨?_, ?_, ?_, ?_, ?_, ?_, ?_⟩
  · intro x e he s g p ⟨hh, hi⟩
    rw [exec_of_fences he]
    exact runPart_issues .A e.1 s _ g p hh hi (own_of_fences he s s.cur g p)
  · intro x s g p ⟨⟨hh, hi⟩, ho⟩
    exact runPart_issues .A (.mark x) s _ g p hh hi ho
  · intro s g f hg
    exact ⟨State.sameBytes_of_memories (State.setGroup_settle_memories ..), (g.addFence f).settled, State.setGroup_settle_group hg, rfl,
      g.settled_addFence_frame f⟩
  · intro x s g p ⟨hh, hi⟩ acknowledged
    exact runGroup_issues .A (.drain x) s _ g p hh hi (ownDrain_eq_go.mpr acknowledged)
  · intro x s g p ready outstanding
    exact (runPart_waits _ ready (ownDrain_eq_wait.mpr outstanding)).trans (by rw [waitEffect_drain])
  · intro x s g p ready completed
    exact exec_tkw_issues ⟨ready, ownTkw_eq_go.mpr completed⟩
  · intro x s g p k t ready hk latest left
    exact (runPart_waits _ ready (ownTkw_eq_wait.mpr ⟨k, hk, t, latest, left⟩)).trans (by rw [waitEffect_tkw])

end Sys2Proof.Claims
end

section
/-!
PROOFS. The matrix parts (08 R227 to R233): what each asks of the state before it goes, what the issue of a step captures, and what it leaves of
its core and its group.
-/

namespace Sys2Proof.Machine

/-! ### The verdict of a matrix part under a grant that has not lapsed (08 R227 to R231) -/

section
variable {s : State} {r : GRef} {g : Group} {p : Part} (current : leaseExpired s.clk g = false)
include current

theorem own_mlease_eq_go {x : MLe} (h : ∀ k ∈ panesOf x.mask.toNat, k ∈ s.panesIn r.core) : own s r g .M p (.mlease x) = .go := by
  simpa [own, ownM, current, trapIf, waitIf, Verdict.then] using h

theorem own_mcfg_eq_go {x : MN} (h : (g.nreg x.nr.toNat).toNat < 2 ^ 57) : own s r g .M p (.mcfg x) = .go := by
  have reserved : bits (g.nreg x.nr.toNat) 57 7 = 0 := by rw [bits, Nat.shiftRight_eq_div_pow, Nat.div_eq_of_lt h, Nat.zero_mod]
  simp [own, ownM, current, reserved, trapIf, waitIf, Verdict.then]

theorem own_mfset_eq_go {x : MF} (h : feedOk (g.nreg x.nr.toNat) = true) : own s r g .M p (.mfset x) = .go := by
  simp [own, ownM, current, h, trapIf, waitIf, Verdict.then]

theorem own_mwaitSteps_eq_go {x : M0} (h : (s.core r.core).stepsOf g.gid = []) : own s r g .M p (.mwaitSteps x) = .go := by
  simp [own, ownM, current, h, waitIf, Verdict.then]

theorem own_mwaitLease_eq_go {x : MWl} (h : g.covers g.lm.toNat = true) : own s r g .M p (.mwaitLease x) = .go := by
  simp [own, ownM, current, h, waitIf, Verdict.then]

theorem own_mrel_eq_go {x : M0} : own s r g .M p (.mrel x) = .go := by
  simp [own, ownM, current, waitIf, Verdict.then]

theorem own_mcfgr_eq_go {x : MRd} : own s r g .M p (.mcfgr x) = .go := by
  simp [own, ownM, current, waitIf, Verdict.then]

theorem own_mfadv_eq_go {x : MF} : own s r g .M p (.mfadv x) = .go := by
  simp [own, ownM, current, waitIf, Verdict.then]
end

/-! ### What an issue leaves of the registers that matrix parts read -/

@[simp] theorem issued_nreg (g : Group) (k : Slot) (p : Part) (i : Instr) (n : Nat) : (issued g k p i).nreg n = g.nreg n := by
  simp [Group.nreg]

@[simp] theorem issued_freg (g : Group) (k : Slot) (p : Part) (i : Instr) (n : Nat) : (issued g k p i).freg n = g.freg n := by
  simp [Group.freg]

@[simp] theorem mcfgrValue_issued (s : State) (r : GRef) (g : Group) (k : Slot) (p : Part) (i : Instr) (sel : Nat) :
    mcfgrValue s r (issued g k p i) sel = mcfgrValue s r g sel := by
  simp [mcfgrValue]

/-! ### What an issue leaves of a core and of its group -/

/-- A part of a core that a write of a core keeps. -/
theorem State.core_field_setCore {α : Type} (f : Core → α) {s : State} {c : Nat} {x : Core} (h : f x = f (s.core c)) (d : Nat) :
    f ((s.setCore c x).core d) = f (s.core d) := by
  by_cases hd : d = c
  · subst hd
    by_cases hl : d < s.cores.length
    · rw [State.core_setCore_same s d x hl, h]
    · simp [State.setCore, List.set_eq_of_length_le (Nat.not_lt.mp hl)]
  · rw [State.core_setCore_other s c d x hd]

/-- A part of a core that writes of its groups and of its turn keep, an issue keeps. -/
theorem State.core_field_afterIssue {α : Type} (f : Core → α) (hs : ∀ (x : Core) (l : List (Option Group)), f { x with slots := l } = f x)
    (ht : ∀ (x : Core) (l : List Group), f { x with tracker := l } = f x)
    (hn : ∀ (x : Core) (k : Nat) (t : Option Nat) (l : List (Option Group)), f { x with lastSlot := k, lastClk := t, slots := l } = f x)
    (s : State) (r : GRef) (c : Nat) : f ((s.afterIssue r).core c) = f (s.core c) := by
  unfold State.afterIssue State.noteIssue
  rw [State.core_field_setCore f (hn _ _ _ _)]
  split
  · exact State.core_field_setGroup f hs ht _ _ _ c
  · rfl

@[simp] theorem State.afterIssue_core_steps (s : State) (r : GRef) (c : Nat) : ((s.afterIssue r).core c).steps = (s.core c).steps :=
  State.core_field_afterIssue Core.steps (fun _ _ => rfl) (fun _ _ => rfl) (fun _ _ _ _ => rfl) s r c

@[simp] theorem State.afterIssue_core_acc (s : State) (r : GRef) (c : Nat) : ((s.afterIssue r).core c).acc = (s.core c).acc :=
  State.core_field_afterIssue Core.acc (fun _ _ => rfl) (fun _ _ => rfl) (fun _ _ _ _ => rfl) s r c

/-- The note of an issue writes since when the group that issued has been ready, and nothing else of it (13 R330). -/
theorem State.noteIssue_group {s : State} {r : GRef} {g : Group} (h : s.group r = some g) :
    ∃ t b, (s.noteIssue r).group r = some { g with readySince := t, promoted := b } := by
  have hc := State.core_lt_of_group s r g h
  unfold State.group at h
  unfold State.noteIssue State.group
  rw [State.core_setCore_same s r.core _ hc]
  by_cases hs : r.slot < 8
  · rw [if_pos hs] at h
    have hl : r.slot < (s.core r.core).slots.length := by
      by_contra hn
      simp [List.getD_eq_getElem?_getD, Nat.not_lt.mp hn] at h
    have seated : (s.core r.core).slots[r.slot] = some g := by simpa [hl] using h
    exact ⟨none, false, by simp [hs, hl, seated]⟩
  · rw [if_neg hs] at h
    exact ⟨g.readySince, g.promoted, by simpa [hs] using h⟩

theorem Group.dropOld_eq (g : Group) : ∃ o, g.dropOld = { g with pOld := o } := by
  unfold Group.dropOld
  split
  · split
    · exact ⟨g.pOld, rfl⟩
    · exact ⟨none, rfl⟩
  · exact ⟨g.pOld, rfl⟩

/-- An issue leaves all of its group but the predicates kept for the bundle and since when it has been ready. -/
theorem State.afterIssue_group {s : State} {r : GRef} {g : Group} (h : s.group r = some g) :
    ∃ o t b, (s.afterIssue r).group r = some { g with pOld := o, readySince := t, promoted := b } := by
  obtain ⟨o, ho⟩ := g.dropOld_eq
  obtain ⟨t, b, ht⟩ := State.noteIssue_group (State.group_setGroup_same s r g.dropOld g h)
  exact ⟨o, t, b, by simpa [State.afterIssue, h, ho] using ht⟩

/-! ### A step's issue (08 R217, R219, R221, R232, R233) -/

theorem Group.produce_eq (g : Group) (tw : BitVec 16) (seq : Nat) :
    ∃ l n, (g.produce tw seq).2 = { g with toks := l, ids := n } := by
  unfold Group.produce
  dsimp only
  split
  · exact ⟨g.toks, g.ids, rfl⟩
  · split <;> exact ⟨_, _, rfl⟩

/-- A group that has taken one unit of its grant's budget, the last of which gives the grant back (08 R221). -/
def Group.spent (g : Group) : Group := if g.budget ≤ 1 then g.lapse else { g with budget := g.budget - 1 }

theorem Group.spent_of_last {g : Group} (h : g.budget ≤ 1) : g.spent = g.lapse := if_pos h

theorem Group.spent_of_more {g : Group} (h : 2 ≤ g.budget) : g.spent = { g with budget := g.budget - 1 } := if_neg (by omega)

theorem Group.spent_frame (g : Group) : { g.spent with gm := g.gm, budget := g.budget } = g := by
  unfold Group.spent
  split <;> rfl

/-- A group whose step has advanced the feed registers that it reads, and its scale cursor (08 R219). -/
def Group.advanceFeeds (g : Group) : Option MS → Group
  | none => g
  | some x =>
    let adv (g : Group) (k : Nat) : Group := g.setF k (feedAdv (g.freg k) (16 * (feedStep (g.freg k) : Int)))
    let g := adv g x.fa.toNat
    let g := if x.fb = x.fa then g else adv g x.fb.toNat
    if x.useS == 1#1 then g.setF x.fs.toNat (feedCursor (g.freg x.fs.toNat)) else g

theorem Group.advanceFeeds_eq (g : Group) (x : Option MS) : ∃ f, g.advanceFeeds x = { g with f := f } := by
  cases x with
  | none => exact ⟨g.f, rfl⟩
  | some x =>
    dsimp only [Group.advanceFeeds, Group.setF]
    (repeat' split) <;> exact ⟨_, rfl⟩

/-- A core with one more step, behind those that it has. -/
def Core.addStep (c : Core) (m : MatStep) : Core := { c with steps := c.steps ++ [m] }

/-- The step that an issue captures: MCFG, its feed offsets and its scales as they stand then, to wait at the array (08 R217, R219). -/
def capturedStep (s : State) (slot : Nat) (g : Group) (seq : Nat) (tw : BitVec 16) (kind : StepKind) (x : Option MS) : MatStep :=
  let h := (g.produce tw seq).2
  let scales (k : Nat) (on : Bool) : List Nat := x.elim [] (fun y =>
    if on then [scaleByte (h.scaleAt seq k) (stepCursor h y), scaleByte (h.scaleAt seq k) (stepCursor h y + 1)] else [])
  { id := s.ids, gid := h.gid, slot := slot, kind := kind, cfg := g.mcfg
    fa := x.elim 0 (fun y => feedOffset (h.freg y.fa.toNat)), fb := x.elim 0 (fun y => feedOffset (h.freg y.fb.toNat))
    scA := scales (cfgCA g.mcfg) (cfgSCA g.mcfg), scB := scales (cfgCB g.mcfg) (cfgSCB g.mcfg)
    prod := (g.produce tw seq).1, waits := g.consumed tw seq, stage := .waiting, tiles := [], err := none, readyAt := none }

/-- What the issue of a step writes: its core's steps, and of its group the tokens, the feed registers and the grant. -/
theorem issueStep_eq (s : State) (r : GRef) (g : Group) (seq : Nat) (tw : BitVec 16) (kind : StepKind) (x : Option MS) :
    issueStep s r g seq tw kind x =
      ({ s.setCore r.core ((s.core r.core).addStep (capturedStep s r.slot g seq tw kind x)) with ids := s.ids + 1 }).setGroup r
        ((g.produce tw seq).2.advanceFeeds x).spent := by
  cases x <;> rfl

@[simp] theorem Group.produce_gid (g : Group) (tw : BitVec 16) (seq : Nat) : (g.produce tw seq).2.gid = g.gid := by
  obtain ⟨l, n, h⟩ := g.produce_eq tw seq
  rw [h]

@[simp] theorem Group.produce_freg (g : Group) (tw : BitVec 16) (seq k : Nat) : (g.produce tw seq).2.freg k = g.freg k := by
  obtain ⟨l, n, h⟩ := g.produce_eq tw seq
  rw [h]
  rfl

/-- A step's issue writes of its group's registers the tokens and the feed registers alone. -/
theorem Group.produce_advanceFeeds_eq (g : Group) (tw : BitVec 16) (seq : Nat) (x : Option MS) :
    ∃ l n f, (g.produce tw seq).2.advanceFeeds x = { g with toks := l, ids := n, f := f } := by
  obtain ⟨l, n, h⟩ := g.produce_eq tw seq
  obtain ⟨f, hf⟩ := (g.produce tw seq).2.advanceFeeds_eq x
  exact ⟨l, n, f, by rw [hf, h]⟩

@[simp] theorem issueStep_core_acc (s : State) (r : GRef) (g : Group) (seq : Nat) (tw : BitVec 16) (kind : StepKind) (x : Option MS) (d : Nat) :
    ((issueStep s r g seq tw kind x).core d).acc = (s.core d).acc := by
  rw [issueStep_eq, State.setGroup_core_acc]
  exact State.core_field_setCore Core.acc (x := (s.core r.core).addStep _) (by rfl) d

/-- The step captured stands last of its core's steps. -/
theorem issueStep_core_steps {s : State} {r : GRef} {g₀ : Group} (hg : s.group r = some g₀) (g : Group) (seq : Nat) (tw : BitVec 16)
    (kind : StepKind) (x : Option MS) :
    ((issueStep s r g seq tw kind x).core r.core).steps = (s.core r.core).steps ++ [capturedStep s r.slot g seq tw kind x] := by
  rw [issueStep_eq, State.setGroup_core_steps]
  exact congrArg Core.steps (State.core_setCore_same s r.core ((s.core r.core).addStep _) (State.core_lt_of_group s r g₀ hg))

/-- The group whose step has issued has spent one unit of its grant. -/
theorem issueStep_group {s : State} {r : GRef} {g₀ : Group} (hg : s.group r = some g₀) (g : Group) (seq : Nat) (tw : BitVec 16)
    (kind : StepKind) (x : Option MS) :
    ∃ l n f, (issueStep s r g seq tw kind x).group r = some { g with toks := l, ids := n, f := f }.spent := by
  obtain ⟨l, n, f, stepped⟩ := g.produce_advanceFeeds_eq tw seq x
  have seated : (s.setCore r.core ((s.core r.core).addStep (capturedStep s r.slot g seq tw kind x))).group r = some g₀ :=
    (State.group_setCore (by rfl) (by rfl) r).trans hg
  refine ⟨l, n, f, ?_⟩
  rw [issueStep_eq, stepped]
  exact State.group_setGroup_same _ r _ g₀ seated

/-- Each step form issues as a step of its kind, with or without feeds. -/
theorem exec_of_steps {x : MS} {e : Instr × StepKind × Bool} (he : e ∈ Claims.steps x) (s : State) :
    exec e.1 s = runPart .M e.1 s (fun s r g p => issueStep s r g p.seq p.tw e.2.1 (if e.2.2 then some x else none)) := by
  simp only [Claims.steps, List.mem_cons, List.not_mem_nil, or_false] at he
  rcases he with rfl | rfl | rfl | rfl
  all_goals rfl

end Sys2Proof.Machine

namespace Sys2Proof.Claims

open Sys2Proof.Machine

/-- Settles O26: the rule of each matrix part lets it go under the conditions stated, its issue writes its own registers and requests, and a
step's issue queues the step captured and spends one unit. -/
theorem arrayAndStepsIssue : Obligations.ArrayAndStepsIssue := by
  refine ⟨?_, ?_, ?_, ?_, ?_, ?_, ?_, ?_, ?_⟩
  · intro x s g p ⟨hh, hi⟩ current served
    exact runPart_issues .M (.mlease x) s _ g p hh hi (own_mlease_eq_go current served)
  · intro x s g p ⟨hh, hi⟩ current
    exact runPart_issues .M (.mrel x) s _ g p hh hi (own_mrel_eq_go current)
  · intro x s g p ⟨hh, hi⟩ current reserved
    rw [exec_mcfg, execMcfg, runGroup_issues .M (.mcfg x) s _ g p hh hi (own_mcfg_eq_go current reserved), issued_nreg]
  · intro x s g p ⟨hh, hi⟩ current
    rw [exec_mcfgr, execMcfgr, runPart_issues .M (.mcfgr x) s _ g p hh hi (own_mcfgr_eq_go current), mcfgrValue_issued]
    rfl
  · intro x s g p ⟨hh, hi⟩ current accepted
    rw [exec_mfset, execMfset, runGroup_issues .M (.mfset x) s _ g p hh hi (own_mfset_eq_go current accepted), issued_nreg, Group.setF, issued_f]
  · intro x s g p ⟨hh, hi⟩ current
    rw [exec_mfadv, execMfadv, runGroup_issues .M (.mfadv x) s _ g p hh hi (own_mfadv_eq_go current), issued_nreg, issued_freg, Group.setF,
      issued_f]
  · intro x s g p ⟨hh, hi⟩ current none
    exact runGroup_issues .M (.mwaitSteps x) s _ g p hh hi (own_mwaitSteps_eq_go current none)
  · intro x s g p ⟨hh, hi⟩ current covered
    exact runGroup_issues .M (.mwaitLease x) s _ g p hh hi (own_mwaitLease_eq_go current covered)
  · intro x e he s g p ⟨⟨hh, hi⟩, ho⟩
    have hg := (headOf_group hh).1
    obtain ⟨l, n, f, stepped⟩ :=
      issueStep_group hg (issued g .M p e.1) p.seq p.tw e.2.1 (if e.2.2 then some x else none)
    obtain ⟨o, c, b, seated⟩ := State.afterIssue_group stepped
    refine ⟨_, _, _, (exec_of_steps he s).trans (runPart_issues .M e.1 s _ g p hh hi ho), State.sameBytes_of_memories (by simp),
      (State.afterIssue_core_steps ..).trans (issueStep_core_steps hg ..), rfl, by simp [capturedStep], issued_mcfg .., rfl, ?_, ?_, seated,
      ?_, ?_, by simp, ?_, ?_⟩
    · cases e.2.2 <;> simp [capturedStep]
    · cases e.2.2 <;> simp [capturedStep]
    · exact (congrArg Group.n (Group.spent_frame _)).trans (issued_n ..)
    · exact (congrArg Group.mcfg (Group.spent_frame _)).trans (issued_mcfg ..)
    · intro more
      rw [Group.spent_of_more (by simpa using more)]
      simp
    · intro last
      rw [Group.spent_of_last (by simpa using last)]
      exact ⟨rfl, rfl⟩

end Sys2Proof.Claims
end

section
/-!
PROOFS. Leases and the array's steps (08 R221 to R226, R232, R233): what arbitration chooses and grants, when a grant lapses, and what the start
and the commit of a matrix step do to the entries and to the steps of its core.
-/

namespace Sys2Proof.Machine

/-! ### Requests and panes (08 R222, R223) -/

theorem mem_panesOf {m p : Nat} : p ∈ panesOf m ↔ p < 4 ∧ m.testBit p = true := by simp [panesOf]

/-- A mask that shares no pane with another has none of its panes. -/
theorem getLsbD_of_disjoint {a b : BitVec 4} (h : a &&& b = 0#4) {p : Nat} (hp : p ∈ panesOf b.toNat) : a.getLsbD p = false := by
  have hb : b.getLsbD p = true := (mem_panesOf.mp hp).2
  simpa [hb] using congrArg (BitVec.getLsbD · p) h

theorem State.panesServe_iff {s : State} {c : Nat} {q : PaneReq} :
    s.panesServe c q = true ↔ ∀ p ∈ panesOf q.panes.toNat, p ∈ s.panesIn c := by
  simp [State.panesServe]

theorem Core.mem_headReqs {c : Core} {q : PaneReq} : q ∈ c.headReqs ↔ ∃ k < 8, c.reqs.find? (fun y => y.slot == k) = some q := by
  simp [Core.headReqs]

theorem Core.mem_reqs_of_mem_headReqs {c : Core} {q : PaneReq} (h : q ∈ c.headReqs) : q ∈ c.reqs := by
  obtain ⟨k, -, hk⟩ := Core.mem_headReqs.mp h
  exact List.mem_of_find?_eq_some hk

/-- A request that arbitration picks among is the first of its own slot. -/
theorem Core.find?_of_mem_headReqs {c : Core} {q : PaneReq} (h : q ∈ c.headReqs) :
    c.reqs.find? (fun y => y.slot == q.slot) = some q := by
  obtain ⟨k, -, hk⟩ := Core.mem_headReqs.mp h
  have slot : q.slot = k := by simpa using List.find?_some hk
  rwa [slot]

/-- Of one request, made by a slot of the core, that one is picked among. -/
theorem Core.headReqs_of_single {c : Core} {q : PaneReq} (h : c.reqs = [q]) (hs : q.slot < 8) : c.headReqs = [q] := by
  have own : ∀ n < 8, (List.range 8).filterMap (fun k => if n = k then some q else none) = [q] := by
    intro n hn
    interval_cases n <;> rfl
  rw [← own q.slot hs, Core.headReqs, h]
  refine List.filterMap_congr fun k _ => ?_
  by_cases hk : q.slot = k <;> simp [hk]

/-! ### The choice of arbitration (08 R222; log 39) -/

/-- A fold that keeps its value or takes the element ends with its first value or with an element. -/
theorem foldl_mem_of_choice {α : Type} {f : α → α → α} (hf : ∀ m x, f m x = m ∨ f m x = x) (l : List α) (a : α) :
    l.foldl f a ∈ a :: l := by
  induction l generalizing a with
  | nil => simp
  | cons x l ih =>
    have rest := ih (f a x)
    rw [List.foldl_cons]
    rcases hf a x with kept | taken
    · rw [kept] at rest ⊢
      rcases List.mem_cons.mp rest with first | later
      · exact List.mem_cons.mpr (.inl first)
      · exact List.mem_cons_of_mem a (List.mem_cons_of_mem x later)
    · rw [taken] at rest ⊢
      exact List.mem_cons_of_mem a rest

/-- What may be chosen: the first request of its slot, not chosen yet, of the highest class that asks for panes in service, on such panes of
which no chosen request holds one. -/
theorem State.mem_mayChoose {s : State} {c : Nat} {q : PaneReq} (h : q ∈ s.mayChoose c) :
    q ∈ (s.core c).headReqs ∧ q.chosen = false ∧ s.panesServe c q = true ∧
      (∀ y ∈ (s.core c).headReqs, s.panesServe c y = true → (s.core c).reqClass q ≤ (s.core c).reqClass y) ∧
      ∀ y ∈ (s.core c).reqs, y.chosen = true → y.panes &&& q.panes = 0#4 := by
  simp only [State.mayChoose, State.outranked, List.mem_filter, Bool.and_eq_true, Bool.not_eq_true', List.any_eq_false, decide_eq_true_eq,
    bne_iff_ne, ne_eq, not_and, not_not, Bool.not_eq_true] at h
  obtain ⟨⟨head, fresh⟩, ⟨⟨top, serves⟩, -⟩, apart⟩ := h
  exact ⟨head, fresh, serves, fun y hy served => Nat.le_of_not_lt fun lt => by simp [top y hy lt] at served, apart⟩

theorem State.mem_mayChoose_of_picked {s : State} {c : Nat} {q : PaneReq} (h : s.picked c = some q) : q ∈ s.mayChoose c := by
  unfold State.picked at h
  split at h
  · cases h
  · rename_i first rest hl
    rw [hl, ← Option.some.inj h]
    exact foldl_mem_of_choice (fun m y => by split <;> simp) rest first

/-- A core whose arbitration has chosen a request. -/
def Core.choosing (c : Core) (q : PaneReq) : Core :=
  { c with reqs := c.reqs.map (fun y => if y = q then { y with chosen := true } else y) }

theorem State.arbitrate_of_picked {s : State} {c : Nat} {q : PaneReq} (h : s.picked c = some q) :
    s.arbitrate c = s.setCore c ((s.core c).choosing q) := by
  simp [State.arbitrate, h, Core.choosing]

theorem State.arbitrate_cases (s : State) (c : Nat) :
    s.arbitrate c = s ∨ ∃ q ∈ s.mayChoose c, s.arbitrate c = s.setCore c ((s.core c).choosing q) := by
  cases h : s.picked c with
  | none => exact .inl (by simp [State.arbitrate, h])
  | some q => exact .inr ⟨q, State.mem_mayChoose_of_picked h, State.arbitrate_of_picked h⟩

@[simp] theorem State.arbitrate_group (s : State) (c : Nat) (r : GRef) : (s.arbitrate c).group r = s.group r := by
  rcases s.arbitrate_cases c with h | ⟨q, -, h⟩
  · rw [h]
  · rw [h]
    exact State.group_setCore (by rfl) (by rfl) r

@[simp] theorem State.arbitrate_runPanes (s : State) (c d : Nat) : ((s.arbitrate c).core d).runPanes = (s.core d).runPanes := by
  rcases s.arbitrate_cases c with h | ⟨q, -, h⟩
  · rw [h]
  · rw [h]
    exact State.core_field_setCore Core.runPanes (by rfl) d

@[simp] theorem State.arbitrate_clk (s : State) (c : Nat) : (s.arbitrate c).clk = s.clk := by
  unfold State.arbitrate
  split <;> rfl

/-! ### The grant (08 R221 to R223) -/

theorem Core.paneFree_iff {c : Core} {p : Nat} : c.paneFree p = true ↔
    (∀ g, some g ∈ c.slots → g.gm.getLsbD p = false) ∧ (∀ m ∈ c.steps, (cfgPMASK m.cfg).testBit p = false) ∧
    (∀ y ∈ c.runPanes, y.panes.getLsbD p = false) ∧ c.tileRunning 8 0 p = false := by
  simp only [Core.paneFree, Bool.and_eq_true, Bool.not_eq_true', List.any_eq_false, Bool.not_eq_true, and_assoc]
  refine and_congr_left' ⟨fun h g hg => h _ hg, fun h o ho => ?_⟩
  cases o with
  | none => rfl
  | some g => exact h g ho

/-- What is granted: a chosen request whose panes are all free and usable, while each request of a higher class that could be served is held
up by a chosen one of a lower class. -/
theorem State.of_grantable {s : State} {c : Nat} {q : PaneReq} (h : s.grantable c = some q) :
    q ∈ (s.core c).reqs ∧ q.chosen = true ∧
      (∀ p ∈ panesOf q.panes.toNat, (s.core c).paneFree p = true ∧ s.paneUsable c p = true) ∧
      ∀ y ∈ (s.core c).headReqs, s.panesServe c y = true → (s.core c).reqClass y < (s.core c).reqClass q →
        ∃ x ∈ (s.core c).reqs, x.chosen = true ∧ (s.core c).reqClass y < (s.core c).reqClass x ∧ x.panes &&& y.panes ≠ 0#4 := by
  have passes := List.find?_some h
  simp only [Bool.and_eq_true, Bool.not_eq_true', List.any_eq_false, List.all_eq_true, decide_eq_true_eq, bne_iff_ne, ne_eq, not_and,
    and_assoc] at passes
  obtain ⟨chosen, first, free⟩ := passes
  refine ⟨List.mem_of_find?_eq_some h, chosen, free, fun y hy serves lt => by simpa using first y hy lt serves⟩

/-- One chosen request, of a slot of the core, whose panes are all free and usable is granted. -/
theorem State.grantable_of_single {s : State} {c : Nat} {q : PaneReq} (h : (s.core c).reqs = [q]) (hs : q.slot < 8)
    (chosen : q.chosen = true) (free : ∀ p ∈ panesOf q.panes.toNat, (s.core c).paneFree p = true ∧ s.paneUsable c p = true) :
    s.grantable c = some q := by
  simpa [State.grantable, h, Core.headReqs_of_single h hs, chosen] using free

/-- Granting a request takes it from the queue and changes of the others only whom they have been passed by. -/
theorem Core.granting_reqs (c : Core) (q : PaneReq) : (c.granting q).reqs.map (fun y => { y with passed := [] }) =
    (c.reqs.filter (fun y => decide (y ≠ q))).map (fun y => { y with passed := [] }) := by
  simp only [Core.granting, List.map_map]
  refine List.map_congr_left fun y _ => ?_
  dsimp only [Function.comp_apply]
  split <;> rfl

theorem Core.granting_of_single {c : Core} {q : PaneReq} (h : c.reqs = [q]) : c.granting q = { c with reqs := [], leaseRR := q.slot } := by
  simp [Core.granting, h]

theorem State.setCore_setCore (s : State) (c : Nat) (x y : Core) : (s.setCore c x).setCore c y = s.setCore c y := by
  simp [State.setCore]

section
variable {s : State} {c : Nat} {q : PaneReq} (serving : s.serving = true)
include serving

theorem exec_leaseGrant_of_none (h : (s.arbitrate c).grantable c = none) : exec (.leaseGrant c) s = .next (s.arbitrate c) := by
  simp [exec_leaseGrant, execLeaseGrant, serving, h]

theorem exec_leaseGrant_of_run {k : Nat} (h : (s.arbitrate c).grantable c = some q) (run : q.wick = some k) :
    exec (.leaseGrant c) s = .next ((s.arbitrate c).setCore c { ((s.arbitrate c).core c).granting q with
      runPanes := (s.core c).runPanes ++ [{ q with since := s.clk }] }) := by
  simp [exec_leaseGrant, execLeaseGrant, serving, h, run, Core.granting]

theorem exec_leaseGrant_of_group {g : Group} (h : (s.arbitrate c).grantable c = some q) (lease : q.wick = none)
    (hg : s.group ⟨c, q.slot⟩ = some g) :
    exec (.leaseGrant c) s = .next (((s.arbitrate c).setCore c (((s.arbitrate c).core c).granting q)).setGroup ⟨c, q.slot⟩
      { g with gm := g.lm, budget := Config.leaseBudget, granted := s.clk }) := by
  have seated : ((s.arbitrate c).setCore c (((s.arbitrate c).core c).granting q)).group ⟨c, q.slot⟩ = some g := by
    rw [State.group_setCore (by rfl) (by rfl), State.arbitrate_group, hg]
  simp [exec_leaseGrant, execLeaseGrant, serving, h, lease, seated]

/-- One request of a group, alone on its core and not chosen yet, is chosen and granted at once where its panes serve and are free. -/
theorem exec_leaseGrant_of_single {g : Group} (hc : c < s.cores.length) (h : (s.core c).reqs = [q]) (fresh : q.chosen = false)
    (lease : q.wick = none) (hs : q.slot < 8) (hg : s.group ⟨c, q.slot⟩ = some g)
    (free : ∀ p ∈ panesOf q.panes.toNat, p ∈ s.panesIn c ∧ s.outOf (.pane c p) = false ∧ (s.core c).paneFree p = true) :
    exec (.leaseGrant c) s = .next ((s.setCore c { s.core c with reqs := [], leaseRR := q.slot }).setGroup ⟨c, q.slot⟩
      { g with gm := g.lm, budget := Config.leaseBudget, granted := s.clk }) := by
  have heads := Core.headReqs_of_single h hs
  have serves : s.panesServe c q = true := State.panesServe_iff.mpr fun p hp => (free p hp).1
  have mayChoose : s.mayChoose c = [q] := by
    simp [State.mayChoose, State.outranked, heads, h, fresh, serves]
  have arbitrated : s.arbitrate c = s.setCore c { s.core c with reqs := [{ q with chosen := true }] } := by
    rw [State.arbitrate_of_picked (q := q) (by simp [State.picked, mayChoose]), Core.choosing, h]
    simp
  have core := State.core_setCore_same s c { s.core c with reqs := [{ q with chosen := true }] } hc
  have granted : (s.arbitrate c).grantable c = some { q with chosen := true } := by
    rw [arbitrated]
    refine State.grantable_of_single (by rw [core]) hs rfl fun p hp => ?_
    rw [core]
    exact ⟨(free p hp).2.2, congrArg not (free p hp).2.1⟩
  rw [exec_leaseGrant_of_group serving granted lease hg, arbitrated, State.setCore_setCore, core, Core.granting_of_single rfl]
end

theorem exec_leaseTimeout_of_lapsed {s : State} {r : GRef} {g : Group} (hg : s.group r = some g) (serving : s.serving = true)
    (held : g.gm ≠ 0#4) (due : g.granted + 16384 ≤ s.clk) :
    exec (.leaseTimeout r) s = .next (s.setGroup r { g with gm := 0#4, budget := 0 }) := by
  have lapsed : leaseExpired s.clk g = true := by simp [leaseExpired, held, Config.leaseClk, due]
  simp [exec_leaseTimeout, execLeaseTimeout, hg, serving, lapsed, Group.lapse]

/-! ### The start of a step (08 R212 to R214, R224 to R226) -/

/-- A step as its start leaves it: running, with the tiles read and the error that the feed met. -/
def Core.startedStep (c : Core) (m : MatStep) : MatStep :=
  { m with
    stage := .running
    tiles := if m.kind = .clear then [] else m.tileRanges.map (fun t => (c.hamper.readN t.1.1 t.1.2, c.hamper.readN t.2.1 t.2.2))
    err := c.feedError m }

/-- Tiles in which no error stands give the feed none. -/
theorem Core.feedError_eq_none {c : Core} {m : MatStep}
    (h : ∀ t ∈ m.tileRanges, c.padErr t.1.1 t.1.2 = none ∧ c.padErr t.2.1 t.2.2 = none) : c.feedError m = none := by
  unfold Core.feedError
  rw [List.findSome?_eq_none_iff]
  intro x hx
  split at hx
  · cases hx
  · obtain ⟨t, ht, hx⟩ := List.mem_flatMap.mp hx
    obtain ⟨ha, hb⟩ := h t ht
    simp only [List.mem_cons, List.not_mem_nil, or_false] at hx
    rcases hx with rfl | rfl <;> simp [ha, hb]

/-- An error in a tile of a step that reads tiles is met by the feed. -/
theorem Core.feedError_ne_none {c : Core} {m : MatStep} {t : (Nat × Nat) × (Nat × Nat)} (ht : t ∈ m.tileRanges) (reads : m.kind ≠ .clear)
    (h : c.padErr t.1.1 t.1.2 ≠ none ∨ c.padErr t.2.1 t.2.2 ≠ none) : c.feedError m ≠ none := by
  unfold Core.feedError
  rw [if_neg reads]
  intro sound
  rw [List.findSome?_eq_none_iff] at sound
  have met : ∀ x ∈ [t.1, t.2], c.padErr x.1 x.2 = none := fun x hx => by
    simpa using sound x (List.mem_flatMap.mpr ⟨t, ht, hx⟩)
  exact h.elim (absurd (met t.1 (by simp))) (absurd (met t.2 (by simp)))

/-- A step whose turn another, ready for longer on one of its panes, has. -/
theorem State.inTurn_eq_false {s : State} {c a t : Nat} {mine : Option Nat} {y : MatStep} (hy : y ∈ (s.core c).steps)
    (ripe : s.stepRipe c y = true) (ready : y.readyAt = some t) (older : t < mine.getD s.clk) (shared : Nat.land (cfgPMASK y.cfg) a ≠ 0) :
    s.inTurn c a mine = false := by
  unfold State.inTurn
  rw [Bool.and_eq_false_iff, Bool.not_eq_false']
  exact .inl (List.any_eq_true.mpr ⟨y, hy, by simpa [ready, older, ripe] using shared⟩)

section
variable {s : State} {c k : Nat} {m : MatStep} (hm : (s.core c).steps.find? (fun x => x.id == k) = some m)
include hm

theorem exec_matrixStepStart_of_not_turn (h : s.inTurn c (cfgPMASK m.cfg) m.readyAt = false) : exec (.matrixStepStart c k) s = .next s := by
  simp [exec_matrixStepStart, execMatrixStepStart, hm, h]

section
variable (serving : s.serving = true) (starts : (s.core c).canStart m = true) (turn : s.inTurn c (cfgPMASK m.cfg) m.readyAt = true)
  (done : s.waitsDone (some m.gid) m.waits = true)
include serving starts turn done

theorem exec_matrixStepStart_of_failed (failed : s.waitsFailed (some m.gid) m.waits = true) :
    exec (.matrixStepStart c k) s = .next (s.endStep c m true) := by
  simp [exec_matrixStepStart, execMatrixStepStart, hm, serving, starts, turn, done, failed]

theorem exec_matrixStepStart_of_ready (sound : s.waitsFailed (some m.gid) m.waits = false) :
    exec (.matrixStepStart c k) s = .next (s.setCore c { s.core c with
      steps := (s.core c).steps.map (fun x => if x.id = m.id then (s.core c).startedStep m else x) }) := by
  simp only [exec_matrixStepStart, execMatrixStepStart, hm, serving, starts, turn, done, sound, Core.startedStep, apply_ite (List.map _),
    List.map_nil, Bool.not_true, Bool.or_self, Bool.false_eq_true, if_false]
end

/-! ### The commit of a step (08 R207, R226, R232, R233) -/

theorem exec_matrixStepCommit_of_error {e : Poison} (serving : s.serving = true) (running : m.stage = .running)
    (error : (s.core c).stepError m = some e) :
    exec (.matrixStepCommit c k) s = .next (((s.logCore m.gid.task c e).endStep c m true).mapGroup m.gid
      (fun g => g.pendDataErr e.unit e.addr)) := by
  simp [exec_matrixStepCommit, execMatrixStepCommit, hm, serving, running, error]
end

/-- Entries written one after the other. -/
def Core.putEntries (c : Core) (l : List (Nat × Word × BitVec 6)) : Core := l.foldl (fun c x => c.accSet x.1 x.2.1) c

theorem exec_matrixStepCommit_of_sound {s : State} {c k : Nat} {m : MatStep} (hm : (s.core c).steps.find? (fun x => x.id == k) = some m)
    (serving : s.serving = true) (running : m.stage = .running) (sound : (s.core c).stepError m = none) :
    exec (.matrixStepCommit c k) s = .next (((s.setCore c ((s.core c).putEntries (m.out (s.core c)))).endStep c m false).mapGroup m.gid
      (fun g => { g with fpflags := g.fpflags ||| (m.out (s.core c)).foldl (fun f x => f ||| x.2.2) 0#6 })) := by
  simp [exec_matrixStepCommit, execMatrixStepCommit, hm, serving, running, sound, Core.putEntries]

@[simp] theorem Core.putEntries_hamper (c : Core) (l : List (Nat × Word × BitVec 6)) : (c.putEntries l).hamper = c.hamper :=
  foldl_keeps Core.hamper (f := fun (c : Core) (x : Nat × Word × BitVec 6) => c.accSet x.1 x.2.1) (fun _ _ => rfl) l c

theorem Core.accGet_accSet_same {c : Core} (h : SMap.wfFrom 0#64 none c.acc = true) (k : Nat) (v : Word) : (c.accSet k v).accGet k = v :=
  SMap.get_set_same 0 k v c.acc none h

theorem Core.accGet_accSet_other {c : Core} (h : SMap.wfFrom 0#64 none c.acc = true) {k x : Nat} (v : Word) (hx : x ≠ k) :
    (c.accSet k v).accGet x = c.accGet x :=
  SMap.get_set_other 0 k x v hx c.acc none h

/-- Entries written each once read as written, and the others as before. -/
theorem Core.accGet_putEntries {c : Core} (h : SMap.wfFrom 0#64 none c.acc = true) {l : List (Nat × Word × BitVec 6)}
    (once : (l.map (·.1)).Nodup) (x : Nat) :
    (c.putEntries l).accGet x = ((l.find? (fun y => y.1 == x)).map (fun y => y.2.1)).getD (c.accGet x) := by
  induction l generalizing c with
  | nil => rfl
  | cons y l ih =>
    obtain ⟨new, rest⟩ := List.nodup_cons.mp once
    refine (ih (Core.accSet_wf c y.1 y.2.1 h) rest).trans ?_
    by_cases hx : y.1 = x
    · have absent : l.find? (fun z => z.1 == x) = none := by
        rw [List.find?_eq_none]
        exact fun z hz hzx => new (List.mem_map.mpr ⟨z, hz, (beq_iff_eq.mp hzx).trans hx.symm⟩)
      subst hx
      simp [absent, Core.accGet_accSet_same h]
    · simp [hx, Core.accGet_accSet_other h y.2.1 (Ne.symm hx)]

/-! ### A step that leaves the array (08 R226) -/

/-- A change of a group of the device changes it on its core. -/
theorem State.core_mapGroup (s : State) (id : GId) (f : Group → Group) (d : Nat) : (s.mapGroup id f).core d = (s.core d).mapGroup id f := by
  simp only [State.core, State.mapGroup, List.getD_eq_getElem?_getD, List.getElem?_map]
  cases s.cores[d]? <;> rfl

@[simp] theorem State.mapGroup_core_acc (s : State) (id : GId) (f : Group → Group) (d : Nat) :
    ((s.mapGroup id f).core d).acc = (s.core d).acc := by
  rw [State.core_mapGroup]
  rfl

@[simp] theorem State.mapGroup_core_steps (s : State) (id : GId) (f : Group → Group) (d : Nat) :
    ((s.mapGroup id f).core d).steps = (s.core d).steps := by
  rw [State.core_mapGroup]
  rfl

@[simp] theorem State.endStep_memories (s : State) (c : Nat) (m : MatStep) (failed : Bool) : (s.endStep c m failed).memories = s.memories :=
  (State.mapGroup_memories _ _ _).trans (State.setCore_memories (by rfl))

@[simp] theorem State.endStep_core_acc (s : State) (c : Nat) (m : MatStep) (failed : Bool) (d : Nat) :
    ((s.endStep c m failed).core d).acc = (s.core d).acc :=
  (State.mapGroup_core_acc _ _ _ d).trans (State.core_field_setCore Core.acc (by rfl) d)

theorem State.endStep_core_steps {s : State} {c : Nat} (hc : c < s.cores.length) (m : MatStep) (failed : Bool) :
    ((s.endStep c m failed).core c).steps = (s.core c).steps.filter (fun x => decide (x.id ≠ m.id)) :=
  (State.mapGroup_core_steps _ _ _ c).trans (congrArg Core.steps (State.core_setCore_same s c _ hc))

/-- No step of its core bears the number of one that has left. -/
theorem State.id_ne_of_mem_endStep {s : State} {c : Nat} (hc : c < s.cores.length) {m y : MatStep} {failed : Bool}
    (hy : y ∈ ((s.endStep c m failed).core c).steps) : y.id ≠ m.id := by
  rw [State.endStep_core_steps hc] at hy
  simpa using (List.mem_filter.mp hy).2

/-! ### The log of a core's own errors (14 R384, R385) -/

@[simp] theorem State.logError_core (s : State) (task : Nat) (e : ErrEntry) (u : LampUnit) (c : Nat) : (s.logError task e u).core c = s.core c :=
  State.core_of_cores (State.logError_cores s task e u) c

theorem State.setCore_core (s : State) (c : Nat) : s.setCore c (s.core c) = s := by
  by_cases hc : c < s.cores.length
  · simp [State.setCore, State.core, hc]
  · simp [State.setCore, List.set_eq_of_length_le (Nat.not_lt.mp hc)]

/-- An error of a core's own store is logged, and of the core no more than its panes' marks change. -/
theorem State.logCore_eq (s : State) (task c : Nat) (e : Poison) :
    ∃ l x u, s.logCore task c e = (s.setCore c { s.core c with paneBad := l }).logError task x u := by
  unfold State.logCore
  dsimp only
  (repeat' split)
  · exact ⟨(s.core c).paneBad, _, _, by rw [State.setCore_core]⟩
  · exact ⟨_, _, _, rfl⟩
  · exact ⟨(s.core c).paneBad, _, _, by rw [State.setCore_core]⟩

@[simp] theorem State.logCore_memories (s : State) (task c : Nat) (e : Poison) : (s.logCore task c e).memories = s.memories := by
  obtain ⟨l, x, u, h⟩ := s.logCore_eq task c e
  rw [h, State.logError_memories]
  exact State.setCore_memories (by rfl)

@[simp] theorem State.logCore_length (s : State) (task c : Nat) (e : Poison) : (s.logCore task c e).cores.length = s.cores.length := by
  obtain ⟨l, x, u, h⟩ := s.logCore_eq task c e
  rw [h, State.logError_cores, State.setCore_length]

@[simp] theorem State.logCore_core_acc (s : State) (task c : Nat) (e : Poison) (d : Nat) : ((s.logCore task c e).core d).acc = (s.core d).acc := by
  obtain ⟨l, x, u, h⟩ := s.logCore_eq task c e
  rw [h, State.logError_core]
  exact State.core_field_setCore Core.acc (x := { s.core c with paneBad := l }) (by rfl) d

/-! ### The errors that a step meets (08 R226) -/

theorem Core.stepError_of_err {c : Core} {m : MatStep} {e : Poison} (h : m.err = some e) : c.stepError m = some e := by
  simp [Core.stepError, h]

theorem Core.stepError_eq_none {c : Core} {m : MatStep} (feed : m.err = none) (entries : c.accPoison = []) (panes : c.paneBad = []) :
    c.stepError m = none := by
  simp [Core.stepError, feed, entries, Core.paneError, panes]

end Sys2Proof.Machine

namespace Sys2Proof.Claims

open Sys2Proof.Machine

/-- Settles O40: what arbitration may choose and what is granted are read off their definitions, one request alone passes through both at once, and
a step starts with what its feed reads and commits its entries together or none of them. -/
theorem leasesAndMatrixSteps : Obligations.LeasesAndMatrixSteps := by
  refine ⟨?_, ?_, ?_, ?_, ?_, ?_, ?_, ?_, ?_, ?_, ?_, ?_, ?_⟩
  · intro s c q g granted serving lease hg
    exact exec_leaseGrant_of_group serving granted lease hg
  · intro s c k q granted serving run
    exact exec_leaseGrant_of_run serving granted run
  · intro s c serving none
    exact exec_leaseGrant_of_none serving none
  · intro s c
    refine (s.arbitrate_cases c).imp_right fun ⟨q, mayChoose, arbitrated⟩ => ?_
    obtain ⟨head, fresh, serves, top, apart⟩ := State.mem_mayChoose mayChoose
    refine ⟨q, Core.mem_reqs_of_mem_headReqs head, fresh, Core.find?_of_mem_headReqs head, fun p hp => ⟨?_, fun y hy chosen => ?_⟩,
      fun k y hk hy served => ?_, arbitrated⟩
    · exact State.panesServe_iff.mp serves p hp
    · exact getLsbD_of_disjoint (apart y hy chosen) hp
    · exact top y (Core.mem_headReqs.mpr ⟨k, hk, hy⟩) (State.panesServe_iff.mpr served)
  · intro s c q granted
    obtain ⟨queued, chosen, free, first⟩ := State.of_grantable granted
    refine ⟨queued, chosen, fun p hp => ?_, fun k y hk hy served lt => ?_, rfl, Core.granting_reqs _ q⟩
    · obtain ⟨grants, steps, runs, -⟩ := Core.paneFree_iff.mp (free p hp).1
      exact ⟨by simpa [State.paneUsable] using (free p hp).2, grants, steps, runs⟩
    · exact first y (Core.mem_headReqs.mpr ⟨k, hk, hy⟩) (State.panesServe_iff.mpr served) lt
  · intro s c q g hc alone fresh lease _ hs serving hg free
    exact exec_leaseGrant_of_single serving hc alone fresh lease hs hg free
  · intro s r g hg serving held due
    exact exec_leaseTimeout_of_lapsed hg serving held due
  · intro s c k m hm serving starts turn done sound
    exact ⟨(s.core c).startedStep m, exec_matrixStepStart_of_ready hm serving starts turn done sound, rfl, rfl, Core.feedError_eq_none,
      fun t ht reads => Core.feedError_ne_none ht reads, rfl⟩
  · intro s c k m hm serving starts turn done failed
    exact exec_matrixStepStart_of_failed hm serving starts turn done failed
  · intro s c k m y t hm hy head done ready earlier now shared
    have older : t < m.readyAt.getD s.clk := by
      cases h : m.readyAt with
      | none => exact now h
      | some u => exact earlier u h
    exact exec_matrixStepStart_of_not_turn hm (State.inTurn_eq_false hy (by simp [State.stepRipe, head, done]) ready older shared)
  · intro s c k m hm serving running sound hc canonical once
    have core := State.core_setCore_same s c ((s.core c).putEntries (m.out (s.core c))) hc
    refine ⟨_, exec_matrixStepCommit_of_sound hm serving running sound, State.sameBytes_of_memories ?_, fun x => ?_, fun y hy => ?_⟩
    · rw [State.mapGroup_memories, State.endStep_memories, State.setCore_memories (by simp)]
    · rw [Core.accGet, State.mapGroup_core_acc, State.endStep_core_acc, core, ← Core.accGet, Core.accGet_putEntries canonical once]
      cases (m.out (s.core c)).find? (fun y => y.1 == x) <;> rfl
    · rw [State.mapGroup_core_steps] at hy
      exact State.id_ne_of_mem_endStep (by simpa using hc) hy
  · intro c m feed entries panes
    exact Core.stepError_eq_none feed entries panes
  · intro s c k m e hm serving running error hc
    refine ⟨_, exec_matrixStepCommit_of_error hm serving running (Core.stepError_of_err error), State.sameBytes_of_memories (by simp), by simp,
      fun y hy => ?_⟩
    rw [State.mapGroup_core_steps] at hy
    exact State.id_ne_of_mem_endStep (by simpa using hc) hy

end Sys2Proof.Claims
end

section
/-!
PROOFS. The wicks of a group and their sequencers (09 R240, R243 to R251, R259): what the issue of a long instruction gives its wick, and what a stop,
a step boundary and a Commit leave of the wick, of the groups and of the bytes.
-/

namespace Sys2Proof.Machine

/-! ### The wicks of a group -/

theorem Group.wick_setWick_same {g : Group} {k : Nat} (h : k < g.wicks.length) (w : Wick) : (g.setWick k w).wick k = w := by
  simp [Group.wick, Group.setWick, List.getD_eq_getElem?_getD, h]

theorem Group.wick_setWick_other (g : Group) {j k : Nat} (h : j ≠ k) (w : Wick) : (g.setWick k w).wick j = g.wick j := by
  simp [Group.wick, Group.setWick, List.getD_eq_getElem?_getD, List.getElem?_set_ne h.symm]

@[simp] theorem Group.setWick_length (g : Group) (k : Nat) (w : Wick) : (g.setWick k w).wicks.length = g.wicks.length := by
  simp [Group.setWick]

/-- A wick written changes the group's wicks alone. -/
theorem Group.setWick_frame {g : Group} {l : List Wick} (h : l = g.wicks) (k : Nat) (w : Wick) : { g.setWick k w with wicks := l } = g := by
  subst h
  rfl

/-- A wick with a sequencer at work is one of the group's. -/
theorem Group.wick_lt_of_seq {g : Group} {k : Nat} {q : Sequencer} (h : (g.wick k).seq = some q) : k < g.wicks.length := by
  by_contra hk
  simp [Group.wick, List.getD_eq_getElem?_getD, Nat.not_lt.mp hk, Wick.idle] at h

@[simp] theorem issued_wick (g : Group) (k : Slot) (p : Part) (i : Instr) (n : Nat) : (issued g k p i).wick n = g.wick n := by
  simp [Group.wick]

/-- A wick at work is one of a seated group's. -/
theorem State.longAt_eq_some {s : State} {r : GRef} {wk : Nat} {g : Group} {w : Wick} {q : Sequencer} :
    s.longAt r wk = some (g, w, q) ↔ r.slot < 8 ∧ s.group r = some g ∧ g.wick wk = w ∧ w.seq = some q := by
  unfold State.longAt
  by_cases hr : r.slot < 8
  · cases hg : s.group r with
    | none => simp [hr]
    | some x =>
      simp only [hr, if_true, Option.map_eq_some_iff, true_and, Option.some.injEq]
      constructor
      · rintro ⟨y, hy, e⟩
        cases e
        exact ⟨rfl, rfl, hy⟩
      · rintro ⟨rfl, rfl, hy⟩
        exact ⟨q, hy, rfl⟩
  · simp [hr]

/-! ### Copies and sends that join (09 R243, 12 R314) -/

theorem Sequencer.send_eq (q : Sequencer) (chunk : Nat) (ms : List Nat) :
    ∃ l n, q.send chunk ms = { q with copies := l, nextNum := n } := by
  unfold Sequencer.send
  induction ms generalizing q with
  | nil => exact ⟨q.copies, q.nextNum, rfl⟩
  | cons m ms ih =>
    obtain ⟨l, n, h⟩ := ih { q with copies := q.copies ++ [⟨q.nextNum, m, chunk, true⟩], nextNum := q.nextNum + 1 }
    exact ⟨l, n, h⟩

/-- The copies of a step's operands change of a wick the outstanding ones alone. -/
theorem Wick.fetch_eq (w : Wick) (q : Sequencer) (k : Nat) :
    ∃ c n l m a, w.fetch q k = { w with cout := c, cseq := n, seq := some { q with copies := l, nextNum := m, asked := a } } := by
  unfold Wick.fetch
  split
  · exact ⟨w.cout, w.cseq, q.copies, q.nextNum, q.asked, rfl⟩
  · obtain ⟨l, m, h⟩ := q.send_eq k (List.range (copyCount w.kind q))
    exact ⟨_, _, l, m, k + 1, by rw [h]; rfl⟩

theorem Wick.fetch_of_asked {w : Wick} {q : Sequencer} {k : Nat} (h : k < q.asked ∨ isColl w.kind = true) (hq : w.seq = some q) :
    w.fetch q k = w := by
  rw [Wick.fetch, if_pos (.inr h), ← hq]

/-! ### Stops (09 R246 to R249, R259) -/

/-- What a discarded step leaves of its sequencer: nothing runs, and what was asked of it and the acknowledgements awaited stand. -/
theorem Wick.again_keeps (w : Wick) (q : Sequencer) :
    (w.again q).run = none ∧ (w.again q).acks = q.acks ∧ (w.again q).stop = q.stop := by
  unfold Wick.again
  dsimp only
  split <;> exact ⟨rfl, rfl, rfl⟩

/-- A stopped wick: what its running step did and fetched is discarded. -/
def Wick.halt (w : Wick) (status ecode : Nat) (fva : Option (Nat × Bool)) : Wick :=
  { w with
    status := status
    ecode := ecode
    fva := (fva.map (fun x => x.1 % 2 ^ 56)).getD w.fva
    seq := w.seq.map (fun q => { w.again q with stop := .none, acks := [], faultWr := (fva.map (·.2)).getD q.faultWr }) }

@[simp] theorem Wick.halt_done (w : Wick) (status ecode : Nat) (fva : Option (Nat × Bool)) : (w.halt status ecode fva).done = w.done := rfl

/-- A core that releases a run's panes keeps its groups. -/
theorem State.releaseRun_group (s : State) (c slot wk : Nat) (r : GRef) : (s.setCore c ((s.core c).releaseRun slot wk)).group r = s.group r :=
  State.group_setCore (by rfl) (by rfl) r

theorem State.stopWick_group {s : State} {r : GRef} {g₀ : Group} (h : s.group r = some g₀) (g : Group) (wk status ecode : Nat)
    (fva : Option (Nat × Bool)) :
    (s.stopWick r g wk status ecode fva).group r = some (g.setWick wk ((g.wick wk).halt status ecode fva)) :=
  (State.releaseRun_group _ _ _ _ r).trans (State.group_setGroup_same s r _ g₀ h)

/-! ### Step boundaries (09 R259, 13 R345) -/

section
variable {g : Group} {wk : Nat} {q : Sequencer} (hq : (g.wick wk).seq = some q)
include hq

/-- Within a step, at its acknowledgements or once done, nothing stops. -/
theorem State.boundary_of_not_between (s : State) (r : GRef) (h : (g.wick wk).status ≠ stBUSY ∨ q.run.isSome = true ∨ q.acks ≠ []) :
    s.boundary r g wk = s.setGroup r g := by
  simp only [State.boundary, hq]
  rw [if_pos h]

theorem State.boundary_of_unasked (s : State) (r : GRef) (h : q.stop = .none) : s.boundary r g wk = s.setGroup r g := by
  simp only [State.boundary, hq, h, ite_self]

theorem State.boundary_of_drop (s : State) (r : GRef) (busy : (g.wick wk).status = stBUSY) (idle : q.run = none) (acks : q.acks = [])
    (h : q.stop = .drop) : s.boundary r g wk = s.stopWick r g wk stDROPPED 0 none := by
  simp [State.boundary, hq, busy, idle, acks, h]

end

/-! ### A step that has committed (09 R244) -/

/-- A wick whose step has committed, with its sequencer at the boundary. -/
def Group.advanced (g : Group) (wk : Nat) (q : Sequencer) : Wick :=
  let w := g.wick wk
  let done := w.done + 1
  let q := { q with run := none, tried := q.ahead.isSome, faulted := q.ahead, ahead := none, bufs := q.bufs.filter (fun b => b.step != w.done) }
  let w := { w with done := done, lidx := lidxOf w.kind w.capt q w.total done (freeKey 5 g wk q done), seq := some q }
  if done = w.total ∧ q.stop ≠ .drop ∧ q.stop ≠ .cancel then { w with status := stDONE } else w

theorem Group.advanced_done (g : Group) (wk : Nat) (q : Sequencer) : (g.advanced wk q).done = (g.wick wk).done + 1 := by
  unfold Group.advanced
  dsimp only
  split <;> rfl

theorem Group.advanced_seq (g : Group) (wk : Nat) (q : Sequencer) :
    ∃ q', (g.advanced wk q).seq = some q' ∧ q'.run = none ∧ q'.acks = q.acks ∧ q'.stop = q.stop := by
  unfold Group.advanced
  dsimp only
  split <;> exact ⟨_, rfl, rfl, rfl, rfl⟩

/-- The last step makes the wick DONE, where nothing is to stop it. -/
theorem Group.advanced_status_of_unasked (g : Group) (wk : Nat) {q : Sequencer} (h : q.stop = .none) :
    (g.advanced wk q).status = if (g.wick wk).done + 1 = (g.wick wk).total then stDONE else (g.wick wk).status := by
  unfold Group.advanced
  simp only [h, ne_eq, reduceCtorEq, not_false_eq_true, and_true]
  split <;> rfl

theorem Group.advanced_status_of_drop (g : Group) (wk : Nat) {q : Sequencer} (h : q.stop = .drop) :
    (g.advanced wk q).status = (g.wick wk).status := by
  simp [Group.advanced, h]

/-- The grant that a run holds of its own has expired (08 R222). -/
def Core.runExpired (c : Core) (slot wk now : Nat) : Bool :=
  match c.runGrant slot wk with
  | some p => decide (p.since + Config.leaseClk ≤ now)
  | none => false

/-- The panes of a run go back with its last step, or once their grant has expired (08 R222). -/
def State.releaseAfter (s : State) (r : GRef) (wk : Nat) (last : Prop) [Decidable last] : State :=
  if last ∨ (s.core r.core).runExpired r.slot wk s.clk = true then s.setCore r.core ((s.core r.core).releaseRun r.slot wk) else s

@[simp] theorem State.releaseAfter_memories (s : State) (r : GRef) (wk : Nat) (last : Prop) [Decidable last] :
    (s.releaseAfter r wk last).memories = s.memories := by
  unfold State.releaseAfter
  split
  · exact State.setCore_memories (by rfl)
  · rfl

@[simp] theorem State.releaseAfter_group (s : State) (r : GRef) (wk : Nat) (last : Prop) [Decidable last] (p : GRef) :
    (s.releaseAfter r wk last).group p = s.group p := by
  unfold State.releaseAfter
  split
  · exact State.releaseRun_group _ _ _ _ p
  · rfl

/-- What follows a Commit: the wick advances, panes may go back, and its boundary comes. -/
theorem State.advance_eq (s : State) (r : GRef) {g : Group} {wk : Nat} {q : Sequencer} (hq : (g.wick wk).seq = some q) :
    s.advance r g wk = ((s.setGroup r (g.setWick wk (g.advanced wk q))).releaseAfter r wk
      ((g.wick wk).done + 1 = (g.advanced wk q).total)).boundary r (g.setWick wk (g.advanced wk q)) wk := by
  simp only [State.advance, hq]
  rfl

@[simp] theorem State.advance_memories (s : State) (r : GRef) (g : Group) (wk : Nat) : (s.advance r g wk).memories = s.memories := by
  cases hq : (g.wick wk).seq with
  | none => simp [State.advance, hq]
  | some q => simp [State.advance_eq s r hq]

section
variable {s : State} {r : GRef} {g g₀ : Group} {wk : Nat} {q : Sequencer} (hg : s.group r = some g₀) (hq : (g.wick wk).seq = some q)
include hg hq

theorem State.advance_group_of_unasked (h : q.stop = .none) : (s.advance r g wk).group r = some (g.setWick wk (g.advanced wk q)) := by
  obtain ⟨q', hq', -, -, stop⟩ := g.advanced_seq wk q
  have same := Group.wick_setWick_same (Group.wick_lt_of_seq hq) (g.advanced wk q)
  rw [State.advance_eq s r hq, State.boundary_of_unasked (q := q') (by rw [same, hq']) _ r (stop.trans h)]
  exact State.group_setGroup_same _ r _ _ ((State.releaseAfter_group ..).trans (State.group_setGroup_same s r _ g₀ hg))

/-- An instruction to be dropped is, at the boundary that its Commit comes to. -/
theorem State.advance_group_of_drop (h : q.stop = .drop) (acks : q.acks = []) (busy : (g.wick wk).status = stBUSY) :
    (s.advance r g wk).group r = some ((g.setWick wk (g.advanced wk q)).setWick wk ((g.advanced wk q).halt stDROPPED 0 none)) := by
  obtain ⟨q', hq', run, acks', stop⟩ := g.advanced_seq wk q
  have same := Group.wick_setWick_same (Group.wick_lt_of_seq hq) (g.advanced wk q)
  rw [State.advance_eq s r hq, State.boundary_of_drop (q := q') (by rw [same, hq']) _ r
    (by rw [same, Group.advanced_status_of_drop g wk h, busy]) run (acks'.trans acks) (stop.trans h)]
  refine (State.stopWick_group ((State.releaseAfter_group ..).trans (State.group_setGroup_same s r _ g₀ hg)) _ wk stDROPPED 0 none).trans ?_
  rw [same]
end

/-! ### Issue (09 R240, 10 R274, 12 R307) -/

theorem exec_of_longs {x : XL} {e : Instr × Nat} (he : e ∈ Claims.longs x) (s : State) :
    exec e.1 s = runPart .S e.1 s (fun s r g _ => issueLong s r g e.2 x.wk.toNat x.nd.toNat) := by
  simp only [Claims.longs, List.mem_cons, List.not_mem_nil, or_false] at he
  rcases he with rfl | rfl | rfl | rfl | rfl | rfl | rfl | rfl | rfl | rfl | rfl | rfl | rfl | rfl | rfl | rfl | rfl | rfl | rfl | rfl
  all_goals rfl

theorem own_of_longs {x : XL} {e : Instr × Nat} (he : e ∈ Claims.longs x) (s : State) (r : GRef) (g : Group) (p : Part) :
    own s r g .S p e.1 = ownLong s r g e.2 x.wk.toNat x.nd.toNat := by
  simp only [Claims.longs, List.mem_cons, List.not_mem_nil, or_false] at he
  rcases he with rfl | rfl | rfl | rfl | rfl | rfl | rfl | rfl | rfl | rfl | rfl | rfl | rfl | rfl | rfl | rfl | rfl | rfl | rfl | rfl
  all_goals rfl

/-- The opcodes of the long instructions: the tensor kinds', those of attention and the key-value forms, the collectives'. -/
def LongOpcode (op : Nat) : Prop := 0x40 ≤ op ∧ op ≤ 0x45 ∨ 0x50 ≤ op ∧ op ≤ 0x54 ∨ 0x58 ≤ op ∧ op ≤ 0x60

theorem longOpcode_of_longs {x : XL} {e : Instr × Nat} (he : e ∈ Claims.longs x) : LongOpcode e.2 := by
  have all : ∀ op ∈ (Claims.longs x).map (·.2), LongOpcode op := by
    simp [Claims.longs, LongOpcode]
  exact all _ (List.mem_map_of_mem he)

theorem LongOpcode.isColl_iff {op : Nat} (h : LongOpcode op) : isColl op = false ↔ op < 0x58 := by
  unfold LongOpcode at h
  simp only [isColl, Bool.and_eq_false_iff, decide_eq_false_iff_not]
  omega

theorem isArrayKind_iff {op : Nat} (h : 0x40 ≤ op) : isArrayKind op = true ↔ op < 0x42 := by
  simp only [isArrayKind, opXMM, opXCONV, Bool.or_eq_true, beq_iff_eq]
  omega

/-- TOTAL is the StepCount of the kind (09 R238). -/
theorem LongOpcode.longTotal_eq {op : Nat} (h : LongOpcode op) (mcfg : Word) (d l : List Byte) :
    longTotal op (longCapt op mcfg) d l = Claims.totalOf op mcfg d l := by
  unfold longTotal Claims.totalOf
  rcases h with ⟨lo, hi⟩ | ⟨lo, hi⟩ | ⟨lo, hi⟩
  · interval_cases op <;> rfl
  · interval_cases op <;> rfl
  · interval_cases op <;> rfl

theorem longCapt_of_array {op : Nat} (lo : 0x40 ≤ op) (h : op < 0x42) (mcfg : Word) : longCapt op mcfg = captOf true mcfg := by
  rw [longCapt, if_pos (by omega), (isArrayKind_iff lo).mpr h]

/-- A block that is read, or an issue that waits or traps: no read alone lets an issue go (05 R149). -/
theorem RecRead.orStop_ne_go {x : RecRead} {k : List Byte → LongRead} (h : ∀ l, k l ≠ .stop .go) : x.orStop k ≠ .stop .go := by
  cases x with
  | ok l => exact h l
  | _ => simp [RecRead.orStop, poisonTrap]

theorem State.longBlocks_ne_go (s : State) (w : EngFor) (op ea : Nat) : s.longBlocks w op ea ≠ .stop .go := by
  refine RecRead.orStop_ne_go fun d => ?_
  split
  · split
    · simp [operandTrap]
    · exact RecRead.orStop_ne_go fun l => by simp
  · split
    · split
      · simp [operandTrap]
      · refine RecRead.orStop_ne_go fun l => ?_
        split
        · refine RecRead.orStop_ne_go fun a => ?_
          split
          · simp [operandTrap]
          · exact RecRead.orStop_ne_go fun e => by simp
        · simp
    · simp

/-- An issue whose checks pass has read its block. -/
theorem longBlocks_of_ownLong_eq_go {s : State} {r : GRef} {g : Group} {op wk nd : Nat} (h : ownLong s r g op wk nd = .go) :
    ∃ d l aux, s.longBlocks (seqFor r.core g) op (g.nreg nd).toNat = .ok d l aux := by
  cases hb : s.longBlocks (seqFor r.core g) op (g.nreg nd).toNat with
  | ok d l aux => exact ⟨d, l, aux, rfl⟩
  | stop v =>
    simp only [ownLong, hb, then_eq_go] at h
    exact absurd (h.2.2 ▸ hb) (s.longBlocks_ne_go _ _ _)

/-- The wick that an issue gives an instruction, before its first copies: BUSY at step 0, or DONE where a kind but a collective has no step
(09 R238, R240). -/
def Wick.started (op : Nat) (cap : Capt) (ea total : Nat) (lidx : List Nat) : Wick :=
  let f (n : Nat) : Nat := if isArrayKind op then n - 1 else 0
  { Wick.idle with
    desc := ea
    kind := op
    total := total
    apane := cap.apane
    arbase := cap.arbase
    arows := if op ≤ 0x45 then cap.rows - 1 else 0
    ncol := f cap.ncol
    kcnt := f cap.kcnt
    psplit := cap.psplit
    fz := cap.fz
    status := if total = 0 ∧ !isColl op then stDONE else stBUSY
    lidx := lidx }

theorem issueLong_of_ok {s : State} {r : GRef} {g : Group} {op wk nd : Nat} {d l aux : List Byte}
    (h : s.longBlocks (seqFor r.core g) op (g.nreg nd).toNat = .ok d l aux) :
    ∃ lidx q, issueLong s r g op wk nd = s.setGroup r { g.setWick wk ((Wick.started op (longCapt op g.mcfg) (g.nreg nd).toNat
      (longTotal op (longCapt op g.mcfg) d l) lidx).fetch q 0) with longs := g.longs + 1 } := by
  unfold issueLong
  simp only [h]
  exact ⟨_, _, rfl⟩

/-- The wick whose instruction has issued, and the others. -/
theorem issueLong_wicks {s : State} {r : GRef} {g g₀ : Group} {op wk nd : Nat} {d l aux : List Byte} (hg : s.group r = some g₀)
    (hwk : wk < g.wicks.length) (h : s.longBlocks (seqFor r.core g) op (g.nreg nd).toNat = .ok d l aux) :
    ∃ h w, (issueLong s r g op wk nd).group r = some h ∧ (∀ k, k ≠ wk → h.wick k = g.wick k) ∧
      (∃ lidx, w = Wick.started op (longCapt op g.mcfg) (g.nreg nd).toNat (longTotal op (longCapt op g.mcfg) d l) lidx) ∧
      ∃ c n q, h.wick wk = { w with cout := c, cseq := n, seq := q } := by
  obtain ⟨lidx, q, issue⟩ := issueLong_of_ok (wk := wk) h
  refine ⟨_, _, (congrArg (State.group · r) issue).trans (State.group_setGroup_same s r _ g₀ hg),
    fun k hk => Group.wick_setWick_other g hk _, ⟨lidx, rfl⟩, ?_⟩
  obtain ⟨c, n, cs, m, a, fetched⟩ := Wick.fetch_eq (Wick.started op (longCapt op g.mcfg) (g.nreg nd).toNat
    (longTotal op (longCapt op g.mcfg) d l) lidx) q 0
  exact ⟨c, n, _, (Group.wick_setWick_same hwk _).trans fetched⟩

/-- The fields of MCFG that an array kind's wick captures (09 R239). -/
theorem Wick.started_captures {op : Nat} (lo : 0x40 ≤ op) (h : op < 0x42) {mcfg : Word} {ea total : Nat} {lidx : List Nat} {w : Wick}
    (hw : w = Wick.started op (longCapt op mcfg) ea total lidx) :
    w.apane = mcfg.toNat / 2 ^ 10 % 16 ∧ w.arbase = mcfg.toNat / 2 ^ 14 % 256 ∧ w.arows = mcfg.toNat / 2 ^ 22 % 256 ∧
      w.ncol = mcfg.toNat / 2 ^ 30 % 256 ∧ w.kcnt = mcfg.toNat / 2 ^ 38 % 64 ∧ w.psplit = mcfg.toNat / 2 ^ 44 % 4 ∧
      w.fz = mcfg.getLsbD 56 := by
  subst hw
  simp [Wick.started, longCapt_of_array lo h, (isArrayKind_iff lo).mpr h, show op ≤ 0x45 by omega, captOf, cfgPMASK, cfgRBASE, cfgROWS,
    cfgNCOL, cfgKCNT, cfgPSPLIT, cfgFZ, Machine.bits, Nat.shiftRight_eq_div_pow]

theorem Wick.started_status {op : Nat} (h : LongOpcode op) {cap : Capt} {ea total : Nat} {lidx : List Nat} {w : Wick}
    (hw : w = Wick.started op cap ea total lidx) : w.status = if w.total = 0 ∧ op < 0x58 then stDONE else stBUSY := by
  subst hw
  simp only [Wick.started, Bool.not_eq_true', h.isColl_iff]

/-! ### Writes of the sequencers leave the groups (09 R244, 11 R289) -/

/-- The groups that a core holds: those in its slots and those in its retirement tracker. -/
def Core.seats (c : Core) : List (Option Group) × List Group := (c.slots, c.tracker)

/-- A core written with the groups it had. -/
theorem State.group_setCore_of_seats {s : State} {c : Nat} {x : Core} (h : x.seats = (s.core c).seats) (r : GRef) :
    (s.setCore c x).group r = s.group r :=
  State.group_setCore (congrArg Prod.fst h) (congrArg Prod.snd h) r

@[simp] theorem Core.accPut_seats (c : Core) (va : Nat) (b : Byte) : (c.accPut va b).seats = c.seats := (rfl)

@[simp] theorem Core.accSet_seats (c : Core) (k : Nat) (v : Word) : (c.accSet k v).seats = c.seats := (rfl)

@[simp] theorem Core.endFills_seats (c : Core) (off n : Nat) : (c.endFills off n).seats = c.seats := (rfl)

@[simp] theorem Core.ownStore_seats (c : Core) (kind : AccKind) (pa : Nat) (bs : List Byte) : (c.ownStore kind pa bs).seats = c.seats := by
  unfold Core.ownStore
  split <;> rfl

theorem Core.onPad_seats {f : Core → Core} (h : ∀ c, (f c).seats = c.seats) (c : Core) (task : Nat) : (c.onPad task f).seats = c.seats := by
  unfold Core.onPad
  split
  · rfl
  · split
    · rfl
    · exact h c

/-- A fold over a core that keeps its groups. -/
theorem Core.foldl_seats {β : Type} {f : Core → β → Core} (h : ∀ c x, (f c x).seats = c.seats) (l : List β) (c : Core) :
    (l.foldl f c).seats = c.seats :=
  foldl_keeps Core.seats h l c

@[simp] theorem State.putPiece_group (s : State) (w : EngFor) (fill : Bool) (p : CopyPut) (r : GRef) :
    (s.putPiece w fill p).group r = s.group r := by
  unfold State.putPiece
  split
  · rfl
  · have lines : (if fill then s.llcFill p.pa true else s.llcMerge p.pa).cores = s.cores := by
      split <;> simp
    generalize (if fill then s.llcFill p.pa true else s.llcMerge p.pa) = u at lines
    have written (m : Mem) :
        (if p.whole then ({ u with mem := m } : State).soundGranule (p.pa / 16) else { u with mem := m }).group r = s.group r := by
      split <;> exact State.group_of_cores lines r
    dsimp only
    split
    · exact written _
    · refine (State.group_setCore_of_seats ?_ r).trans (written _)
      exact Core.foldl_seats (fun c x => Core.ownStore_seats c .store _ _) _ _
  · split
    · rfl
    · split
      · exact State.group_setCore_of_seats (Core.foldl_seats (fun c (x : Nat × Byte) => Core.accPut_seats c x.1 x.2) _ _) r
      · refine State.group_setCore_of_seats (Core.onPad_seats (fun c => ?_) _ _) r
        exact Core.foldl_seats (fun c (x : Nat × Byte) => Core.endFills_seats c (x.1 % 2 ^ 48) 1) _ c

@[simp] theorem State.engWrite_group (s : State) (w : EngFor) (l : List (Nat × Byte)) (r : GRef) : (s.engWrite w l).group r = s.group r :=
  foldl_keeps (fun t => t.group r) (fun t p => t.putPiece_group w false p r) _ s

@[simp] theorem State.putOuts_group (s : State) (w : EngFor) (m : List (Nat × Nat × Nat)) (r : GRef) : (s.putOuts w m).group r = s.group r :=
  State.engWrite_group ..

@[simp] theorem Core.fillAt_seats (c : Core) (id off n : Nat) (key : List Nat) : (c.fillAt id off n key).seats = c.seats := by
  unfold Core.fillAt
  split <;> rfl

@[simp] theorem State.writeCarry_group (s : State) (r : GRef) (x : StepAt) (p : GRef) : (s.writeCarry r x).group p = s.group p :=
  State.group_setCore_of_seats (Core.fillAt_seats ..) p

/-! ### What a Commit writes (09 R244, 03 R88) -/

theorem Group.countGuards_eq (g : Group) (l : List (Nat × Nat)) : ∃ gs, g.countGuards l = { g with guards := gs } := by
  unfold Group.countGuards
  induction l generalizing g with
  | nil => exact ⟨g.guards, rfl⟩
  | cons x l ih =>
    obtain ⟨gs, h⟩ := ih (g.setGuard x.1 { g.guard x.1 with sticky := true, count := Nat.min ((g.guard x.1).count + x.2) 0xFFFFFFFF })
    exact ⟨gs, h⟩

/-- A guard that no count names stays. -/
theorem Group.countGuards_guard_of_ne {l : List (Nat × Nat)} {j : Nat} (h : ∀ x ∈ l, x.1 ≠ j) (g : Group) :
    (g.countGuards l).guard j = g.guard j := by
  unfold Group.countGuards
  induction l generalizing g with
  | nil => rfl
  | cons x l ih =>
    obtain ⟨hx, hl⟩ := List.forall_mem_cons.mp h
    refine (ih hl _).trans ?_
    simp [Group.guard, Group.setGuard, List.getD_eq_getElem?_getD, List.getElem?_set_ne hx]

/-- The group of a step that has committed: its guards' counts and its flags. -/
def StepAt.countedGroup (x : StepAt) (o : StepOut) : Group := { x.g.countGuards o.guards with fpflags := x.g.fpflags ||| o.flags }

theorem StepAt.countedGroup_eq (x : StepAt) (o : StepOut) :
    ∃ gs, x.countedGroup o = { x.g with guards := gs, fpflags := x.g.fpflags ||| o.flags } := by
  obtain ⟨gs, h⟩ := x.g.countGuards_eq o.guards
  exact ⟨gs, by rw [StepAt.countedGroup, h]⟩

@[simp] theorem StepAt.countedGroup_wicks (x : StepAt) (o : StepOut) : (x.countedGroup o).wicks = x.g.wicks := by
  obtain ⟨gs, h⟩ := x.countedGroup_eq o
  rw [h]

/-- Whether a step leaves a carry in the ping buffer (10 R277, 12 R318). -/
def StepAt.carries (x : StepAt) (o : StepOut) : Bool := (x.w.kind == opXATTN || x.w.kind == opCRING) && o.live

/-- The sequencer of a step that has committed, before its wick advances. -/
def StepAt.committedSeq (x : StepAt) (o : StepOut) (tag : Nat) : Sequencer :=
  let q := x.q.send x.k x.formedSends
  { q with
    run := none
    carry := o.carry
    carryTag := if x.carries o then some tag else none
    topk := o.topk
    got := if x.w.kind = opCRING then q.got else q.got.filter (fun y => decide (x.k < y.chunk)) }

/-- Its wick, before it advances. -/
def StepAt.committedWick (x : StepAt) (o : StepOut) (tag : Nat) : Wick :=
  let w := { x.w with live := o.live, oob := o.oob }
  if isColl x.w.kind then w.withCopies (x.committedSeq o tag) else { w with seq := some (x.committedSeq o tag) }

@[simp] theorem StepAt.committedWick_seq (x : StepAt) (o : StepOut) (tag : Nat) : (x.committedWick o tag).seq = some (x.committedSeq o tag) := by
  unfold StepAt.committedWick
  split <;> rfl

/-- Until it advances, the wick shows of a Commit LIVE, OOB and its outstanding sends. -/
theorem StepAt.committedWick_eq (x : StepAt) (o : StepOut) (tag : Nat) :
    ∃ c n q, x.committedWick o tag = { x.w with live := o.live, oob := o.oob, cout := c, cseq := n, seq := q } := by
  unfold StepAt.committedWick
  split
  · exact ⟨_, _, _, rfl⟩
  · exact ⟨x.w.cout, x.w.cseq, _, rfl⟩

/-- The outputs of a step at their homes: bytes, accumulator entries, the carry. -/
def State.commitOuts (s : State) (r : GRef) (x : StepAt) (o : StepOut) : State :=
  let t := s.putOuts x.eng o.mem
  let t := t.setCore r.core (o.acc.foldl (fun (c : Core) (y : Nat × Word) => c.accSet y.1 y.2) (t.core r.core))
  if x.carries o then t.writeCarry r x else t

/-- Its group, before the wick advances. -/
def StepAt.committed (x : StepAt) (o : StepOut) (tag : Nat) : Group := (x.countedGroup o).setWick x.wk (x.committedWick o tag)

theorem StepAt.committed_wick {x : StepAt} (h : x.wk < x.g.wicks.length) (o : StepOut) (tag : Nat) :
    (x.committed o tag).wick x.wk = x.committedWick o tag :=
  Group.wick_setWick_same (by simpa using h) _

/-- A step that commits, with its wick written again, changes its group's guards, wicks and flags. -/
theorem StepAt.committed_setWick_eq (x : StepAt) (o : StepOut) (tag k : Nat) (w : Wick) :
    ∃ gs ws, (x.committed o tag).setWick k w = { x.g with guards := gs, wicks := ws, fpflags := x.g.fpflags ||| o.flags } := by
  obtain ⟨gs, counted⟩ := x.countedGroup_eq o
  refine ⟨gs, ((x.g.wicks.set x.wk (x.committedWick o tag)).set k w), ?_⟩
  rw [StepAt.committed, counted]
  rfl

/-- A step that no buffer must acknowledge commits its outputs, and its wick advances (09 R244). -/
theorem State.commitStep_eq (s : State) (r : GRef) {x : StepAt} (o : StepOut) (h : x.w.kind ≠ opKVAPP) :
    s.commitStep r x o = (s.commitOuts r x o).advance r (x.committed o s.ids) x.wk := by
  have kind : (x.committedWick o s.ids).kind = x.w.kind := by
    obtain ⟨c, n, q, hw⟩ := x.committedWick_eq o s.ids
    rw [hw]
  exact if_neg fun hk => h (kind.symm.trans hk)

@[simp] theorem State.commitOuts_group (s : State) (r : GRef) (x : StepAt) (o : StepOut) (p : GRef) :
    (s.commitOuts r x o).group p = s.group p := by
  have accs : ((s.putOuts x.eng o.mem).setCore r.core (o.acc.foldl (fun (c : Core) (y : Nat × Word) => c.accSet y.1 y.2)
      ((s.putOuts x.eng o.mem).core r.core))).group p = s.group p :=
    (State.group_setCore_of_seats (Core.foldl_seats (fun c (y : Nat × Word) => Core.accSet_seats c y.1 y.2) _ _) p).trans (State.putOuts_group ..)
  unfold State.commitOuts
  split
  · exact (State.writeCarry_group ..).trans accs
  · exact accs

theorem State.commitOuts_memories (s : State) (r : GRef) {x : StepAt} {o : StepOut} (h : x.carries o = false) :
    (s.commitOuts r x o).memories = (s.putOuts x.eng o.mem).memories := by
  simp only [State.commitOuts, h]
  exact State.setCore_memories (foldl_keeps Core.hamper (fun (c : Core) (y : Nat × Word) => by rfl) _ _)

theorem StepAt.committedSeq_keeps (x : StepAt) (o : StepOut) (tag : Nat) :
    (x.committedSeq o tag).stop = x.q.stop ∧ (x.committedSeq o tag).acks = x.q.acks := by
  obtain ⟨l, n, h⟩ := x.q.send_eq x.k x.formedSends
  simp [StepAt.committedSeq, h]

/-- The bytes that a Commit writes are the step's outputs, and its carry where it leaves one. -/
theorem State.commitStep_memories (s : State) (r : GRef) {x : StepAt} {o : StepOut} (kind : x.w.kind ≠ opKVAPP) (h : x.carries o = false) :
    (s.commitStep r x o).memories = (s.putOuts x.eng o.mem).memories := by
  rw [State.commitStep_eq s r o kind, State.advance_memories, State.commitOuts_memories s r h]

section
variable {s : State} {r : GRef} {x : StepAt} {g₀ : Group} (hg : s.group r = some g₀) (hwk : x.wk < x.g.wicks.length) (o : StepOut)
  (kind : x.w.kind ≠ opKVAPP)
include hg hwk kind

/-- A Commit counts guards, gathers flags and advances its wick, and leaves the rest of its group. -/
theorem State.commitStep_group_of_unasked (h : x.q.stop = .none) :
    ∃ g, (s.commitStep r x o).group r = some g ∧ (g.wick x.wk).done = x.w.done + 1 ∧
      (g.wick x.wk).status = (if x.w.done + 1 = x.w.total then stDONE else x.w.status) ∧
      ∃ gs ws, g = { x.g with guards := gs, wicks := ws, fpflags := x.g.fpflags ||| o.flags } := by
  obtain ⟨c, n, q, hw⟩ := x.committedWick_eq o s.ids
  have stop := (x.committedSeq_keeps o s.ids).1.trans h
  have mine := StepAt.committed_wick hwk o s.ids
  have advanced := State.advance_group_of_unasked ((State.commitOuts_group s r x o r).trans hg) (by rw [mine, StepAt.committedWick_seq]) stop
  refine ⟨_, (congrArg (State.group · r) (State.commitStep_eq s r o kind)).trans advanced, ?_, ?_,
    StepAt.committed_setWick_eq ..⟩
  · rw [Group.wick_setWick_same (by simpa [StepAt.committed] using hwk), Group.advanced_done, mine, hw]
  · rw [Group.wick_setWick_same (by simpa [StepAt.committed] using hwk), Group.advanced_status_of_unasked _ _ stop, mine, hw]

/-- An instruction to be dropped is, with the step that commits. -/
theorem State.commitStep_group_of_drop (h : x.q.stop = .drop) (acks : x.q.acks = []) (busy : x.w.status = stBUSY) :
    ∃ g, (s.commitStep r x o).group r = some g ∧ (g.wick x.wk).status = stDROPPED ∧ (g.wick x.wk).done = x.w.done + 1 := by
  obtain ⟨c, n, q, hw⟩ := x.committedWick_eq o s.ids
  obtain ⟨stop, acks'⟩ := x.committedSeq_keeps o s.ids
  have mine := StepAt.committed_wick hwk o s.ids
  have dropped := State.advance_group_of_drop ((State.commitOuts_group s r x o r).trans hg) (by rw [mine, StepAt.committedWick_seq])
    (stop.trans h) (acks'.trans acks) (by rw [mine, hw]; exact busy)
  refine ⟨_, (congrArg (State.group · r) (State.commitStep_eq s r o kind)).trans dropped, ?_⟩
  rw [Group.wick_setWick_same (by simpa [StepAt.committed] using hwk)]
  refine ⟨rfl, (Group.advanced_done _ _ _).trans ?_⟩
  rw [mine, hw]
end

/-! ### TILE_STEP_COMMIT (09 R244, R248, R259, 03 R88) -/

section
variable {s : State} {r : GRef} {wk : Nat} {g : Group} {w : Wick} {q : Sequencer} {o : StepOut} (h : s.longAt r wk = some (g, w, q))
  (run : q.run = some o) (serving : s.serving = true) (kind : w.kind ≠ opKVSHOOT)
  (shard : w.kind = opCRING → (⟨r.core, g, wk, w, q⟩ : StepAt).received = true)
include h run serving kind shard

/-- A step whose output page is gone is discarded. -/
theorem exec_tileStepCommit_of_gone (gone : s.outReady ⟨r.core, g, wk, w, q⟩ o = false) :
    exec (.tileStepCommit r wk) s = .next (s.boundary r (g.setWick wk { w with seq := some (w.again q) }) wk) := by
  have held : (w.kind == opCRING && !(⟨r.core, g, wk, w, q⟩ : StepAt).received) = false := by
    simpa using shard
  simp [exec_tileStepCommit, execTileStepCommit, h, run, serving, kind, held, gone]

variable (ready : s.outReady ⟨r.core, g, wk, w, q⟩ o = true)
include ready

/-- An output that would merge into a granule in error stops the instruction before any is written. -/
theorem exec_tileStepCommit_of_merge {e : Poison} (merge : s.outMergeErr (seqFor r.core g) o.mem = some e) :
    exec (.tileStepCommit r wk) s = .next ((s.logStep ⟨r.core, g, wk, w, q⟩ e).stopWick r g wk stERROR 2 none) := by
  have held : (w.kind == opCRING && !(⟨r.core, g, wk, w, q⟩ : StepAt).received) = false := by
    simpa using shard
  simp [exec_tileStepCommit, execTileStepCommit, h, run, serving, kind, held, ready, StepAt.eng, merge]

variable (merge : s.outMergeErr (seqFor r.core g) o.mem = none)
include merge

theorem exec_tileStepCommit_of_trap {k : Nat} (trap : o.trapGuard = some k) : exec (.tileStepCommit r wk) s =
    .next (s.stopWick r ((g.countGuards (q.trapCounts o)).pendRange k wk w.desc) wk stGUARD k none) := by
  have held : (w.kind == opCRING && !(⟨r.core, g, wk, w, q⟩ : StepAt).received) = false := by
    simpa using shard
  simp [exec_tileStepCommit, execTileStepCommit, h, run, serving, kind, held, ready, StepAt.eng, merge, trap]

theorem exec_tileStepCommit_of_sound (trap : o.trapGuard = none) :
    exec (.tileStepCommit r wk) s = .next (s.commitStep r ⟨r.core, g, wk, w, q⟩ o) := by
  have held : (w.kind == opCRING && !(⟨r.core, g, wk, w, q⟩ : StepAt).received) = false := by
    simpa using shard
  simp [exec_tileStepCommit, execTileStepCommit, h, run, serving, kind, held, ready, StepAt.eng, merge, trap]
end

end Sys2Proof.Machine
end

section
/-!
PROOFS. Long instructions at issue and the wick instructions (09 R240, R251, R259): what XWAIT, XSTAT, XRES and XDROP do to a wick, the service that
a step of an instruction in FAULT awaits, and a Commit that comes to the boundary at which its instruction is dropped.
-/

namespace Sys2Proof.Machine

/-! ### The wick instructions (09 R259) -/

theorem ownXwait_eq_go {g : Group} {wk : Nat} (ended : (g.wick wk).status ≠ stBUSY) (quiet : (g.wick wk).cout = 0) : ownXwait g wk = .go := by
  simp [ownXwait, ended, quiet, waitIf]

theorem Wick.stopped_ne_busy {w : Wick} (h : w.stopped = true) : w.status ≠ stBUSY := by
  intro busy
  simp [Wick.stopped, busy, stBUSY, stFAULT, stERROR, stGUARD] at h

/-- The wick of an instruction that XRES starts again: a new run from step DONE, with its guards captured anew. -/
def Group.resumed (g : Group) (wk : Nat) : Wick :=
  let w := g.wick wk
  { w with
    status := stBUSY
    ecode := 0
    seq := w.seq.map (fun q =>
      { w.restart q with
        guards := captureGuards g (longTensors w.kind q.desc q.aux)
        stop := .none
        service := if w.status = stFAULT then some (w.fva, q.faultWr) else none }) }

section
variable {g : Group} {wk : Nat}

theorem Group.resumeWick_of_stopped (h : (g.wick wk).stopped = true) : g.resumeWick wk = g.setWick wk (g.resumed wk) := if_pos h

theorem Group.resumeWick_of_not_stopped (h : (g.wick wk).stopped = false) : g.resumeWick wk = g := if_neg (by simp [h])

theorem Group.resumed_seq {q : Sequencer} (hq : (g.wick wk).seq = some q) :
    ∃ q', (g.resumed wk).seq = some q' ∧ q'.fresh = true ∧ q'.stop = .none ∧
      q'.guards = captureGuards g (longTensors (g.wick wk).kind q.desc q.aux) ∧
      q'.service = (if (g.wick wk).status = stFAULT then some ((g.wick wk).fva, q.faultWr) else none) := by
  simp only [Group.resumed, hq, Option.map_some]
  exact ⟨_, rfl, rfl, rfl, rfl, rfl⟩

variable (s : State) (r : GRef)

theorem State.dropWick_of_stopped (h : (g.wick wk).stopped = true) : s.dropWick r g wk = s.stopWick r g wk stDROPPED 0 none := by
  simp [State.dropWick, h, Wick.stopped_ne_busy h]

theorem State.dropWick_of_ended (h : (g.wick wk).stopped = false) (ended : (g.wick wk).status ≠ stBUSY) : s.dropWick r g wk = s.setGroup r g := by
  simp [State.dropWick, h, ended]

/-- An instruction that is to be dropped at its next step boundary. -/
def Group.dropping (g : Group) (wk : Nat) (q : Sequencer) : Group := g.setWick wk { g.wick wk with seq := some { q with stop := .drop } }

theorem State.dropWick_of_busy {q : Sequencer} (busy : (g.wick wk).status = stBUSY) (hq : (g.wick wk).seq = some q) :
    s.dropWick r g wk = s.boundary r (g.dropping wk q) wk := by
  simp [State.dropWick, Group.dropping, busy, hq]

theorem Group.dropping_wick {q : Sequencer} (h : wk < g.wicks.length) :
    (g.dropping wk q).wick wk = { g.wick wk with seq := some { q with stop := .drop } } :=
  Group.wick_setWick_same h _
end

@[simp] theorem captureGuards_issued (g : Group) (k : Slot) (p : Part) (i : Instr) (l : List Tensor) :
    captureGuards (issued g k p i) l = captureGuards g l := by
  simp [captureGuards]

/-- What an issue leaves, its group's wicks are as its effect left them. -/
theorem State.afterIssue_wick {s : State} {r : GRef} {g : Group} (h : s.group r = some g) :
    ∃ h, (s.afterIssue r).group r = some h ∧ ∀ k, h.wick k = g.wick k := by
  obtain ⟨o, t, b, ha⟩ := State.afterIssue_group h
  exact ⟨_, ha, fun _ => rfl⟩

end Sys2Proof.Machine

namespace Sys2Proof.Claims

open Sys2Proof.Machine

/-- Settles O10: an issue writes its own wick, the wick instructions write it again, and one that is to be dropped is at the boundary that its
Commit, or its discarded step, comes to. -/
theorem longInstructions : Obligations.LongInstructions := by
  refine ⟨?_, ?_, ?_, ?_, ?_, ?_, ?_, ?_, ?_⟩
  · intro x e he s g p ⟨⟨hh, hi⟩, ho⟩ hwk
    have op := longOpcode_of_longs he
    rw [own_of_longs he] at ho
    obtain ⟨d, l, aux, read⟩ := longBlocks_of_ownLong_eq_go ho
    obtain ⟨h, w, hgroup, others, ⟨lidx, hw⟩, c, n, q, mine⟩ := issueLong_wicks (g := issued g .S p e.1) (op := e.2) (wk := x.wk.toNat)
      (headOf_group hh).1 (by simpa using hwk) (by simpa [seqFor] using read)
    rw [issued_mcfg, issued_nreg] at hw
    obtain ⟨h', hgroup', wicks⟩ := State.afterIssue_wick hgroup
    refine ⟨_, (exec_of_longs he s).trans (runPart_issues .S e.1 s _ g p hh hi ((own_of_longs he s s.cur g p).trans ho)),
      State.sameBytes_of_memories (by simp), h', hgroup', ?_⟩
    rw [wicks, mine]
    refine ⟨by rw [hw]; rfl, by rw [hw]; rfl, by rw [hw]; rfl, by rw [hw]; rfl, ?_, fun d' l' aux' read' => ?_, fun array => ?_, fun k hk => ?_⟩
    · have status := Wick.started_status op hw
      exact status
    · rw [read] at read'
      cases read'
      rw [hw]
      exact op.longTotal_eq g.mcfg d l
    · have lo : 0x40 ≤ e.2 := by unfold LongOpcode at op; omega
      have captured := Wick.started_captures lo array hw
      exact captured
    · rw [wicks, others k hk, issued_wick]
  · intro x s g p ⟨hh, hi⟩ ended quiet
    rw [exec_xwait, execXwait, runPart_issues .S _ s _ g p hh hi (ownXwait_eq_go ended quiet), issued_wick]
  · intro x s g p ⟨hh, hi⟩
    rw [exec_xstat, execXstat, runGroup_issues .S _ s _ g p hh hi rfl, issued_wick]
  · intro x s g p ⟨hh, hi⟩ hwk
    refine ⟨_, (exec_xres x s).trans (runGroup_issues .S _ s _ g p hh hi rfl), fun running => ?_, fun stopped => ?_⟩
    · exact Group.resumeWick_of_not_stopped (by simpa using running)
    · rw [Group.resumeWick_of_stopped (by simpa using stopped), Group.wick_setWick_same (by simpa using hwk)]
      refine ⟨rfl, rfl, by simp [Group.resumed], fun k hk => ?_, fun q hq => ?_⟩
      · exact (Group.wick_setWick_other _ hk _).trans (issued_wick ..)
      · simpa using Group.resumed_seq (g := issued g .S p (.xres x)) (by simpa using hq)
  · intro s r g wk va wr q serving hslot hg hq busy idle unasked acks service
    have at_ : s.longAt r wk = some (g, g.wick wk, q) := State.longAt_eq_some.mpr ⟨hslot, hg, rfl, hq⟩
    refine ⟨fun miss => ?_, fun refused => ?_⟩
    · simp [exec_tileStepStart, execTileStepStart, at_, serving, stepReady, busy, idle, unasked, acks, serviceState, service, miss]
    · simp [exec_tileStepStart, execTileStepStart, at_, serving, stepReady, busy, idle, unasked, acks, serviceState, service, refused]
  · intro x s g p ⟨hh, hi⟩ stopped
    rw [exec_xdrop, execXdrop, runPart_issues .S _ s _ g p hh hi rfl, State.dropWick_of_stopped _ _ (by simpa using stopped)]
  · intro x s g p ⟨hh, hi⟩ running ended
    rw [exec_xdrop, execXdrop, runPart_issues .S _ s _ g p hh hi rfl, State.dropWick_of_ended _ _ (by simpa using running) (by simpa using ended)]
    rfl
  · intro x s g p q ⟨hh, hi⟩ hwk busy hq
    have dropped := (exec_xdrop x s).trans (runPart_issues .S _ s _ g p hh hi rfl)
    rw [State.dropWick_of_busy (q := q) _ _ (by simpa using busy) (by simpa using hq)] at dropped
    have mine := Group.dropping_wick (g := issued g .S p (.xdrop x)) (q := q) (wk := x.wk.toNat) (by simpa using hwk)
    have others (k : Nat) (hk : k ≠ x.wk.toNat) : ((issued g .S p (.xdrop x)).dropping x.wk.toNat q).wick k = g.wick k :=
      (Group.wick_setWick_other _ hk _).trans (issued_wick ..)
    refine ⟨fun within => ?_, fun idle acks => ?_⟩
    · rw [State.boundary_of_not_between (q := { q with stop := .drop }) (by rw [mine])] at dropped
      · refine ⟨_, dropped, by rw [mine, issued_wick], ?_, others⟩
        exact Group.setWick_frame (issued_wicks g .S p (.xdrop x)).symm _ _
      · exact .inr (within.imp_left Option.isSome_iff_ne_none.mpr)
    · rw [State.boundary_of_drop (q := { q with stop := .drop }) (by rw [mine]) _ _ (by rw [mine, issued_wick]; exact busy) idle acks rfl] at dropped
      obtain ⟨h, hgroup, wicks⟩ := State.afterIssue_wick (State.stopWick_group (headOf_group hh).1
        ((issued g .S p (.xdrop x)).dropping x.wk.toNat q) x.wk.toNat stDROPPED 0 none)
      have stopped := (wicks x.wk.toNat).trans (Group.wick_setWick_same (by simpa [Group.dropping] using hwk) _)
      rw [mine, issued_wick] at stopped
      refine ⟨_, h, dropped, hgroup, State.sameBytes_of_memories (by simp), by rw [stopped]; rfl, by rw [stopped]; rfl, fun k hk => ?_⟩
      rw [wicks, Group.wick_setWick_other _ hk, others k hk]
  · intro s r g wk q o x serving hslot hg hwk hq busy run drop acks notShoot notAppend hx shard sound untrapped
    subst hx
    have at_ : s.longAt r wk = some (g, g.wick wk, q) := State.longAt_eq_some.mpr ⟨hslot, hg, rfl, hq⟩
    cases ready : s.outReady ⟨r.core, g, wk, g.wick wk, q⟩ o with
    | false =>
      have mine := Group.wick_setWick_same hwk { g.wick wk with seq := some ((g.wick wk).again q) }
      obtain ⟨idle, acks', stop⟩ := (g.wick wk).again_keeps q
      have gone := exec_tileStepCommit_of_gone at_ run serving notShoot shard ready
      rw [State.boundary_of_drop (by rw [mine]) s r (by rw [mine]; exact busy) idle (acks'.trans acks) (stop.trans drop)] at gone
      refine ⟨_, _, gone, State.stopWick_group hg _ wk stDROPPED 0 none, ?_⟩
      rw [Group.wick_setWick_same (by simpa using hwk), mine]
      exact ⟨rfl, rfl⟩
    | true =>
      have sound' := exec_tileStepCommit_of_sound at_ run serving notShoot shard ready sound untrapped
      obtain ⟨h, hgroup, dropped, done⟩ :=
        State.commitStep_group_of_drop (x := ⟨r.core, g, wk, g.wick wk, q⟩) hg hwk o notAppend drop acks busy
      exact ⟨_, h, sound', hgroup, dropped, done⟩

end Sys2Proof.Claims
end

section
/-!
PROOFS. Tile steps and the buffers of entries (09 R243 to R251, 10 R271, R273, R280, R281): what a copy of the operands fetches, how a step starts,
commits or stops its instruction, and what a buffer's acknowledgement drops.
-/

namespace Sys2Proof.Machine

/-! ### Logs of errors leave groups and bytes (14 R384) -/

/-- What a log entry leaves, the log of what a step's reads corrected leaves. -/
theorem State.logFixed_keeps {γ : Type} (π : State → γ)
    (h : ∀ (s : State) (task : Nat) (e : ErrEntry) (u : LampUnit), π (s.logError task e u) = π s)
    (s : State) (x : StepAt) (l : List ReadAt) : π (s.logFixed x l) = π s := by
  refine foldl_keeps (fun st : List Nat × State => π st.2) (fun st y => ?_) _ ([], s)
  split
  · rfl
  · exact h _ _ _ _

@[simp] theorem State.logFixed_memories (s : State) (x : StepAt) (l : List ReadAt) : (s.logFixed x l).memories = s.memories :=
  State.logFixed_keeps State.memories State.logError_memories s x l

@[simp] theorem State.logFixed_cores (s : State) (x : StepAt) (l : List ReadAt) : (s.logFixed x l).cores = s.cores :=
  State.logFixed_keeps State.cores State.logError_cores s x l

/-- A log entry changes no byte that an engine reads, nor its translation. -/
@[simp] theorem State.logError_engByte (s : State) (task : Nat) (e : ErrEntry) (u : LampUnit) (l1 : Bool) (w : EngFor) (va : Nat) :
    (s.logError task e u).engByte l1 w va = s.engByte l1 w va := by
  unfold State.logError
  split <;> rfl

@[simp] theorem State.logFixed_engByte (s : State) (x : StepAt) (l : List ReadAt) (l1 : Bool) (w : EngFor) (va : Nat) :
    (s.logFixed x l).engByte l1 w va = s.engByte l1 w va :=
  State.logFixed_keeps (fun t => t.engByte l1 w va) (fun t task e u => t.logError_engByte task e u l1 w va) s x l

@[simp] theorem State.logCore_group (s : State) (task c : Nat) (e : Poison) (r : GRef) : (s.logCore task c e).group r = s.group r := by
  obtain ⟨l, x, u, h⟩ := s.logCore_eq task c e
  rw [h, State.group_of_cores (State.logError_cores ..)]
  exact State.group_setCore_of_seats (by rfl) r

@[simp] theorem State.logStep_memories (s : State) (x : StepAt) (p : Poison) : (s.logStep x p).memories = s.memories := by
  unfold State.logStep
  dsimp only
  split
  · exact State.logCore_memories ..
  · split
    · split
      · exact State.logError_memories ..
      · rfl
    · split
      · exact State.logError_memories ..
      · rfl

@[simp] theorem State.logStep_group (s : State) (x : StepAt) (p : Poison) (r : GRef) : (s.logStep x p).group r = s.group r := by
  unfold State.logStep
  dsimp only
  split
  · exact State.logCore_group ..
  · split
    · split
      · exact State.group_of_cores (State.logError_cores ..) r
      · rfl
    · split
      · exact State.group_of_cores (State.logError_cores ..) r
      · rfl

/-! ### The buffers of entries leave groups and bytes (10 R271, R273, R282) -/

@[simp] theorem State.fillEntry_memories (s : State) (c : Nat) (x : EntryLine) (pa : Option Nat) : (s.fillEntry c x pa).memories = s.memories := by
  have entered : (s.setCore c { s.core c with entries := fillLine 256 (s.core c).entries x }).memories = s.memories :=
    State.setCore_memories (by rfl)
  cases pa <;> exact entered

@[simp] theorem State.fillEntry_group (s : State) (c : Nat) (x : EntryLine) (pa : Option Nat) (r : GRef) :
    (s.fillEntry c x pa).group r = s.group r := by
  cases pa <;> exact State.group_setCore_of_seats (by rfl) r

@[simp] theorem State.fillRead_cores (s : State) (task pa va : Nat) (dirty : Bool) : (s.fillRead task pa va dirty).cores = s.cores := by
  simp [State.fillRead]

/-- What a line that comes into the LLC leaves, a block's lines leave. -/
theorem State.fillBlock_keeps {γ : Type} (π : State → γ)
    (h : ∀ (s : State) (task pa va : Nat) (dirty : Bool), π (s.fillRead task pa va dirty) = π s)
    (s : State) (x : StepAt) (va n : Nat) : π (s.fillBlock x va n) = π s := by
  refine foldl_keeps π (fun t i => ?_) _ s
  split
  · exact h _ _ _ _ _
  · rfl

/-- What the fill of an entry and of a block's lines leaves, a step's entries leave. -/
theorem State.fillEntries_keeps {γ : Type} (π : State → γ)
    (entry : ∀ (s : State) (c : Nat) (x : EntryLine) (pa : Option Nat), π (s.fillEntry c x pa) = π s)
    (line : ∀ (s : State) (task pa va : Nat) (dirty : Bool), π (s.fillRead task pa va dirty) = π s) (s : State) (x : StepAt) :
    π (s.fillEntries x) = π s := by
  unfold State.fillEntries
  dsimp only
  split
  · refine foldl_keeps π (fun t e => ?_) _ s
    split
    · rfl
    · exact entry _ _ _ _
  · split
    · refine foldl_keeps π (fun t b => ?_) _ s
      split
      · rfl
      · exact (State.fillBlock_keeps π line _ _ _ _).trans (entry _ _ _ _)
    · rfl

@[simp] theorem State.fillEntries_memories (s : State) (x : StepAt) : (s.fillEntries x).memories = s.memories :=
  State.fillEntries_keeps State.memories State.fillEntry_memories State.fillRead_memories s x

@[simp] theorem State.fillEntries_group (s : State) (x : StepAt) (r : GRef) : (s.fillEntries x).group r = s.group r :=
  State.fillEntries_keeps (State.group · r) (fun t c e pa => t.fillEntry_group c e pa r)
    (fun t task pa va dirty => State.group_of_cores (t.fillRead_cores task pa va dirty) r) s x

@[simp] theorem State.dropLines_memories (s : State) (buf asid : Nat) (span : Option (Nat × Nat × Nat)) :
    (s.dropLines buf asid span).2.memories = s.memories := by
  unfold State.dropLines
  split
  · exact State.setCore_memories (by rfl)
  · rfl

@[simp] theorem State.dropLines_group (s : State) (buf asid : Nat) (span : Option (Nat × Nat × Nat)) (r : GRef) :
    (s.dropLines buf asid span).2.group r = s.group r := by
  unfold State.dropLines
  split
  · exact State.group_setCore_of_seats (by rfl) r
  · rfl

/-! ### The pages of a round (09 R247) -/

theorem lowest_ne_none {l : List (Nat × Bool)} (h : l ≠ []) : lowest l ≠ none := by
  cases l with
  | nil => exact absurd rfl h
  | cons x l => simp [lowest]

/-- A round goes on just where every page of it is translated, whatever faulted before. -/
theorem State.pageRound_eq_ok {s : State} {asid : Nat} {man : Bool} {old : Option (Nat × Bool)} {needs : List Need} :
    s.pageRound asid man old needs = .ok ↔
      ∀ x ∈ needs, s.translate x.unit asid x.va x.wr ≠ .refused ∧ s.translate x.unit asid x.va x.wr ≠ .miss := by
  unfold State.pageRound
  extract_lets t faulting low
  have refuses : ∀ x ∈ t, x.2 = .refused → faulting ≠ [] := fun x hx hr =>
    List.ne_nil_of_mem (List.mem_map_of_mem (List.mem_filter.mpr ⟨hx, by simp [hr]⟩))
  constructor
  · intro h
    split at h
    · cases h
    · rename_i quiet
      split at h
      · cases h
      · rename_i present
        refine fun x hx => ⟨fun hr => ?_, fun hm => present ?_⟩
        · have found := refuses _ (List.mem_map_of_mem hx) hr
          cases man with
          | true => exact lowest_ne_none found quiet
          | false =>
            have refusal : t.any (fun x => decide (x.2 = .refused)) = true := List.any_eq_true.mpr ⟨_, List.mem_map_of_mem hx, by simp [hr]⟩
            exact lowest_ne_none (List.append_ne_nil_of_right_ne_nil _ found) (by simpa [refusal] using quiet)
        · exact List.any_eq_true.mpr ⟨_, List.mem_map_of_mem hx, by simp [hm]⟩
  · intro h
    have sound : ∀ x ∈ t, x.2 ≠ .refused ∧ x.2 ≠ .miss := List.forall_mem_map.mpr h
    have unfaulted : faulting = [] := by
      rw [List.map_eq_nil_iff, List.filter_eq_nil_iff]
      exact fun x hx => by simp [sound x hx]
    have unrefused : t.any (fun x => decide (x.2 = .refused)) = false := List.any_eq_false.mpr fun x hx => by simp [sound x hx]
    have present : t.any (fun x => decide (x.2 = .miss)) = false := List.any_eq_false.mpr fun x hx => by simp [sound x hx]
    cases man <;> simp [unrefused, present, unfaulted, lowest]

/-! ### Copies of the operands (09 R243; log 40) -/

/-- A copy whose pages are translated completes with the bytes that it reads. -/
theorem State.completeCopy_of_ok {s : State} {r : GRef} {x : StepAt} {y : SeqCopy} (kind : isColl x.w.kind = false) (live : y.live = true)
    (first : x.second y = false) (pages : s.pageRound x.g.asid (longMan x.w.kind x.q.desc) none (s.copyNeeds x y) = .ok) :
    s.completeCopy r x y = (s.logFixed x (x.at ((s.copyReads x y.chunk).getD y.peer []))).fillCopy r x y := by
  have translated (old : Option (Nat × Bool)) : s.copyPages x y old = .ok := by
    simpa [State.copyPages, first] using State.pageRound_eq_ok.mpr (State.pageRound_eq_ok.mp pages)
  simp [State.completeCopy, kind, live, first, translated]

/-- The group whose copy has completed: its buffer holds, by address, what the copy read. -/
theorem State.fillCopy_group {s : State} {r : GRef} {g₀ : Group} (hg : s.group r = some g₀) (x : StepAt) (y : SeqCopy) :
    ∃ b, (s.fillCopy r x y).group r = some (x.g.setWick x.wk (x.w.withCopies
        { x.q with copies := x.q.copies.filter (fun z => decide (z ≠ y)), bufs := x.q.bufs ++ [b] })) ∧
      b.step = y.chunk ∧ b.copy = y.peer ∧ ∀ z ∈ b.data, z.2 = s.engByte false x.eng z.1 := by
  refine ⟨_, (State.group_setCore_of_seats (Core.fillAt_seats ..) r).trans (State.group_setGroup_same s r _ g₀ hg), rfl, rfl, ?_⟩
  simp

theorem State.fillCopy_padByte (s : State) (r : GRef) (x : StepAt) (y : SeqCopy) {c : Nat} (hc : c ≠ r.core) (a : Nat) :
    (s.fillCopy r x y).padByte c a = s.padByte c a :=
  congrArg (fun k : Core => k.hamper.read a) ((State.core_setCore_other _ r.core c _ hc).trans (State.core_setGroup_other s r _ c hc))

/-! ### A step that starts (09 R243, R244, R249) -/

theorem StepAt.ringSend_eq (x : StepAt) (q : Sequencer) : ∃ l n a, x.ringSend q = { q with copies := l, nextNum := n, asked := a } := by
  unfold StepAt.ringSend
  dsimp only
  split
  · obtain ⟨l, n, h⟩ := q.send_eq x.k [((collOf x.q.desc).me + 1) % (collOf x.q.desc).nm]
    exact ⟨l, n, x.k + 1, by rw [h]⟩
  · exact ⟨q.copies, q.nextNum, q.asked, rfl⟩

/-- The sequencer of a step that has started, before the copies and sends that its start issues. -/
def StepAt.runningSeq (s : State) (x : StepAt) (o : StepOut) : Sequencer :=
  { x.q with run := some o, acks := if x.w.kind = opKVSHOOT then s.buffersIn else [], acked := 0, dropped := 0, readyAt := none }

/-- Its wick, with the copies and sends that its start issues. -/
def StepAt.running (s : State) (x : StepAt) (o : StepOut) : Wick :=
  let q := x.ringSend (x.runningSeq s o)
  if isColl x.w.kind then x.w.withCopies q else x.w.fetch q (x.k + 1)

/-- A started step shows of itself its outstanding copies and sends alone. -/
theorem StepAt.running_eq (s : State) (x : StepAt) (o : StepOut) :
    ∃ c n q, x.running s o = { x.w with cout := c, cseq := n, seq := some q } ∧ q.run = some o := by
  obtain ⟨l, m, a, sent⟩ := x.ringSend_eq (x.runningSeq s o)
  unfold StepAt.running
  rw [sent]
  dsimp only
  split
  · exact ⟨_, _, _, rfl, rfl⟩
  · obtain ⟨c, n, l', m', a', fetched⟩ := x.w.fetch_eq { x.runningSeq s o with copies := l, nextNum := m, asked := a } (x.k + 1)
    exact ⟨c, n, _, fetched, rfl⟩

theorem State.tryStep_of_run {s : State} (r : GRef) {x : StepAt} {o : StepOut} (h : s.attempt x = .run o) :
    ∃ t : State, s.tryStep r x = { t.setGroup r (x.g.setWick x.wk (x.running s o)) with free := t.free + 2 ^ 33 } ∧
      t.memories = s.memories ∧ ∀ p, t.group p = s.group p := by
  refine ⟨(if s.round1Ok x then s.fillEntries x else s).logFixed x ((s.round1 x).reads ++ (s.round2 x (s.stepEntries x)).reads),
    ?_, ?_, fun p => ?_⟩
  · simp only [State.tryStep, h, State.setGroup_free]
    rfl
  · rw [State.logFixed_memories]
    split
    · exact State.fillEntries_memories s x
    · rfl
  · rw [State.group_of_cores (State.logFixed_cores ..)]
    split
    · exact State.fillEntries_group s x p
    · rfl

/-- A step that starts writes no byte, and of its group the wick, where what it will commit waits. -/
theorem State.tryStep_runs {s : State} {r : GRef} {x : StepAt} {o : StepOut} (h : s.attempt x = .run o) (hg : s.group r = some x.g)
    (hwk : x.wk < x.g.wicks.length) :
    s.sameBytes (s.tryStep r x) ∧ ∃ g q, (s.tryStep r x).group r = some g ∧ (g.wick x.wk).seq = some q ∧ q.run = some o ∧
      (g.wick x.wk).done = x.w.done ∧ (g.wick x.wk).status = x.w.status := by
  obtain ⟨t, tried, mem, groups⟩ := State.tryStep_of_run r h
  obtain ⟨c, n, q, running, run⟩ := x.running_eq s o
  rw [tried]
  refine ⟨State.sameBytes_of_memories ((State.setGroup_memories _ _ _).trans mem), _, q,
    State.group_setGroup_same t r _ x.g ((groups r).trans hg), ?_⟩
  rw [Group.wick_setWick_same hwk, running]
  exact ⟨rfl, run, rfl, rfl⟩

theorem StepAt.fetchDone_eq_true {x : StepAt} (asked : x.w.done < x.q.asked ∨ isColl x.w.kind = true)
    (fetched : ∀ y ∈ x.q.copies, y.live = true → y.chunk ≠ x.w.done) : x.fetchDone = true := by
  rw [StepAt.fetchDone, Bool.or_eq_true, Bool.and_eq_true, decide_eq_true_eq, Bool.not_eq_true', List.any_eq_false]
  refine asked.symm.imp_right fun asked => ⟨asked, fun y hy => ?_⟩
  simpa [StepAt.k] using fetched y hy

/-- A step whose operands are fetched, its contributions here and its turn on its panes come, is tried. -/
theorem State.startStep_of_ready {s : State} {r : GRef} {x : StepAt} (hq : x.w.seq = some x.q)
    (asked : x.w.done < x.q.asked ∨ isColl x.w.kind = true) (more : x.w.done < x.w.total)
    (fetched : ∀ y ∈ x.q.copies, y.live = true → y.chunk ≠ x.w.done) (here : x.contributed = true)
    (panes : isArrayKind x.w.kind = true →
      (s.core r.core).panesIdle r.slot x.wk x.w.apane = true ∧ s.inTurn r.core x.w.apane x.q.readyAt = true) :
    s.startStep r x = s.tryStep r x := by
  have arrived := StepAt.fetchDone_eq_true asked fetched
  have turn : (isArrayKind x.w.kind && !((s.core r.core).panesIdle r.slot x.wk x.w.apane && s.inTurn r.core x.w.apane x.q.readyAt)) = false := by
    simpa using panes
  simp only [State.startStep, Wick.fetch_of_asked (k := x.k) asked hq, hq, Option.getD_some, arrived, here, turn, Nat.not_le.mpr more, Bool.not_true,
    Bool.or_self, Bool.false_eq_true, if_false]

section
variable {s : State} {r : GRef} {wk : Nat} {g : Group} {w : Wick} {q : Sequencer} (h : s.longAt r wk = some (g, w, q))
  (serving : s.serving = true) (ready : stepReady w q = true) (service : q.service = none)
include h serving ready service

/-- A step that awaits no service, its block in order and its panes held, goes on to start. -/
theorem exec_tileStepStart_of_ready (fresh : q.fresh = false)
    (panes : isArrayKind w.kind = true → (s.core r.core).runHolds g r.slot wk w.apane s.clk = true) :
    exec (.tileStepStart r ⟨wk, none⟩) s = .next (s.startStep r ⟨r.core, g, wk, w, q⟩) := by
  have held : (isArrayKind w.kind && !(s.core r.core).runHolds g r.slot wk w.apane s.clk) = false := by
    simpa using panes
  have same : { q with service := none, fresh := false } = q := by rw [← service, ← fresh]
  simp [exec_tileStepStart, execTileStepStart, h, serving, ready, serviceState, service, held, fresh, same]

theorem exec_tileStepStart_of_panes (array : isArrayKind w.kind = true)
    (panes : (s.core r.core).runHolds g r.slot wk w.apane s.clk = false) :
    exec (.tileStepStart r ⟨wk, none⟩) s = .next (s.setCore r.core ((s.core r.core).askRun r.slot wk w.apane s.clk)) := by
  simp [exec_tileStepStart, execTileStepStart, h, serving, ready, serviceState, service, array, panes]
end

theorem exec_tileStepStart_of_copy {s : State} {r : GRef} {wk i : Nat} {g : Group} {w : Wick} {q : Sequencer} {y : SeqCopy}
    (h : s.longAt r wk = some (g, w, q)) (serving : s.serving = true) (hy : q.copies[i]? = some y) :
    exec (.tileStepStart r ⟨wk, some i⟩) s = .next (s.completeCopy r ⟨r.core, g, wk, w, q⟩ y) := by
  simp [exec_tileStepStart, execTileStepStart, h, serving, hy]

/-! ### Acknowledgements (10 R273, R280) -/

/-- The sequencer of a KVSHOOT whose buffer has acknowledged, with the number of lines that it dropped. -/
def Sequencer.acknowledge (q : Sequencer) (buf lines : Nat) : Sequencer :=
  { q with acks := q.acks.filter (· != buf), acked := q.acked + 1, dropped := q.dropped + lines }

/-- A KVSHOOT's buffer acknowledges: its covered lines are dropped, and counted. -/
theorem exec_bufferAcknowledge_of_shoot {s : State} {r : GRef} {wk buf : Nat} {g : Group} {w : Wick} {q : Sequencer}
    (h : s.longAt r wk = some (g, w, q)) (serving : s.serving = true) (awaited : buf ∈ q.acks) (kind : w.kind = opKVSHOOT) :
    exec (.bufferAcknowledge r wk buf) s = .next ((s.dropLines buf g.asid (shootSpan w q)).2.setGroup r (g.setWick wk
      { w with seq := some (q.acknowledge buf (s.dropLines buf g.asid (shootSpan w q)).1) })) := by
  obtain ⟨-, hg, -, -⟩ := State.longAt_eq_some.mp h
  simp [exec_bufferAcknowledge, execBufferAcknowledge, h, serving, awaited, hg, kind, opKVSHOOT, opKVAPP, Sequencer.acknowledge]

theorem exec_kvshootComplete_of_sound {s : State} {r : GRef} {wk : Nat} {g : Group} {w : Wick} {q : Sequencer}
    (h : s.longAt r wk = some (g, w, q)) (serving : s.serving = true) (kind : w.kind = opKVSHOOT) (run : q.run ≠ none) (acks : q.acks = [])
    (pages : s.span (seqUnit r.core) g.asid (shootOf q.desc).ack 8 true = .ok)
    (sound : s.mergeErr (seqUnit r.core) g.asid (shootOf q.desc).ack 8 = none) :
    exec (.kvshootComplete r wk) s = .next ((s.vwrite (seqUnit r.core) g.asid (shootOf q.desc).ack
      (natLE 8 (ackWord q.dropped q.acked))).advance r g wk) := by
  simp [exec_kvshootComplete, execKvshootComplete, h, serving, kind, run, acks, pages, sound]

/-! ### The counts of a discarded step (03 R88; log 44) -/

/-- Of a step that a guard's trap discards, guards in trap mode alone count. -/
theorem Sequencer.trapCounts_ne {q : Sequencer} {o : StepOut} {j : Nat} (h : ∀ y ∈ q.guards, y.g = j → y.act ≠ 3) :
    ∀ x ∈ q.trapCounts o, x.1 ≠ j := by
  intro x hx
  obtain ⟨-, counted⟩ := List.mem_filter.mp hx
  obtain ⟨y, hy, named⟩ := List.any_eq_true.mp counted
  simp only [Bool.and_eq_true, beq_iff_eq] at named
  exact fun e => h y hy (named.1.trans e) named.2

end Sys2Proof.Machine

namespace Sys2Proof.Claims

open Sys2Proof.Machine

/-- Settles O41: a round whose pages are translated goes on whatever faulted before, so that a copy completes and a step starts; a Commit
writes its outputs and advances its wick; and a stop, a step discarded and an acknowledgement write the wick alone. -/
theorem tileSteps : Obligations.TileSteps := by
  refine ⟨?_, ?_, ?_, ?_, ?_, ?_, ?_, ?_, ?_, ?_, ?_, ?_, ?_⟩
  · intro s r wk g w q at_ serving ready service fresh panes
    exact exec_tileStepStart_of_ready at_ serving ready service fresh panes
  · intro s r wk g w q at_ serving ready service array panes
    exact exec_tileStepStart_of_panes at_ serving ready service array panes
  · intro s r wk g w q o at_ serving ready service fresh hwk panes more issued fetched here run
    obtain ⟨-, hg, -, hq⟩ := State.longAt_eq_some.mp at_
    have started := exec_tileStepStart_of_ready at_ serving ready service fresh fun array => (panes array).1
    rw [State.startStep_of_ready hq issued more fetched here fun array => (panes array).2] at started
    obtain ⟨same, h, q', hgroup, hseq, hrun, hdone, hstatus⟩ := State.tryStep_runs run hg hwk
    exact ⟨_, h, q', started, same, hgroup, hseq, hrun, hdone, hstatus⟩
  · intro s r wk i g w q y at_ serving hy live kind first hwk pages
    obtain ⟨-, hg, -, -⟩ := State.longAt_eq_some.mp at_
    have done := exec_tileStepStart_of_copy at_ serving hy
    rw [State.completeCopy_of_ok kind live (by simpa [StepAt.second] using first) pages] at done
    generalize hu : s.logFixed _ _ = u at done
    obtain ⟨b, hgroup, hstep, hcopy, hdata⟩ := State.fillCopy_group (s := u) (r := r) (g₀ := g)
      (by rw [← hu, State.group_of_cores (State.logFixed_cores ..), hg]) ⟨r.core, g, wk, w, q⟩ y
    have mem := State.fillCopy_memories_fst u r ⟨r.core, g, wk, w, q⟩ y
    rw [← hu, State.logFixed_memories] at mem
    refine ⟨_, _, _, b, done, hgroup, by rw [Group.wick_setWick_same hwk]; rfl, rfl, rfl, hstep, hcopy, fun z hz => ?_,
      by rw [Group.wick_setWick_same hwk]; rfl, fun a => ?_, fun a => ?_, fun c a hc => ?_⟩
    · rw [hdata z hz, ← hu, State.logFixed_engByte]
      rfl
    · rw [hu] at mem
      exact congrArg (fun m => m.1.read a) mem
    · rw [hu] at mem
      exact congrArg (fun m => m.2.read a) mem
    · rw [State.fillCopy_padByte _ _ _ _ hc, ← hu]
      exact State.padByte_of_memories (congrArg Prod.snd (State.logFixed_memories ..)) c a
  · intro s r x o run hg _ hwk _
    exact State.tryStep_runs run hg hwk
  · intro s r wk g w q o at_ run serving kind shard ready sound untrapped
    exact exec_tileStepCommit_of_sound at_ run serving kind shard ready sound untrapped
  · intro s r wk g w q o at_ run serving hwk unasked acks ready sound untrapped kinds
    obtain ⟨-, hg, -, -⟩ := State.longAt_eq_some.mp at_
    have notShoot : w.kind ≠ opKVSHOOT := kinds _ (by simp)
    have notAppend : w.kind ≠ opKVAPP := kinds _ (by simp)
    have notAttn : w.kind ≠ opXATTN := kinds _ (by simp)
    have notRing : w.kind ≠ opCRING := kinds _ (by simp)
    obtain ⟨h, hgroup, hdone, hstatus, gs, ws, hh⟩ :=
      State.commitStep_group_of_unasked (x := ⟨r.core, g, wk, w, q⟩) hg hwk o notAppend unasked
    have mem := State.commitStep_memories s r (x := ⟨r.core, g, wk, w, q⟩) (o := o) notAppend (by simp [StepAt.carries, notAttn, notRing])
    refine ⟨_, h, exec_tileStepCommit_of_sound at_ run serving notShoot (absurd · notRing) ready sound untrapped, State.sameBytes_of_memories mem,
      hgroup, hdone, hstatus, ?_⟩
    rw [hh]
    exact ⟨rfl, rfl, rfl⟩
  · intro s r wk g w q o at_ run serving kind unasked shard gone
    obtain ⟨-, -, hw, hq⟩ := State.longAt_eq_some.mp at_
    subst hw
    obtain ⟨-, -, stop⟩ := (g.wick wk).again_keeps q
    rw [exec_tileStepCommit_of_gone at_ run serving kind shard gone,
      State.boundary_of_unasked (q := (g.wick wk).again q) (by rw [Group.wick_setWick_same (Group.wick_lt_of_seq hq)]) s r (stop.trans unasked)]
  · intro s r wk g w q o e at_ run serving kind shard ready merge hwk
    obtain ⟨-, hg, hw, -⟩ := State.longAt_eq_some.mp at_
    refine ⟨_, _, exec_tileStepCommit_of_merge at_ run serving kind shard ready merge, State.sameBytes_of_memories (by simp),
      State.stopWick_group ((State.logStep_group ..).trans hg) g wk stERROR 2 none, ?_⟩
    rw [Group.wick_setWick_same hwk, hw]
    exact ⟨rfl, rfl, rfl⟩
  · intro s r wk k g w q o at_ run serving kind shard ready sound trap hwk
    obtain ⟨-, hg, hw, -⟩ := State.longAt_eq_some.mp at_
    obtain ⟨gs, counted⟩ := g.countGuards_eq (q.trapCounts o)
    have wicks : ((g.countGuards (q.trapCounts o)).pendRange k wk w.desc).wicks = g.wicks := by
      rw [counted]
      rfl
    refine ⟨_, _, exec_tileStepCommit_of_trap at_ run serving kind shard ready sound trap, State.sameBytes_of_memories (by simp),
      State.stopWick_group hg _ wk stGUARD k none, ?_⟩
    rw [Group.wick_setWick_same (by rw [wicks]; exact hwk)]
    refine ⟨rfl, rfl, ?_, mergePend_isSome _ _ _, by rw [counted]; rfl, fun j hj => ?_⟩
    · rw [Wick.halt_done]
      exact congrArg Wick.done ((congrArg (fun l : List Wick => l.getD wk Wick.idle) wicks).trans hw)
    · exact Group.countGuards_guard_of_ne (Sequencer.trapCounts_ne hj) g
  · intro s r g w wk q _ hg hwk hw hq unasked acks
    subst hw
    refine ⟨_, State.advance_group_of_unasked hg hq unasked, ?_⟩
    rw [Group.wick_setWick_same hwk]
    exact ⟨Group.advanced_done .., Group.advanced_status_of_unasked g wk unasked⟩
  · intro s r wk buf g w q at_ serving awaited kind hwk
    obtain ⟨-, hg, -, -⟩ := State.longAt_eq_some.mp at_
    refine ⟨_, _, _, exec_bufferAcknowledge_of_shoot at_ serving awaited kind, State.sameBytes_of_memories (by simp),
      State.group_setGroup_same _ r _ g ((State.dropLines_group ..).trans hg), by rw [Group.wick_setWick_same hwk], rfl, rfl, rfl,
      by rw [Group.wick_setWick_same hwk]⟩
  · intro s r wk g w q at_ serving kind run acks pages sound
    exact exec_kvshootComplete_of_sound at_ serving kind run acks pages sound

end Sys2Proof.Claims
end

section
/-!
PROOFS. The copy engines of the device (11 R285): those of the cores and the front ends' as one value, what leaves them as they were, and what
becomes of a started entry when it is written.
-/

namespace Sys2Proof.Machine

/-! ### The engines of the device -/

/-- The copy engines: the cores', and the front ends' of the dies. -/
def State.copyEngines (s : State) : List CopyEngine × List CopyEngine := (s.cores.map Core.copy, s.dies.map Die.copy)

theorem State.engine_eq (s : State) (e : Nat) :
    s.engine e = if e < 160 then s.copyEngines.1.getD e CopyEngine.idle else s.copyEngines.2.getD (e - 160) CopyEngine.idle := by
  simp only [State.engine, State.core, State.die, State.copyEngines, List.getD_eq_getElem?_getD, List.getElem?_map]
  cases s.cores[e]? <;> cases s.dies[e - 160]? <;> rfl

theorem State.engine_of_copyEngines {s t : State} (h : t.copyEngines = s.copyEngines) (e : Nat) : t.engine e = s.engine e := by
  rw [State.engine_eq, State.engine_eq, h]

/-- An element written that a function maps as it maps the one there. -/
theorem map_set_of_eq {α β : Type} {f : α → β} {l : List α} {k : Nat} {x d : α} (h : f x = f (l.getD k d)) : (l.set k x).map f = l.map f := by
  by_cases hk : k < l.length
  · rw [List.map_set, h, List.getD_eq_getElem _ _ hk, ← List.map_set, List.set_getElem_self]
  · rw [List.set_eq_of_length_le (Nat.not_lt.mp hk)]

/-- A core that keeps its engine. -/
theorem State.setCore_copyEngines {s : State} {c : Nat} {x : Core} (h : x.copy = (s.core c).copy) : (s.setCore c x).copyEngines = s.copyEngines :=
  Prod.ext (map_set_of_eq h) rfl

/-- A die that keeps its engine. -/
theorem State.setDie_copyEngines {s : State} {d : Nat} {x : Die} (h : x.copy = (s.die d).copy) : (s.setDie d x).copyEngines = s.copyEngines :=
  Prod.ext rfl (map_set_of_eq h)

/-- A core whose engine is not idle exists. -/
theorem State.core_lt_of_engine {s : State} {e : Nat} (core : e < 160) (h : s.engine e ≠ CopyEngine.idle) : e < s.cores.length := by
  refine Nat.lt_of_not_le fun past => h ?_
  rw [State.engine, if_pos core, State.core, List.getD_eq_default _ _ past]
  rfl

/-- A die whose engine is not idle exists. -/
theorem State.die_lt_of_engine {s : State} {e : Nat} (die : ¬ e < 160) (h : s.engine e ≠ CopyEngine.idle) : e - 160 < s.dies.length := by
  refine Nat.lt_of_not_le fun past => h ?_
  rw [State.engine, if_neg die, State.die, List.getD_eq_default _ _ past]
  rfl

/-- An engine that is not idle is read back as it is written. -/
theorem State.engine_setEngine_same {s : State} {e : Nat} (h : s.engine e ≠ CopyEngine.idle) (x : CopyEngine) : (s.setEngine e x).engine e = x := by
  by_cases core : e < 160
  · rw [State.setEngine, if_pos core, State.engine, if_pos core, State.core_setCore_same s e _ (State.core_lt_of_engine core h)]
  · rw [State.setEngine, if_neg core, State.engine, if_neg core]
    simp [State.die, State.setDie, State.die_lt_of_engine core h]

/-- An engine with a started entry is not idle. -/
theorem State.engine_ne_idle {s : State} {e run : Nat} {j : CopyJob} (h : (s.engine e).runs[run]? = some j) : s.engine e ≠ CopyEngine.idle := by
  intro idle
  rw [idle] at h
  cases h

/-- A part of an engine that a write of the engine keeps. -/
theorem State.engine_field_setEngine {α : Type} (f : CopyEngine → α) {s : State} {e : Nat} {x : CopyEngine} (h : f x = f (s.engine e)) :
    f ((s.setEngine e x).engine e) = f (s.engine e) := by
  by_cases core : e < 160
  · simp only [State.setEngine, State.engine, if_pos core] at h ⊢
    exact State.core_field_setCore (fun c => f c.copy) h e
  · simp only [State.setEngine, State.engine, if_neg core] at h ⊢
    by_cases present : e - 160 < s.dies.length
    · simpa [State.die, State.setDie, present] using h
    · rw [State.setDie, List.set_eq_of_length_le (Nat.not_lt.mp present)]

/-! ### The operations of the memories leave the engines -/

@[simp] theorem State.clearRefused_copyEngines (s : State) (u : XUnit) (asid va n : Nat) : (s.clearRefused u asid va n).copyEngines = s.copyEngines :=
  State.setDie_copyEngines (by rfl)

@[simp] theorem State.logError_copyEngines (s : State) (task : Nat) (e : ErrEntry) (u : LampUnit) :
    (s.logError task e u).copyEngines = s.copyEngines := by
  unfold State.logError
  split <;> rfl

@[simp] theorem State.logRead_copyEngines (s : State) (task pa va : Nat) : (s.logRead task pa va).copyEngines = s.copyEngines := by
  unfold State.logRead
  split <;> simp

@[simp] theorem State.logFill_copyEngines (s : State) (task pa va : Nat) (reads : List Nat) :
    (s.logFill task pa va reads).copyEngines = s.copyEngines := by
  unfold State.logFill
  dsimp only
  split
  · rfl
  · split <;> simp

@[simp] theorem State.llcRoom_copyEngines (s : State) (line : Nat) : (s.llcRoom line).copyEngines = s.copyEngines := by
  unfold State.llcRoom
  dsimp only
  split <;> rfl

@[simp] theorem State.llcSoak_copyEngines (s : State) (sector : Nat) : (s.llcSoak sector).copyEngines = s.copyEngines :=
  foldl_keeps State.copyEngines (fun t k => by split <;> rfl) _ s

@[simp] theorem State.llcFill_copyEngines (s : State) (pa : Nat) (dirty : Bool) : (s.llcFill pa dirty).copyEngines = s.copyEngines := by
  unfold State.llcFill
  dsimp only
  split
  · rfl
  · exact (State.llcSoak_copyEngines _ _).trans (State.llcRoom_copyEngines _ _)

@[simp] theorem State.llcMerge_copyEngines (s : State) (pa : Nat) : (s.llcMerge pa).copyEngines = s.copyEngines := by
  unfold State.llcMerge
  split <;> simp

@[simp] theorem Core.l1Fill_copy (c : Core) (sector : Nat) (v : BitVec 256) (evict : List Nat) (pick : Nat) :
    (c.l1Fill sector v evict pick).copy = c.copy := by
  unfold Core.l1Fill
  dsimp only
  split
  · rfl
  · split <;> rfl

@[simp] theorem State.l1Bring_copyEngines (s : State) (core sector : Nat) (evict : List Nat) :
    (s.l1Bring core sector evict).copyEngines = s.copyEngines := by
  unfold State.l1Bring
  split
  · rfl
  · rfl
  · exact State.setCore_copyEngines (s := s) (c := core) (Core.l1Fill_copy _ _ _ _ _)

@[simp] theorem Core.ownStore_copy (c : Core) (kind : AccKind) (pa : Nat) (bs : List Byte) : (c.ownStore kind pa bs).copy = c.copy := by
  unfold Core.ownStore
  split <;> rfl

theorem Core.onPad_copy {f : Core → Core} (h : ∀ c, (f c).copy = c.copy) (c : Core) (task : Nat) : (c.onPad task f).copy = c.copy := by
  unfold Core.onPad
  split
  · rfl
  · split
    · rfl
    · exact h c

/-! ### What an engine logs and brings in (11 R289, R293, 14 R384) -/

/-- What a log entry leaves, the log of what a job's reads corrected leaves. -/
theorem State.logCorrected_keeps {γ : Type} (π : State → γ)
    (h : ∀ (s : State) (task : Nat) (e : ErrEntry) (u : LampUnit), π (s.logError task e u) = π s)
    (s : State) (e : Nat) (j : CopyJob) (vas : List Nat) : π (s.logCorrected e j vas) = π s := by
  refine foldl_keeps (fun st : List Nat × State => π st.2) (fun st y => ?_) _ ([], s)
  split
  · rfl
  · exact h _ _ _ _

@[simp] theorem State.logCorrected_copyEngines (s : State) (e : Nat) (j : CopyJob) (vas : List Nat) :
    (s.logCorrected e j vas).copyEngines = s.copyEngines :=
  State.logCorrected_keeps State.copyEngines State.logError_copyEngines s e j vas

@[simp] theorem State.logCorrected_cores (s : State) (e : Nat) (j : CopyJob) (vas : List Nat) : (s.logCorrected e j vas).cores = s.cores :=
  State.logCorrected_keeps State.cores State.logError_cores s e j vas

/-- What a log entry leaves, the log of an error that a job met leaves. -/
theorem State.logJob_keeps {γ : Type} (π : State → γ)
    (h : ∀ (s : State) (task : Nat) (e : ErrEntry) (u : LampUnit), π (s.logError task e u) = π s)
    (s : State) (e : Nat) (j : CopyJob) (p : Poison) : π (s.logJob e j p) = π s := by
  unfold State.logJob
  dsimp only
  split_ifs
  · exact h ..
  · exact h ..
  · split
    · exact h ..
    · rfl

@[simp] theorem State.logJob_copyEngines (s : State) (e : Nat) (j : CopyJob) (p : Poison) : (s.logJob e j p).copyEngines = s.copyEngines :=
  State.logJob_keeps State.copyEngines State.logError_copyEngines s e j p

@[simp] theorem State.logJob_memories (s : State) (e : Nat) (j : CopyJob) (p : Poison) : (s.logJob e j p).memories = s.memories :=
  State.logJob_keeps State.memories State.logError_memories s e j p

/-- What the lines of the LLC and of the L1s leave, a payload read leaves. -/
theorem State.engFill_keeps {γ : Type} (π : State → γ) (llc : ∀ (s : State) (pa : Nat) (dirty : Bool), π (s.llcFill pa dirty) = π s)
    (l1 : ∀ (s : State) (core sector : Nat) (evict : List Nat), π (s.l1Bring core sector evict) = π s)
    (s : State) (w : EngFor) (na : Bool) (vas : List Nat) : π (s.engFill w na vas) = π s := by
  unfold State.engFill
  split
  · rfl
  · refine foldl_keeps π (fun t k => ?_) _ s
    split
    · exact llc ..
    · split
      · rfl
      · exact (l1 ..).trans (llc ..)

@[simp] theorem State.engFill_copyEngines (s : State) (w : EngFor) (na : Bool) (vas : List Nat) : (s.engFill w na vas).copyEngines = s.copyEngines :=
  State.engFill_keeps State.copyEngines State.llcFill_copyEngines State.l1Bring_copyEngines s w na vas

@[simp] theorem State.engFill_memories (s : State) (w : EngFor) (na : Bool) (vas : List Nat) : (s.engFill w na vas).memories = s.memories :=
  State.engFill_keeps State.memories State.llcFill_memories State.l1Bring_memories s w na vas

@[simp] theorem State.logPut_copyEngines (s : State) (j : CopyJob) (p : CopyPut) : (s.logPut j p).copyEngines = s.copyEngines := by
  unfold State.logPut
  dsimp only
  split
  · rfl
  · exact State.logFill_copyEngines ..

/-! ### A started entry written (11 R285, R302) -/

@[simp] theorem State.mapRun_memories (s : State) (e run : Nat) (f : CopyJob → CopyJob) : (s.mapRun e run f).memories = s.memories := by
  unfold State.mapRun
  dsimp only
  split
  · exact State.setEngine_memories ..
  · rfl

@[simp] theorem State.hold_memories (s : State) (e : Nat) (j : CopyJob) (addr : Nat) : (s.hold e j addr).memories = s.memories := by
  unfold State.hold
  split
  · rfl
  · exact State.setEngine_memories ..

/-- A held address leaves the started entries. -/
@[simp] theorem State.hold_runs (s : State) (e : Nat) (j : CopyJob) (addr : Nat) : ((s.hold e j addr).engine e).runs = (s.engine e).runs := by
  unfold State.hold
  split
  · rfl
  · exact State.engine_field_setEngine CopyEngine.runs (by rfl)

/-- A started entry written is read back. -/
theorem State.mapRun_run {s : State} {e run : Nat} {j : CopyJob} (h : (s.engine e).runs[run]? = some j) (f : CopyJob → CopyJob) :
    ((s.mapRun e run f).engine e).runs[run]? = some (f j) := by
  obtain ⟨present, -⟩ := List.getElem?_eq_some_iff.mp h
  have mapped : s.mapRun e run f = s.setEngine e { s.engine e with runs := (s.engine e).runs.set run (f j) } := by
    simp [State.mapRun, h]
  rw [mapped, State.engine_setEngine_same (State.engine_ne_idle h)]
  simp [present]

/-- An engine that stays keeps its started entries. -/
theorem State.run_of_copyEngines {s t : State} (same : t.copyEngines = s.copyEngines) {e run : Nat} {j : CopyJob}
    (h : (s.engine e).runs[run]? = some j) : (t.engine e).runs[run]? = some j := by
  rw [State.engine_of_copyEngines same, h]

end Sys2Proof.Machine
end

section
/-!
PROOFS. The issue of the copy instructions (11 R285, R298 to R302): each form enters its channel's queue, last; CPYL without a head and CPYQ
complete at once.
-/

namespace Sys2Proof.Machine

/-! ### The queue of a channel (11 R285) -/

theorem State.engine_of_core {c : Nat} (core : c < 160) (s : State) : s.engine c = (s.core c).copy := if_pos core

theorem State.core_setEngine_same {s : State} {c : Nat} (here : c < s.cores.length) (core : c < 160) (x : CopyEngine) :
    ((s.setEngine c x).core c).copy = x := by
  rw [State.setEngine, if_pos core, State.core_setCore_same s c _ here]

/-- A job entered stands last in the queue of its core's engine. -/
theorem State.enqueueCopy_queue {s : State} {c : Nat} (here : c < s.cores.length) (core : c < 160) (j : CopyJob) :
    ((s.enqueueCopy c j).core c).copy.queue = (s.core c).copy.queue ++ [{ j with id := s.ids }] := by
  have entered := State.core_setEngine_same here core { s.engine c with queue := (s.engine c).queue ++ [{ j with id := s.ids }] }
  refine (congrArg CopyEngine.queue entered).trans ?_
  rw [State.engine_of_core core]

@[simp] theorem State.afterIssue_core_copy (s : State) (r : GRef) (c : Nat) : ((s.afterIssue r).core c).copy = (s.core c).copy :=
  State.core_field_afterIssue Core.copy (fun _ _ => rfl) (fun _ _ => rfl) (fun _ _ _ _ => rfl) s r c

/-- An issue that writes its group and enters a job leaves the job last in the queue. -/
theorem State.issued_enqueueCopy_queue {s t : State} {r q : GRef} {g : Group} (seated : s.group r = some g) (core : r.core < 160)
    (h : Group) (cores : t.cores = (s.setGroup r h).cores) (j : CopyJob) :
    (((t.enqueueCopy r.core j).afterIssue q).core r.core).copy.queue = (s.core r.core).copy.queue ++ [{ j with id := t.ids }] := by
  have here : r.core < t.cores.length := by
    rw [cores, State.setGroup_length]
    exact State.core_lt_of_group s r g seated
  rw [State.afterIssue_core_copy, State.enqueueCopy_queue here core, State.core_of_cores cores, State.setGroup_core_copy]

/-! ### A copy form (11 R298) -/

/-- The issue of a part changes nothing that the read of its record looks at. -/
@[simp] theorem State.copyRead_issued (s : State) (r : GRef) (g : Group) (k : Slot) (p : Part) (i : Instr) (ra : Nat) :
    s.copyRead r (issued g k p i) ra = s.copyRead r g ra := by
  simp [State.copyRead, copyFor]

@[simp] theorem Group.produce_asid (g : Group) (tw : BitVec 16) (seq : Nat) : (g.produce tw seq).2.asid = g.asid := by
  obtain ⟨l, n, h⟩ := g.produce_eq tw seq
  rw [h]

/-- The job that a C part of a kind enters, with the tokens that it consumes and produces (11 R285). -/
def Group.jobOf (g : Group) (p : Part) (kind : CopyKind) (ch recAddr start : Nat) : CopyJob :=
  { CopyJob.fresh 0 (some (g.produce p.tw p.seq).2.gid) none (g.produce p.tw p.seq).2.asid ch kind with
    recAddr := recAddr, start := start, prod := (g.produce p.tw p.seq).1, waits := g.consumed p.tw p.seq }

/-- The job of a copy form, with the record that it captures. -/
def Group.copyOf (g : Group) (p : Part) (x : CC) (l : List Byte) : CopyJob :=
  { g.jobOf p .copy x.ch.toNat (g.nreg x.na.toNat).toNat (copyStart g x) with record := l, next := copyStart g x }

/-- A form whose record is read enters its job once the reads that were corrected are logged. -/
theorem issueCopy_of_read {s : State} {r : GRef} {g : Group} {p : Part} {x : CC} {l : List Byte}
    (read : s.copyRead r g (g.nreg x.na.toNat).toNat = .ok l) :
    issueCopy s r g p x = ((s.setGroup r (g.produce p.tw p.seq).2).logCorrected r.core (g.copyOf p x l)
      ((List.range 64).map ((g.nreg x.na.toNat).toNat + ·))).enqueueCopy r.core (g.copyOf p x l) := by
  unfold issueCopy
  dsimp only
  rw [read]
  rfl

theorem exec_of_copies {x : CC} {i : Instr} (hi : i ∈ Claims.copies x) (s : State) :
    exec i s = runPart .C i s (fun s r g p => issueCopy s r g p x) := by
  simp only [Claims.copies, List.mem_cons, List.not_mem_nil, or_false] at hi
  rcases hi with rfl | rfl | rfl | rfl | rfl | rfl | rfl
  all_goals rfl

/-! ### CPYL, STAMP and CPYQ (11 R299, R301, R302) -/

section
variable {s : State} {g : Group} {p : Part}

theorem exec_cpyl_of_head {x : CL} (h : s.passes g .C p (.cpyl x)) (head : g.nreg x.na.toNat ≠ 0#64) :
    exec (.cpyl x) s = .next (((s.setGroup s.cur ((issued g .C p (.cpyl x)).produce p.tw p.seq).2).enqueueCopy s.cur.core
      ((issued g .C p (.cpyl x)).jobOf p .chain x.ch.toNat (g.nreg x.na.toNat).toNat 0)).afterIssue s.cur) := by
  obtain ⟨⟨hh, hi⟩, ho⟩ := h
  have named : (g.nreg x.na.toNat).toNat ≠ 0 := fun zero => head (BitVec.eq_of_toNat_eq zero)
  rw [exec_cpyl, execCpyl, runPart_issues .C (.cpyl x) s _ g p hh hi ho]
  simp only [issued_nreg, ne_eq, named, not_false_eq_true, if_true]
  rfl

/-- Without a head, without a chain of its group's parked on the channel and without a production, CPYL issues and no more. -/
theorem exec_cpyl_of_no_head {x : CL} (h : s.passes g .C p (.cpyl x)) (head : g.nreg x.na.toNat = 0#64)
    (parked : (s.core s.cur.core).copy.parkedAt g.gid x.ch.toNat = none) (produces : twProduces p.tw = 0) :
    exec (.cpyl x) s = .next (s.issueWith (issued g .C p (.cpyl x))) := by
  obtain ⟨⟨hh, hi⟩, ho⟩ := h
  have bare (h : Group) : h.produce p.tw p.seq = (none, h) := if_pos produces
  rw [exec_cpyl, execCpyl, runPart_issues .C (.cpyl x) s _ g p hh hi ho]
  simp [bare, head, Group.completeProd, parked, State.issueWith]

theorem exec_stamp_of_passes {x : CS} (h : s.passes g .C p (.stamp x)) :
    exec (.stamp x) s = .next (((s.setGroup s.cur ((issued g .C p (.stamp x)).produce p.tw p.seq).2).enqueueCopy s.cur.core
      ((issued g .C p (.stamp x)).jobOf p .stamp x.ch.toNat (g.nreg x.na.toNat).toNat (bits (g.nreg x.nb.toNat) 0 16))).afterIssue s.cur) := by
  obtain ⟨⟨hh, hi⟩, ho⟩ := h
  rw [exec_stamp, execStamp, runPart_issues .C (.stamp x) s _ g p hh hi ho]
  simp only [issued_nreg]
  rfl

/-- The value that CPYQ answers (11 Table 11.6). -/
def CopyEngine.answer (e : CopyEngine) (id : GId) (ch : Nat) (sel : BitVec 2) : Nat :=
  if sel = 0#2 then e.status id ch
  else match e.held.find? (fun h => h.gid == id && h.ch == ch) with
    | some h => h.addr
    | none => 0

theorem exec_cpyq_of_ready {x : CQ} (h : s.ready g .C p (.cpyq x)) :
    exec (.cpyq x) s = .next (s.issueWith ((issued g .C p (.cpyq x)).resultN p.seq x.nd.toNat
      (word ((s.core s.cur.core).copy.answer g.gid x.ch.toNat x.sel)))) := by
  obtain ⟨hh, hi⟩ := h
  rw [exec_cpyq, execCpyq, runPart_issues .C (.cpyq x) s _ g p hh hi rfl]
  simp only [issued_gid]
  rfl
end

theorem bits_zero_16 (w : Word) : bits w 0 16 = w.toNat % 2 ^ 16 := by simp [bits]

end Sys2Proof.Machine

namespace Sys2Proof.Claims

open Sys2Proof.Machine

/-- Settles O27: every form enters its job last in the queue of the core's engine, with what its record and its registers name; CPYL without
a head and CPYQ change their group alone. -/
theorem copiesEnterTheirChannel : Obligations.CopiesEnterTheirChannel := by
  refine ⟨?_, ?_, ?_, ?_, ?_, ?_⟩
  · intro x i hi s g p l ⟨⟨hh, ready⟩, ho⟩ read
    have seated := (headOf_group hh).1
    have issues : exec i s = .next ((issueCopy s s.cur (issued g .C p i) p x).afterIssue s.cur) :=
      (exec_of_copies hi s).trans (runPart_issues .C i s _ g p hh ready ho)
    rw [issueCopy_of_read (l := l) (by simpa using read)] at issues
    refine ⟨_, _, issues, State.sameBytes_of_memories (by simp), fun core =>
      State.issued_enqueueCopy_queue seated core _ (State.logCorrected_cores ..) _, rfl, ?_, rfl, rfl, ?_, ?_, ?_, rfl, rfl⟩
    all_goals simp [Group.copyOf, Group.jobOf, CopyJob.fresh, copyStart]
  · intro x s g p h head core
    have seated := (headOf_group h.1.1).1
    exact ⟨_, _, exec_cpyl_of_head h head, State.sameBytes_of_memories (by simp), State.issued_enqueueCopy_queue seated core _ rfl _,
      rfl, rfl, rfl, by simp [Group.jobOf, CopyJob.fresh], by simp [Group.jobOf, CopyJob.fresh]⟩
  · intro x s g p h head parked produces
    exact exec_cpyl_of_no_head h head parked produces
  · intro x s g p h core
    have seated := (headOf_group h.1.1).1
    exact ⟨_, _, exec_stamp_of_passes h, State.sameBytes_of_memories (by simp), State.issued_enqueueCopy_queue seated core _ rfl _,
      rfl, bits_zero_16 _, rfl, rfl, by simp [Group.jobOf, CopyJob.fresh], by simp [Group.jobOf, CopyJob.fresh]⟩
  · intro x s g p h
    exact exec_cpyq_of_ready h
  · intro g seq k v
    exact ⟨rfl, _, rfl, rfl, rfl, rfl, rfl, rfl, rfl, rfl, rfl⟩

end Sys2Proof.Claims
end

section
/-!
PROOFS. How entries of the copy channels start and end (11 R285, R290 to R292, R299, R300): the head of a queue begins, an ended entry writes
its OWN bit and its stamp, and it leaves the engine or goes on to its chain's next record.
-/

namespace Sys2Proof.Machine

/-! ### COPY_START (11 R285, R292) -/

@[simp] theorem CopyJob.begin_record (j : CopyJob) (failed : Bool) : (j.begin failed).record = j.record := by
  unfold CopyJob.begin
  (repeat' split) <;> rfl

@[simp] theorem CopyJob.begin_ch (j : CopyJob) (failed : Bool) : (j.begin failed).ch = j.ch := by
  unfold CopyJob.begin
  (repeat' split) <;> rfl

@[simp] theorem CopyJob.begin_kind (j : CopyJob) (failed : Bool) : (j.begin failed).kind = j.kind := by
  unfold CopyJob.begin
  (repeat' split) <;> rfl

/-- A copy or a stamp that consumes a failed production has ended as SKIPPED. -/
theorem CopyJob.begin_of_failed {j : CopyJob} (entry : j.kind ≠ .chain) : (j.begin true).ended.map (·.status) = some 4 := by
  cases kind : j.kind with
  | copy => simp [CopyJob.begin, kind]
  | chain => exact absurd kind entry
  | stamp => simp [CopyJob.begin, kind]

/-- A copy with bytes to move begins at its start byte. -/
theorem CopyJob.begin_of_copy {j : CopyJob} (kind : j.kind = .copy) (more : j.start ≠ j.xrec.len) :
    j.begin false = { j with loaded := true, next := j.start, ended := none } := by
  simp [CopyJob.begin, kind, more]

/-- An engine whose queue a job has left. -/
def CopyEngine.without (x : CopyEngine) (j : CopyJob) : CopyEngine := { x with queue := x.queue.filter (fun k => decide (k.id ≠ j.id)) }

section
variable {s : State} {eng ch : Nat} {j : CopyJob} (head : (s.engine eng).queue.find? (fun x => x.ch == ch) = some j) (serving : s.serving = true)
  (unchained : (s.engine eng).chained ch = false) (done : s.waitsDone j.owner j.waits = true)
include head serving unchained done

theorem exec_copyStart_of_entry (h : s.waitsFailed j.owner j.waits = false ∨ j.kind ≠ .chain) :
    exec (.copyStart eng ch) s = .next (s.setEngine eng { (s.engine eng).without j with
      runs := (s.engine eng).runs ++ [j.begin (s.waitsFailed j.owner j.waits)] }) := by
  have begins : (s.waitsFailed j.owner j.waits && j.kind == .chain) = false := by
    simpa [← Bool.not_eq_true, imp_iff_not_or] using h
  simp [exec_copyStart, execCopyStart, head, serving, unchained, done, begins, CopyEngine.without]

theorem exec_copyStart_of_failed_chain (failed : s.waitsFailed j.owner j.waits = true) (chain : j.kind = .chain) :
    exec (.copyStart eng ch) s = .next ((s.setEngine eng ((s.engine eng).without j)).finishJob j false) := by
  simp [exec_copyStart, execCopyStart, head, serving, unchained, done, failed, chain, CopyEngine.without]
end

/-! ### After the stamp (11 R291, R299) -/

/-- A chain's entry at its next record. -/
def CopyJob.goOn (j : CopyJob) : CopyJob :=
  { j with
    recAddr := j.xrec.next, record := [], next := 0, loaded := false, ended := none, oob := false, got := [], puts := [], faulted := false }

section
variable {j : CopyJob} {e : CopyEnd} (ended : j.ended = some e) (s : State) (eng run : Nat)
include ended

theorem State.afterStamp_of_entry (entry : j.kind ≠ .chain) :
    s.afterStamp eng run j true = (s.dropRun eng run).finishJob j (e.status == 0) := by
  simp [State.afterStamp, State.endRun, ended, entry]

theorem State.afterStamp_of_next (chain : j.kind = .chain) (completed : e.status = 0) (uncut : j.cut = none) (next : j.xrec.next ≠ 0) :
    s.afterStamp eng run j true = s.mapRun eng run CopyJob.goOn := by
  simp only [State.afterStamp, ended, chain, completed, uncut]
  exact if_pos ⟨trivial, rfl, trivial, next⟩

/-- A chain whose record did not complete, or names no next one, ends as its record did. -/
theorem State.afterStamp_of_last (last : e.status ≠ 0 ∨ j.xrec.next = 0) :
    s.afterStamp eng run j true = (s.dropRun eng run).finishJob j (e.status == 0) := by
  rcases last with failed | unnamed
  · have incomplete : (e.status == 0) = false := by simpa using failed
    simp [State.afterStamp, State.endRun, ended, incomplete]
  · simp [State.afterStamp, State.endRun, ended, unnamed]
end

/-! ### COMPLETION_STAMP (11 R290, R300; log 30) -/

/-- An entry that writes no stamp: its STAMPA is unusable, or its record asks for none. -/
def CopyJob.unstamped (j : CopyJob) : Bool := j.noStamp || (j.kind != .stamp && j.xrec.skip)

/-- Bytes that an engine has written lie in pages that are translated. -/
theorem State.spanOf_of_smallWrite {s t : State} {eng va : Nat} {j : CopyJob} {bs : List Byte} (h : s.smallWrite eng j va bs = .ok t) :
    s.spanOf (engUnit eng) j.asid true ((List.range bs.length).map (va + ·)) = .ok := by
  unfold State.smallWrite at h
  dsimp only at h
  split at h
  · cases h
  · cases h
  · assumption

theorem State.stampEntry_of_unstamped {j : CopyJob} (h : j.unstamped = true) (s : State) (eng run : Nat) (e : CopyEnd) :
    s.stampEntry eng run j e = s.afterStamp eng run j true := if_pos h

theorem State.stampEntry_of_ok {s t : State} {eng : Nat} {j : CopyJob} {e : CopyEnd} (stamped : j.unstamped = false)
    (write : s.smallWrite eng j j.stampAt.1 (natLE 8 (stampWord e.status j.stampAt.2 e.ecode e.bdone j.oob)) = .ok t) (run : Nat) :
    s.stampEntry eng run j e = t.afterStamp eng run j true := by
  unfold State.stampEntry
  dsimp only
  rw [write]
  exact if_neg (Bool.eq_false_iff.mp stamped)

section
variable {s : State} {eng run : Nat} {j : CopyJob} {e : CopyEnd} (serving : s.serving = true)
  (pages : j.unstamped = true ∨ s.spanOf (engUnit eng) j.asid true ((List.range 8).map (j.stampAt.1 + ·)) ≠ .miss)
include serving pages

/-- An entry without a stamp, or whose stamp's page has been walked, does not wait. -/
theorem State.stamp_goes :
    (!s.serving || (!j.unstamped && decide (s.spanOf (engUnit eng) j.asid true ((List.range 8).map (j.stampAt.1 + ·)) = .miss))) = false := by
  rcases pages with h | h <;> simp [serving, h]

variable (at_ : (s.engine eng).runs[run]? = some j) (ended : j.ended = some e)
include at_ ended

/-- An entry that has no OWN bit to give back goes on to its stamp. -/
theorem exec_completionStamp_of_kept (kept : j.kind ≠ .chain ∨ j.keepOwn = true) :
    exec (.completionStamp eng run) s = .next (s.stampEntry eng run j e) := by
  simp only [exec_completionStamp, execCompletionStamp, at_, ended]
  exact (if_neg (Bool.eq_false_iff.mp (State.stamp_goes serving pages))).trans (if_pos (by simpa using kept))

/-- A chain's record gives back its OWN bit, then it goes on to its stamp, in the same event. -/
theorem exec_completionStamp_of_own {t : State} (chain : j.kind = .chain) (own : j.keepOwn = false)
    (write : s.smallWrite eng j (j.recAddr + 1) [(j.record.getD 1 0#8) &&& 0xFE#8] = .ok t) :
    exec (.completionStamp eng run) s = .next (t.stampEntry eng run j e) := by
  simp only [exec_completionStamp, execCompletionStamp, at_, ended, write]
  exact (if_neg (Bool.eq_false_iff.mp (State.stamp_goes serving pages))).trans (if_neg (by simp [chain, own]))
end

end Sys2Proof.Machine

namespace Sys2Proof.Claims

open Sys2Proof.Machine

/-- Settles O38: the head of a channel begins or fails its production; an ended entry gives back its OWN bit where it has one and writes its
stamp where it has one; then it ends, or its chain goes on. -/
theorem copiesStartAndEnd : Obligations.CopiesStartAndEnd := by
  refine ⟨?_, ?_, ?_, ?_, ?_, ?_⟩
  · intro s eng ch j head serving unchained done
    refine ⟨fun h => ⟨_, exec_copyStart_of_entry head serving unchained done h, by simp, by simp, by simp, fun failed => ?_,
      fun sound kind more => ?_⟩, fun failed chain => exec_copyStart_of_failed_chain head serving unchained done failed chain⟩
    · rw [failed]
      exact CopyJob.begin_of_failed (h.resolve_left (by simp [failed]))
    · rw [sound, CopyJob.begin_of_copy kind more]
      exact ⟨rfl, rfl, rfl⟩
  · intro s t eng run j e at_ ended serving entry usable stamp write
    have stamped : j.unstamped = false := by simpa [CopyJob.unstamped, usable, or_iff_not_imp_left] using stamp
    have pages := State.spanOf_of_smallWrite write
    rw [length_natLE] at pages
    rw [exec_completionStamp_of_kept serving (.inr (by simp [pages])) at_ ended (.inl entry), State.stampEntry_of_ok stamped write,
      State.afterStamp_of_entry ended t eng run entry]
  · intro s eng run j e at_ ended serving kind skip
    have unstamped : j.unstamped = true := by simp [CopyJob.unstamped, kind, skip]
    have entry : j.kind ≠ .chain := by simp [kind]
    rw [exec_completionStamp_of_kept serving (.inl unstamped) at_ ended (.inl entry), State.stampEntry_of_unstamped unstamped,
      State.afterStamp_of_entry ended s eng run entry]
  · intro s t eng run j e at_ ended serving chain own skip write
    have unstamped : j.unstamped = true := by simp [CopyJob.unstamped, chain, skip]
    rw [exec_completionStamp_of_own serving (.inl unstamped) at_ ended chain own write, State.stampEntry_of_unstamped unstamped]
  · intro s t u eng run j e at_ ended serving chain usable stamp pages own kept write
    have stamped : j.unstamped = false := by simp [CopyJob.unstamped, usable, stamp]
    cases keep : j.keepOwn with
    | false => rw [exec_completionStamp_of_own serving (.inr pages) at_ ended chain keep (own keep), State.stampEntry_of_ok stamped write]
    | true =>
      rw [kept keep] at write
      rw [exec_completionStamp_of_kept serving (.inr pages) at_ ended (.inr keep), State.stampEntry_of_ok stamped write]
  · intro s eng run j e ended chain
    exact ⟨State.afterStamp_of_next ended s eng run chain, State.afterStamp_of_last ended s eng run⟩

end Sys2Proof.Claims
end

section
/-!
PROOFS. The chunks of a copy (11 R287 to R289, R293, R294): what a read piece, the plan of the writes, a write piece and a refused page leave of
the started copy, of the memories and of the hampers.
-/

namespace Sys2Proof.Machine

/-! ### Read pieces (11 R288, R293) -/

/-- The bytes of one read piece, of those still to come. -/
def EngFor.readPiece (w : EngFor) (left : List Nat) (piece : Nat) : List Nat :=
  left.filter (fun a => w.pieceOf a == ((left.map w.pieceOf).dedup).getD (piece % ((left.map w.pieceOf).dedup).length) 0)

/-- A job that waits for no page stops with its STATUS, its ECODE and the bytes of the chunks before. -/
theorem CopyJob.stopAt_of_unfaulted {j : CopyJob} (h : j.faulted = false) (status ecode : Nat) :
    j.stopAt status ecode = { j with ended := some ⟨status, ecode, j.next⟩, got := [], puts := [] } :=
  congrArg (fun b => { j with ended := some ⟨status, ecode, j.next⟩, got := [], puts := [], faulted := b }) h.symm

section
variable {s : State} {eng run : Nat} {j : CopyJob} (at_ : (s.engine eng).runs[run]? = some j)
include at_

/-- A chunk that stops on an error writes no byte, and its job keeps the bytes of the chunks before. -/
theorem State.errorChunk_run (ecode : Nat) (p : Poison) : s.sameBytes (s.errorChunk eng run j ecode p) ∧
    ((s.errorChunk eng run j ecode p).engine eng).runs[run]? = some (j.stopAt 1 ecode) :=
  ⟨State.sameBytes_of_memories (by simp [State.errorChunk]), State.run_of_copyEngines (State.logJob_copyEngines ..) (State.mapRun_run at_ _)⟩

/-- A chunk that stops on a refused page writes no byte, and its job keeps the bytes of the chunks before. -/
theorem State.faultChunk_run (va : Nat) : s.sameBytes (s.faultChunk eng run j va) ∧
    ((s.faultChunk eng run j va).engine eng).runs[run]? = some (j.stopAt 2 3) := by
  refine ⟨State.sameBytes_of_memories (by simp [State.faultChunk]), State.run_of_copyEngines (State.clearRefused_copyEngines ..) ?_⟩
  rw [State.hold_runs]
  exact State.mapRun_run at_ _

theorem State.readChunk_of_error {left : List Nat} {piece : Nat} {p : Poison}
    (error : ((j.on eng).readPiece left piece).findSome? (s.engErr true (j.on eng)) = some p) :
    s.sameBytes (s.readChunk eng run j left piece) ∧ ((s.readChunk eng run j left piece).engine eng).runs[run]? = some (j.stopAt 1 1) := by
  have stops : s.readChunk eng run j left piece = s.errorChunk eng run j 1 p := by
    unfold EngFor.readPiece at error
    simp only [State.readChunk, error]
  rw [stops]
  exact State.errorChunk_run at_ 1 p

/-- A read piece without an error writes no byte, and its job has the bytes that it read. -/
theorem State.readChunk_of_sound {left : List Nat} {piece : Nat}
    (sound : ((j.on eng).readPiece left piece).findSome? (s.engErr true (j.on eng)) = none) :
    s.sameBytes (s.readChunk eng run j left piece) ∧ ((s.readChunk eng run j left piece).engine eng).runs[run]? =
      some { j with got := j.got ++ ((j.on eng).readPiece left piece).map (fun a => (a, s.engByte true (j.on eng) a)) } := by
  have reads : s.readChunk eng run j left piece =
      ((s.logCorrected eng j ((j.on eng).readPiece left piece)).engFill (j.on eng) j.xrec.na ((j.on eng).readPiece left piece)).mapRun eng run
        (fun k => { k with got := k.got ++ ((j.on eng).readPiece left piece).map (fun a => (a, s.engByte true (j.on eng) a)) }) := by
    unfold EngFor.readPiece at sound
    simp only [State.readChunk, sound]
    rfl
  rw [reads]
  exact ⟨State.sameBytes_of_memories (by simp), State.mapRun_run (State.run_of_copyEngines (by simp) at_) _⟩

/-! ### The plan of the writes (11 R288, R289; log 84) -/

/-- What a chunk with every byte read writes: each byte's destination and its value. -/
def CopyJob.writes (j : CopyJob) : List (Nat × Byte) := j.moves.map (fun m => (m.2, m.1.val j.gotAt))

theorem State.planChunk_of_error {q : Poison} (error : s.engMergeErr (j.on eng) j.writes = some q) :
    s.sameBytes (s.planChunk eng run j) ∧ ((s.planChunk eng run j).engine eng).runs[run]? = some (j.stopAt 1 2) := by
  have stops : s.planChunk eng run j = s.errorChunk eng run j 2 q := by
    unfold CopyJob.writes at error
    simp only [State.planChunk, error]
  rw [stops]
  exact State.errorChunk_run at_ 2 q

/-- A chunk without an error in the granules that it merges into stands ready to write, and writes no byte yet. -/
theorem State.planChunk_of_sound (sound : s.engMergeErr (j.on eng) j.writes = none) :
    s.sameBytes (s.planChunk eng run j) ∧
      ∃ oob, ((s.planChunk eng run j).engine eng).runs[run]? = some { j with got := [], puts := s.putsOf (j.on eng) j.writes, oob := oob } := by
  unfold CopyJob.writes at sound ⊢
  simp only [State.planChunk, sound]
  exact ⟨State.sameBytes_of_memories (State.mapRun_memories ..), _, State.mapRun_run at_ _⟩
end

/-! ### The granules that are written (11 R289, 06 R165) -/

/-- A write piece is one granule, with all the bytes that are written to it, at the place that its address translates to. -/
theorem State.mem_putsOf {s : State} {w : EngFor} {l : List (Nat × Byte)} {p : CopyPut} (h : p ∈ s.putsOf w l) :
    p.va % 16 = 0 ∧ p.bytes = l.filter (fun x => x.1 / 16 == p.va / 16) ∧ (isGlobal p.va = false ↔ p.space = .pad) ∧
      (p.space ≠ .pad → s.physical w.unit w.asid p.va = some (p.pa, decide (p.space = .host))) := by
  obtain ⟨k, -, put⟩ := List.mem_filterMap.mp h
  dsimp only at put
  split_ifs at put with window
  · cases put
    simpa using window
  · split at put
    · rename_i pa host there
      cases put
      cases host <;> simpa [there] using window
    · cases put

/-! ### One write piece in the memories (11 R289) -/

/-- A memory with the bytes of a piece written to the granule at an address. -/
def CopyPut.into (p : CopyPut) (m : Mem) (base : Nat) : Mem := p.bytes.foldl (fun m x => m.write (base + x.1 % 16) x.2) m

/-- The LLC as a write piece finds it: its sector allocated, or merged into where it is there (05 R146). -/
def State.putLine (s : State) (fill : Bool) (pa : Nat) : State := if fill then s.llcFill pa true else s.llcMerge pa

theorem State.putLine_cores (s : State) (fill : Bool) (pa : Nat) : (s.putLine fill pa).cores = s.cores := by
  unfold State.putLine
  split
  · exact State.llcFill_cores ..
  · exact State.llcMerge_cores ..

theorem State.putLine_copyEngines (s : State) (fill : Bool) (pa : Nat) : (s.putLine fill pa).copyEngines = s.copyEngines := by
  unfold State.putLine
  split
  · exact State.llcFill_copyEngines ..
  · exact State.llcMerge_copyEngines ..

theorem State.putLine_memories (s : State) (fill : Bool) (pa : Nat) : (s.putLine fill pa).memories = s.memories := by
  unfold State.putLine State.llcMerge
  split
  · exact State.llcFill_memories ..
  · split
    · exact State.llcFill_memories ..
    · rfl

/-- The device after a piece, before the L1 copy of its core is updated. -/
def State.putDev (s : State) (fill : Bool) (p : CopyPut) : State :=
  let t := { s.putLine fill p.pa with mem := p.into (s.putLine fill p.pa).mem p.pa }
  if p.whole then t.soundGranule (p.pa / 16) else t

theorem State.putDev_keeps (s : State) (fill : Bool) (p : CopyPut) : (s.putDev fill p).cores = s.cores ∧
    (s.putDev fill p).copyEngines = s.copyEngines ∧ (s.putDev fill p).memories.1 = (p.into s.mem p.pa, s.host) := by
  have mems : (p.into (s.putLine fill p.pa).mem p.pa, (s.putLine fill p.pa).host) = (p.into s.mem p.pa, s.host) :=
    congrArg (fun m => (p.into m.1.1 p.pa, m.1.2)) (s.putLine_memories fill p.pa)
  unfold State.putDev
  dsimp only
  split <;> exact ⟨State.putLine_cores .., State.putLine_copyEngines s fill p.pa, mems⟩

/-- A piece in a space writes its memory, and of one core no engine, and a hamper only in the scratchpad window of the engine's own. -/
theorem State.putPiece_eq (s : State) (w : EngFor) (fill : Bool) (p : CopyPut) : ∃ t c x, s.putPiece w fill p = State.setCore t c x ∧
    t.cores = s.cores ∧ t.copyEngines = s.copyEngines ∧
    t.memories.1 = (if p.space = .dev then p.into s.mem p.pa else s.mem, if p.space = .host then p.into s.host p.pa else s.host) ∧
    x.copy = (s.core c).copy ∧ (x.hamper = (s.core c).hamper ∨ (c = w.eng ∧ p.space = .pad ∧ isAccWin p.va = false)) := by
  cases space : p.space with
  | host =>
    refine ⟨{ s with host := p.into s.host p.pa }, 0, s.core 0, ?_, rfl, rfl, rfl, rfl, .inl rfl⟩
    simp only [State.putPiece, space]
    exact (State.setCore_core { s with host := p.into s.host p.pa } 0).symm
  | dev =>
    obtain ⟨cores, engines, mems⟩ := s.putDev_keeps fill p
    cases core : w.l1Core with
    | none =>
      refine ⟨s.putDev fill p, 0, s.core 0, ?_, cores, engines, mems, rfl, .inl rfl⟩
      rw [← State.core_of_cores cores, State.setCore_core]
      simp only [State.putPiece, space, core]
      rfl
    | some c =>
      refine ⟨s.putDev fill p, c, p.bytes.foldl (fun co x => co.ownStore .store (p.pa + x.1 % 16) [x.2]) (s.core c), ?_, cores, engines, mems,
        foldl_keeps Core.copy (fun _ _ => Core.ownStore_copy ..) _ _, .inl (foldl_keeps Core.hamper (fun _ _ => Core.ownStore_hamper ..) _ _)⟩
      rw [← State.core_of_cores cores]
      simp only [State.putPiece, space, core]
      rfl
  | pad =>
    by_cases here : w.eng < 160
    · cases acc : isAccWin p.va with
      | true =>
        refine ⟨s, w.eng, p.bytes.foldl (fun co x => co.accPut x.1 x.2) (s.core w.eng), ?_, rfl, rfl, rfl,
          foldl_keeps Core.copy (fun (c : Core) (x : Nat × Byte) => by rfl) _ _,
          .inl (foldl_keeps Core.hamper (fun (c : Core) (x : Nat × Byte) => by rfl) _ _)⟩
        simp [State.putPiece, space, engCore, here, acc]
      | false =>
        refine ⟨s, w.eng, _, by simp only [State.putPiece, space, engCore, here, acc]; rfl, rfl, rfl, rfl, Core.onPad_copy (fun c => ?_) _ _,
          .inr ⟨rfl, rfl, rfl⟩⟩
        exact foldl_keeps Core.copy (fun (c : Core) (x : Nat × Byte) => by rfl) p.bytes c
    · refine ⟨s, w.eng, s.core w.eng, ?_, rfl, rfl, rfl, rfl, .inl rfl⟩
      rw [State.setCore_core]
      simp [State.putPiece, space, engCore, here]

theorem State.putPiece_copyEngines (s : State) (w : EngFor) (fill : Bool) (p : CopyPut) : (s.putPiece w fill p).copyEngines = s.copyEngines := by
  obtain ⟨t, c, x, put, cores, engines, -, copy, -⟩ := s.putPiece_eq w fill p
  rw [put, State.setCore_copyEngines (by rw [copy, State.core_of_cores cores]), engines]

theorem State.putPiece_memories_fst (s : State) (w : EngFor) (fill : Bool) (p : CopyPut) : (s.putPiece w fill p).memories.1 =
    (if p.space = .dev then p.into s.mem p.pa else s.mem, if p.space = .host then p.into s.host p.pa else s.host) := by
  obtain ⟨t, c, x, put, -, -, mems, -⟩ := s.putPiece_eq w fill p
  rw [put, State.setCore_memories_fst, mems]

/-- A piece writes no other core's hamper, and none at all outside the scratchpad window. -/
theorem State.putPiece_hamper_of_ne {w : EngFor} {p : CopyPut} {d : Nat} (h : d ≠ w.eng ∨ p.space ≠ .pad ∨ isAccWin p.va = true)
    (s : State) (fill : Bool) : ((s.putPiece w fill p).core d).hamper = (s.core d).hamper := by
  obtain ⟨t, c, x, put, cores, -, -, -, hamper⟩ := s.putPiece_eq w fill p
  rw [put]
  by_cases hd : d = c
  · have kept : x.hamper = (t.core c).hamper := by
      rw [State.core_of_cores cores]
      refine hamper.resolve_right fun ⟨own, space, acc⟩ => ?_
      simp [hd, own, space, acc] at h
    rw [State.core_field_setCore Core.hamper kept, State.core_of_cores cores]
  · rw [State.core_setCore_other t c d x hd, State.core_of_cores cores]

/-- A piece in the scratchpad of a task that has its core writes the hamper. -/
theorem State.putPiece_hamper {s : State} {w : EngFor} {p : CopyPut} (space : p.space = .pad) (pad : isAccWin p.va = false) (core : w.eng < 160)
    (here : w.eng < s.cores.length) (unsaved : (s.core w.eng).savedPad = []) (task : (s.core w.eng).task = some w.task) (fill : Bool) :
    ((s.putPiece w fill p).core w.eng).hamper = p.into (s.core w.eng).hamper (p.va % 2 ^ 48) := by
  have onPad (f : Core → Core) : (s.core w.eng).onPad w.task f = f (s.core w.eng) := by simp [Core.onPad, unsaved, task]
  simp only [State.putPiece, space, engCore, core, pad, if_true, onPad]
  exact congrArg Core.hamper (State.core_setCore_same s w.eng _ here)

/-! ### A write piece of a chunk (11 R288 to R290) -/

@[simp] theorem State.logPut_memories (s : State) (j : CopyJob) (p : CopyPut) : (s.logPut j p).memories = s.memories := by
  unfold State.logPut
  dsimp only
  split
  · rfl
  · exact State.logFill_memories ..

@[simp] theorem State.logPut_cores (s : State) (j : CopyJob) (p : CopyPut) : (s.logPut j p).cores = s.cores := by
  unfold State.logPut
  dsimp only
  split
  · rfl
  · exact State.logFill_cores ..

/-- A job with one piece written, its chunk done with the last. -/
def CopyJob.putDone (j : CopyJob) (i : Nat) : CopyJob :=
  let k := { j with puts := j.puts.eraseIdx i }
  if k.puts.isEmpty then k.chunkDone else k

theorem CopyJob.putDone_of_more {j : CopyJob} {i : Nat} (more : 2 ≤ j.puts.length) : j.putDone i = { j with puts := j.puts.eraseIdx i } := by
  refine if_neg fun last => ?_
  have length := congrArg List.length (List.isEmpty_iff.mp last)
  rw [List.length_eraseIdx, List.length_nil] at length
  split at length <;> omega

theorem CopyJob.putDone_of_last {j : CopyJob} {i : Nat} (hi : i < j.puts.length) (last : j.puts.length = 1) :
    j.putDone i = { j with
      puts := []
      next := j.next + j.chunk.length
      ended := if j.cut.isSome = true then some ⟨3, 0, j.next + j.chunk.length⟩
        else if j.next + j.chunk.length = j.xrec.len then some ⟨0, 0, j.xrec.len⟩ else none } := by
  have none : j.puts.eraseIdx i = [] := by
    rw [← List.length_eq_zero_iff, List.length_eraseIdx, if_pos hi, last]
  have whole : (if j.next + j.chunk.length = j.xrec.len then some (⟨0, 0, j.next + j.chunk.length⟩ : CopyEnd) else .none) =
      if j.next + j.chunk.length = j.xrec.len then some ⟨0, 0, j.xrec.len⟩ else .none := by
    split_ifs with all
    · rw [all]
    · rfl
  rw [← whole]
  unfold CopyJob.putDone
  dsimp only
  rw [none]
  rfl

theorem State.hamper_of_memories {s t : State} (h : t.memories = s.memories) (c : Nat) : (t.core c).hamper = (s.core c).hamper := by
  rw [State.core_hamper, State.core_hamper, h]

section
variable {s : State} {eng run piece : Nat} {j : CopyJob} {p : CopyPut} (put : j.puts[piece % j.puts.length]? = some p)
include put

/-- A write piece logs what its sector's read meets, writes, and is done. -/
theorem State.writeChunk_eq : s.writeChunk eng run j piece =
    ((s.logPut j p).putPiece (j.on eng) (!j.xrec.na) p).mapRun eng run (fun k => k.putDone (piece % j.puts.length)) := by
  simp only [State.writeChunk, put]
  rfl

theorem State.writeChunk_run (at_ : (s.engine eng).runs[run]? = some j) :
    ((s.writeChunk eng run j piece).engine eng).runs[run]? = some (j.putDone (piece % j.puts.length)) := by
  rw [State.writeChunk_eq put]
  exact State.mapRun_run (State.run_of_copyEngines ((State.putPiece_copyEngines ..).trans (State.logPut_copyEngines ..)) at_) _

theorem State.writeChunk_memories_fst : (s.writeChunk eng run j piece).memories.1 =
    (if p.space = .dev then p.into s.mem p.pa else s.mem, if p.space = .host then p.into s.host p.pa else s.host) := by
  have logged := State.logPut_memories_fst s j p
  have mem : (s.logPut j p).mem = s.mem := congrArg Prod.fst logged
  have host : (s.logPut j p).host = s.host := congrArg Prod.snd logged
  rw [State.writeChunk_eq put, State.mapRun_memories, State.putPiece_memories_fst, mem, host]

theorem State.writeChunk_hamper_of_ne {c : Nat} (h : c ≠ eng ∨ p.space ≠ .pad ∨ isAccWin p.va = true) :
    ((s.writeChunk eng run j piece).core c).hamper = (s.core c).hamper := by
  rw [State.writeChunk_eq put, State.hamper_of_memories (State.mapRun_memories ..), State.putPiece_hamper_of_ne h,
    State.core_of_cores (State.logPut_cores ..)]

theorem State.writeChunk_hamper (at_ : (s.engine eng).runs[run]? = some j) (space : p.space = .pad) (pad : isAccWin p.va = false)
    (core : eng < 160) (unsaved : (s.core eng).savedPad = []) (task : (s.core eng).task = some j.taskOf) :
    ((s.writeChunk eng run j piece).core eng).hamper = p.into (s.core eng).hamper (p.va % 2 ^ 48) := by
  have cores := State.logPut_cores s j p
  have there : (s.logPut j p).core eng = s.core eng := State.core_of_cores cores eng
  have here : eng < (s.logPut j p).cores.length := by
    rw [cores]
    exact State.core_lt_of_engine core (State.engine_ne_idle at_)
  rw [← there] at unsaved task ⊢
  rw [State.writeChunk_eq put, State.hamper_of_memories (State.mapRun_memories ..)]
  exact State.putPiece_hamper (w := j.on eng) space pad core here unsaved task _
end

/-! ### COPY_CHUNK (11 R288, R294) -/

/-- A loaded copy that has not ended has a chunk to move. -/
theorem State.chunk_starts {s : State} {j : CopyJob} (serving : s.serving = true) (moving : j.kind ≠ .stamp) (loaded : j.loaded = true)
    (going : j.ended = none) : (!s.serving || j.kind == .stamp || !j.loaded || j.ended.isSome) = false := by
  simp [serving, moving, loaded, going]

section
variable {s : State} {eng run : Nat} {j : CopyJob} (at_ : (s.engine eng).runs[run]? = some j) (serving : s.serving = true)
  (moving : j.kind ≠ .stamp) (loaded : j.loaded = true) (going : j.ended = none) (piece : Nat)
include at_ serving moving loaded going

theorem exec_copyChunk_of_puts (ready : j.puts ≠ []) : exec (.copyChunk eng ⟨run, piece⟩) s = .next (s.writeChunk eng run j piece) := by
  simp [exec_copyChunk, execCopyChunk, at_, serving, moving, loaded, going, ready]

/-- A chunk whose index words or destination lie in a refused page stops there. -/
theorem exec_copyChunk_of_refused {a : Nat} (unplanned : j.puts = [])
    (refused : s.spanOf (engUnit eng) j.asid false (j.xrec.idxVas j.chunk) = .refused a ∨
      s.spanOf (engUnit eng) j.asid true (j.chunk.map (fun i => (j.xrec.at (fun _ => 0) i).2)) = .refused a) :
    ∃ b, exec (.copyChunk eng ⟨run, piece⟩) s = .next (s.faultChunk eng run j b) := by
  have starts := State.chunk_starts serving moving loaded going
  simp only [exec_copyChunk, execCopyChunk, at_, starts, unplanned, List.isEmpty_nil, Bool.not_true, Bool.false_eq_true, if_false]
  rcases refused with h | h <;> rw [h]
  · cases s.spanOf (engUnit eng) j.asid true (j.chunk.map (fun i => (j.xrec.at (fun _ => 0) i).2)) <;> exact ⟨_, rfl⟩
  · cases s.spanOf (engUnit eng) j.asid false (j.xrec.idxVas j.chunk) <;> exact ⟨_, rfl⟩
end

/-- A chunk whose destination and index words are translated: its index words, its source bytes, then the plan of its writes (11 R288, R294). -/
def State.moveChunk (s : State) (eng run : Nat) (j : CopyJob) (piece : Nat) : State :=
  if !(j.unread (j.xrec.idxVas j.chunk)).isEmpty then s.readChunk eng run j (j.unread (j.xrec.idxVas j.chunk)) piece
  else match s.spanOf (engUnit eng) j.asid false (Claims.sources j) with
    | .refused a => s.faultChunk eng run j a
    | .miss => s.awaitPages eng run j false (Claims.sources j)
    | .ok =>
      if j.faulted then s.mapRun eng run (fun k => { k with faulted := false, got := [] })
      else if !(j.unread (Claims.sources j)).isEmpty then s.readChunk eng run j (j.unread (Claims.sources j)) piece
      else s.planChunk eng run j

theorem exec_copyChunk_of_due {s : State} {eng run : Nat} {j : CopyJob} (due : Claims.chunkDue s eng run j) (piece : Nat) :
    exec (.copyChunk eng ⟨run, piece⟩) s = .next (s.moveChunk eng run j piece) := by
  obtain ⟨at_, serving, moving, loaded, going, unplanned, index, dst⟩ := due
  have starts := State.chunk_starts serving moving loaded going
  simp only [exec_copyChunk, execCopyChunk, at_, starts, unplanned, index, dst, List.isEmpty_nil, Bool.not_true, Bool.false_eq_true, if_false]
  unfold State.moveChunk Claims.sources
  split
  · rfl
  · cases s.spanOf (engUnit eng) j.asid false (j.moves.flatMap (fun m => m.1.vas)).dedup with
    | refused a => rfl
    | miss => rfl
    | ok =>
      dsimp only
      split
      · rfl
      · split <;> rfl

section
variable (s : State) (eng run piece : Nat) {j : CopyJob}

theorem State.moveChunk_of_index (unread : j.unread (j.xrec.idxVas j.chunk) ≠ []) :
    s.moveChunk eng run j piece = s.readChunk eng run j (j.unread (j.xrec.idxVas j.chunk)) piece := by
  simp [State.moveChunk, unread]

variable {s eng} (indexed : j.unread (j.xrec.idxVas j.chunk) = [])
include indexed

/-- A chunk waits for the pages of its source bytes. -/
theorem State.moveChunk_of_miss (miss : s.spanOf (engUnit eng) j.asid false (Claims.sources j) = .miss) :
    s.moveChunk eng run j piece = s.awaitPages eng run j false (Claims.sources j) := by
  simp [State.moveChunk, indexed, miss]

variable (pages : s.spanOf (engUnit eng) j.asid false (Claims.sources j) = .ok)
include pages

/-- A chunk that met a demand fault begins again once its pages are there. -/
theorem State.moveChunk_of_faulted (faulted : j.faulted = true) :
    s.moveChunk eng run j piece = s.mapRun eng run (fun k => { k with faulted := false, got := [] }) := by
  simp [State.moveChunk, indexed, pages, faulted]

variable (unfaulted : j.faulted = false)
include unfaulted

theorem State.moveChunk_of_sources (unread : j.unread (Claims.sources j) ≠ []) :
    s.moveChunk eng run j piece = s.readChunk eng run j (j.unread (Claims.sources j)) piece := by
  simp [State.moveChunk, indexed, pages, unfaulted, unread]

theorem State.moveChunk_of_read (read : j.unread (Claims.sources j) = []) : s.moveChunk eng run j piece = s.planChunk eng run j := by
  simp [State.moveChunk, indexed, pages, unfaulted, read]
end

/-- A chunk with reads to come performs one piece of them. -/
theorem State.moveChunk_of_left {s : State} {eng : Nat} {j : CopyJob} {left : List Nat} (unfaulted : j.faulted = false)
    (reads : Claims.readsLeft s eng j left) (run piece : Nat) : s.moveChunk eng run j piece = s.readChunk eng run j left piece := by
  obtain ⟨some, rfl | ⟨indexed, rfl, pages⟩⟩ := reads
  · exact s.moveChunk_of_index eng run piece some
  · exact State.moveChunk_of_sources run piece indexed pages unfaulted some

/-- A chunk one of whose pages is a demand fault is marked to begin again. -/
theorem State.awaitPages_of_fault {s : State} {eng run a : Nat} {j : CopyJob} {wr : Bool} {l : List Nat} (mem : a ∈ l)
    (global : isGlobal a = true) (miss : s.translate (engUnit eng) j.asid a wr = .miss) (walk : s.walkGives (engUnit eng) j.asid a wr = false) :
    s.awaitPages eng run j wr l = s.mapRun eng run (fun k => { k with faulted := true }) :=
  if_pos (List.any_eq_true.mpr ⟨a, List.mem_filter.mpr ⟨mem, global⟩, by simp [miss, walk]⟩)

end Sys2Proof.Machine

namespace Sys2Proof.Claims

open Sys2Proof.Machine

/-- Settles O37: a chunk performs its read pieces, then makes its writes ready, then performs them one by one; an error or a refused page
stops its job before any is made. -/
theorem copyChunksMove : Obligations.CopyChunksMove := by
  refine ⟨?_, ?_, ?_, ?_, ?_, fun s w l p h => State.mem_putsOf h⟩
  · intro s eng run piece j left mine due unfaulted reads hmine
    obtain rfl : mine = (j.on eng).readPiece left piece := hmine
    have at_ := due.1
    have read := exec_copyChunk_of_due due piece
    rw [State.moveChunk_of_left unfaulted reads] at read
    cases met : ((j.on eng).readPiece left piece).findSome? (s.engErr true (j.on eng)) with
    | none =>
      obtain ⟨same, there⟩ := State.readChunk_of_sound at_ met
      exact ⟨_, _, read, same, there, fun _ => ⟨rfl, rfl⟩, fun q hq => by cases hq⟩
    | some q =>
      obtain ⟨same, there⟩ := State.readChunk_of_error at_ met
      exact ⟨_, _, read, same, there, (fun hq => by cases hq), fun _ _ => CopyJob.stopAt_of_unfaulted unfaulted 1 1⟩
  · intro s eng run piece j ws due unfaulted indexed pages sources hws
    obtain rfl : ws = j.writes := by rw [hws, CopyJob.writes, CopyJob.moves]
    have ⟨at_, _, _, _, going, _⟩ := due
    have planned := exec_copyChunk_of_due due piece
    rw [State.moveChunk_of_read run piece indexed pages unfaulted sources] at planned
    cases met : s.engMergeErr (j.on eng) j.writes with
    | none =>
      obtain ⟨same, oob, there⟩ := State.planChunk_of_sound at_ met
      exact ⟨_, _, planned, same, there, fun _ => ⟨rfl, rfl, rfl, going, rfl⟩, fun q hq => by cases hq⟩
    | some q =>
      obtain ⟨same, there⟩ := State.planChunk_of_error at_ met
      exact ⟨_, _, planned, same, there, (fun hq => by cases hq), fun _ _ => CopyJob.stopAt_of_unfaulted unfaulted 1 2⟩
  · intro s eng run piece j p at_ serving moving loaded going put
    obtain ⟨here, -⟩ := List.getElem?_eq_some_iff.mp put
    have ready : j.puts ≠ [] := fun none => by simp [none] at here
    have mems := State.writeChunk_memories_fst (s := s) (eng := eng) (run := run) put
    exact ⟨_, _, exec_copyChunk_of_puts at_ serving moving loaded going piece ready, State.writeChunk_run put at_, congrArg Prod.fst mems,
      congrArg Prod.snd mems, fun c => State.writeChunk_hamper_of_ne put, State.writeChunk_hamper put at_, CopyJob.putDone_of_more,
      CopyJob.putDone_of_last here⟩
  · intro s eng run piece a j at_ serving moving loaded going unplanned refused
    obtain ⟨b, stopped⟩ := exec_copyChunk_of_refused at_ serving moving loaded going piece unplanned refused
    obtain ⟨same, there⟩ := State.faultChunk_run at_ b
    exact ⟨_, _, stopped, same, there, rfl⟩
  · intro s eng run piece j due indexed
    rw [exec_copyChunk_of_due due piece]
    refine ⟨fun faulted pages => ?_, fun a mem global span miss walk => ?_⟩
    · rw [State.moveChunk_of_faulted run piece indexed pages faulted]
    · rw [State.moveChunk_of_miss run piece indexed span, State.awaitPages_of_fault mem global miss walk]

end Sys2Proof.Claims
end

section
/-!
PROOFS. The members of a collective and their links (12 R306, R309, R311 to R314, R316, R318): what a member's message, a request, an
acknowledgement and the loss of a peer leave of the wick, of its sequencer and of the bytes.
-/

namespace Sys2Proof.Machine

/-! ### Writes leave the bytes elsewhere, in canonical form or not -/

theorem SMap.get_set_of_ne_key {α : Type} [DecidableEq α] (d v : α) {a b : Nat} (hb : b ≠ a) (m : SMap α) :
    SMap.get d (SMap.set d m a v) b = SMap.get d m b := by
  induction m with
  | nil => by_cases hv : v = d <;> simp [SMap.set, SMap.get, hv, hb.symm]
  | cons x rest ih =>
    obtain ⟨k, w⟩ := x
    unfold SMap.set
    split_ifs with below default same default
    · rfl
    · simp [SMap.get, hb.symm]
    · simp [SMap.get, ← same, hb.symm]
    · simp [SMap.get, ← same, hb.symm]
    · simp [SMap.get, ih]

theorem Mem.read_writeN_of_outside (l : List Byte) (m : Mem) {a c : Nat} (h : c < a ∨ a + l.length ≤ c) : (m.writeN a l).read c = m.read c := by
  induction l generalizing m a with
  | nil => rfl
  | cons b rest ih =>
    rw [List.length_cons] at h
    rw [Mem.writeN, ih _ (by omega)]
    exact SMap.get_set_of_ne_key _ _ (by omega) m

/-- What enters a buffer leaves the hamper bytes outside its place. -/
theorem Core.fillAt_outside (c : Core) (id : Nat) (key : List Nat) {off n a : Nat} (h : a < off ∨ off + n ≤ a) :
    (c.fillAt id off n key).hamper.read a = c.hamper.read a := by
  unfold Core.fillAt
  split
  · rfl
  · exact Mem.read_writeN_of_outside _ _ (by simpa [freeBytes] using h)

/-! ### What an engine's writes do to the scratchpads turns on the scratchpads alone (11 R289, 13 R334) -/

/-- What decides how an engine's write changes a core's hamper: the hamper, the core's task, and the tasks whose scratchpad images it keeps. -/
structure PadHolding where
  hamper : Mem
  task   : Option Nat
  images : List Nat

def Core.holding (c : Core) : PadHolding := ⟨c.hamper, c.task, c.savedPad.map PadImage.task⟩

/-- Device memory and host memory, and what each core holds. -/
def State.held (s : State) : (Mem × Mem) × List PadHolding := ((s.mem, s.host), s.cores.map Core.holding)

theorem State.memories_of_held {s t : State} (h : t.held = s.held) : t.memories = s.memories := by
  have hampers (u : State) : u.memories = (u.held.1, u.held.2.map PadHolding.hamper) := by
    simp only [State.held, List.map_map]
    rfl
  rw [hampers, hampers, h]

/-- A core written holds what the written record does. -/
theorem State.setCore_held {s : State} {c : Nat} {x : Core} {f : PadHolding → PadHolding} (h : x.holding = f (s.core c).holding) :
    (s.setCore c x).held = (s.held.1, s.held.2.modify c f) := by
  refine Prod.ext rfl (List.ext_getElem (by simp [State.held, State.setCore]) fun n _ hn => ?_)
  have here : n < s.cores.length := by simpa [State.held] using hn
  simp only [State.held, State.setCore, List.getElem_map, List.getElem_set, List.getElem_modify]
  split
  · subst_vars
    rw [h, State.core, List.getD_eq_getElem _ _ here]
  · rfl

theorem State.setCore_held_of_kept {s : State} {c : Nat} {x : Core} (h : x.holding = (s.core c).holding) : (s.setCore c x).held = s.held := by
  rw [State.setCore_held (f := id) h, List.modify_id]

/-- A group written changes nothing of what is held. -/
@[simp] theorem State.setGroup_held (s : State) (r : GRef) (g : Group) : (s.setGroup r g).held = s.held := by
  unfold State.setGroup
  split <;> exact State.setCore_held_of_kept (by rfl)

/-- A core's holding after a task's write piece in its scratchpad: another task's is left as it was, and so is the hamper while the core keeps an
image of the task's scratchpad (13 R336). -/
def CopyPut.padHeld (p : CopyPut) (task : Nat) (x : PadHolding) : PadHolding :=
  if x.images.any (· == task) then x
  else if x.task.any (fun t => decide (t ≠ task)) then x
  else { x with hamper := p.into x.hamper (p.va % 2 ^ 48) }

theorem Core.onPad_holding {p : CopyPut} {f : Core → Core}
    (h : ∀ c, (f c).holding = { c.holding with hamper := p.into c.hamper (p.va % 2 ^ 48) }) (c : Core) (task : Nat) :
    (c.onPad task f).holding = p.padHeld task c.holding := by
  have kept : c.holding.images.any (· == task) = c.savedPad.any (fun i => i.task == task) := List.any_map
  have owner : c.holding.task = c.task := rfl
  unfold Core.onPad CopyPut.padHeld
  rw [kept, owner]
  split_ifs with image other
  · refine congrArg (PadHolding.mk c.hamper c.task) ?_
    rw [List.map_map]
    exact List.map_congr_left fun i _ => by simp only [Function.comp]; split <;> simp [*]
  · rfl
  · exact h c

/-- What is held after a write piece of an engine, by its space. -/
def CopyPut.putHeld (p : CopyPut) (w : EngFor) (x : (Mem × Mem) × List PadHolding) : (Mem × Mem) × List PadHolding :=
  ((if p.space = .dev then p.into x.1.1 p.pa else x.1.1, if p.space = .host then p.into x.1.2 p.pa else x.1.2),
    if p.space = .pad ∧ w.eng < 160 ∧ isAccWin p.va = false then x.2.modify w.eng (p.padHeld w.task) else x.2)

theorem State.putPiece_holdings_of_dev {p : CopyPut} (space : p.space = .dev) (s : State) (w : EngFor) (fill : Bool) :
    (s.putPiece w fill p).held.2 = s.held.2 := by
  obtain ⟨cores, -, -⟩ := s.putDev_keeps fill p
  have stored (c : Core) : (p.bytes.foldl (fun co x => co.ownStore .store (p.pa + x.1 % 16) [x.2]) c).holding = c.holding :=
    foldl_keeps Core.holding (fun c x => by simp [Core.ownStore, Core.holding]) _ c
  cases core : w.l1Core with
  | none =>
    have put : s.putPiece w fill p = s.putDev fill p := by
      simp only [State.putPiece, space, core]
      rfl
    rw [put, State.held, State.held, cores]
  | some c =>
    have put : s.putPiece w fill p = (s.putDev fill p).setCore c
        (p.bytes.foldl (fun co x => co.ownStore .store (p.pa + x.1 % 16) [x.2]) ((s.putDev fill p).core c)) := by
      simp only [State.putPiece, space, core]
      rfl
    rw [put, State.setCore_held_of_kept (stored _), State.held, State.held, cores]

theorem State.putPiece_holdings_of_acc {w : EngFor} {p : CopyPut} (space : p.space = .pad) (core : w.eng < 160) (acc : isAccWin p.va = true)
    (s : State) (fill : Bool) : (s.putPiece w fill p).held = s.held := by
  have put : s.putPiece w fill p = s.setCore w.eng (p.bytes.foldl (fun co x => co.accPut x.1 x.2) (s.core w.eng)) := by
    simp [State.putPiece, space, engCore, core, acc]
  rw [put, State.setCore_held_of_kept (foldl_keeps Core.holding (fun c x => by rfl) _ _)]

theorem State.putPiece_holdings_of_pad {w : EngFor} {p : CopyPut} (space : p.space = .pad) (core : w.eng < 160) (pad : isAccWin p.va = false)
    (s : State) (fill : Bool) : (s.putPiece w fill p).held = (s.held.1, s.held.2.modify w.eng (p.padHeld w.task)) := by
  simp only [State.putPiece, space, engCore, core, pad, if_true]
  refine State.setCore_held (Core.onPad_holding (fun c => ?_) _ _)
  have fills : (p.bytes.foldl (fun (co : Core) x => co.endFills (x.1 % 2 ^ 48) 1) c).holding = c.holding :=
    foldl_keeps Core.holding (fun c x => by rfl) _ c
  exact congrArg (fun x : PadHolding => { x with hamper := p.into c.hamper (p.va % 2 ^ 48) }) fills

theorem State.putPiece_held (s : State) (w : EngFor) (fill : Bool) (p : CopyPut) : (s.putPiece w fill p).held = p.putHeld w s.held := by
  refine Prod.ext (s.putPiece_memories_fst w fill p) ?_
  cases space : p.space with
  | host => simp [State.putPiece, CopyPut.putHeld, space, State.held]
  | dev => simp [CopyPut.putHeld, space, State.putPiece_holdings_of_dev space]
  | pad =>
    by_cases core : w.eng < 160
    · cases acc : isAccWin p.va with
      | true => simp [CopyPut.putHeld, acc, State.putPiece_holdings_of_acc space core acc]
      | false => simp [CopyPut.putHeld, space, core, acc, State.putPiece_holdings_of_pad space core acc]
    · simp [State.putPiece, CopyPut.putHeld, space, engCore, core]

/-- The pieces of a list of writes are those from before a group was written: translation does not look at groups. -/
theorem State.setGroup_physical (s : State) (r : GRef) (g : Group) (u : XUnit) (asid va : Nat) :
    (s.setGroup r g).physical u asid va = s.physical u asid va := by
  have levels : (s.setGroup r g).tcLevels u = s.tcLevels u := by
    unfold State.tcLevels State.die
    split <;> simp
  have cached : (s.setGroup r g).cached u asid va = s.cached u asid va := congrArg (List.findSome? _) levels
  have refused : (s.setGroup r g).wasRefused u asid va false = s.wasRefused u asid va false := by
    simp only [State.wasRefused, State.die, State.setGroup_dies]
  unfold State.physical State.translate
  rw [cached, refused]

theorem State.setGroup_putsOf (s : State) (r : GRef) (g : Group) (w : EngFor) (l : List (Nat × Byte)) :
    (s.setGroup r g).putsOf w l = s.putsOf w l := by
  simp only [State.putsOf, State.setGroup_physical]

/-- An engine's writes do the same to the memories whatever the groups are. -/
theorem State.engWrite_setGroup_memories (s : State) (r : GRef) (g : Group) (w : EngFor) (l : List (Nat × Byte)) :
    ((s.setGroup r g).engWrite w l).memories = (s.engWrite w l).memories := by
  have held (t : State) (ps : List CopyPut) :
      (ps.foldl (fun t p => t.putPiece w false p) t).held = ps.foldl (fun x p => p.putHeld w x) t.held :=
    (List.foldl_hom State.held fun t p => (t.putPiece_held w false p).symm).symm
  refine State.memories_of_held ?_
  rw [State.engWrite, State.engWrite, State.setGroup_putsOf, held, held, State.setGroup_held]

/-! ### A collective at work -/

theorem State.collAt_eq_some {s : State} {r : GRef} {wk : Nat} {g : Group} {w : Wick} {q : Sequencer} :
    s.collAt r wk = some (g, w, q) ↔ s.longAt r wk = some (g, w, q) ∧ isColl w.kind = true ∧ w.status = stBUSY ∧ s.serving = true := by
  have filters : s.collAt r wk = (s.longAt r wk).filter (fun y => isColl y.2.1.kind && y.2.1.status == stBUSY && s.serving) := by
    unfold State.collAt
    cases s.longAt r wk <;> rfl
  rw [filters, Option.filter_eq_some_iff]
  simp [and_assoc]

theorem State.collAnswers_eq_some {s : State} {r : GRef} {wk : Nat} {g : Group} {w : Wick} {q : Sequencer} :
    s.collAnswers r wk = some (g, w, q) ↔
      s.longAt r wk = some (g, w, q) ∧ isColl w.kind = true ∧ (w.status = stBUSY ∨ w.status = stDONE) ∧ s.serving = true := by
  have filters : s.collAnswers r wk = (s.longAt r wk).filter
      (fun y => isColl y.2.1.kind && (y.2.1.status == stBUSY || y.2.1.status == stDONE) && s.serving) := by
    unfold State.collAnswers
    cases s.longAt r wk <;> rfl
  rw [filters, Option.filter_eq_some_iff]
  simp [and_assoc]

/-- A collective at work is its group's, and its sequencer is its wick's. -/
theorem State.collAt_seated {s : State} {r : GRef} {wk : Nat} {g : Group} {w : Wick} {q : Sequencer} (h : s.collAt r wk = some (g, w, q)) :
    s.group r = some g ∧ { w with seq := some q } = w := by
  obtain ⟨-, hg, -, hq⟩ := State.longAt_eq_some.mp (State.collAt_eq_some.mp h).1
  exact ⟨hg, by rw [← hq]⟩

/-! ### The copies and sends of a wick (09 R243, 12 R314) -/

theorem Wick.withCopies_cseq_of_none {q : Sequencer} (h : q.copies = []) (w : Wick) : (w.withCopies q).cseq = q.nextNum % 2 ^ 32 := by
  simp [Wick.withCopies, h]

theorem Wick.withCopies_cseq_of_oldest {q : Sequencer} {y : SeqCopy} {l : List SeqCopy} (h : q.copies = y :: l) (w : Wick) :
    (w.withCopies q).cseq = y.num % 2 ^ 32 := by
  simp [Wick.withCopies, h]

/-! ### A member's message (12 R306, R309, R311, R318) -/

/-- A contribution's place is that of its member in the buffer of its chunk's parity. -/
theorem StepAt.receiveAt_eq_memberPlace {x : StepAt} (h : isColl x.w.kind = true) (m : ChunkMsg) :
    (x.receiveAt m).1 = Claims.memberPlace x.q x.w.kind m := by
  have notAttn : x.w.kind ≠ opXATTN := fun e => by simp [e, isColl, opXATTN] at h
  have notAppend : x.w.kind ≠ opKVAPP := fun e => by simp [e, isColl, opKVAPP] at h
  simp only [StepAt.receiveAt, StepAt.bufferOf, StepAt.buffers, Claims.memberPlace, notAttn, notAppend, h, if_false, if_true]
  split <;> simp

/-- The group whose member's contribution is taken: it is kept last in the sequencer. -/
theorem State.receive_group {s : State} {r : GRef} {g₀ : Group} (hg : s.group r = some g₀) (x : StepAt) (m : ChunkMsg) :
    ∃ l flags fill, (s.receive r x m).group r = some (x.g.setWick x.wk { x.w with
      lidx := l
      seq := some { x.q with got := x.q.got ++ [⟨m.chunk, m.src, m.data, flags, fill, (x.receiveAt m).1⟩] } }) :=
  ⟨_, _, _, (State.group_setCore_of_seats (Core.fillAt_seats ..) r).trans (State.group_setGroup_same s r _ g₀ hg)⟩

/-- Of the hampers, a contribution writes its place in its core's alone. -/
theorem State.receive_padByte (s : State) (r : GRef) (x : StepAt) (m : ChunkMsg) {c a : Nat}
    (h : c ≠ r.core ∨ a < (x.receiveAt m).1 ∨ (x.receiveAt m).1 + min m.data.length 16384 ≤ a) :
    (s.receive r x m).padByte c a = s.padByte c a := by
  by_cases hc : c = r.core
  · have outside := h.resolve_left (not_not_intro hc)
    exact (State.core_field_setCore (fun k : Core => k.hamper.read a) (Core.fillAt_outside _ _ _ outside) c).trans
      (congrArg (fun l : Mem => l.read a) (State.setGroup_core_hamper ..))
  · exact congrArg (fun k : Core => k.hamper.read a) ((State.core_setCore_other _ r.core c _ hc).trans (State.core_setGroup_other s r _ c hc))

theorem State.receiveShard_group {s : State} {r : GRef} {g₀ : Group} (hg : s.group r = some g₀) (x : StepAt) (m : ChunkMsg) :
    ∃ l, (s.receiveShard r x m).group r = some (x.g.setWick x.wk { x.w with
      lidx := l
      seq := some { x.q with got := x.q.got ++ [⟨m.chunk, m.src, m.data, 0#6, 0, 0⟩] } }) :=
  ⟨_, (State.engWrite_group ..).trans (State.group_setGroup_same s r _ g₀ hg)⟩

/-- CRING's shard lands at the part of RBUF of its round. -/
theorem StepAt.shardWrite_addresses (x : StepAt) (m : ChunkMsg) :
    (x.shardWrite m).map (·.1) = (List.range m.data.length).map ((collOf x.q.desc).shardAt m.chunk + ·) := by
  have len : (x.shardBytes m.chunk m.data.length).length = m.data.length := by simp [StepAt.shardBytes, freeBytes]
  rw [StepAt.shardWrite, List.map_map]
  exact List.ext_getElem (by simp [len]) (by simp)

/-- CRING awaits the shard of its round alone. -/
theorem Coll.takes_ring {c : Coll} {q : Sequencer} {done : Nat} {m : ChunkMsg} (h : c.takes q done m = true) (ring : c.kind = opCRING) :
    m.chunk = done := by
  simp only [Coll.takes, Bool.and_eq_true, decide_eq_true_eq, ring, if_true] at h
  omega

section
variable {s : State} {r : GRef} {wk : Nat} {m : ChunkMsg} {g : Group} {w : Wick} {q : Sequencer} (h : s.collAt r wk = some (g, w, q))
  (member : m.src ∈ (collOf q.desc).others)
include h member

theorem exec_chunkReceive_of_disagreement (fresh : m.src ∉ q.agreed) (differ : m.params ≠ collParams q.desc q.list) :
    exec (.chunkReceive r wk m) s = .next (s.stopWick r g wk stERROR 0x0300 none) := by
  simp [exec_chunkReceive, execChunkReceive, h, member, fresh, differ]

variable (agreed : m.src ∈ q.agreed) (awaited : (collOf q.desc).takes q w.done m = true)
include agreed awaited

theorem exec_chunkReceive_of_contribution (kind : (collOf q.desc).kind ≠ opCRING) :
    exec (.chunkReceive r wk m) s = .next (s.receive r ⟨r.core, g, wk, w, q⟩ m) := by
  obtain ⟨-, same⟩ := State.collAt_seated h
  simp [exec_chunkReceive, execChunkReceive, h, member, agreed, awaited, kind, same]

theorem exec_chunkReceive_of_shard (kind : (collOf q.desc).kind = opCRING)
    (pages : s.pageRound g.asid (longMan w.kind q.desc) none
      (ReadAt.needs true ⟨seqUnit r.core, (collOf q.desc).shardAt m.chunk, m.data.length⟩) = .ok)
    (sound : s.engMergeErr (seqFor r.core g) ((⟨r.core, g, wk, w, q⟩ : StepAt).shardWrite m) = none) :
    exec (.chunkReceive r wk m) s = .next (s.receiveShard r ⟨r.core, g, wk, w, q⟩ m) := by
  obtain ⟨-, same⟩ := State.collAt_seated h
  simp [exec_chunkReceive, execChunkReceive, h, member, agreed, awaited, kind, same, pages, StepAt.eng, sound]
end

/-! ### A member's request (12 R313, R317, R318) -/

theorem Sequencer.send_one_copies (q : Sequencer) (chunk dst : Nat) : (q.send chunk [dst]).copies.length = q.copies.length + 1 := by
  simp [Sequencer.send]

/-- What answers a request by reading SRC again is one send more. -/
theorem StepAt.answer_copies (s : State) (x : StepAt) (chunk dst : Nat) :
    (x.answer s chunk dst).copies.length = x.q.copies.length + 1 := by
  unfold StepAt.answer
  dsimp only
  split <;> exact Sequencer.send_one_copies ..

/-- CRING's shard is held once it has come, and the member's own from the start. -/
theorem Coll.holds_ring {c : Coll} {q : Sequencer} {done chunk : Nat} (ring : c.kind = opCRING) (reached : chunk ≤ done)
    (here : chunk = 0 ∨ ∃ y ∈ q.got, y.chunk + 1 = chunk) : c.holds q done chunk = some true := by
  simpa [Coll.holds, ring, reached] using here

theorem Coll.holds_formed {c : Coll} {q : Sequencer} {done chunk : Nat} (kind : c.kind = opCALLRED) (former : c.former chunk = c.me)
    (formed : chunk < done) : c.holds q done chunk = some true := by
  simp [Coll.holds, kind, former, formed, opCALLRED, opCRING]

theorem Coll.holds_none {c : Coll} (q : Sequencer) (done : Nat) {chunk : Nat} (ring : c.kind ≠ opCRING)
    (former : ¬ (c.kind = opCALLRED ∧ c.former chunk = c.me)) : c.holds q done chunk = none := by
  simp [Coll.holds, ring, former]

section
variable {s : State} {r : GRef} {wk chunk dst : Nat} {g : Group} {w : Wick} {q : Sequencer} (h : s.collAnswers r wk = some (g, w, q))
  (asks : (collOf q.desc).asks chunk dst = true) (unsent : q.copies.any (fun y => y.peer == dst && y.chunk == chunk) = false)
include h asks unsent

theorem exec_chunkRequest_of_held (held : (collOf q.desc).holds q w.done chunk = some true) :
    exec (.chunkRequest r wk chunk dst) s = .next (s.setGroup r (g.setWick wk (w.withCopies (q.send chunk [dst])))) := by
  simp [exec_chunkRequest, execChunkRequest, h, asks, unsent, held]

theorem exec_chunkRequest_of_read (unheld : (collOf q.desc).holds q w.done chunk = none)
    (pages : ∀ y ∈ (collOf q.desc).ownReads chunk dst, isGlobal y.1 = true → ∀ a ∈ pagesOf y.1 y.2,
      ∃ pa h, s.translate (seqUnit r.core) g.asid a false = .hit pa h)
    (sound : s.readsErr ⟨r.core, g, wk, w, q⟩ ((⟨r.core, g, wk, w, q⟩ : StepAt).at ((collOf q.desc).ownReads chunk dst)) = none) :
    exec (.chunkRequest r wk chunk dst) s =
      .next (s.setGroup r (g.setWick wk (w.withCopies ((⟨r.core, g, wk, w, q⟩ : StepAt).answer s chunk dst)))) := by
  have round : s.pageRound g.asid (longMan w.kind q.desc) none
      (((⟨r.core, g, wk, w, q⟩ : StepAt).at ((collOf q.desc).ownReads chunk dst)).flatMap (ReadAt.needs false)) = .ok := by
    refine State.pageRound_eq_ok.mpr fun n hn => ?_
    obtain ⟨rd, hrd, need⟩ := List.mem_flatMap.mp hn
    obtain ⟨y, hy, rfl⟩ := List.mem_map.mp hrd
    unfold ReadAt.needs at need
    split_ifs at need with global
    · obtain ⟨a, ha, rfl⟩ := List.mem_map.mp need
      obtain ⟨pa, host, hit⟩ := pages y hy global a ha
      simp [hit]
    · simp at need
  simp [exec_chunkRequest, execChunkRequest, h, asks, unsent, unheld, round, sound]
end

/-- A wick whose answer has joined the sends shows it in their count, and no byte changes. -/
theorem State.sends_one_more {s : State} {r : GRef} {wk : Nat} {g g₀ : Group} {w : Wick} {q p : Sequencer} (hg : s.group r = some g₀)
    (hwk : wk < g.wicks.length) (one : p.copies.length = q.copies.length + 1) :
    s.sameBytes (s.setGroup r (g.setWick wk (w.withCopies p))) ∧ ∃ h, (s.setGroup r (g.setWick wk (w.withCopies p))).group r = some h ∧
      (h.wick wk).cout = (q.copies.length + 1) % 2 ^ 16 ∧ (h.wick wk).done = w.done ∧ (h.wick wk).status = w.status := by
  refine ⟨State.sameBytes_of_memories (State.setGroup_memories ..), _, State.group_setGroup_same s r _ g₀ hg, ?_⟩
  rw [Group.wick_setWick_same hwk, ← one]
  exact ⟨rfl, rfl, rfl⟩

/-! ### Acknowledgements, lost links and peers that are gone (12 R306, R312, R314) -/

theorem exec_sendAcknowledgement_of_outstanding {s : State} {r : GRef} {wk chunk peer : Nat} {g : Group} {w : Wick} {q : Sequencer}
    {y : SeqCopy} (h : s.longAt r wk = some (g, w, q)) (serving : s.serving = true)
    (outstanding : q.copies.find? (fun y => y.chunk == chunk && y.peer == peer) = some y) :
    exec (.sendAcknowledgement r wk ⟨chunk, peer⟩) s = .next (s.setGroup r (g.setWick wk (w.withCopies
      { q with copies := q.copies.filter (fun z => decide (z ≠ y)) }))) := by
  simp [exec_sendAcknowledgement, execSendAcknowledgement, h, serving, outstanding]

/-- A collective that its link or a peer stops writes no byte and shows the ECODE. -/
theorem State.stopColl_stops {s : State} {r : GRef} {wk : Nat} {g : Group} {w : Wick} {q : Sequencer} (h : s.collAt r wk = some (g, w, q))
    (hwk : wk < g.wicks.length) (ecode : Nat) :
    s.sameBytes (s.stopColl r wk ecode) ∧ ∃ x, (s.stopColl r wk ecode).group r = some x ∧ (x.wick wk).status = stERROR ∧
      (x.wick wk).ecode = ecode := by
  obtain ⟨hg, -⟩ := State.collAt_seated h
  have stops : s.stopColl r wk ecode = s.stopWick r (g.setWick wk (w.withCopies { q with copies := [] })) wk stERROR ecode none := by
    simp only [State.stopColl, h]
  rw [stops]
  refine ⟨State.sameBytes_of_memories (State.stopWick_memories ..), _, State.stopWick_group hg .., ?_⟩
  rw [Group.wick_setWick_same (by simpa using hwk)]
  exact ⟨rfl, rfl⟩

end Sys2Proof.Machine

namespace Sys2Proof.Claims

open Sys2Proof.Machine

/-- Settles O42: a message that is awaited joins those received and its bytes enter their place alone, CRING's shard as an engine's write does;
an answer joins the sends, an acknowledged one leaves them, and a disagreement, a lost link and a peer that is gone stop the wick. -/
theorem collectivesExchange : Obligations.CollectivesExchange := by
  refine ⟨?_, ?_, ?_, ?_, ?_, ?_, ?_, ?_, ?_⟩
  · intro s r wk m g w q at_ member fresh differ
    exact exec_chunkReceive_of_disagreement at_ member fresh differ
  · intro s r wk m g w q at_ member agreed awaited kind hwk
    obtain ⟨-, coll, -, -⟩ := State.collAt_eq_some.mp at_
    obtain ⟨hg, -⟩ := State.collAt_seated at_
    have place := StepAt.receiveAt_eq_memberPlace (x := ⟨r.core, g, wk, w, q⟩) coll m
    obtain ⟨l, flags, fill, hgroup⟩ := State.receive_group hg ⟨r.core, g, wk, w, q⟩ m
    have mems := State.receive_memories_fst s r ⟨r.core, g, wk, w, q⟩ m
    refine ⟨_, _, _, _, exec_chunkReceive_of_contribution at_ member agreed awaited kind, hgroup, by rw [Group.wick_setWick_same hwk], rfl,
      rfl, rfl, rfl, rfl, place, by rw [Group.wick_setWick_same hwk], fun a => congrArg (fun m => m.1.read a) mems,
      fun a => congrArg (fun m => m.2.read a) mems, fun c a outside => ?_⟩
    rw [← place] at outside
    exact State.receive_padByte s r ⟨r.core, g, wk, w, q⟩ m outside
  · intro s r wk m g w q x at_ hx member agreed awaited kind hwk pages sound
    subst hx
    obtain ⟨hg, -⟩ := State.collAt_seated at_
    obtain ⟨l, hgroup⟩ := State.receiveShard_group hg ⟨r.core, g, wk, w, q⟩ m
    exact ⟨Coll.takes_ring awaited kind, _, _, _, _, exec_chunkReceive_of_shard at_ member agreed awaited kind pages sound, hgroup,
      by rw [Group.wick_setWick_same hwk], rfl, rfl, rfl, rfl, by rw [Group.wick_setWick_same hwk],
      State.sameBytes_of_memories (State.engWrite_setGroup_memories ..), StepAt.shardWrite_addresses ..⟩
  · intro s r wk chunk dst g w q at_ asks fresh hwk sends
    obtain ⟨long, -, -, -⟩ := State.collAnswers_eq_some.mp at_
    obtain ⟨-, hg, -, -⟩ := State.longAt_eq_some.mp long
    have unsent : q.copies.any (fun y => y.peer == dst && y.chunk == chunk) = false := by simpa using fresh
    obtain ⟨same, x, after⟩ := State.sends_one_more (w := w) hg hwk (q.send_one_copies chunk dst)
    rcases sends with ⟨ring, reached, here⟩ | ⟨kind, former, formed⟩ | ⟨ring, unformed, pages, sound⟩
    · exact ⟨_, x, exec_chunkRequest_of_held at_ asks unsent (Coll.holds_ring ring reached here), same, after⟩
    · exact ⟨_, x, exec_chunkRequest_of_held at_ asks unsent (Coll.holds_formed kind former formed), same, after⟩
    · obtain ⟨same, x, after⟩ := State.sends_one_more (w := w) hg hwk (StepAt.answer_copies s ⟨r.core, g, wk, w, q⟩ chunk dst)
      exact ⟨_, x, exec_chunkRequest_of_read at_ asks unsent (Coll.holds_none q w.done ring unformed) pages sound, same, after⟩
  · intro s r wk chunk peer g w q y at_ serving outstanding
    exact exec_sendAcknowledgement_of_outstanding at_ serving outstanding
  · intro w q
    exact ⟨rfl, rfl, fun unsent => Wick.withCopies_cseq_of_none unsent w, fun y l oldest => Wick.withCopies_cseq_of_oldest oldest w, rfl⟩
  · intro s r wk g w q at_ hwk
    obtain ⟨lost, x, lostAt⟩ := State.stopColl_stops at_ hwk 0x0302
    obtain ⟨gone, y, goneAt⟩ := State.stopColl_stops at_ hwk 0x0301
    exact ⟨⟨_, x, exec_lostLink r wk s, lost, lostAt⟩, _, y, exec_peerNotice r wk s, gone, goneAt⟩
  · intro s r wk chunk
    exact exec_chunkRetry r wk chunk s
  · intro s lane
    exact exec_laneRetrain lane s

end Sys2Proof.Claims
end

section
/-!
PROOFS. Cancel scopes (13 R343 to R347, R355, R356): the scope table as scopes are made, closed, snuffed and freed, and what SCOPE, SCLOSE, SNUFF and
SNUFFW answer.
-/

namespace Sys2Proof.Machine

/-! ### S parts that wait, and what an issue leaves of its scope -/

/-- A waiting S part asks for nothing. -/
theorem waitEffect_S {i : Instr} (h : slotOf i = some .S) (s : State) (r : GRef) (g : Group) (p : Part) : waitEffect s r g .S p i = s := by
  cases i <;> cases h
  all_goals exact ite_self s

/-- An S part that its own rule holds back leaves the state as it is. -/
theorem exec_waits {s : State} {g : Group} {p : Part} {i : Instr} (hk : slotOf i = some .S) (h : s.ready g .S p i)
    (ho : own s s.cur g .S p i = .wait) : exec i s = .next s := by
  obtain ⟨f, hf⟩ := exec_eq_runPart hk s
  rw [hf, runPart_waits f h ho, waitEffect_S hk]

@[simp] theorem State.ownScope_issued (s : State) (g : Group) (k : Slot) (p : Part) (i : Instr) :
    s.ownScope (issued g k p i) = s.ownScope g := by
  simp [State.ownScope]

/-! ### The scope with an identifier -/

theorem State.mem_of_scope {s : State} {id : Nat} {x : Scope} (h : s.scope id = some x) : x ∈ s.scopes ∧ x.id = id :=
  ⟨List.mem_of_find?_eq_some h, by simpa using List.find?_some h⟩

/-- Where identifiers are unique, each scope of the table is the one that its identifier names. -/
theorem State.scope_of_mem {s : State} (unique : (s.scopes.map (·.id)).Nodup) {x : Scope} (h : x ∈ s.scopes) : s.scope x.id = some x := by
  cases found : s.scope x.id with
  | none => simpa using List.find?_eq_none.mp found x h
  | some y =>
    obtain ⟨mem, same⟩ := State.mem_of_scope found
    exact congrArg some (List.inj_on_of_nodup_map unique mem h same)

/-! ### A new scope (13 R343) -/

/-- Below the table's limit there is an index that no scope of the table has. -/
theorem State.freeIndex_eq_some {s : State} (room : s.scopes.length < 65535) :
    ∃ i, s.freeIndex = some i ∧ i ≠ 0 ∧ i ≤ 65535 ∧ ∀ y ∈ s.scopes, y.id % 65536 ≠ i := by
  have few : (s.scopes.map (fun x => x.id % 65536)).length < 65535 := by simpa using room
  unfold State.freeIndex
  dsimp only
  generalize indices : s.scopes.map (fun x => x.id % 65536) = used at few
  have unused : ∃ i ∈ (List.range (used.length + 1)).map (· + 1), i ∉ used := by
    by_contra! all
    have nodup : ((List.range (used.length + 1)).map (· + 1)).Nodup := List.nodup_range.map (add_left_injective 1)
    simpa using nodup.length_le_of_subset all
  cases found : ((List.range (used.length + 1)).map (· + 1)).find? (fun i => !used.contains i && decide (i ≤ 65535)) with
  | none =>
    obtain ⟨i, mem, absent⟩ := unused
    have refused := List.find?_eq_none.mp found i mem
    simp only [List.mem_map, List.mem_range] at mem
    simp [absent] at refused
    omega
  | some i =>
    have mem := List.mem_of_find?_eq_some found
    have free := List.find?_some found
    simp only [List.mem_map, List.mem_range] at mem
    simp only [Bool.and_eq_true, Bool.not_eq_true', decide_eq_true_eq, List.contains_eq_mem, decide_eq_false_iff_not] at free
    refine ⟨i, rfl, by omega, free.2, fun y hy same => free.1 ?_⟩
    rw [← indices]
    exact List.mem_map.mpr ⟨y, hy, same⟩

/-- A scope is made under a free index, below a generation of it. -/
theorem State.newScope_of_freeIndex {s : State} {parent maker i : Nat} (room : s.scopes.length < 65535)
    (depth : (s.scopeChain 33 parent).length ≤ 32) (free : s.freeIndex = some i) :
    ∃ (gen : Nat) (t : State), s.newScope parent maker = some (i + 65536 * (gen % 65536), t) ∧
      t.scopes = s.scopes ++ [⟨i + 65536 * (gen % 65536), parent, maker, .opened, []⟩] ∧
      { t with scopes := s.scopes, scopeGen := s.scopeGen, gone := s.gone } = s := by
  unfold State.newScope
  rw [if_neg (by omega), free]
  exact ⟨_, _, rfl, rfl, rfl⟩

/-- With room in the table and above, a scope is made under an identifier whose index no scope has. -/
theorem State.newScope_of_room {s : State} {parent maker : Nat} (room : s.scopes.length < 65535) (depth : (s.scopeChain 33 parent).length ≤ 32) :
    ∃ (id : Nat) (t : State), s.newScope parent maker = some (id, t) ∧ id ≠ 0 ∧ t.scopes = s.scopes ++ [⟨id, parent, maker, .opened, []⟩] ∧
      { t with scopes := s.scopes, scopeGen := s.scopeGen, gone := s.gone } = s ∧ ∀ y ∈ s.scopes, y.id % 65536 ≠ id % 65536 := by
  obtain ⟨i, free, pos, le, fresh⟩ := State.freeIndex_eq_some room
  obtain ⟨gen, t, made, scopes, frame⟩ := State.newScope_of_freeIndex (maker := maker) room depth free
  refine ⟨_, t, made, by omega, scopes, frame, fun y hy => ?_⟩
  have index : (i + 65536 * (gen % 65536)) % 65536 = i := by omega
  rw [index]
  exact fresh y hy

theorem State.newScope_of_full {s : State} {parent maker : Nat}
    (full : ¬ (s.scopes.length < 65535 ∧ (s.scopeChain 33 parent).length ≤ 32)) : s.newScope parent maker = none :=
  if_pos (by omega)

/-! ### Scopes freed (13 R343) -/

/-- One round of the sweep: the scopes that are no longer live go. -/
def State.freeDead (s : State) : State :=
  let dead := s.scopes.filter s.deadScope
  { s with
    scopes := s.scopes.filter (fun x => !dead.contains x)
    gone := s.gone ++ (dead.filter (fun x => x.state == .snuffed)).map (·.id)
    snuffs := s.snuffs.map (fun u =>
      { u with barriers := u.barriers ++ (dead.filter (fun x => u.scopes.contains x.id)).flatMap (·.barriers) }) }

theorem State.mem_freeDead {s : State} {x : Scope} : x ∈ s.freeDead.scopes ↔ x ∈ s.scopes ∧ s.deadScope x = false := by
  simp +contextual [State.freeDead]

theorem State.sweepN_succ (n : Nat) (s : State) :
    s.sweepN (n + 1) = if ∀ x ∈ s.scopes, s.deadScope x = false then s else s.freeDead.sweepN n := by
  simp only [State.sweepN, List.isEmpty_iff, List.filter_eq_nil_iff, Bool.not_eq_true]
  rfl

/-- A sweep writes the scope table alone. -/
theorem State.sweepN_frame (n : Nat) (s : State) : { s.sweepN n with scopes := s.scopes, gone := s.gone, snuffs := s.snuffs } = s := by
  induction n generalizing s with
  | zero => rfl
  | succ n ih =>
    rw [State.sweepN_succ]
    split
    · rfl
    · exact congrArg (fun t : State => { t with scopes := s.scopes, gone := s.gone, snuffs := s.snuffs }) (ih s.freeDead)

/-- A sweep makes no scope. -/
theorem State.mem_of_mem_sweepN {n : Nat} {s : State} {x : Scope} (h : x ∈ (s.sweepN n).scopes) : x ∈ s.scopes := by
  induction n generalizing s with
  | zero => exact h
  | succ n ih =>
    rw [State.sweepN_succ] at h
    split at h
    · exact h
    · exact (State.mem_freeDead.mp (ih h)).1

/-- An open scope stays. -/
theorem State.mem_sweepN_of_open {n : Nat} {s : State} {x : Scope} (h : x ∈ s.scopes) (opened : x.state = .opened) : x ∈ (s.sweepN n).scopes := by
  induction n generalizing s with
  | zero => exact h
  | succ n ih =>
    rw [State.sweepN_succ]
    split
    · exact h
    · exact ih (State.mem_freeDead.mpr ⟨h, by simp [State.deadScope, opened]⟩)

/-- Every SNUFF in progress keeps all but the barriers that it has still to release. -/
theorem State.sweepN_snuffs (n : Nat) (s : State) :
    ∃ b : Snuff → List Nat, (s.sweepN n).snuffs = s.snuffs.map (fun u => { u with barriers := b u }) := by
  induction n generalizing s with
  | zero => exact ⟨Snuff.barriers, (List.map_id' s.snuffs).symm⟩
  | succ n ih =>
    rw [State.sweepN_succ]
    split
    · exact ⟨Snuff.barriers, (List.map_id' s.snuffs).symm⟩
    · obtain ⟨b, hb⟩ := ih s.freeDead
      exact ⟨_, hb.trans List.map_map⟩

/-- A scope that is no longer live is freed. -/
theorem State.not_mem_sweep_of_dead {s : State} {x : Scope} (dead : s.deadScope x = true) : x ∉ s.sweep.scopes := by
  intro h
  rw [State.sweep, State.sweepN_succ] at h
  split at h
  · rename_i live
    simp [live x h] at dead
  · simp [(State.mem_freeDead.mp (State.mem_of_mem_sweepN h)).2] at dead

theorem State.sweep_of_live {s : State} (live : ∀ x ∈ s.scopes, s.deadScope x = false) : s.sweep = s := by
  rw [State.sweep, State.sweepN_succ, if_pos live]

theorem State.deadScope_eq_true {s : State} {x : Scope} :
    s.deadScope x = true ↔ x.state ≠ .opened ∧ s.scopeTasks x.id = [] ∧ ∀ z ∈ s.scopes, z.parent ≠ x.id := by
  simp [State.deadScope, and_assoc]

/-! ### A scope closed (13 R355) -/

theorem State.closeScope_of_foreign {s : State} {own id : Nat} (h : s.scope id = none ∨ s.under own id = false) : s.closeScope own id = (3, s) := by
  unfold State.closeScope
  split
  · rfl
  · rename_i x found
    rw [if_pos (by simp [h.resolve_left (by simp [found])])]

section
variable {s : State} {own id : Nat} {x : Scope} (found : s.scope id = some x) (under : s.under own id = true)
include found under

theorem State.closeScope_of_closed (h : x.state = .closed) : s.closeScope own id = (1, s) := by
  simp [State.closeScope, found, under, h]

theorem State.closeScope_of_snuffed (h : x.state = .snuffed) : s.closeScope own id = (2, s) := by
  simp [State.closeScope, found, under, h]

theorem State.closeScope_of_open (h : x.state = .opened) :
    s.closeScope own id = (0, (s.setScope { x with state := .closed }).sweep) := by
  simp [State.closeScope, found, under, h]
end

section
variable {s : State} {x : Scope}

theorem State.mem_setScope_of_ne {y z : Scope} (h : z ∈ s.scopes) (ne : z.id ≠ y.id) : z ∈ (s.setScope y).scopes :=
  List.mem_map.mpr ⟨z, h, if_neg ne⟩

/-- A write of a scope that keeps its parent keeps the parents of the table. -/
theorem State.setScope_parents {a : Nat} (unique : (s.scopes.map (·.id)).Nodup) (h : x ∈ s.scopes) (v : ScopeState) :
    (∀ z ∈ (s.setScope { x with state := v }).scopes, z.parent ≠ a) ↔ ∀ z ∈ s.scopes, z.parent ≠ a := by
  have parents : (s.setScope { x with state := v }).scopes.map (·.parent) = s.scopes.map (·.parent) := by
    simp only [State.setScope, List.map_map]
    refine List.map_congr_left fun z hz => ?_
    dsimp only [Function.comp_apply]
    split
    · rename_i same
      rw [List.inj_on_of_nodup_map unique hz h same]
    · rfl
  have both (l : List Scope) : (∀ z ∈ l, z.parent ≠ a) ↔ a ∉ l.map (·.parent) := by simp [eq_comm]
  rw [both, both, parents]

/-- The scope that is closed is freed where it holds no task and no child. -/
theorem State.not_mem_close_of_empty (unique : (s.scopes.map (·.id)).Nodup) (h : x ∈ s.scopes)
    (empty : s.scopeTasks x.id = [] ∧ ∀ z ∈ s.scopes, z.parent ≠ x.id) :
    ∀ z ∈ (s.setScope { x with state := .closed }).sweep.scopes, z.id ≠ x.id := by
  intro z hz same
  refine State.not_mem_sweep_of_dead (State.deadScope_eq_true.mpr ⟨?_, ?_, ?_⟩) hz
  · obtain ⟨y, -, rfl⟩ := List.mem_map.mp (State.mem_of_mem_sweepN hz)
    split_ifs at same ⊢
    · simp
    · contradiction
  · rw [same]
    exact empty.1
  · rw [same]
    exact (State.setScope_parents unique h .closed).mpr empty.2

/-- Where no scope was dead before, a scope that is closed with a task or a child leaves none dead. -/
theorem State.close_of_occupied (unique : (s.scopes.map (·.id)).Nodup) (h : x ∈ s.scopes) (live : ∀ z ∈ s.scopes, s.deadScope z = false)
    (occupied : ¬ (s.scopeTasks x.id = [] ∧ ∀ z ∈ s.scopes, z.parent ≠ x.id)) :
    (s.setScope { x with state := .closed }).sweep =
      { s with scopes := s.scopes.map (fun z => if z.id = x.id then { z with state := .closed } else z) } := by
  rw [State.sweep_of_live]
  · refine congrArg (fun l => { s with scopes := l }) (List.map_congr_left fun z hz => ?_)
    dsimp only
    split
    · rename_i same
      rw [List.inj_on_of_nodup_map unique hz h same]
    · rfl
  · intro z hz
    obtain ⟨y, hy, rfl⟩ := List.mem_map.mp hz
    rw [← Bool.not_eq_true, State.deadScope_eq_true, State.setScope_parents unique h]
    split
    · exact fun dead => occupied dead.2
    · intro dead
      have := live y hy
      rw [← Bool.not_eq_true, State.deadScope_eq_true] at this
      exact this dead
end

/-! ### A scope snuffed (13 R344, R345, R356) -/

theorem State.snuff_of_foreign {s : State} {own id : Nat} (h : s.scope id = none ∨ s.under own id = false) (ack asid rootQ : Nat) :
    s.snuff own id ack asid rootQ = (2, s) := by
  unfold State.snuff
  split
  · rfl
  · rename_i x found
    rw [if_pos (by simp [h.resolve_left (by simp [found])])]

section
variable {s : State} {own id : Nat} {x : Scope} (found : s.scope id = some x) (under : s.under own id = true) (ack asid rootQ : Nat)
include found under

theorem State.snuff_of_snuffed (h : x.state = .snuffed) : s.snuff own id ack asid rootQ = (1, s.snuffAgain id ack asid rootQ) := by
  simp [State.snuff, found, under, h]

theorem State.snuff_of_live (h : x.state ≠ .snuffed) : s.snuff own id ack asid rootQ = (0, s.snuffScope id ack asid rootQ) := by
  simp [State.snuff, found, under, h]
end

/-- A further SNUFF writes the list of SNUFFs, and takes a number where it finds none to follow. -/
theorem State.snuffAgain_eq (s : State) (id ack asid rootQ : Nat) :
    ∃ l : List Snuff × Nat, s.snuffAgain id ack asid rootQ = { s with snuffs := l.1, ids := l.2 } ∧
      ((∃ u ∈ s.snuffs, id ∈ u.scopes) → l.2 = s.ids ∧ l.1 = s.snuffs.map (fun u =>
        if id ∈ u.scopes then { u with followers := u.followers ++ [(ack, asid)] } else u)) ∧
      ((∀ u ∈ s.snuffs, id ∉ u.scopes) → l.2 = s.ids + 1 ∧ l.1 = s.snuffs ++ [Snuff.start s.ids id [] [] ack asid rootQ]) := by
  by_cases earlier : ∃ u ∈ s.snuffs, id ∈ u.scopes
  · have found : s.snuffs.any (fun u => u.scopes.contains id) = true := by simpa using earlier
    refine ⟨⟨_, s.ids⟩, if_pos found, fun _ => ⟨rfl, by simp⟩, fun none => ?_⟩
    obtain ⟨u, hu, mem⟩ := earlier
    exact absurd mem (none u hu)
  · have first : ¬ s.snuffs.any (fun u => u.scopes.contains id) = true := by simpa using earlier
    exact ⟨⟨_, s.ids + 1⟩, if_neg first, fun found => absurd found earlier, fun _ => ⟨rfl, rfl⟩⟩

/-- The scopes that a SNUFF of a scope newly snuffs. -/
def State.newlySnuffed (s : State) (id : Nat) : List Nat :=
  (s.subtree id).filter (fun x => match s.scope x with
    | some y => y.state != .snuffed
    | none => false)

/-- The tasks of a scope's subtree that have not ended. -/
def State.subtreeTasks (s : State) (id : Nat) : List Nat :=
  (s.tasks.filter (fun t => (s.subtree id).contains t.scope && t.state != .ended)).map (·.id)

/-- The table with a scope's subtree snuffed and the SNUFF recorded, before any scope is freed. -/
def State.snuffMarked (s : State) (id ack asid rootQ : Nat) : State :=
  { s with
    scopes := s.scopes.map (fun x => if (s.newlySnuffed id).contains x.id then { x with state := .snuffed } else x)
    snuffs := s.snuffs ++ [Snuff.start s.ids id (s.newlySnuffed id) (s.subtreeTasks id) ack asid rootQ]
    ids := s.ids + 1 }

theorem State.snuffScope_eq (s : State) (id ack asid rootQ : Nat) : s.snuffScope id ack asid rootQ = (s.snuffMarked id ack asid rootQ).sweep := rfl

theorem State.mem_newlySnuffed {s : State} (unique : (s.scopes.map (·.id)).Nodup) {id k : Nat} :
    k ∈ s.newlySnuffed id ↔ ∃ z ∈ s.scopes, z.id = k ∧ s.under id k = true ∧ z.state ≠ .snuffed := by
  simp only [State.newlySnuffed, State.subtree, List.mem_filter, List.mem_map]
  constructor
  · rintro ⟨⟨⟨z, hz, rfl⟩, under⟩, state⟩
    rw [State.scope_of_mem unique hz] at state
    exact ⟨z, hz, rfl, under, by simpa using state⟩
  · rintro ⟨z, hz, rfl, under, state⟩
    refine ⟨⟨⟨z, hz, rfl⟩, under⟩, ?_⟩
    rw [State.scope_of_mem unique hz]
    simpa using state

theorem State.mem_subtreeTasks {s : State} {id k : Nat} :
    k ∈ s.subtreeTasks id ↔
      ∃ z ∈ s.tasks, z.id = k ∧ z.state ≠ .ended ∧ s.under id z.scope = true ∧ ∃ y ∈ s.scopes, y.id = z.scope := by
  simp only [State.subtreeTasks, State.subtree, List.mem_map, List.mem_filter, Bool.and_eq_true, List.contains_eq_mem, decide_eq_true_eq,
    bne_iff_ne]
  constructor
  · rintro ⟨z, ⟨hz, ⟨scope, under⟩, live⟩, rfl⟩
    exact ⟨z, hz, rfl, live, under, scope⟩
  · rintro ⟨z, hz, rfl, live, under, scope⟩
    exact ⟨z, ⟨hz, ⟨scope, under⟩, live⟩, rfl⟩

/-- Every scope of the subtree that is still in the table stands snuffed. -/
theorem State.snuffScope_snuffs {s : State} (unique : (s.scopes.map (·.id)).Nodup) {id ack asid rootQ : Nat} {z : Scope}
    (h : z ∈ (s.snuffScope id ack asid rootQ).scopes) (under : s.under id z.id = true) : z.state = .snuffed := by
  rw [State.snuffScope_eq] at h
  obtain ⟨y, hy, rfl⟩ := List.mem_map.mp (State.mem_of_mem_sweepN h)
  by_cases new : y.id ∈ s.newlySnuffed id
  · simp [new]
  · simp only [List.contains_eq_mem, new, decide_false, Bool.false_eq_true, if_false] at under ⊢
    rw [State.mem_newlySnuffed unique] at new
    by_contra live
    exact new ⟨y, hy, rfl, under, live⟩

/-- An open scope outside the subtree stays as it is. -/
theorem State.mem_snuffScope_of_open {s : State} (unique : (s.scopes.map (·.id)).Nodup) {id ack asid rootQ : Nat} {z : Scope}
    (h : z ∈ s.scopes) (opened : z.state = .opened) (outside : s.under id z.id = false) : z ∈ (s.snuffScope id ack asid rootQ).scopes := by
  rw [State.snuffScope_eq]
  refine State.mem_sweepN_of_open (List.mem_map.mpr ⟨z, h, if_neg ?_⟩) opened
  simp [State.mem_newlySnuffed unique, outside]

/-- A SNUFF takes a number and writes the scope table and the list of SNUFFs, nothing else. -/
theorem State.snuffScope_frame (s : State) (id ack asid rootQ : Nat) :
    { s.snuffScope id ack asid rootQ with scopes := s.scopes, gone := s.gone, snuffs := s.snuffs, ids := s.ids } = s ∧
      (s.snuffScope id ack asid rootQ).ids = s.ids + 1 := by
  have frame := State.sweepN_frame 33 (s.snuffMarked id ack asid rootQ)
  exact ⟨congrArg (fun t : State => { t with scopes := s.scopes, gone := s.gone, snuffs := s.snuffs, ids := s.ids }) frame,
    congrArg State.ids frame⟩

/-- The SNUFF that is recorded: it has reached no site, and knows its scopes and its tasks. -/
theorem State.snuffScope_record (s : State) (id ack asid rootQ : Nat) :
    (s.snuffScope id ack asid rootQ).snuffs.length = s.snuffs.length + 1 ∧
      ∃ b, { Snuff.start s.ids id (s.newlySnuffed id) (s.subtreeTasks id) ack asid rootQ with barriers := b } ∈
        (s.snuffScope id ack asid rootQ).snuffs := by
  obtain ⟨b, hb⟩ := State.sweepN_snuffs 33 (s.snuffMarked id ack asid rootQ)
  rw [State.snuffScope_eq, State.sweep, hb]
  exact ⟨by simp [State.snuffMarked], _, List.mem_map.mpr ⟨_, by simp [State.snuffMarked], rfl⟩⟩

/-! ### The rules of SNUFF and SNUFFW (13 R356) -/

theorem ownSnuff_eq_go {a : Word} (aligned : a.toNat % 8 = 0) (global : isGlobal a.toNat = true) : ownSnuff a = .go :=
  trapIf_of_false (by simp [aligned, global]) ..

theorem ownSnuff_of_misplaced {a : Word} (h : a.toNat % 8 ≠ 0 ∨ isGlobal a.toNat = false) : ownSnuff a = .trap 3 0 a.toNat :=
  trapIf_of_true (by simpa using h) ..

/-- What a read of a structure at its home gives is what its bytes hold. -/
theorem State.vread_of_homeRead {s : State} {u : XUnit} {asid va n : Nat} {l : List Byte} (h : s.homeRead u asid va n = .ok l) :
    s.vread u asid va n = l := by
  unfold State.homeRead at h
  split at h
  · cases h
  · cases h
  · split at h
    · cases h
    · exact RecRead.ok.inj h

/-- SNUFFW, its ack word in place and read, waits for DONE alone. -/
theorem ownSnuffw_eq {s : State} {r : GRef} {g : Group} {a : Word} {l : List Byte} (aligned : a.toNat % 8 = 0) (global : isGlobal a.toNat = true)
    (read : s.homeRead (seqUnit r.core) g.asid a.toNat 8 = .ok l) : ownSnuffw s r g a = waitIf (!(leNat l).testBit 63) := by
  simp [ownSnuffw, ownSnuff_eq_go aligned global, read, Verdict.then]

theorem ownSnuffw_of_misplaced {s : State} {r : GRef} {g : Group} {a : Word} (h : a.toNat % 8 ≠ 0 ∨ isGlobal a.toNat = false) :
    ownSnuffw s r g a = .trap 3 0 a.toNat := by
  rw [ownSnuffw, ownSnuff_of_misplaced h]
  rfl

/-! ### The parts at issue -/

section
variable {s : State} {g : Group} {p : Part}

theorem exec_scope_of_some {x : R1} {id : Nat} {t : State} (h : s.ready g .S p (.scope x))
    (made : s.newScope (s.ownScope g) g.gid.task = some (id, t)) :
    exec (.scope x) s = .next ((t.setGroup s.cur ((issued g .S p (.scope x)).resultS p.seq x.dst.toNat (word id))).afterIssue s.cur) := by
  rw [exec_scope, execScope, runPart_issues _ _ s _ g p h.1 h.2 rfl]
  simp only [State.ownScope_issued, issued_gid, made]

theorem exec_scope_of_none {x : R1} (h : s.ready g .S p (.scope x)) (full : s.newScope (s.ownScope g) g.gid.task = none) :
    exec (.scope x) s = .next (s.issueWith ((issued g .S p (.scope x)).resultS p.seq x.dst.toNat 0#64)) := by
  rw [exec_scope, execScope, runPart_issues _ _ s _ g p h.1 h.2 rfl]
  simp only [State.ownScope_issued, issued_gid, full]
  rfl

theorem exec_sclose_of_closeScope {x : R2} {v : Nat} {t : State} (h : s.ready g .S p (.sclose x))
    (closed : s.closeScope (s.ownScope g) (s.operand g x.sa).toNat = (v, t)) :
    exec (.sclose x) s = .next ((t.setGroup s.cur ((issued g .S p (.sclose x)).resultS p.seq x.dst.toNat (word v))).afterIssue s.cur) := by
  rw [exec_sclose, execSclose, runPart_issues _ _ s _ g p h.1 h.2 rfl]
  simp only [State.ownScope_issued, operand_issued, closed]

theorem exec_snuff_of_snuff {x : R3} {v : Nat} {t : State} (h : s.ready g .S p (.snuff x)) (aligned : (s.operand g x.sb).toNat % 8 = 0)
    (global : isGlobal (s.operand g x.sb).toNat = true)
    (snuffed : s.snuff (s.ownScope g) (s.operand g x.sa).toNat (s.operand g x.sb).toNat g.asid (s.ownQueue g) = (v, t)) :
    exec (.snuff x) s = .next ((t.setGroup s.cur ((issued g .S p (.snuff x)).resultS p.seq x.dst.toNat (word v))).afterIssue s.cur) := by
  have queue : s.ownQueue (issued g .S p (.snuff x)) = s.ownQueue g := by simp [State.ownQueue]
  rw [exec_snuff, execSnuff, runPart_issues _ _ s _ g p h.1 h.2 (ownSnuff_eq_go aligned global)]
  simp only [State.ownScope_issued, operand_issued, issued_asid, queue, snuffed]

theorem exec_snuffw_of_done {x : R2} {l : List Byte} (h : s.ready g .S p (.snuffw x)) (aligned : (s.operand g x.sa).toNat % 8 = 0)
    (global : isGlobal (s.operand g x.sa).toNat = true) (read : s.homeRead (seqUnit s.cur.core) g.asid (s.operand g x.sa).toNat 8 = .ok l)
    (done : (leNat l).testBit 63 = true) :
    exec (.snuffw x) s = .next (((s.setGroup s.cur ((issued g .S p (.snuffw x)).resultS p.seq x.dst.toNat
      (word (leNat l)))).inval s.cur.core).afterIssue s.cur) := by
  have goes : own s s.cur g .S p (.snuffw x) = .go := (ownSnuffw_eq aligned global read).trans (by rw [done]; rfl)
  rw [exec_snuffw, execSnuffw, runPart_issues _ _ s _ g p h.1 h.2 goes]
  simp only [operand_issued, issued_asid, State.vnat, State.vread_of_homeRead read]
end

end Sys2Proof.Machine

namespace Sys2Proof.Claims

open Sys2Proof.Machine

/-- Settles O12: each instruction answers what its operation on the scope table answers, and a sweep frees the scopes that are no longer live,
which an open scope never is. -/
theorem scopes : Obligations.Scopes := by
  refine ⟨?_, ?_, ?_, ?_, ?_, ?_⟩
  · intro x s g p h
    refine ⟨fun ⟨room, depth⟩ => ?_, fun full => exec_scope_of_none h (State.newScope_of_full full)⟩
    obtain ⟨id, t, made, rest⟩ := State.newScope_of_room (maker := g.gid.task) room depth
    exact ⟨id, t, exec_scope_of_some h made, rest⟩
  · intro x s g p a h ha
    subst ha
    refine ⟨fun foreign => exec_sclose_of_closeScope h (State.closeScope_of_foreign foreign), fun y found under => ⟨fun closed => ?_,
      fun snuffed => ?_, fun opened unique live => ⟨_, exec_sclose_of_closeScope h (State.closeScope_of_open found under opened), ?_⟩⟩⟩
    · exact exec_sclose_of_closeScope h (State.closeScope_of_closed found under closed)
    · exact exec_sclose_of_closeScope h (State.closeScope_of_snuffed found under snuffed)
    · obtain ⟨mem, id⟩ := State.mem_of_scope found
      rw [← id]
      refine ⟨?_, fun z hz opened ne => ?_, State.not_mem_close_of_empty unique mem, State.close_of_occupied unique mem live⟩
      · exact congrArg (fun t : State => { t with scopes := s.scopes, gone := s.gone, snuffs := s.snuffs })
          (State.sweepN_frame 33 (s.setScope { y with state := .closed }))
      · exact State.mem_sweepN_of_open (State.mem_setScope_of_ne hz ne) opened
  · intro x s g p a ack h ha hack aligned global
    subst ha hack
    refine ⟨fun foreign => ?_, fun y found under snuffed => ?_, fun y found under live unique => ?_⟩
    · exact exec_snuff_of_snuff h aligned global (State.snuff_of_foreign foreign ..)
    · obtain ⟨l, again, follows, first⟩ := s.snuffAgain_eq (s.operand g x.sa).toNat (s.operand g x.sb).toNat g.asid (s.ownQueue g)
      refine ⟨l, ?_, follows, fun none => ?_⟩
      · rw [← again]
        exact exec_snuff_of_snuff h aligned global (State.snuff_of_snuffed found under _ _ _ snuffed)
      · obtain ⟨ids, snuffs⟩ := first none
        exact ⟨ids, _, snuffs, rfl, rfl, rfl, rfl, rfl, rfl⟩
    · obtain ⟨frame, ids⟩ := s.snuffScope_frame (s.operand g x.sa).toNat (s.operand g x.sb).toNat g.asid (s.ownQueue g)
      obtain ⟨one, b, record⟩ := s.snuffScope_record (s.operand g x.sa).toNat (s.operand g x.sb).toNat g.asid (s.ownQueue g)
      refine ⟨_, exec_snuff_of_snuff h aligned global (State.snuff_of_live found under _ _ _ live), frame, ids,
        fun z hz => State.snuffScope_snuffs unique hz, fun z hz => State.mem_snuffScope_of_open unique hz, one, _, record, rfl, rfl, rfl, rfl,
        rfl, rfl, fun k => State.mem_newlySnuffed unique, fun k => State.mem_subtreeTasks⟩
  · intro x s g p h misplaced
    exact exec_traps rfl h (ownSnuff_of_misplaced misplaced) (by decide) (by decide)
  · intro x s g p a l h ha aligned global read
    subst ha
    refine ⟨exec_snuffw_of_done h aligned global read, fun undone => exec_waits rfl h ?_⟩
    exact (ownSnuffw_eq aligned global read).trans (by rw [undone]; rfl)
  · intro x s g p h misplaced
    exact exec_traps rfl h (ownSnuffw_of_misplaced misplaced) (by decide) (by decide)

end Sys2Proof.Claims
end

section
/-!
PROOFS. What a write of a granule leaves (05 R146, R147): of the state it writes memories, their errors and the lines of the LLC slices alone.
-/

namespace Sys2Proof.Machine

/-- A state with its memories, what stands in error there, its LLC lines and its count of free values written. -/
def State.withCells (s : State) (mem host : Mem) (poison : SMap Nat) (healed : List Nat) (llc : SMap Nat) (free : Nat) : State :=
  { s with mem := mem, host := host, poison := poison, healed := healed, llc := llc, free := free }

/-- A state differs from another in the cells of its memories alone. -/
def State.cellsOnly (s t : State) : Prop := ∃ mem host poison healed llc free, t = s.withCells mem host poison healed llc free

theorem State.cellsOnly_refl (s : State) : s.cellsOnly s := ⟨s.mem, s.host, s.poison, s.healed, s.llc, s.free, rfl⟩

theorem State.cellsOnly.trans {s t u : State} (h : s.cellsOnly t) (k : t.cellsOnly u) : s.cellsOnly u := by
  obtain ⟨_, _, _, _, _, _, rfl⟩ := h
  obtain ⟨_, _, _, _, _, _, rfl⟩ := k
  exact ⟨_, _, _, _, _, _, rfl⟩

/-- What the cells are no part of stays. -/
theorem State.cellsOnly.keeps {s t : State} (h : s.cellsOnly t) {γ : Type} (π : State → γ)
    (hπ : ∀ (s : State) mem host poison healed llc free, π (s.withCells mem host poison healed llc free) = π s) : π t = π s := by
  obtain ⟨_, _, _, _, _, _, rfl⟩ := h
  exact hπ ..

/-- A fold of steps each of which writes cells alone. -/
theorem State.cellsOnly_foldl {β : Type} {f : State → β → State} (hf : ∀ (s : State) x, s.cellsOnly (f s x)) (l : List β) (s : State) :
    s.cellsOnly (l.foldl f s) := by
  induction l generalizing s with
  | nil => exact s.cellsOnly_refl
  | cons x l ih => exact (hf s x).trans (ih _)

theorem State.llcRoom_cells (s : State) (line : Nat) : s.cellsOnly (s.llcRoom line) := by
  unfold State.llcRoom
  dsimp only
  split
  · exact s.cellsOnly_refl
  · exact ⟨_, _, _, _, _, _, rfl⟩

theorem State.llcSoak_cells (s : State) (sector : Nat) : s.cellsOnly (s.llcSoak sector) := by
  refine State.cellsOnly_foldl (fun s k => ?_) _ s
  split
  · exact ⟨_, _, _, _, _, _, rfl⟩
  · exact s.cellsOnly_refl

theorem State.llcFill_cells (s : State) (pa : Nat) (dirty : Bool) : s.cellsOnly (s.llcFill pa dirty) := by
  have room : s.cellsOnly (if s.llcHas pa then s else (s.llcRoom (pa / 128)).llcSoak (pa / 32)) := by
    split
    · exact s.cellsOnly_refl
    · exact (s.llcRoom_cells _).trans (State.llcSoak_cells _ _)
  exact room.trans ⟨_, _, _, _, _, _, rfl⟩

theorem State.llcMerge_cells (s : State) (pa : Nat) : s.cellsOnly (s.llcMerge pa) := by
  unfold State.llcMerge
  split
  · exact s.llcFill_cells pa true
  · exact s.cellsOnly_refl

theorem State.putGranule_cells (s : State) (pa : Nat) (host : Bool) (bs : List Byte) : s.cellsOnly (s.putGranule pa host bs) := by
  unfold State.putGranule
  split
  · exact ⟨_, _, _, _, _, _, rfl⟩
  · refine State.cellsOnly.trans ?_ (State.llcMerge_cells _ pa)
    split
    · exact ⟨_, _, _, _, _, _, rfl⟩
    · exact ⟨_, _, _, _, _, _, rfl⟩

theorem State.setBarrier_cells (s : State) (pa w : Nat) : s.cellsOnly (s.setBarrier pa w) := s.putGranule_cells ..

end Sys2Proof.Machine
end

section
/-!
PROOFS. Barriers (13 R348 to R350, R357): the fields of a barrier's word, an arrival, the access to the word, and BINIT, BARR and BWAIT at issue.
-/

namespace Sys2Proof.Machine

/-! ### The fields of a barrier's word (13 R348) -/

theorem leNat_lt (l : List Byte) : leNat l < 256 ^ l.length := by
  induction l with
  | nil => simp [leNat]
  | cons b l ih =>
    have byte := b.isLt
    rw [leNat, List.length_cons, pow_succ]
    omega

theorem State.barrier_lt (s : State) (pa : Nat) : s.barrier pa < 2 ^ 128 := by
  have h := leNat_lt (s.mem.readN pa 16)
  rw [show (s.mem.readN pa 16).length = 16 by simp [Mem.readN]] at h
  exact h

theorem barScope_lt (w : Nat) : barScope w < 8 := Nat.mod_lt _ (by decide)

theorem barCount_lt (w : Nat) : barCount w < 2 ^ 32 := Nat.mod_lt _ (by decide)

theorem barPhase_lt (w : Nat) : barPhase w < 2 ^ 32 := Nat.mod_lt _ (by decide)

/-- A barrier word is the number that its fields spell, each at its place. -/
theorem barWord_digits (old : Nat) (snuffed : Bool) (sq phase arrived count : Nat) : ∃ rest, rest < 2 ^ 28 ∧
    barWord old snuffed sq phase arrived count =
      count + 2 ^ 32 * (arrived + 2 ^ 32 * (phase % 2 ^ 32 + 2 ^ 32 * (sq + 2 ^ 3 * (rest + 2 ^ 28 * snuffed.toNat)))) := by
  refine ⟨nbits old 99 28, Nat.mod_lt _ (by decide), ?_⟩
  unfold barWord
  generalize nbits old 99 28 = rest
  cases snuffed <;> simp <;> omega

section
variable (old : Nat) (snuffed : Bool) {sq : Nat} (phase : Nat) {arrived count : Nat} (hsq : sq < 8) (harrived : arrived < 2 ^ 32)
  (hcount : count < 2 ^ 32)
include hsq harrived hcount

theorem barWord_fields : barCount (barWord old snuffed sq phase arrived count) = count ∧
    barArrived (barWord old snuffed sq phase arrived count) = arrived ∧
    barPhase (barWord old snuffed sq phase arrived count) = phase % 2 ^ 32 ∧
    barScope (barWord old snuffed sq phase arrived count) = sq ∧
    barSnuffed (barWord old snuffed sq phase arrived count) = snuffed ∧ barWord old snuffed sq phase arrived count < 2 ^ 128 := by
  obtain ⟨rest, small, digits⟩ := barWord_digits old snuffed sq phase arrived count
  have top : snuffed.toNat < 2 := snuffed.toNat_lt
  have bit : snuffed = decide (snuffed.toNat = 1) := by cases snuffed <;> rfl
  rw [digits]
  generalize snuffed.toNat = b at top bit
  subst bit
  simp only [barCount, barArrived, barPhase, barScope, barSnuffed, nbits, Nat.shiftRight_eq_div_pow, Nat.testBit_eq_decide_div_mod_eq]
  refine ⟨by omega, by omega, by omega, by omega, decide_eq_decide.mpr (by omega), by omega⟩
end

/-! ### An arrival (13 R350) -/

theorem barArrive_of_unset {w : Nat} (h : barCount w = 0) : barArrive w = w := if_pos h

theorem barArrive_of_last {w : Nat} (counted : 0 < barCount w) (last : barSnuffed w = true ∨ barArrived w + 1 = barCount w) :
    barArrive w = barWord w (barSnuffed w) (barScope w) (barPhase w + 1) 0 (barCount w) := by
  rw [barArrive, if_neg counted.ne', if_pos last]

theorem barArrive_of_early {w : Nat} (counted : 0 < barCount w) (early : ¬ (barSnuffed w = true ∨ barArrived w + 1 = barCount w)) :
    barArrive w = barWord w (barSnuffed w) (barScope w) (barPhase w) ((barArrived w + 1) % 2 ^ 32) (barCount w) := by
  rw [barArrive, if_neg counted.ne', if_neg early, Bool.eq_false_iff.mpr fun h => early (.inl h)]

/-- The last arrival, or one at a barrier that is SNUFFED, starts the next phase. -/
theorem barArrive_fields_of_last {w : Nat} (counted : 0 < barCount w) (last : barSnuffed w = true ∨ barArrived w + 1 = barCount w) :
    barCount (barArrive w) = barCount w ∧ barArrived (barArrive w) = 0 ∧ barPhase (barArrive w) = (barPhase w + 1) % 2 ^ 32 ∧
      barScope (barArrive w) = barScope w ∧ barSnuffed (barArrive w) = barSnuffed w ∧ barArrive w < 2 ^ 128 := by
  rw [barArrive_of_last counted last]
  exact barWord_fields w _ _ (barScope_lt w) (by decide) (barCount_lt w)

/-- An arrival before the last counts itself. -/
theorem barArrive_fields_of_early {w : Nat} (counted : 0 < barCount w) (early : ¬ (barSnuffed w = true ∨ barArrived w + 1 = barCount w)) :
    barCount (barArrive w) = barCount w ∧ barArrived (barArrive w) = (barArrived w + 1) % 2 ^ 32 ∧
      barPhase (barArrive w) = barPhase w % 2 ^ 32 ∧
      barScope (barArrive w) = barScope w ∧ barSnuffed (barArrive w) = barSnuffed w ∧ barArrive w < 2 ^ 128 := by
  rw [barArrive_of_early counted early]
  exact barWord_fields w _ _ (barScope_lt w) (Nat.mod_lt _ (by decide)) (barCount_lt w)

theorem barArrive_lt {w : Nat} (h : w < 2 ^ 128) : barArrive w < 2 ^ 128 := by
  by_cases unset : barCount w = 0
  · rwa [barArrive_of_unset unset]
  · have counted := Nat.pos_of_ne_zero unset
    by_cases last : barSnuffed w = true ∨ barArrived w + 1 = barCount w
    · exact (barArrive_fields_of_last counted last).2.2.2.2.2
    · exact (barArrive_fields_of_early counted last).2.2.2.2.2

/-! ### The word written (13 R348) -/

/-- A barrier's word written is what memory holds there, and no other byte changes. -/
theorem State.setBarrier_onlyWord {s : State} (wf : s.memsWf) (pa : Nat) {w : Nat} (hw : w < 2 ^ 128) :
    Claims.onlyWord s (s.setBarrier pa w) pa w := by
  obtain ⟨inside, outside, host, pads⟩ := State.bytes_of_memWrite (bs := natLE 16 w) wf.1 (s.putGranule_memories pa (natLE 16 w))
  rw [length_natLE] at outside
  refine ⟨?_, outside, host, pads⟩
  have bytes : (List.range 16).map (fun i => (s.setBarrier pa w).memByte (pa + i)) = natLE 16 w := by
    refine List.ext_getElem (by simp [length_natLE]) fun i _ hi => ?_
    simpa [State.setBarrier] using inside i hi
  rw [bytes, leNat_natLE, Nat.mod_eq_of_lt (hw.trans_eq (by norm_num))]

/-- Where the word is as it was, no byte changes. -/
theorem State.onlyWord_barrier (s : State) (pa : Nat) : Claims.onlyWord s s pa (s.barrier pa) :=
  ⟨rfl, fun _ _ => rfl, fun _ => rfl, fun _ _ => rfl⟩

/-- What memories that hold the same hold of a word. -/
theorem State.onlyWord_of_memories {s t u : State} {pa w : Nat} (h : Claims.onlyWord s t pa w) (same : u.memories = t.memories) :
    Claims.onlyWord s u pa w := by
  obtain ⟨word, outside, host, pads⟩ := h
  obtain ⟨mem', host', pads'⟩ := State.sameBytes_of_memories same
  simp only [Claims.onlyWord, mem', host', pads']
  exact ⟨word, outside, host, pads⟩

/-! ### The access to the word -/

section
variable {s : State} {g : Group} {a : Word} {wr : Bool} {pa : Nat}

theorem State.barRead_of_barAt (h : Claims.barAt s g a wr pa) : s.barRead s.cur g a wr = .at pa := by
  obtain ⟨aligned, global, hit, sound⟩ := h
  simp only [State.barRead, aligned, global, hit, bne_self_eq_false, Bool.not_true, Bool.or_self, Bool.false_eq_true, if_false]

theorem ownBar_of_barAt (h : Claims.barAt s g a wr pa) (k : Nat → Verdict) : ownBar s s.cur g a wr k = k pa := by
  rw [ownBar, State.barRead_of_barAt h]

theorem ownBar_of_misplaced (h : a.toNat % 16 ≠ 0 ∨ isGlobal a.toNat = false) (k : Nat → Verdict) :
    ownBar s s.cur g a wr k = .trap 3 0 a.toNat := by
  rw [ownBar, State.barRead, if_pos (by simpa using h)]
  rfl

@[simp] theorem State.barRead_issued (s : State) (r : GRef) (g : Group) (k : Slot) (p : Part) (i : Instr) (a : Word) (wr : Bool) :
    s.barRead r (issued g k p i) a wr = s.barRead r g a wr := by
  simp [State.barRead]
end

/-! ### BINIT (13 R349, R357) -/

/-- A barrier tied to one scope alone. -/
def State.tieBarrier (s : State) (sc pa : Nat) : State :=
  { s with
    scopes := s.scopes.map (fun y =>
      if y.id = sc then (if y.barriers.contains pa then y else { y with barriers := y.barriers ++ [pa] })
      else { y with barriers := y.barriers.filter (· != pa) })
    snuffs := s.snuffs.map (fun u => { u with barriers := u.barriers.filter (· != pa) }) }

theorem State.tieBarrier_ids (s : State) (sc pa : Nat) : (s.tieBarrier sc pa).scopes.map (·.id) = s.scopes.map (·.id) := by
  simp only [State.tieBarrier, List.map_map]
  refine List.map_congr_left fun y _ => ?_
  dsimp only [Function.comp_apply]
  split_ifs <;> rfl

/-- A scope with the identifier has the barrier. -/
theorem State.tieBarrier_tied {s : State} {sc pa : Nat} {y : Scope} (h : y ∈ s.scopes) (id : y.id = sc) :
    ∃ z ∈ (s.tieBarrier sc pa).scopes, z.id = sc ∧ pa ∈ z.barriers := by
  refine ⟨_, List.mem_map.mpr ⟨y, h, rfl⟩, ?_⟩
  rw [if_pos id]
  split
  · rename_i tied
    exact ⟨id, by simpa using tied⟩
  · exact ⟨id, by simp⟩

/-- No other scope has it. -/
theorem State.tieBarrier_alone {s : State} {sc pa : Nat} {z : Scope} (h : z ∈ (s.tieBarrier sc pa).scopes) (other : z.id ≠ sc) :
    pa ∉ z.barriers := by
  obtain ⟨y, -, rfl⟩ := List.mem_map.mp h
  by_cases same : y.id = sc
  · rw [if_pos same] at other
    split at other <;> exact absurd same other
  · rw [if_neg same]
    simp

theorem State.tieBarrier_snuffs {s : State} {sc pa : Nat} {u : Snuff} (h : u ∈ (s.tieBarrier sc pa).snuffs) : pa ∉ u.barriers := by
  obtain ⟨y, -, rfl⟩ := List.mem_map.mp h
  simp

/-- The word that BINIT leaves: the count, the phase, the scope field, all else 0. -/
theorem barWord_binit {sq phase cnt : Nat} (hphase : phase < 2 ^ 32) :
    barWord 0 false sq phase 0 cnt = cnt + phase * 2 ^ 64 + sq * 2 ^ 96 := by
  simpa [barWord, nbits] using hphase

theorem binitScope_eq (s : State) (g : Group) (sb : Word) :
    binitScope s g sb = if sb.toNat / 2 ^ 32 = 0 then s.ownScope g else sb.toNat / 2 ^ 32 := by
  have high : bits sb 32 32 = sb.toNat / 2 ^ 32 := by
    have := sb.isLt
    rw [bits, Nat.shiftRight_eq_div_pow]
    omega
  rw [binitScope, high]
  rfl

theorem bits_low (sb : Word) : bits sb 0 32 = sb.toNat % 2 ^ 32 := rfl

section
variable {s : State} {g : Group} (pa sq : Nat) {sb : Word}

theorem State.binit_of_foreign (h : bits sb 0 32 = 0 ∨ s.scope (binitScope s g sb) = none ∨ s.under (s.ownScope g) (binitScope s g sb) = false) :
    s.binit g pa sq sb = (2#64, s) := by
  unfold State.binit
  dsimp only
  split
  · rfl
  · rename_i x found
    refine if_pos ?_
    rcases h with zero | none | foreign
    · exact .inl zero
    · simp [found] at none
    · exact .inr (by rw [Bool.not_eq_true']; exact foreign)

variable {y : Scope} (count : bits sb 0 32 ≠ 0) (found : s.scope (binitScope s g sb) = some y)
  (under : s.under (s.ownScope g) (binitScope s g sb) = true)
include count found under

theorem State.binit_of_full (new : pa ∉ y.barriers) (full : 64 ≤ y.barriers.length) : s.binit g pa sq sb = (1#64, s) := by
  have mine : ¬ (bits sb 0 32 = 0 ∨ (!s.under (((s.task g.gid.task).map (·.scope)).getD 0) (binitScope s g sb)) = true) := by
    rw [Bool.not_eq_true']
    exact fun h => h.elim count (Bool.eq_false_iff.not_left.mpr under)
  simp only [State.binit, found]
  rw [if_neg mine, if_pos (by simp [new, full])]

theorem State.binit_of_room (room : pa ∈ y.barriers ∨ y.barriers.length < 64) :
    s.binit g pa sq sb =
      (0#64, (s.setBarrier pa (barWord 0 false sq (barPhase (s.barrier pa)) 0 (bits sb 0 32))).tieBarrier (binitScope s g sb) pa) := by
  have mine : ¬ (bits sb 0 32 = 0 ∨ (!s.under (((s.task g.gid.task).map (·.scope)).getD 0) (binitScope s g sb)) = true) := by
    rw [Bool.not_eq_true']
    exact fun h => h.elim count (Bool.eq_false_iff.not_left.mpr under)
  have fits : ¬ (!y.barriers.contains pa && decide (64 ≤ y.barriers.length)) = true := by
    simp only [Bool.and_eq_true, Bool.not_eq_true', List.contains_eq_mem, decide_eq_false_iff_not, decide_eq_true_eq, not_and, not_le]
    exact fun new => room.resolve_left new
  simp only [State.binit, found]
  rw [if_neg mine, if_neg fits]
  rfl
end

@[simp] theorem State.binit_issued (s : State) (g : Group) (k : Slot) (p : Part) (i : Instr) (pa sq : Nat) (sb : Word) :
    s.binit (issued g k p i) pa sq sb = s.binit g pa sq sb := by
  simp [State.binit, binitScope]

/-! ### The parts at issue -/

section
variable {s : State} {g : Group} {p : Part} {pa : Nat}

theorem exec_binit_of_barAt {x : BInit} {v : Word} {t : State} (h : s.ready g .S p (.binit x)) (place : Claims.barAt s g (s.operand g x.sa) true pa)
    (done : s.binit g pa x.scope.toNat (s.operand g x.sb) = (v, t)) :
    exec (.binit x) s = .next ((t.setGroup s.cur ((issued g .S p (.binit x)).resultS p.seq x.dst.toNat v)).afterIssue s.cur) := by
  have goes : own s s.cur g .S p (.binit x) = .go := ownBar_of_barAt place _
  rw [exec_binit, execBinit, runPart_issues _ _ s _ g p h.1 h.2 goes]
  simp only [operand_issued, State.barRead_issued, State.binit_issued, State.barRead_of_barAt place, done]

theorem ownBarr_of_barAt {a : Word} {seq : Nat} (place : Claims.barAt s g a true pa) :
    ownBarr s s.cur g seq a =
      waitIf (!g.storesQuiet seq || !g.readsQuiet seq || (barScope (s.barrier pa) == 5 && !g.hostUnacked.isEmpty)) :=
  ownBar_of_barAt place _

theorem exec_barr_of_quiet {x : R2} {v : Word} {t : State} (h : s.ready g .S p (.barr x)) (place : Claims.barAt s g (s.operand g x.sa) true pa)
    (stores : g.storesQuiet p.seq = true) (reads : g.readsQuiet p.seq = true) (host : barScope (s.barrier pa) = 5 → g.hostUnacked = [])
    (done : s.barr pa = (v, t)) :
    exec (.barr x) s = .next ((t.setGroup s.cur ((issued g .S p (.barr x)).resultS p.seq x.dst.toNat v)).afterIssue s.cur) := by
  have goes : own s s.cur g .S p (.barr x) = .go := by
    refine (ownBarr_of_barAt (a := s.operand g x.sa) (seq := p.seq) place).trans (waitIf_eq_go.mpr ?_)
    simpa [stores, reads] using host
  rw [exec_barr, execBarr, runPart_issues _ _ s _ g p h.1 h.2 goes]
  simp only [operand_issued, State.barRead_issued, State.barRead_of_barAt place, done]

/-- The state in which a barrier has been arrived at. -/
def State.arrived (s : State) (pa : Nat) : State :=
  if barCount (s.barrier pa) = 0 then s else s.setBarrier pa (barArrive (s.barrier pa))

theorem State.barr_eq (s : State) (pa : Nat) :
    s.barr pa = (word (if barCount (s.barrier pa) = 0 then 0xFFFFFFFF else barPhase (s.barrier pa)), s.arrived pa) := rfl

/-- An arrival writes the word and nothing of the cores, the tasks and the scopes. -/
theorem State.arrived_writes (wf : s.memsWf) (pa : Nat) :
    Claims.onlyWord s (s.arrived pa) pa (barArrive (s.barrier pa)) ∧ s.cellsOnly (s.arrived pa) := by
  unfold State.arrived
  split
  · rename_i unset
    rw [barArrive_of_unset unset]
    exact ⟨s.onlyWord_barrier pa, s.cellsOnly_refl⟩
  · exact ⟨State.setBarrier_onlyWord wf pa (barArrive_lt (s.barrier_lt pa)), s.setBarrier_cells ..⟩

theorem ownBwait_of_barAt {a ph : Word} (place : Claims.barAt s g a false pa) :
    ownBwait s s.cur g a ph = waitIf (!barSnuffed (s.barrier pa) && barPhase (s.barrier pa) == ph.toNat % 2 ^ 32) :=
  ownBar_of_barAt place _

theorem exec_bwait_of_changed {x : R3} (h : s.ready g .S p (.bwait x)) (place : Claims.barAt s g (s.operand g x.sa) false pa)
    (changed : barSnuffed (s.barrier pa) = true ∨ barPhase (s.barrier pa) ≠ (s.operand g x.sb).toNat % 2 ^ 32) :
    exec (.bwait x) s = .next (((if scopeInval (barScope (s.barrier pa)) then
      (s.setGroup s.cur ((issued g .S p (.bwait x)).resultS p.seq x.dst.toNat (word (s.barrier pa / 2 ^ 64)))).inval s.cur.core
      else s.setGroup s.cur ((issued g .S p (.bwait x)).resultS p.seq x.dst.toNat (word (s.barrier pa / 2 ^ 64))))).afterIssue s.cur) := by
  have goes : own s s.cur g .S p (.bwait x) = .go := by
    refine (ownBwait_of_barAt (a := s.operand g x.sa) (ph := s.operand g x.sb) place).trans (waitIf_eq_go.mpr ?_)
    rcases changed with snuffed | moved
    · simp [snuffed]
    · simpa using fun _ => moved
  rw [exec_bwait, execBwait, runPart_issues _ _ s _ g p h.1 h.2 goes]
  simp only [operand_issued, State.barRead_issued, State.barRead_of_barAt place]
end

end Sys2Proof.Machine

namespace Sys2Proof.Claims

open Sys2Proof.Machine

/-- Settles O13: each part finds its word by one access, BINIT and BARR write that word alone, and an arrival's word is read off its fields. -/
theorem barrierInstructions : Obligations.BarrierInstructions := by
  refine ⟨?_, ?_, ?_, ?_, ?_, ?_⟩
  · intro x s g p pa sc cnt h place hcnt hsc
    rw [← bits_low] at hcnt
    rw [← binitScope_eq] at hsc
    subst hcnt hsc
    refine ⟨fun foreign => exec_binit_of_barAt h place (State.binit_of_foreign pa _ foreign), fun y count found under => ⟨fun new full => ?_,
      fun room wf => ?_⟩⟩
    · exact exec_binit_of_barAt h place (State.binit_of_full pa _ count found under new full)
    · refine ⟨_, exec_binit_of_barAt h place (State.binit_of_room pa _ count found under room), ?_, ?_, fun z => State.tieBarrier_alone,
        fun u => State.tieBarrier_snuffs, ?_, ?_, ?_⟩
      · have small : barWord 0 false x.scope.toNat (barPhase (s.barrier pa)) 0 (bits (s.operand g x.sb) 0 32) < 2 ^ 128 :=
          (barWord_fields 0 false _ x.scope.isLt (by decide) (Nat.mod_lt _ (by decide))).2.2.2.2.2
        rw [← barWord_binit (barPhase_lt _)]
        exact State.onlyWord_of_memories (State.setBarrier_onlyWord wf pa small) rfl
      · obtain ⟨mem, id⟩ := State.mem_of_scope found
        refine State.tieBarrier_tied ?_ id
        rwa [(s.setBarrier_cells ..).keeps State.scopes fun _ _ _ _ _ _ _ => rfl]
      · rw [State.tieBarrier_ids, (s.setBarrier_cells ..).keeps State.scopes fun _ _ _ _ _ _ _ => rfl]
      · exact (s.setBarrier_cells ..).keeps State.cores fun _ _ _ _ _ _ _ => rfl
      · exact (s.setBarrier_cells ..).keeps State.tasks fun _ _ _ _ _ _ _ => rfl
  · intro x s g p pa h place stores reads host wf
    obtain ⟨written, cells⟩ := State.arrived_writes wf pa
    exact ⟨_, exec_barr_of_quiet h place stores reads host (s.barr_eq pa), written, cells.keeps State.cores fun _ _ _ _ _ _ _ => rfl,
      cells.keeps State.tasks fun _ _ _ _ _ _ _ => rfl, cells.keeps State.scopes fun _ _ _ _ _ _ _ => rfl⟩
  · intro x s g p pa h place outstanding
    refine exec_waits rfl h ((ownBarr_of_barAt (a := s.operand g x.sa) (seq := p.seq) place).trans (waitIf_eq_wait.mpr ?_))
    rcases outstanding with stores | reads
    · simp [stores]
    · simp [reads]
  · intro x s g p pa h place
    refine ⟨exec_bwait_of_changed h place, fun ⟨snuffed, same⟩ => exec_waits rfl h ?_⟩
    exact (ownBwait_of_barAt (a := s.operand g x.sa) (ph := s.operand g x.sb) place).trans (waitIf_eq_wait.mpr (by simp [snuffed, same]))
  · intro i s g p a h form misplaced
    rcases form with ⟨x, rfl, rfl⟩ | ⟨x, rfl, rfl⟩ | ⟨x, rfl, rfl⟩
    all_goals exact exec_traps rfl h (ownBar_of_misplaced misplaced _) (by decide) (by decide)
  · intro w _
    refine ⟨barArrive_of_unset, fun counted => ?_, fun counted last => ?_, fun counted live early => ?_⟩
    · by_cases last : barSnuffed w = true ∨ barArrived w + 1 = barCount w
      · obtain ⟨count, -, -, scope, snuffed, -⟩ := barArrive_fields_of_last counted last
        exact ⟨count, scope, snuffed⟩
      · obtain ⟨count, -, -, scope, snuffed, -⟩ := barArrive_fields_of_early counted last
        exact ⟨count, scope, snuffed⟩
    · obtain ⟨-, arrived, phase, -⟩ := barArrive_fields_of_last counted last
      exact ⟨arrived, phase⟩
    · obtain ⟨-, arrived, phase, -⟩ := barArrive_fields_of_early counted (by simpa [live] using early.ne)
      have := barCount_lt w
      rw [Nat.mod_eq_of_lt (by omega)] at arrived
      rw [Nat.mod_eq_of_lt (barPhase_lt w)] at phase
      exact ⟨arrived, phase⟩

end Sys2Proof.Claims
end

section
/-!
PROOFS. YIELD, PRIO, DLINE, END and TAIL (13 R340, R341, R358, 05 R139): the rule of each, what it leaves of its group, and the parked chains that
end with a group.
-/

namespace Sys2Proof.Machine

/-! ### Groups where copies end (11 R291, R299) -/

theorem State.group_mapGroup (s : State) (id : GId) (f : Group → Group) (r : GRef) :
    (s.mapGroup id f).group r = (s.group r).map (fun g => if g.has id then f g else g) := by
  unfold State.group
  rw [State.core_mapGroup]
  split
  · simp only [Core.mapGroup, List.getD_eq_getElem?_getD, List.getElem?_map]
    cases (s.core r.core).slots[r.slot]? <;> rfl
  · simp only [Core.mapGroup, List.getElem?_map]

theorem Group.completeProd_eq (g : Group) (id : Option Nat) (fails : Bool) : ∃ l, g.completeProd id fails = { g with toks := l } := by
  cases id with
  | none => exact ⟨g.toks, rfl⟩
  | some k => exact ⟨_, rfl⟩

@[simp] theorem State.setEngine_group (s : State) (e : Nat) (x : CopyEngine) (r : GRef) : (s.setEngine e x).group r = s.group r := by
  unfold State.setEngine
  split
  · exact State.group_setCore (by rfl) (by rfl) r
  · rfl

section
variable {s : State} {j : CopyJob} (ok : Bool)

theorem State.finishJob_cores_of_none (h : j.owner = none) : (s.finishJob j ok).cores = s.cores := by
  unfold State.finishJob
  rw [h]
  dsimp only
  split
  · rfl
  · split <;> rfl

theorem State.finishJob_cores_of_some {id : GId} (h : j.owner = some id) :
    (s.finishJob j ok).cores = (s.mapGroup id (fun g => g.completeProd j.prod (!ok))).cores := by
  unfold State.finishJob
  rw [h]
  dsimp only
  split
  · rfl
  · split <;> rfl

/-- The end of a job writes the productions of its group alone. -/
theorem State.finishJob_group {r : GRef} {g : Group} (h : s.group r = some g) :
    ∃ l, (s.finishJob j ok).group r = some { g with toks := l } := by
  cases owner : j.owner with
  | none => exact ⟨g.toks, (State.group_of_cores (State.finishJob_cores_of_none ok owner) r).trans h⟩
  | some id =>
    rw [State.group_of_cores (State.finishJob_cores_of_some ok owner), State.group_mapGroup, h, Option.map_some]
    split
    · obtain ⟨l, hl⟩ := g.completeProd_eq j.prod (!ok)
      exact ⟨l, congrArg some hl⟩
    · exact ⟨g.toks, rfl⟩
end

theorem State.finishJobs_group {ok : Bool} (l : List CopyJob) {s : State} {r : GRef} {g : Group} (h : s.group r = some g) :
    ∃ toks, (l.foldl (fun s j => s.finishJob j ok) s).group r = some { g with toks := toks } := by
  induction l generalizing s g with
  | nil => exact ⟨g.toks, h⟩
  | cons j l ih =>
    obtain ⟨toks, first⟩ := State.finishJob_group (j := j) ok h
    obtain ⟨toks, rest⟩ := ih first
    exact ⟨toks, rest⟩

theorem State.endParked_group {s : State} {r : GRef} {g : Group} (h : s.group r = some g) (c : Nat) (id : GId) :
    ∃ toks, (s.endParked c id).group r = some { g with toks := toks } :=
  State.finishJobs_group _ ((State.setEngine_group ..).trans h)

@[simp] theorem State.unrequest_group (s : State) (c slot : Nat) (r : GRef) : (s.setCore c ((s.core c).unrequest slot)).group r = s.group r :=
  State.group_setCore (by rfl) (by rfl) r

/-! ### An issue that leaves its slot empty (13 R330, R341) -/

theorem State.noteIssue_group_none {s : State} {r : GRef} (h : s.group r = none) : (s.noteIssue r).group r = none := by
  by_cases hc : r.core < s.cores.length
  · unfold State.group at h ⊢
    unfold State.noteIssue
    rw [State.core_setCore_same s r.core _ hc]
    split
    · rename_i slot
      rw [if_pos slot] at h
      simp only [List.getD_eq_getElem?_getD] at h ⊢
      by_cases present : r.slot < (s.core r.core).slots.length
      · have empty : (s.core r.core).slots[r.slot] = none := by simpa [present] using h
        simp [present, empty]
      · simp [Nat.not_lt.mp present]
    · rename_i slot
      rwa [if_neg slot] at h
  · have same : s.noteIssue r = s := by
      simp [State.noteIssue, State.setCore, List.set_eq_of_length_le (Nat.not_lt.mp hc)]
    rwa [same]

theorem State.afterIssue_group_none {s : State} {r : GRef} (h : s.group r = none) : (s.afterIssue r).group r = none := by
  unfold State.afterIssue
  rw [h]
  exact State.noteIssue_group_none h

/-- An issue from an empty slot notes its turn and leaves the retirement tracker. -/
theorem State.afterIssue_tracker_of_none {s : State} {r : GRef} (h : s.group r = none) :
    ((s.afterIssue r).core r.core).tracker = (s.core r.core).tracker := by
  unfold State.afterIssue State.noteIssue
  rw [h]
  exact State.core_field_setCore (s := s) (c := r.core) Core.tracker (by rfl) r.core

/-! ### PRIO and DLINE (13 R358) -/

theorem ownPrio_eq_go {s : State} {g : Group} {v : Word} (low : ((s.task g.gid.task).map (·.launch.cls)).getD 0 ≤ v.toNat) (high : v.toNat ≤ 3) :
    ownPrio s g v = .go :=
  trapIf_of_false (by simp only [Bool.or_eq_false_iff, decide_eq_false_iff_not]; omega) ..

theorem ownPrio_of_bad {s : State} {g : Group} {v : Word}
    (bad : v.toNat < ((s.task g.gid.task).map (·.launch.cls)).getD 0 ∨ 3 < v.toNat) : ownPrio s g v = .trap 2 0 0 :=
  trapIf_of_true (by simpa using bad) ..

theorem bits_high_eq_zero_iff (v : Word) : bits v 32 32 = 0 ↔ v.toNat < 2 ^ 32 := by
  have := v.isLt
  rw [bits, Nat.shiftRight_eq_div_pow]
  omega

theorem State.csr_deadline (s : State) (r : GRef) (g : Group) :
    s.csr r g 0x014 = match (s.task g.gid.task).bind (·.deadline) with
      | some d => word d
      | none => 0xFFFFFFFFFFFFFFFF#64 := by
  have read : s.csr r g 0x014 = ((s.task g.gid.task).bind (·.deadline)).elim 0xFFFFFFFFFFFFFFFF#64 word := rfl
  rw [read]
  cases (s.task g.gid.task).bind (·.deadline) <;> rfl

/-! ### END and TAIL (13 R340, R341, 05 R139) -/

/-- A group that has issued END. -/
def Group.ending (g : Group) : Group :=
  { g.finish with wicks := g.wicks.map (fun w => if w.stopped then { w with status := stDROPPED } else w) }

theorem Group.ending_wick (g : Group) (k : Nat) :
    g.ending.wick k = if (g.wick k).stopped then { g.wick k with status := stDROPPED } else g.wick k := by
  simp only [Group.wick, Group.ending, List.getD_eq_getElem?_getD, List.getElem?_map]
  cases g.wicks[k]? <;> rfl

section
variable {g : Group}

theorem ownEnd_of_balanced (h : g.imbalance = none) : ownEnd g = .go := by
  rw [ownEnd, h]

theorem ownEnd_of_imbalance {k : Nat} (h : g.imbalance = some k) : ownEnd g = .trap 11 k 0 := by
  rw [ownEnd, h]

theorem ownTail_of_quiet (h : ∀ w ∈ g.wicks, w.status ≠ stBUSY ∧ w.stopped = false) (s : State) (r : GRef) :
    ownTail s r g = (ownEnd g).then (waitIf (decide (8 ≤ (s.core r.core).tracker.length))) := by
  have quiet : g.wicks.any (fun w => w.status == stBUSY || w.stopped) = false := by simpa using h
  rw [ownTail, trapIf_of_false quiet]
  rfl

theorem ownTail_of_wick (h : ∃ w ∈ g.wicks, w.status = stBUSY ∨ w.stopped = true) (s : State) (r : GRef) : ownTail s r g = .trap 2 0 0 := by
  rw [ownTail, trapIf_of_true (by simpa using h)]
  rfl
end

/-! ### The parts at issue -/

section
variable {s : State} {g : Group} {p : Part}

theorem exec_yield_issues {x : R0} (h : s.ready g .S p (.yield x)) :
    exec (.yield x) s = .next (s.issueWith
      (if ((s.readyGroups s.cur.core).map (·.1)).filter (· != s.cur.slot) = [] then issued g .S p (.yield x)
       else { issued g .S p (.yield x) with
        yielded := some s.clk, waiters := ((s.readyGroups s.cur.core).map (·.1)).filter (· != s.cur.slot) })) := by
  rw [exec_yield, execYield, runPart_issues _ _ s _ g p h.1 h.2 rfl]
  simp only [List.isEmpty_iff]
  rfl

theorem exec_prio_issues {x : R2} (h : s.ready g .S p (.prio x)) (goes : ownPrio s g (s.operand g x.sa) = .go) :
    exec (.prio x) s = .next (s.issueWith { (issued g .S p (.prio x)).resultS p.seq x.dst.toNat (word g.cls) with
      cls := (s.operand g x.sa).toNat }) := by
  rw [exec_prio, execPrio, runGroup_issues _ _ s _ g p h.1 h.2 goes, operand_issued, issued_cls]
  rfl

theorem exec_dline_issues {x : R2} {t : Task} (h : s.ready g .S p (.dline x)) (small : (s.operand g x.sa).toNat < 2 ^ 32)
    (ht : s.task g.gid.task = some t) :
    exec (.dline x) s = .next (((s.setTask { t with
        deadline := if (s.operand g x.sa).toNat = 0 then none else some (s.clk + 1024 * (s.operand g x.sa).toNat) }).setGroup s.cur
      ((issued g .S p (.dline x)).resultS p.seq x.dst.toNat
        (match t.deadline with
          | some d => word d
          | none => 0xFFFFFFFFFFFFFFFF#64))).afterIssue s.cur) := by
  have goes : own s s.cur g .S p (.dline x) = .go := trapIf_of_false (bne_eq_false_iff_eq.mpr ((bits_high_eq_zero_iff _).mpr small)) ..
  have low : bits (s.operand g x.sa) 0 32 = (s.operand g x.sa).toNat := Nat.mod_eq_of_lt small
  rw [exec_dline, execDline, runPart_issues _ _ s _ g p h.1 h.2 goes]
  simp only [operand_issued, issued_gid, State.csr_deadline, ht, low, Option.bind_some]

theorem exec_endGroup_issues {x : R0} (h : s.ready g .S p (.endGroup x)) (balanced : g.imbalance = none) :
    ∃ (t : State) (l : List Prod) (o : Option Before) (since : Option Nat) (b : Bool), exec (.endGroup x) s = .next t ∧
      t.group s.cur = some { (issued g .S p (.endGroup x)).ending with toks := l, pOld := o, readySince := since, promoted := b } := by
  obtain ⟨hg, -⟩ := headOf_group h.1
  obtain ⟨l, parked⟩ := State.endParked_group (State.group_setGroup_same s s.cur (issued g .S p (.endGroup x)).ending g hg) s.cur.core
    (issued g .S p (.endGroup x)).ending.gid
  obtain ⟨o, since, b, after⟩ := State.afterIssue_group ((State.unrequest_group _ s.cur.core s.cur.slot s.cur).trans parked)
  refine ⟨_, l, o, since, b, ?_, after⟩
  rw [exec_endGroup, execEndGroup, runPart_issues _ _ s _ g p h.1 h.2 (ownEnd_of_balanced balanced)]
  rfl

/-- A core whose group in a slot has left for the retirement tracker. -/
def Core.tail (c : Core) (slot : Nat) (g : Group) : Core :=
  { c.unrequest slot with
    slots := c.slots.set slot none
    tracker := c.tracker ++ [{ g.finish with tailed := true }] }

theorem exec_tail_issues {x : R0} (h : s.ready g .S p (.tail x)) (goes : own s s.cur g .S p (.tail x) = .go) :
    exec (.tail x) s = .next ((s.setCore s.cur.core ((s.core s.cur.core).tail s.cur.slot (issued g .S p (.tail x)))).afterIssue s.cur) := by
  rw [exec_tail, execTail, runPart_issues _ _ s _ g p h.1 h.2 goes]
  rfl

theorem State.tail_group {c slot : Nat} (hc : c < s.cores.length) (hslot : slot < 8) (g : Group) :
    (s.setCore c ((s.core c).tail slot g)).group ⟨c, slot⟩ = none := by
  rw [State.group, if_pos hslot, State.core_setCore_same s c _ hc]
  by_cases present : slot < (s.core c).slots.length
  · simp [Core.tail, present]
  · simp [Core.tail, Nat.not_lt.mp present]
end

end Sys2Proof.Machine

namespace Sys2Proof.Claims

open Sys2Proof.Machine

/-- Settles O14: each part's own rule lets it go, holds it back or traps by what the clause names, and its issue writes its own group, its task or
its core. -/
theorem schedulingInstructions : Obligations.SchedulingInstructions := by
  refine ⟨?_, ?_, ?_, ?_, ?_, ?_, ?_, ?_, ?_, ?_⟩
  · intro x s g p h
    exact exec_yield_issues h
  · intro x s g p h low high
    exact exec_prio_issues h (ownPrio_eq_go low high)
  · intro x s g p h bad
    exact exec_traps rfl h (ownPrio_of_bad bad) (by decide) (by decide)
  · intro x s g p t h small ht
    exact exec_dline_issues h small ht
  · intro x s g p h large
    refine exec_traps rfl h (trapIf_of_true ?_ ..) (by decide) (by decide)
    rw [bne_iff_ne, ne_eq, bits_high_eq_zero_iff, not_lt]
    exact large
  · intro x s g p h balanced
    obtain ⟨t, l, o, since, b, issues, group⟩ := exec_endGroup_issues h balanced
    refine ⟨t, _, issues, group, rfl, rfl, rfl, fun k => ?_⟩
    have wick : (issued g .S p (.endGroup x)).wick k = g.wick k := by simp [Group.wick]
    exact ((issued g .S p (.endGroup x)).ending_wick k).trans (by rw [wick])
  · intro x s g p h balanced quiet room hc hslot
    have goes : own s s.cur g .S p (.tail x) = .go := by
      refine (ownTail_of_quiet quiet s s.cur).trans ?_
      rw [ownEnd_of_balanced balanced]
      exact waitIf_eq_go.mpr (decide_eq_false (not_le.mpr room))
    have left := State.tail_group hc hslot (issued g .S p (.tail x))
    refine ⟨_, exec_tail_issues h goes, State.afterIssue_group_none left, ?_⟩
    rw [State.afterIssue_tracker_of_none left, State.core_setCore_same s s.cur.core _ hc]
    rfl
  · intro x s g p h balanced quiet full
    refine exec_waits rfl h ((ownTail_of_quiet quiet s s.cur).trans ?_)
    rw [ownEnd_of_balanced balanced]
    exact waitIf_eq_wait.mpr (decide_eq_true full)
  · intro x s g p h busy
    exact exec_traps rfl h (ownTail_of_wick busy s s.cur) (by decide) (by decide)
  · intro x i s g p k form h imbalance quiet
    rcases form with rfl | rfl
    · exact exec_traps rfl h (ownEnd_of_imbalance imbalance) (by decide) (by decide)
    · refine exec_traps rfl h ((ownTail_of_quiet quiet s s.cur).trans ?_) (by decide) (by decide)
      rw [ownEnd_of_imbalance imbalance]
      rfl

end Sys2Proof.Claims
end

section
/-!
PROOFS. Tasks from admission to their end (13 R323 to R329, R331, R340 to R342, R447): the task with an identifier, R324's order, admission and
the seating of cores, groups as they start, retirement, and what a task's end gives up.
-/

namespace Sys2Proof.Machine

/-! ### Records of a list by their key -/

section
variable {α : Type} {key : α → Nat} {p : α → Bool} {k : Nat} (named : ∀ y, p y = true ↔ key y = k) (x : α)
include named

/-- A record written in the place of every record with its key is found under the key, where one was. -/
theorem find?_replace_same (hx : key x = k) (l : List α) :
    (l.map (fun y => if key y = key x then x else y)).find? p = (l.find? p).map (fun _ => x) := by
  induction l with
  | nil => rfl
  | cons y l ih =>
    by_cases hy : key y = k
    · have kept : p x = true := (named x).mpr hx
      have found : p y = true := (named y).mpr hy
      simp [hy, hx, kept, found]
    · have passed : p y = false := Bool.eq_false_iff.mpr fun h => hy ((named y).mp h)
      simp only [hx] at ih
      simp [hy, hx, passed, ih]

/-- Under another key the records are found as before. -/
theorem find?_replace_other (hx : key x ≠ k) (l : List α) :
    (l.map (fun y => if key y = key x then x else y)).find? p = l.find? p := by
  induction l with
  | nil => rfl
  | cons y l ih =>
    have passed : p x = false := Bool.eq_false_iff.mpr fun h => hx ((named x).mp h)
    by_cases hy : key y = key x
    · have other : p y = false := Bool.eq_false_iff.mpr fun h => hx (hy ▸ (named y).mp h)
      simp [hy, passed, other, ih]
    · simp only [List.map_cons, if_neg hy, List.find?_cons, ih]
end

/-! ### The task with an identifier -/

theorem State.mem_of_task {s : State} {k : Nat} {t : Task} (h : s.task k = some t) : t ∈ s.tasks ∧ t.id = k :=
  ⟨List.mem_of_find?_eq_some h, by simpa using List.find?_some h⟩

theorem State.task_of_tasks {s t : State} (h : t.tasks = s.tasks) (k : Nat) : t.task k = s.task k := by
  rw [State.task, State.task, h]

theorem State.task_setTask_same {s : State} {k : Nat} {t x : Task} (hx : s.task k = some x) (ht : t.id = k) : (s.setTask t).task k = some t :=
  (find?_replace_same (key := Task.id) (fun y => by simp) t ht s.tasks).trans (congrArg (Option.map _) hx)

theorem State.task_setTask_other (s : State) {k : Nat} {t : Task} (ht : t.id ≠ k) : (s.setTask t).task k = s.task k :=
  find?_replace_other (key := Task.id) (fun y => by simp) t ht s.tasks

/-! ### The order of admission (13 R324; log 28) -/

theorem State.rank_of_preempted {s : State} {t : Task} (h : t.state = .preempted) : s.rank t = 1 := by
  simp [State.rank, h]

theorem State.queued_of_rank {s : State} {t : Task} (h : s.rank t = 0) : t.state = .queued := by
  unfold State.rank at h
  split at h
  · rename_i taken
    exact taken.1
  · split at h <;> contradiction

theorem State.rank_le (s : State) (t : Task) : s.rank t ≤ 2 := by
  unfold State.rank
  split
  · decide
  · split <;> decide

theorem State.before_iff (s : State) (a b : Task) : s.before a b = true ↔ s.rank a < s.rank b ∨ (s.rank a = s.rank b ∧
    (a.deadline.getD (2 ^ 80) < b.deadline.getD (2 ^ 80) ∨ (a.deadline.getD (2 ^ 80) = b.deadline.getD (2 ^ 80) ∧ a.order < b.order))) := by
  simp [State.before]

theorem State.before_trans {s : State} {a b c : Task} (h : s.before a b = true) (k : s.before b c = true) : s.before a c = true := by
  rw [State.before_iff] at *
  omega

theorem State.before_irrefl (s : State) (a : Task) : s.before a a = false := by
  rw [← Bool.not_eq_true, State.before_iff]
  omega

/-! ### Declared ranges that are resident (13 R325) -/

theorem State.pteWrites_cells (s : State) (l : List PteWrite) : s.cellsOnly (s.pteWrites l) := by
  refine State.cellsOnly_foldl (fun s x => ?_) l s
  unfold State.putPte
  split
  · exact s.putGranule_cells ..
  · exact s.cellsOnly_refl

/-- Every page of the declared ranges of a task is mapped with the rights of its mode, or host-backed with a translation of the host's. -/
def State.rangesLent (s : State) (t : Task) : Prop :=
  ∀ x ∈ t.launch.ranges, ∀ d, d < 4 → ∀ a ∈ pagesOf x.base x.size,
    (∃ e, s.walk d t.asid a = .leaf e ∧ (x.mode.testBit 1 = true → e.w = true)) ∨
    (∃ b w e, s.walk d t.asid a = .host b w ∧ (x.mode.testBit 1 = true → w = true) ∧
      e ∈ (s.die d).granted ∧ e.covers t.asid a = true ∧ (x.mode.testBit 1 = true → e.w = true))

theorem State.resident_of_rangesLent {s : State} {t : Task} (h : s.rangesLent t) : s.resident t = true := by
  simp only [State.resident, List.all_eq_true, List.mem_range]
  intro x hx d hd a ha
  rcases h x hx d hd a ha with ⟨e, leaf, right⟩ | ⟨b, w, e, host, right, -, -, -⟩
  · simpa [State.mapped, leaf, or_iff_not_imp_left] using right
  · simpa [State.mapped, host, or_iff_not_imp_left] using right

theorem State.hostReady_of_rangesLent {s : State} {t : Task} (h : s.rangesLent t) : s.hostReady t = true := by
  simp only [State.hostReady, List.all_eq_true, List.mem_range]
  intro x hx d hd a ha
  rcases h x hx d hd a ha with ⟨e, leaf, -⟩ | ⟨b, w, e, host, -, mem, covers, right⟩
  · rw [leaf]
  · rw [host]
    exact List.any_eq_true.mpr ⟨e, mem, by simpa [covers, or_iff_not_imp_left] using right⟩

/-! ### Cores that take a task (05 R142, 13 R325, R337) -/

theorem State.core_flushL1 (s : State) (c : Nat) : s.flushL1.core c = { s.core c with l1 := [] } := by
  simp only [State.core, State.flushL1, List.getD_eq_getElem?_getD, List.getElem?_map]
  cases s.cores[c]? <;> rfl

/-- The cores of a placement take a task. -/
def State.seatAll (s : State) (t : Task) (place : List Nat) : State := place.foldl (fun s c => s.setCore c ((s.core c).seat t)) s

theorem State.seatAll_keeps {γ : Type} (π : State → γ) (h : ∀ (s : State) c x, π (s.setCore c x) = π s) (s : State) (t : Task)
    (place : List Nat) : π (s.seatAll t place) = π s :=
  foldl_keeps π (fun s c => h s c _) place s

theorem State.seatAll_core_other {t : Task} {place : List Nat} {c : Nat} (absent : c ∉ place) (s : State) :
    (s.seatAll t place).core c = s.core c := by
  induction place generalizing s with
  | nil => rfl
  | cons d place ih =>
    obtain ⟨ne, rest⟩ := not_or.mp (mt List.mem_cons.mpr absent)
    exact (ih rest _).trans (State.core_setCore_other s d c _ ne)

/-- Each core of a placement without repeats takes the task once. -/
theorem State.seatAll_core {s : State} {t : Task} {place : List Nat} {c : Nat} (once : place.Nodup) (mem : c ∈ place) (hc : c < s.cores.length) :
    (s.seatAll t place).core c = (s.core c).seat t := by
  induction place generalizing s with
  | nil => cases mem
  | cons d place ih =>
    obtain ⟨new, rest⟩ := List.nodup_cons.mp once
    rcases List.mem_cons.mp mem with rfl | mem
    · exact (State.seatAll_core_other new _).trans (State.core_setCore_same s c _ hc)
    · have ne : c ≠ d := fun e => new (e ▸ mem)
      exact (ih (s := s.setCore d ((s.core d).seat t)) rest mem (by simpa using hc)).trans
        (congrArg (Core.seat · t) (State.core_setCore_other s d c _ ne))

/-- A core that has taken a task has a dark and zero scratchpad. -/
theorem Core.seat_pad (c : Core) (t : Task) {a : Nat} (low : t.launch.bnd0 * 1024 ≤ a) (high : a < t.launch.bnd1 * 1024) :
    (∀ x ∈ (c.seat t).hamper, x.1 ≠ a) ∧ (c.seat t).lit.contains (a / 16) = false := by
  refine ⟨fun x hx same => ?_, ?_⟩
  · have outside := (List.mem_filter.mp hx).2
    simp [same, low, high] at outside
  · rw [← Bool.not_eq_true, List.contains_iff_mem]
    intro lit
    have outside := (List.mem_filter.mp lit).2
    simp only [Bool.not_eq_true', Bool.and_eq_false_iff, decide_eq_false_iff_not] at outside
    omega

/-- With RELOAD a core keeps no overlay of the image. -/
theorem Core.mem_store_of_seat {c : Core} {t : Task} {o : Overlay} (h : o ∈ (c.seat t).store) :
    o ∈ c.store ∧ ¬ (t.launch.reload = true ∧ o.image = t.launch.image ∧ o.asid = t.asid) := by
  obtain ⟨mem, kept⟩ := List.mem_filter.mp h
  refine ⟨mem, fun ⟨reload, image, asid⟩ => ?_⟩
  simp [reload, image, asid] at kept

/-! ### Refusals that a lease ends (14 R373) -/

theorem State.refusals_of_tasks {s t : State} (h : t.tasks = s.tasks) (l : List DemandFault) : t.refusals l = s.refusals l := by
  have same : t.unleased = s.unleased := by
    funext f
    simp [State.unleased, State.leased, h]
  rw [State.refusals, State.refusals, same]

theorem State.dropLeased_refused (s : State) (d : Nat) : (s.dropLeased.die d).refused = s.refusals (s.die d).refused := by
  simp only [State.die, State.dropLeased, List.getD_eq_getElem?_getD, List.getElem?_map]
  cases s.dies[d]? <;> rfl

/-! ### Admission (13 R324 to R327) -/

/-- A task as it is admitted. -/
def Task.letRun (t : Task) (place : List Nat) (order : Nat) : Task :=
  { t with
    state := .running
    victims := []
    cores := place
    admitted := order
    todo := (List.range (place.length * t.launch.perCore)).map (fun i => (place.getD (i / Nat.max 1 t.launch.perCore) 0, i)) }

/-- The groups of an admitted task, in ascending leaf order over its cores. -/
theorem Task.letRun_todo {t : Task} {place : List Nat} {order i : Nat} {x : Nat × Nat} : (t.letRun place order).todo[i]? = some x ↔
    i < place.length * t.launch.perCore ∧ x = (place.getD (i / Nat.max 1 t.launch.perCore) 0, i) := by
  simp only [Task.letRun, List.getElem?_map]
  by_cases hi : i < place.length * t.launch.perCore
  · simp [hi, eq_comm]
  · simp [hi]

/-- The state once the page-table entries are written and a task runs on a placement. -/
def State.letRun (s : State) (t : Task) (place : List Nat) : State :=
  { ((s.flushL1.seatAll t place).setTask (t.letRun place s.order)).dropLeased with order := s.order + 1 }

section
variable {s : State} {task : Nat} {place : List Nat} {writes : List PteWrite} {t : Task}

theorem exec_admission_admits (ht : s.task task = some t) (serving : s.serving = true) (queued : t.state = .queued)
    (may : s.mayAdmit t = true) (first : s.classFirst t = true) (placed : s.placeOk t place = true)
    (keeps : s.keeps (s.pteWrites writes) (fun _ _ => false) = true) (lent : (s.pteWrites writes).rangesLent t) :
    exec (.admission task place writes) s = .next ((s.pteWrites writes).letRun t place) := by
  have order : ((s.pteWrites writes).flushL1.seatAll t place).order = (s.pteWrites writes).order :=
    State.seatAll_keeps State.order (fun _ _ _ => rfl) _ t place
  have goes : (!s.serving || t.state != .queued || !s.mayAdmit t || !s.classFirst t || !s.placeOk t place ||
      !(s.pteWrites writes).resident t || !(s.pteWrites writes).hostReady t || !s.keeps (s.pteWrites writes) (fun _ _ => false)) = false := by
    simp [serving, queued, may, first, placed, keeps, State.resident_of_rangesLent lent, State.hostReady_of_rangesLent lent]
  rw [exec_admission, execAdmission, ht]
  dsimp only
  rw [goes, State.letRun, Task.letRun, ← order]
  rfl

theorem State.nodup_of_placeOk (h : s.placeOk t place = true) : place.Nodup := by
  simp only [State.placeOk, Bool.and_eq_true, beq_iff_eq] at h
  obtain ⟨⟨⟨-, once⟩, -⟩, -⟩ := h
  rw [← List.dedup_eq_self]
  exact (List.dedup_sublist place).eq_of_length once

theorem State.letRun_task (ht : s.task task = some t) : (s.letRun t place).task task = some (t.letRun place s.order) := by
  have found : (s.flushL1.seatAll t place).task task = some t :=
    (State.task_of_tasks (State.seatAll_keeps State.tasks (fun _ _ _ => rfl) _ t place) task).trans ht
  exact State.task_setTask_same found (State.mem_of_task ht).2

theorem State.letRun_refused (s : State) (t : Task) (place : List Nat) (d : Nat) :
    ((s.letRun t place).die d).refused = (s.letRun t place).refusals (s.die d).refused := by
  have dies : ((s.flushL1.seatAll t place).setTask (t.letRun place s.order)).die d = s.die d :=
    congrArg (fun l : List Die => l.getD d Die.reset) (State.seatAll_keeps State.dies (fun _ _ _ => rfl) _ t place)
  refine (State.dropLeased_refused _ d).trans ?_
  rw [dies]
  exact State.refusals_of_tasks rfl _

theorem State.letRun_core {c : Nat} (once : place.Nodup) (mem : c ∈ place) (hc : c < s.cores.length) :
    (s.letRun t place).core c = Core.seat { s.core c with l1 := [] } t :=
  (State.seatAll_core once mem (by simpa [State.flushL1] using hc)).trans (by rw [State.core_flushL1])
end

/-! ### Groups as they start (02 Table 2.3, 13 R323, R447) -/

theorem exec_groupStart_seats {s : State} {core leaf k wb : Nat} {t : Task} (ht : (s.core core).task.bind s.task = some t)
    (serving : s.serving = true) (held : (s.core core).taken = false) (unsaved : ∀ g ∈ (s.core core).saved, g.gid.task ≠ t.id)
    (next : t.todo.find? (fun x => x.1 == core) = some (core, leaf))
    (slot : (List.range t.launch.seats).find? (fun k => ((s.core core).slots.getD k none).isNone) = some k)
    (rows : (s.core core).freeRows t.launch.arows = some wb) :
    exec (.groupStart core) s = .next ((s.setTask { t with todo := t.todo.filter (fun x => decide (x ≠ (core, leaf))) }).setGroup ⟨core, k⟩
      (Group.start ⟨t.id, leaf⟩ t.asid wb (spillLimit t.launch) t.launch)) := by
  have goes : (!s.serving || (s.core core).taken || (s.core core).saved.any (fun g => g.gid.task == t.id)) = false := by
    simpa [serving, held] using unsaved
  rw [exec_groupStart, execGroupStart]
  simp only [ht, next, slot, rows, goes]
  rfl

theorem Core.freeRows_spec {c : Core} {n wb : Nat} (h : c.freeRows n = some wb) : wb ∈ c.rows ∧ rowsOpen c.rowsHeld wb n = true :=
  ⟨List.mem_of_find?_eq_some h, List.find?_some (p := fun b => rowsOpen c.rowsHeld b n) h⟩

section
variable (id : GId) (asid wb lim : Nat) (l : Launch)

theorem Group.start_nreg_arg {k : Nat} (hk : k < 6) : (Group.start id asid wb lim l).nreg k = l.args.getD k 0#64 := by
  have six : ((l.args ++ List.replicate 16 0#64).take 6).length = 6 := by simp
  simp only [Group.nreg, Group.start, List.getD_eq_getElem?_getD]
  rw [List.getElem?_append_left (by omega), List.getElem?_take_of_lt hk]
  by_cases arg : k < l.args.length
  · rw [List.getElem?_append_left arg]
  · rw [List.getElem?_append_right (Nat.not_lt.mp arg), List.getElem?_eq_none (Nat.not_lt.mp arg), List.getElem?_replicate]
    split <;> rfl

theorem Group.start_nreg_zero {k : Nat} (hk : 6 ≤ k) : (Group.start id asid wb lim l).nreg k = 0#64 := by
  have six : ((l.args ++ List.replicate 16 0#64).take 6).length = 6 := by simp
  simp only [Group.nreg, Group.start, List.getD_eq_getElem?_getD]
  rw [List.getElem?_append_right (by omega), List.getElem?_replicate]
  split <;> rfl

theorem Group.start_preg (k : Nat) : (Group.start id asid wb lim l).preg k = decide (k = 0) := by
  cases k with
  | zero => rfl
  | succ k =>
    rw [decide_eq_false k.succ_ne_zero]
    simp only [Group.preg, Group.start, List.getD_eq_getElem?_getD, List.getElem?_cons_succ, List.getElem?_replicate, if_neg k.succ_ne_zero]
    split <;> rfl

theorem Group.start_areg (k : Nat) : (Group.start id asid wb lim l).areg k = 0#64 := by
  simp only [Group.areg, Group.start, List.getD_eq_getElem?_getD, List.getElem?_replicate]
  split <;> rfl

theorem Group.start_freg (k : Nat) : (Group.start id asid wb lim l).freg k = 0#64 := by
  simp only [Group.freg, Group.start, List.getD_eq_getElem?_getD, List.getElem?_replicate]
  split <;> rfl

theorem Group.start_guard {k : Nat} (hk : k < 16) : (Group.start id asid wb lim l).guard k = startGuard l k := by
  simp [Group.guard, Group.start, hk]
end

/-! ### Retirement (13 R340, R341) -/

@[simp] theorem State.retireOne_core (s : State) (task c : Nat) : (s.retireOne task).core c = s.core c := by
  unfold State.retireOne
  split <;> rfl

theorem State.retireOne_task {s : State} {task : Nat} {x : Task} (h : s.task task = some x) :
    (s.retireOne task).task task = some { x with left := x.left - 1 } := by
  have retired : s.retireOne task = s.setTask { x with left := x.left - 1 } := by rw [State.retireOne, h]
  rw [retired]
  exact State.task_setTask_same h (State.mem_of_task h).2

/-- A core whose group in a slot has retired. -/
def Core.retire (c : Core) (slot : Nat) (g : Group) : Core :=
  { c with
    slots := (c.slots.set slot none).map (fun (o : Option Group) => o.map (Group.unwait slot))
    reqs := c.reqs.filter (fun q => q.slot != slot)
    runPanes := c.runPanes.filter (fun q => q.slot != slot)
    copy := { c.copy with held := c.copy.held.filter (fun h => h.gid != g.gid) } }

theorem Core.retire_slot (c : Core) (slot : Nat) (g : Group) : (c.retire slot g).slots.getD slot none = none := by
  simp only [Core.retire, List.getD_eq_getElem?_getD, List.getElem?_map]
  by_cases present : slot < c.slots.length
  · simp [present]
  · simp [Nat.not_lt.mp present]

/-- A core whose entry of the retirement tracker has drained. -/
def Core.drain (c : Core) (entry : Nat) (g : Group) : Core :=
  { c with
    tracker := c.tracker.eraseIdx entry
    copy := { c.copy with held := c.copy.held.filter (fun h => h.gid != g.gid) } }

/-- A core that is not as after reset exists. -/
theorem State.core_lt_of_ne_reset {s : State} {c : Nat} (h : s.core c ≠ Core.reset) : c < s.cores.length := by
  by_contra past
  exact h (List.getD_eq_default _ _ (Nat.not_lt.mp past))

section
variable {s : State} {core k : Nat} {g : Group}

theorem exec_groupRetire_frees (hg : (s.core core).slots.getD k none = some g) (serving : s.serving = true)
    (finished : g.ended = true ∨ g.snuffed = true) (idle : (s.core core).engineIdle g = true) :
    exec (.groupRetire core k) s = .next ((s.setCore core ((s.core core).retire k g)).retireOne g.gid.task) := by
  have goes : (!s.serving || !(g.ended || g.snuffed) || !(s.core core).engineIdle g) = false := by
    rcases finished with ended | snuffed
    · simp [serving, idle, ended]
    · simp [serving, idle, snuffed]
  rw [exec_groupRetire, execGroupRetire, hg]
  dsimp only
  rw [goes]
  rfl

theorem exec_trackerDrain_frees (hg : (s.core core).tracker[k]? = some g) (serving : s.serving = true)
    (idle : (s.core core).engineIdle g = true) :
    exec (.retirementTrackerDrain core k) s = .next ((s.setCore core ((s.core core).drain k g)).retireOne g.gid.task) := by
  have goes : (!s.serving || !(s.core core).engineIdle g) = false := by simp [serving, idle]
  rw [exec_retirementTrackerDrain, execRetirementTrackerDrain]
  simp only [hg, goes]
  rfl

theorem State.core_lt_of_slot (hg : (s.core core).slots.getD k none = some g) : core < s.cores.length := by
  refine State.core_lt_of_ne_reset fun reset => ?_
  rw [reset, Core.reset, List.getD_eq_getElem?_getD, List.getElem?_replicate] at hg
  split at hg <;> cases hg

theorem State.core_lt_of_tracker (hg : (s.core core).tracker[k]? = some g) : core < s.cores.length := by
  refine State.core_lt_of_ne_reset fun reset => ?_
  rw [reset] at hg
  cases hg
end

/-! ### The end of a task (13 R342) -/

theorem State.sweep_cores (s : State) : s.sweep.cores = s.cores := (congrArg State.cores (State.sweepN_frame 33 s) :)

/-- A core that gives up a task that has ended. -/
def Core.vacate (c : Core) (t : Task) : Core := if c.task = some t.id then { c with task := none, taken := false, rows := [] } else c

theorem Core.vacate_task (c : Core) (t : Task) : (c.vacate t).task ≠ some t.id := by
  unfold Core.vacate
  split
  · exact nofun
  · assumption

theorem State.closeTask_cores (s : State) (t : Task) : (s.closeTask t).cores = s.cores.map (Core.vacate · t) := by
  unfold State.closeTask
  rw [State.sweep_cores]
  split
  · rfl
  · split
    · rfl
    · split <;> rfl

theorem State.closeTask_core (s : State) (t : Task) (c : Nat) : (s.closeTask t).core c = (s.core c).vacate t := by
  simp only [State.core, State.closeTask_cores, List.getD_eq_getElem?_getD, List.getElem?_map]
  cases s.cores[c]? <;> rfl

section
variable {s : State} {task : Nat} {t : Task} (ht : s.task task = some t) (serving : s.serving = true) (admitted : t.state ≠ .queued)
  (running : t.state ≠ .ended) (left : t.left = 0) (todo : t.todo = [])
include ht serving admitted running left todo

theorem exec_taskEnd_ends (done : t.launch.donea = 0) : exec (.taskEnd task) s = .next (s.flushL1.closeTask t) := by
  have goes : (!s.serving || t.state == .queued || t.state == .ended || t.left != 0 || !t.todo.isEmpty) = false := by
    simp [serving, admitted, running, left, todo]
  rw [exec_taskEnd, execTaskEnd, ht]
  dsimp only
  rw [goes, if_neg Bool.false_ne_true, if_pos done]

theorem exec_taskEnd_writes {u : State} (done : t.launch.donea ≠ 0)
    (written : s.flushL1.writeWord (.die t.home) t.asid t.launch.donea (natLE 8 (taskDone t s.clk)) = .ok u) :
    exec (.taskEnd task) s = .next (u.closeTask t) := by
  have goes : (!s.serving || t.state == .queued || t.state == .ended || t.left != 0 || !t.todo.isEmpty) = false := by
    simp [serving, admitted, running, left, todo]
  have clk : s.flushL1.clk = s.clk := rfl
  rw [exec_taskEnd, execTaskEnd, ht]
  dsimp only
  rw [goes, if_neg Bool.false_ne_true, if_neg done, clk, written]
end

end Sys2Proof.Machine

namespace Sys2Proof.Claims

open Sys2Proof.Machine

/-- Settles O53: an admission seats each core of its placement once and writes its task, a start reads its launch record, and a retirement and an end
give back what the group and the task held. -/
theorem tasksRunAndEnd : Obligations.TasksRunAndEnd := by
  refine ⟨?_, ?_, ?_, ?_, ?_, ?_, ?_, ?_, ?_, ?_⟩
  · intro s task place writes t ht serving queued may first placed keeps lent exists_
    have cells := s.pteWrites_cells writes
    have tasks : (s.pteWrites writes).task task = some t :=
      (State.task_of_tasks (cells.keeps State.tasks fun _ _ _ _ _ _ _ => rfl) task).trans ht
    have cores : (s.pteWrites writes).cores = s.cores := cells.keeps State.cores fun _ _ _ _ _ _ _ => rfl
    have die (d : Nat) : (s.pteWrites writes).die d = s.die d := cells.keeps (State.die · d) fun _ _ _ _ _ _ _ => rfl
    refine ⟨_, _, exec_admission_admits ht serving queued may first placed keeps lent, State.letRun_task tasks, rfl, rfl, rfl, rfl, fun d => ?_,
      fun i x => Task.letRun_todo, fun c hc => ?_⟩
    · rw [State.letRun_refused, die]
    · refine ⟨_, State.letRun_core (State.nodup_of_placeOk placed) hc (by rw [cores]; exact exists_ c hc), ?_⟩
      rw [State.core_of_cores cores]
      exact ⟨rfl, rfl, rfl⟩
  · intro s a b
    refine ⟨State.rank_of_preempted, State.queued_of_rank, s.rank_le a, fun lower => (s.before_iff a b).mpr (.inl lower), fun same => ?_,
      fun c => State.before_trans, s.before_irrefl a⟩
    rw [State.before_iff]
    simp [same]
  · intro c t
    exact ⟨rfl, rfl, rfl, rfl, rfl, fun a => c.seat_pad t, fun o => Core.mem_store_of_seat⟩
  · intro s core leaf k wb t ht serving held unsaved next slot rows
    exact exec_groupStart_seats ht serving held unsaved next slot rows
  · intro c n wb
    exact Core.freeRows_spec
  · intro id asid wb lim l g hg
    subst hg
    exact ⟨fun k => Group.start_nreg_arg id asid wb lim l, fun k => Group.start_nreg_zero id asid wb lim l, Group.start_preg id asid wb lim l,
      Group.start_areg id asid wb lim l, Group.start_freg id asid wb lim l, fun _ => rfl, rfl, rfl, rfl, rfl,
      fun k => Group.start_guard id asid wb lim l⟩
  · intro s core k g hg serving finished idle
    refine ⟨_, exec_groupRetire_frees hg serving finished idle, ?_, fun x hx => State.retireOne_task hx⟩
    rw [State.retireOne_core, State.core_setCore_same s core _ (State.core_lt_of_slot hg)]
    exact Core.retire_slot ..
  · intro s core e g hg serving idle
    refine ⟨_, exec_trackerDrain_frees hg serving idle, ?_, fun x hx => State.retireOne_task hx⟩
    rw [State.retireOne_core, State.core_setCore_same s core _ (State.core_lt_of_tracker hg)]
    rfl
  · intro s task t ht serving admitted running left todo
    exact ⟨exec_taskEnd_ends ht serving admitted running left todo, fun u => exec_taskEnd_writes ht serving admitted running left todo⟩
  · intro s t c
    rw [State.closeTask_core]
    exact (s.core c).vacate_task t

end Sys2Proof.Claims
end

section
/-!
PROOFS. Ready groups as clocks pass, yielding and pre-emption (13 R330, R332 to R336, R358; 08 R221; log 63, log 67, log 96, log 97): ageing, the
choice of victims and the taking of their cores, landing, saving, and the return of a task to a core.
-/

namespace Sys2Proof.Machine

/-! ### Ageing and yielding (13 R330, R358) -/

section
variable {s : State} {r : GRef} {g : Group}

theorem exec_issueAgePromotion_of_aged {t : Nat} (hg : s.group r = some g) (ready : groupReady s r g = true) (since : g.readySince = some t)
    (long : t + 64 ≤ s.clk) : exec (.issueAgePromotion r) s = .next (s.setGroup r { g with promoted := true }) := by
  have aged : g.aged s.clk = true := by simp [Group.aged, since, long]
  simp only [exec_issueAgePromotion, execIssueAgePromotion, hg, ready, aged]
  rfl

theorem exec_issueAgePromotion_of_young (hg : s.group r = some g)
    (young : groupReady s r g = false ∨ (g.promoted = false ∧ ∀ t, g.readySince = some t → s.clk < t + 64)) :
    exec (.issueAgePromotion r) s = .next s := by
  have stays : (groupReady s r g && g.aged s.clk) = false := by
    rcases young with idle | ⟨plain, short⟩
    · simp [idle]
    · have fresh : g.aged s.clk = false := by
        cases since : g.readySince with
        | none => simp [Group.aged, plain, since]
        | some t => simpa [Group.aged, plain, since] using short t since
      simp [fresh]
  simp only [exec_issueAgePromotion, execIssueAgePromotion, hg, stays]
  rfl

theorem exec_yieldExpiry_of_expired {t : Nat} (hg : s.group r = some g) (yielded : g.yielded = some t) (long : t + 64 ≤ s.clk) :
    exec (.yieldExpiry r) s = .next (s.setGroup r { g with yielded := none, waiters := [] }) := by
  simp only [exec_yieldExpiry, execYieldExpiry, hg, yielded, if_pos long]

/-- A group as clocks pass (13 R330, 08 R222). -/
def Group.ages (s : State) (r : GRef) (g : Group) : Group :=
  if groupReady s r g then { g.ripen s r.core r.slot with readySince := some (g.readySince.getD s.clk) }
  else { g.ripen s r.core r.slot with readySince := none, promoted := false }

theorem Core.ages_slot_eq {c : Core} {core slot : Nat} (hg : c.slots.getD slot none = some g) :
    (c.ages s core).slots.getD slot none = some (g.ages s ⟨core, slot⟩) := by
  rw [List.getD_eq_getElem?_getD] at hg ⊢
  have at_ : c.slots[slot]? = some (some g) := by
    cases h : c.slots[slot]? with
    | none => simp [h] at hg
    | some o => simpa [h] using hg
  have seated : (c.slots.all (·.isNone) && c.steps.isEmpty) = false := by
    have present : c.slots.all (·.isNone) = false := by
      rw [← Bool.not_eq_true, List.all_eq_true]
      exact fun none => by simpa using none (some g) (List.mem_of_getElem? at_)
    simp [present]
  rw [Core.ages, seated]
  simp [at_, Group.ages]

theorem State.pass_group_eq {n : Nat} (hg : s.group r = some g) (slot : r.slot < 8) (clocks : 0 < n) :
    (s.pass n).group r = some (g.ages s r) := by
  simp only [State.group, if_pos slot] at hg ⊢
  rw [State.pass_core s (Nat.ne_of_gt clocks)]
  exact Core.ages_slot_eq hg
end

theorem Group.ripen_seq {s : State} {core slot wk : Nat} {g : Group} {q : Sequencer} (hw : wk < g.wicks.length) (hq : (g.wick wk).seq = some q) :
    ((g.ripen s core slot).wick wk).seq = some { q with
      readyAt := if StepAt.ripe s slot ⟨core, g, wk, g.wick wk, q⟩ = true then some (q.readyAt.getD s.clk) else none } := by
  have same : g.wick wk = g.wicks[wk] := by simp [Group.wick, hw]
  rw [same] at hq ⊢
  simp [Group.wick, Group.ripen, hw, hq, sinceWhen]

/-! ### The choice of victims (13 R332; log 63) -/

theorem State.preempts_iff (s : State) (q w : Task) : s.preempts q w = true ↔ (q.launch.cls < w.launch.cls ∨ (q.launch.cls = w.launch.cls ∧
    ∃ d, q.deadline = some d ∧ s.partTh q.home ≠ 0xFFFFFFFF ∧ d + s.partTh q.home < w.deadline.getD (2 ^ 80))) := by
  cases h : q.deadline with
  | none => simp [State.preempts, h]
  | some d => simp [State.preempts, Task.due, h, and_assoc]

/-- The tasks whose cores together suffice are among those considered. -/
theorem State.mem_of_enoughOf {s : State} {q w : Task} {l rest ws : List Task} (h : s.enoughOf q l rest = some ws) (mem : w ∈ ws) :
    w ∈ l ∨ w ∈ rest := by
  induction rest generalizing l with
  | nil =>
    rw [State.enoughOf] at h
    split at h
    · cases h
      exact .inl mem
    · cases h
  | cons v rest ih =>
    rw [State.enoughOf] at h
    split at h
    · cases h
      exact .inl mem
    · rcases ih h with considered | later
      · rcases List.mem_append.mp considered with considered | last
        · exact .inl considered
        · exact .inr (List.mem_cons.mpr (.inl (List.mem_singleton.mp last)))
      · exact .inr (List.mem_cons_of_mem v later)

theorem State.mem_of_victimsOf {s : State} {q w : Task} (h : w ∈ s.victimsOf q) : w ∈ s.tasks ∧ s.preempts q w = true := by
  obtain ⟨mem, picked⟩ := List.mem_filter.mp ((List.mem_insertionSort _).mp h)
  simp only [Bool.and_eq_true] at picked
  obtain ⟨⟨-, preempts⟩, -⟩ := picked
  exact ⟨mem, preempts⟩

section
variable {s : State} {q v : Task} {cores : List Nat}

theorem State.takesRight_of_enough {ws : List Task} (short : s.suffices q [] = false) (some_ : cores ≠ [])
    (mine : ∀ c ∈ cores, c ∈ s.takable q v) (enough : s.enoughOf q [] (s.victimsOf q) = some ws) (mem : v ∈ ws)
    (suffices_ : s.suffices q (cores ++ (ws.filter (fun w => w.id != v.id)).flatMap (s.takable q)) = true)
    (least : ∀ c ∈ cores, s.suffices q (cores.erase c ++ (ws.filter (fun w => w.id != v.id)).flatMap (s.takable q)) = false) :
    s.takesRight q v cores = true := by
  have named : ws.any (fun w => w.id == v.id) = true := List.any_eq_true.mpr ⟨v, mem, beq_self_eq_true _⟩
  rw [State.takesRight, enough]
  simpa [short, some_, named, suffices_] using ⟨mine, least⟩

theorem State.not_takesRight_of_suffices (h : s.suffices q [] = true) : s.takesRight q v cores = false := by
  simp [State.takesRight, h]

/-- A task that Q may not pre-empt is no victim of Q's. -/
theorem State.not_takesRight_of_not_preempts (alone : ∀ w ∈ s.tasks, w.id = v.id → w = v) (h : s.preempts q v = false) :
    s.takesRight q v cores = false := by
  rw [State.takesRight]
  cases enough : s.enoughOf q [] (s.victimsOf q) with
  | none => simp
  | some ws =>
    have absent : ws.any (fun w => w.id == v.id) = false := by
      rw [← Bool.not_eq_true, List.any_eq_true]
      rintro ⟨w, mem, same⟩
      rcases State.mem_of_enoughOf enough mem with impossible | victim
      · cases impossible
      · obtain ⟨task, preempts⟩ := State.mem_of_victimsOf victim
        rw [alone w task (beq_iff_eq.mp same), h] at preempts
        cases preempts
    simp [absent]
end

/-! ### The taking of a victim's cores (13 R332) -/

/-- The cores of a list are taken from a task. -/
def State.takeAll (s : State) (task : Nat) (l : List Nat) : State := l.foldl (fun s c => s.setCore c ((s.core c).take task)) s

theorem State.takeAll_keeps {γ : Type} (π : State → γ) (h : ∀ (s : State) c x, π (s.setCore c x) = π s) (s : State) (task : Nat)
    (l : List Nat) : π (s.takeAll task l) = π s :=
  foldl_keeps π (fun s c => h s c _) l s

theorem Core.take_take (c : Core) (task : Nat) : (c.take task).take task = c.take task := by
  have twice : ∀ o : Option Group, (o.map (fun g => if g.gid.task = task then { g with preempt := true } else g)).map
      (fun g => if g.gid.task = task then { g with preempt := true } else g) =
      o.map (fun g => if g.gid.task = task then { g with preempt := true } else g) := by
    rintro (- | g)
    · rfl
    · by_cases mine : g.gid.task = task <;> simp [mine]
  simp only [Core.take, List.map_map]
  congr 1
  exact List.map_congr_left fun o _ => twice o

theorem State.takeAll_core_other {task c : Nat} {l : List Nat} (absent : c ∉ l) (s : State) : (s.takeAll task l).core c = s.core c := by
  induction l generalizing s with
  | nil => rfl
  | cons d l ih =>
    obtain ⟨ne, rest⟩ := not_or.mp (mt List.mem_cons.mpr absent)
    exact (ih rest _).trans (State.core_setCore_other s d c _ ne)

/-- A core that is taken more than once is taken as if once. -/
theorem State.takeAll_core {s : State} {task c : Nat} {l : List Nat} (mem : c ∈ l) (hc : c < s.cores.length) :
    (s.takeAll task l).core c = (s.core c).take task := by
  induction l generalizing s with
  | nil => cases mem
  | cons d l ih =>
    have lt : c < (s.setCore d ((s.core d).take task)).cores.length := by simpa using hc
    by_cases later : c ∈ l
    · refine (ih (s := s.setCore d ((s.core d).take task)) later lt).trans ?_
      by_cases same : c = d
      · subst same
        rw [State.core_setCore_same s c _ hc, Core.take_take]
      · rw [State.core_setCore_other s d c _ same]
    · obtain rfl : c = d := (List.mem_cons.mp mem).resolve_right later
      exact (State.takeAll_core_other later _).trans (State.core_setCore_same s c _ hc)

theorem Core.take_slot {c : Core} {task k : Nat} {g : Group} (hg : c.slots.getD k none = some g) :
    (c.take task).slots.getD k none = some (if g.gid.task = task then { g with preempt := true } else g) := by
  rw [List.getD_eq_getElem?_getD] at hg ⊢
  cases h : c.slots[k]? with
  | none => simp [h] at hg
  | some o =>
    obtain rfl : o = some g := by simpa [h] using hg
    simp [Core.take, h]

/-- The cores that a decision takes: of a pre-empted outing every core. -/
def State.takenBy (s : State) (v : Task) (cores : List Nat) : List Nat :=
  if v.outing then (List.range 160).filter (fun c => (s.core c).task == some v.id) else cores

/-- The state once a task's cores are taken for another. -/
def State.preemptFor (s : State) (q v : Task) (cores : List Nat) : State :=
  ((s.takeAll v.id (s.takenBy v cores)).setTask { v with state := .preempted, wasPreempted := true }).setTask
    { q with victims := insertNat q.victims v.id }

section
variable {s : State} {task victim : Nat} {q v : Task} {cores : List Nat}

theorem exec_preemptionDecision_takes (hq : s.task task = some q) (hv : s.task victim = some v) (serving : s.serving = true) (ne : q.id ≠ v.id)
    (waits : s.waits q = true) (may : s.mayAdmit q = true) (right : s.takesRight q v cores = true) :
    exec (.preemptionDecision task victim cores) s = .next (s.preemptFor q v cores) := by
  have goes : (!s.serving || q.id == v.id || !s.waits q || !s.mayAdmit q || !s.takesRight q v cores) = false := by
    simp [serving, ne, waits, may, right]
  simp only [exec_preemptionDecision, execPreemptionDecision, hq, hv, goes]
  rfl

theorem exec_preemptionDecision_of_wrong (hq : s.task task = some q) (hv : s.task victim = some v)
    (wrong : s.mayAdmit q = false ∨ s.takesRight q v cores = false) : exec (.preemptionDecision task victim cores) s = .next s := by
  have stays : (!s.serving || q.id == v.id || !s.waits q || !s.mayAdmit q || !s.takesRight q v cores) = true := by
    rcases wrong with held | wrong
    · simp [held]
    · simp [wrong]
  simp only [exec_preemptionDecision, execPreemptionDecision, hq, hv, stays]
  rfl

theorem State.mem_takenBy {all : List Nat} (plain : v.outing = false → all = cores)
    (whole : v.outing = true → ∀ c, c ∈ all ↔ (c < 160 ∧ (s.core c).task = some v.id)) (c : Nat) :
    c ∈ s.takenBy v cores ↔ c ∈ all := by
  cases h : v.outing with
  | false => simp [State.takenBy, h, plain h]
  | true => simp [State.takenBy, h, whole h]

/-- A core that runs a task exists. -/
theorem State.core_lt_of_task {c k : Nat} (h : (s.core c).task = some k) : c < s.cores.length :=
  State.core_lt_of_ne_reset fun reset => by rw [reset] at h; cases h

theorem State.core_lt_of_takenBy (mine : ∀ c ∈ cores, c ∈ s.takable q v) {c : Nat} (h : c ∈ s.takenBy v cores) : c < s.cores.length := by
  unfold State.takenBy at h
  split at h
  · exact State.core_lt_of_task (beq_iff_eq.mp (List.mem_filter.mp h).2)
  · have takable := (List.mem_filter.mp (mine c h)).2
    simp only [Bool.and_eq_true] at takable
    obtain ⟨⟨⟨runs, -⟩, -⟩, -⟩ := takable
    exact State.core_lt_of_task (beq_iff_eq.mp runs)

theorem State.preemptFor_victim (hv : s.task victim = some v) (ne : q.id ≠ v.id) :
    (s.preemptFor q v cores).task victim = some { v with state := .preempted, wasPreempted := true } := by
  have named := (State.mem_of_task hv).2
  refine (State.task_setTask_other (t := { q with victims := insertNat q.victims v.id }) _ (fun same => ne (same.trans named.symm))).trans ?_
  exact State.task_setTask_same ((State.task_of_tasks (State.takeAll_keeps State.tasks (fun _ _ _ => rfl) ..) victim).trans hv) named

theorem State.preemptFor_task (hq : s.task task = some q) (ne : q.id ≠ v.id) :
    (s.preemptFor q v cores).task task = some { q with victims := insertNat q.victims v.id } := by
  have named := (State.mem_of_task hq).2
  refine State.task_setTask_same (x := q) ?_ named
  refine (State.task_setTask_other (t := { v with state := .preempted, wasPreempted := true }) _ (fun same => ne (named.trans same.symm))).trans ?_
  exact (State.task_of_tasks (State.takeAll_keeps State.tasks (fun _ _ _ => rfl) ..) task).trans hq

theorem State.preemptFor_core (s : State) (q v : Task) (cores : List Nat) (c : Nat) :
    (s.preemptFor q v cores).core c = (s.takeAll v.id (s.takenBy v cores)).core c := rfl
end

/-! ### Landing (13 R333; log 67) -/

theorem Group.land_keeps (g : Group) : g.land.landed = true ∧ g.land.n = g.n ∧ g.land.e = g.e ∧ g.land.vregs = g.vregs := by
  unfold Group.land
  dsimp only
  split <;> exact ⟨rfl, rfl, rfl, rfl⟩

/-- A group that is not stopped lands at its base PC, every part not yet issued to be fetched again. -/
theorem Group.land_of_running {g : Group} (h : g.stop = none) : g.land.pc = g.basePC ∧ ∀ k, g.land.slotQ k = [] := by
  have running : g.lapse.stop.isSome = false := by simp [Group.lapse, h]
  unfold Group.land
  dsimp only
  rw [running]
  exact ⟨rfl, fun k => by cases k <;> rfl⟩

theorem exec_preemptionLanding_lands {s : State} {r : GRef} {g : Group} (hg : s.group r = some g) (serving : s.serving = true) (slot : r.slot < 8)
    (lands : landsHere s r g = true) (header : g.stop = none → g.headerHolds = false) :
    exec (.preemptionLanding r) s = .next ((s.setGroup r g.land.haltWicks).setCore r.core
      (((s.setGroup r g.land.haltWicks).core r.core).unrequest r.slot)) := by
  have free : (g.stop.isNone && g.headerHolds) = false := by
    cases h : g.stop with
    | none => simp [header h]
    | some x => rfl
  have goes : (!s.serving || decide (8 ≤ r.slot) || !landsHere s r g || (g.stop.isNone && g.headerHolds)) = false := by
    simp [serving, slot, lands, free]
  simp only [exec_preemptionLanding, execPreemptionLanding, hg, goes]
  rfl

/-! ### Saving (13 R334; log 96, log 97) -/

theorem exec_preemptionSave_saves {s : State} {core t : Nat} (task : (s.core core).task = some t) (serving : s.serving = true)
    (taken : (s.core core).taken = true)
    (landed : ∀ g ∈ (s.core core).slots.filterMap id, g.landed = true ∧ (s.core core).quiet g = true) :
    exec (.preemptionSave core) s = .next (s.setCore core { s.core core with
      slots := List.replicate 8 none
      saved := (s.core core).saved ++ ((s.core core).slots.filterMap id).map Group.stow
      savedPad := (s.core core).savedPad ++ [(s.core core).padImage t]
      l1 := []
      task := none
      taken := false
      rows := []
      reqs := []
      runPanes := [] }) := by
  have all : ((s.core core).slots.filterMap id).all (fun g => g.landed && (s.core core).quiet g) = true :=
    List.all_eq_true.mpr fun g hg => by rw [(landed g hg).1, (landed g hg).2]; rfl
  have goes : (!s.serving || !(s.core core).taken ||
      !((s.core core).slots.filterMap id).all (fun g => g.landed && (s.core core).quiet g)) = false := by
    rw [serving, taken, all]; rfl
  rw [exec_preemptionSave, execPreemptionSave]
  dsimp only
  rw [task]
  dsimp only
  rw [goes]
  rfl

/-! ### Coming back (13 R336, 08 R221) -/

/-- The saved groups of a task on a core. -/
def Core.savedOf (c : Core) (task : Nat) : List Group := c.saved.filter (fun g => g.gid.task == task)

/-- Groups in the order of their classes. -/
def byClass (n : Nat) (l : List Group) : List Group := (List.range n).flatMap (fun k => l.filter (fun g => g.cls == k))

theorem mem_byClass {n : Nat} {l : List Group} {g : Group} : g ∈ byClass n l ↔ g ∈ l ∧ g.cls < n := by
  simp [byClass, and_comm]

theorem length_filter_cls_succ (n : Nat) (l : List Group) :
    (l.filter (fun g => decide (g.cls < n + 1))).length =
      (l.filter (fun g => decide (g.cls < n))).length + (l.filter (fun g => g.cls == n)).length := by
  induction l with
  | nil => rfl
  | cons g l ih =>
    have split_ : decide (g.cls < n + 1) = (decide (g.cls < n) || g.cls == n) := by
      rw [Bool.eq_iff_iff]
      simp [Nat.le_iff_lt_or_eq]
    by_cases less : g.cls < n
    · have other : (g.cls == n) = false := beq_eq_false_iff_ne.mpr (Nat.ne_of_lt less)
      simp only [List.filter_cons, split_, less, other, decide_true, Bool.true_or, if_true, List.length_cons, ih, Bool.false_eq_true, if_false]
      omega
    · cases same : g.cls == n
      · simp only [List.filter_cons, split_, less, same, decide_false, Bool.or_false, Bool.false_eq_true, if_false, ih]
      · simp only [List.filter_cons, split_, less, same, decide_false, Bool.false_or, Bool.false_eq_true, if_true, if_false, List.length_cons, ih]
        omega

theorem length_byClass (n : Nat) (l : List Group) : (byClass n l).length = (l.filter (fun g => decide (g.cls < n))).length := by
  induction n with
  | zero => simp [byClass]
  | succ n ih =>
    have grows : byClass (n + 1) l = byClass n l ++ l.filter (fun g => g.cls == n) := by
      simp [byClass, List.range_succ]
    rw [grows, List.length_append, ih, length_filter_cls_succ]

/-- A saved group as it is seated again. -/
def State.seatedAgain (s : State) (core : Nat) (g : Group) : Group := { (s.reissue core g).goWicks with landed := false }

/-- The groups of a task as they are seated again on a core, in the order of their slots. -/
def State.returning (s : State) (task core : Nat) : List Group := (byClass 4 ((s.core core).savedOf task)).map (s.seatedAgain core)

/-- A group that is seated again asks for its panes (08 R221). -/
def Core.askAgain (now : Nat) (c : Core) (x : Group × Nat) : Core := if x.1.lm = 0#4 then c else c.request x.2 x.1.lm now

/-- A core to which a task comes back. -/
def Core.comeBack (c : Core) (t : Task) (task : Nat) (p : PadImage) (gs : List Group) : Core :=
  { ({ c with
      bnd0 := t.launch.bnd0
      bnd1 := t.launch.bnd1
      bnd2 := t.launch.bnd2
      task := some task
      taken := false
      rows := (c.savedOf task).map (fun g : Group => g.wb) ++ c.windowsFor t.launch (t.launch.seats - (c.savedOf task).length)
      l1 := []
      saved := c.saved.filter (fun g => g.gid.task != task)
      savedPad := c.savedPad.filter (fun x => x.task != task) } : Core).restorePad p with
    slots := (List.range 8).map (fun k => gs[k]?) }

/-- A request is pending for a slot's group. -/
def Core.asks (c : Core) (slot : Nat) : Prop := ∃ q ∈ c.reqs, q.slot = slot ∧ q.wick = none

theorem Core.request_asks (c : Core) (slot : Nat) (panes : BitVec 4) (now : Nat) : (c.request slot panes now).asks slot := by
  unfold Core.request
  split
  · rename_i pending
    obtain ⟨q, mem, here⟩ := List.any_eq_true.mp pending
    exact ⟨q, mem, by simpa using here⟩
  · exact ⟨⟨slot, none, panes, now, false, []⟩, by simp, rfl, rfl⟩

theorem Core.asks_request {c : Core} {k : Nat} (h : c.asks k) (slot : Nat) (panes : BitVec 4) (now : Nat) : (c.request slot panes now).asks k := by
  obtain ⟨q, mem, here⟩ := h
  unfold Core.request
  split
  · exact ⟨q, mem, here⟩
  · exact ⟨q, List.mem_append_left _ mem, here⟩

theorem Core.askAgain_keeps {γ : Type} (π : Core → γ) (h : ∀ (c : Core) l, π { c with reqs := l } = π c) (now : Nat) (c : Core)
    (x : Group × Nat) : π (c.askAgain now x) = π c := by
  unfold Core.askAgain Core.request
  split
  · rfl
  · split
    · rfl
    · exact h c _

theorem Core.asks_askAgain {c : Core} {k : Nat} (h : c.asks k) (now : Nat) (x : Group × Nat) : (c.askAgain now x).asks k := by
  unfold Core.askAgain
  split
  · exact h
  · exact Core.asks_request h ..

theorem Core.asks_askAll {c : Core} {k : Nat} (h : c.asks k) (now : Nat) (l : List (Group × Nat)) : (l.foldl (Core.askAgain now) c).asks k := by
  induction l generalizing c with
  | nil => exact h
  | cons x l ih => exact ih (Core.asks_askAgain h now x)

/-- Every group that is seated again with panes to its mask asks for them. -/
theorem Core.askAll_asks {now : Nat} {x : Group × Nat} {l : List (Group × Nat)} (mem : x ∈ l) (panes : x.1.lm ≠ 0#4) (c : Core) :
    (l.foldl (Core.askAgain now) c).asks x.2 := by
  induction l generalizing c with
  | nil => cases mem
  | cons y l ih =>
    rcases List.mem_cons.mp mem with rfl | later
    · have asked : (c.askAgain now x).asks x.2 := by
        rw [Core.askAgain, if_neg panes]
        exact c.request_asks ..
      exact Core.asks_askAll asked now l
    · exact ih later _

theorem foldl_fixed_of_mem {α β : Type} {f : α → β → α} {a : α} {l : List β} (h : ∀ x ∈ l, f a x = a) : l.foldl f a = a := by
  induction l with
  | nil => rfl
  | cons x l ih =>
    rw [List.foldl_cons, h x List.mem_cons_self]
    exact ih fun y hy => h y (List.mem_cons_of_mem x hy)

/-- A group that lost nothing and is not stopped has nothing to take up as it is seated. -/
theorem State.seat_settled {s : State} {r : GRef} (h : ∀ g, s.group r = some g → g.lost = false ∧ g.stop = none) :
    (s.stopLost r).lateAnswer r = s := by
  cases hg : s.group r with
  | none => simp [State.stopLost, State.lateAnswer, hg]
  | some g =>
    obtain ⟨whole, running⟩ := h g hg
    simp [State.stopLost, State.lateAnswer, hg, whole, running]

/-- The state with a task's groups seated again on a core. -/
def State.seatAgain (s : State) (t : Task) (task core : Nat) (p : PadImage) : State :=
  s.setCore core ((s.returning task core).zipIdx.foldl (Core.askAgain s.clk) ((s.core core).comeBack t task p (s.returning task core)))

/-- Some core still keeps a part of a task, or is still to be vacated by it. -/
def State.partsLeft (s : State) (task : Nat) : Bool :=
  s.cores.any (fun x => x.savedPad.any (fun p => p.task == task) || (x.task == some task && x.taken))

/-- A task of which nothing is left to come back runs again (13 R329). -/
def State.runAgain (s : State) (t : Task) (task : Nat) : State :=
  if s.partsLeft task then s else s.setTask { t with state := .running, victims := [] }

section
variable {s : State} {task core : Nat} {t : Task} {p : PadImage}

theorem State.runAgain_cores (s : State) (t : Task) (task : Nat) : (s.runAgain t task).cores = s.cores := by
  unfold State.runAgain
  split <;> rfl

theorem State.runAgain_task (ht : s.task task = some t) (none_ : s.partsLeft task = false) :
    (s.runAgain t task).task task = some { t with state := .running, victims := [] } := by
  rw [State.runAgain, none_, if_neg Bool.false_ne_true]
  exact State.task_setTask_same ht (State.mem_of_task ht).2

theorem State.seatAgain_core (hc : core < s.cores.length) : (s.seatAgain t task core p).core core =
    (s.returning task core).zipIdx.foldl (Core.askAgain s.clk) ((s.core core).comeBack t task p (s.returning task core)) :=
  State.core_setCore_same s core _ hc

theorem State.seatAgain_slots (hc : core < s.cores.length) :
    ((s.seatAgain t task core p).core core).slots = (List.range 8).map (fun k => (s.returning task core)[k]?) := by
  rw [State.seatAgain_core hc]
  exact foldl_keeps Core.slots (Core.askAgain_keeps _ (fun _ _ => rfl) _) _ _

theorem State.seatAgain_group (hc : core < s.cores.length) {k : Nat} (hk : k < 8) :
    (s.seatAgain t task core p).group ⟨core, k⟩ = (s.returning task core)[k]? := by
  rw [State.group, if_pos hk, State.seatAgain_slots hc]
  simp [List.getD_eq_getElem?_getD, hk]

theorem State.of_mem_returning {h : Group} (mem : h ∈ s.returning task core) :
    ∃ g ∈ (s.core core).saved, g.gid.task = task ∧ h = s.seatedAgain core g := by
  obtain ⟨g, saved, rfl⟩ := List.mem_map.mp mem
  obtain ⟨keeps, mine⟩ := List.mem_filter.mp (mem_byClass.mp saved).1
  exact ⟨g, keeps, beq_iff_eq.mp mine, rfl⟩

theorem State.mem_returning {g : Group} (saved : g ∈ (s.core core).saved) (mine : g.gid.task = task) (cls : g.cls < 4) :
    s.seatedAgain core g ∈ s.returning task core :=
  List.mem_map_of_mem (mem_byClass.mpr ⟨List.mem_filter.mpr ⟨saved, beq_iff_eq.mpr mine⟩, cls⟩)

theorem State.length_returning (s : State) (task core : Nat) : (s.returning task core).length ≤ (s.core core).saved.length := by
  rw [State.returning, List.length_map, length_byClass]
  exact (List.length_filter_le ..).trans (List.length_filter_le ..)

theorem exec_resumption_seats (ht : s.task task = some t) (pad : (s.core core).savedPad.find? (fun p => p.task == task) = some p)
    (serving : s.serving = true) (preempted : t.state = .preempted) (may : s.mayAdmit t = true) (first : s.classFirst t = true)
    (idle : (s.core core).task = none) (free : ∀ x ∈ (s.core core).slots, x = none)
    (fits : (∀ g ∈ (s.core core).saved, g.gid.task ≠ task) → (s.core core).rowsFit t.launch = true)
    (whole : ∀ g ∈ (s.core core).saved, s.reissueReady core g = true ∧ g.lost = false ∧ g.stop = none ∧ g.cls < 4)
    (hc : core < s.cores.length) : exec (.resumption task core) s = .next ((s.seatAgain t task core p).runAgain t task) := by
  have clear : (s.core core).slots.all (·.isNone) = true := List.all_eq_true.mpr fun x hx => by rw [free x hx]; rfl
  have ready : (byClass 4 ((s.core core).savedOf task)).all (s.reissueReady core) = true := by
    refine List.all_eq_true.mpr fun g hg => (whole g ?_).1
    exact (List.mem_filter.mp (mem_byClass.mp hg).1).1
  have room : (((s.core core).savedOf task).isEmpty && !(s.core core).rowsFit t.launch) = false := by
    cases empty : ((s.core core).savedOf task).isEmpty with
    | false => rfl
    | true =>
      have none_ : ∀ g ∈ (s.core core).saved, g.gid.task ≠ task := by
        simpa [Core.savedOf] using empty
      simp [fits none_]
  have goes : (!s.serving || t.state != .preempted || !s.mayAdmit t || !s.classFirst t || (s.core core).task.isSome ||
      !(s.core core).slots.all (·.isNone) || !(byClass 4 ((s.core core).savedOf task)).all (s.reissueReady core) ||
      (((s.core core).savedOf task).isEmpty && !(s.core core).rowsFit t.launch)) = false := by
    rw [serving, preempted, may, first, idle, clear, ready, room]
    rfl
  have settled : (List.range 8).foldl (fun s k => (s.stopLost ⟨core, k⟩).lateAnswer ⟨core, k⟩) ((s.seatAgain t task core p).runAgain t task) =
      (s.seatAgain t task core p).runAgain t task := by
    refine foldl_fixed_of_mem fun k hk => State.seat_settled fun h hh => ?_
    rw [State.group_of_cores (State.runAgain_cores _ t task), State.seatAgain_group hc (List.mem_range.mp hk)] at hh
    obtain ⟨g, saved, -, rfl⟩ := State.of_mem_returning (List.mem_of_getElem? hh)
    obtain ⟨-, kept, running, -⟩ := whole g saved
    exact ⟨kept, running⟩
  rw [exec_resumption, execResumption, ht, pad]
  dsimp only
  rw [← settled]
  exact if_neg (Bool.eq_false_iff.mp goes)
end

end Sys2Proof.Machine

namespace Sys2Proof.Claims

open Sys2Proof.Machine

/-- Settles O54: a decision's cores are each taken once whatever their number, a landing group's parts are discarded, and a task that comes back has
its groups in the slots of their classes' order. -/
theorem preemptionEvents : Obligations.PreemptionEvents := by
  refine ⟨?_, ?_, ?_, ?_, ?_, ?_, ?_, ?_, ?_, ?_⟩
  · intro s r g hg
    exact ⟨fun ready ⟨t, since, long⟩ => exec_issueAgePromotion_of_aged hg ready since long, exec_issueAgePromotion_of_young hg⟩
  · intro s n r g hg slot clocks
    rw [State.pass_group_eq hg slot clocks, Group.ages]
    exact ⟨fun idle => by rw [idle]; rfl, fun ready => by rw [ready]; rfl⟩
  · intro s core slot wk g q hw hq
    exact Group.ripen_seq hw hq
  · intro s r g t hg yielded long
    exact exec_yieldExpiry_of_expired hg yielded long
  · intro s q w
    exact s.preempts_iff q w
  · intro s task victim cores others all ws q v hq hv serving ne waits may short some_ mine enough mem others_eq suffices_ least plain whole
    subst others_eq
    have right := State.takesRight_of_enough short some_ mine enough mem suffices_ least
    refine ⟨_, exec_preemptionDecision_takes hq hv serving ne waits may right, State.preemptFor_victim hv ne, State.preemptFor_task hq ne,
      fun c => ?_⟩
    rw [State.preemptFor_core, ← State.mem_takenBy plain whole c]
    refine ⟨fun absent => State.takeAll_core_other absent s, fun taken => ?_⟩
    rw [State.takeAll_core taken (State.core_lt_of_takenBy mine taken)]
    exact ⟨rfl, fun k g => Core.take_slot⟩
  · intro s task victim cores q v hq hv alone wrong
    refine exec_preemptionDecision_of_wrong hq hv ?_
    rcases wrong with enough | weak | held
    · exact .inr (State.not_takesRight_of_suffices enough)
    · exact .inr (State.not_takesRight_of_not_preempts (by rwa [(State.mem_of_task hv).2]) weak)
    · exact .inl held
  · intro s r g hg serving slot lands header
    obtain ⟨landed, n, e, vregs⟩ := g.land_keeps
    refine ⟨_, g.land.haltWicks, exec_preemptionLanding_lands hg serving slot lands header, ?_, landed, n, e, vregs, Group.land_of_running, ?_⟩
    · rw [State.unrequest_group, State.group_setGroup_same s r _ g hg]
    · have hc : r.core < (s.setGroup r g.land.haltWicks).cores.length := by simpa using State.core_lt_of_group s r g hg
      rw [State.core_setCore_same _ _ _ hc]
      rintro q mem ⟨mine, own⟩
      have kept := (List.mem_filter.mp mem).2
      simp [mine, own] at kept
  · intro s core t task serving taken landed
    exact exec_preemptionSave_saves task serving taken landed
  · intro s task core t p ht pad serving preempted may first idle free fits whole hc few
    have after : ((s.seatAgain t task core p).runAgain t task).core core = (s.seatAgain t task core p).core core :=
      State.core_of_cores (State.runAgain_cores ..) core
    refine ⟨_, exec_resumption_seats ht pad serving preempted may first idle free fits whole hc, ?_, ?_, ?_, fun g saved mine => ?_,
      fun gone => ?_⟩
    · rw [after, State.seatAgain_core hc]
      exact foldl_keeps Core.task (Core.askAgain_keeps _ (fun _ _ => rfl) _) _ _
    · rw [after, State.seatAgain_core hc]
      exact foldl_keeps Core.taken (Core.askAgain_keeps _ (fun _ _ => rfl) _) _ _
    · rw [after, State.seatAgain_core hc]
      exact foldl_keeps Core.saved (Core.askAgain_keeps _ (fun _ _ => rfl) _) _ _
    · obtain ⟨k, hk, found⟩ := List.mem_iff_getElem.mp (State.mem_returning saved mine (whole g saved).2.2.2)
      have slot : k < 8 := by have := s.length_returning task core; omega
      have here : (s.returning task core)[k]? = some (s.seatedAgain core g) := by rw [List.getElem?_eq_getElem hk, found]
      refine ⟨k, s.seatedAgain core g, slot, ?_, rfl, rfl, rfl, rfl, rfl, rfl, fun panes => ?_⟩
      · rw [State.group_of_cores (State.runAgain_cores _ t task), State.seatAgain_group hc slot, here]
      · rw [after, State.seatAgain_core hc]
        exact Core.askAll_asks (x := (s.seatedAgain core g, k)) (List.mem_zipIdx_iff_getElem?.mpr here) panes _
    · refine ⟨_, State.runAgain_task ht ?_, rfl⟩
      rw [State.runAgain_cores] at gone
      rw [← Bool.not_eq_true, State.partsLeft, List.any_eq_true]
      rintro ⟨x, mem, left⟩
      obtain ⟨pads, vacated⟩ := gone x mem
      simp only [Bool.or_eq_true, List.any_eq_true, Bool.and_eq_true, beq_iff_eq] at left
      rcases left with ⟨p, kept, same⟩ | taken
      · exact pads p kept same
      · exact vacated taken

end Sys2Proof.Claims
end

section
/-!
PROOFS. Overlay loads, the arrivals and the end of a SNUFF, and lamp tests (13 R337 to R339, R345, R346; 14 R385; log 58, log 59): a group's first
fetch and its later ones, what a cut leaves of a core's groups, and what each arrival leaves of the record of its SNUFF.
-/

namespace Sys2Proof.Machine

/-! ### Overlay loads (13 R337 to R339; log 59) -/

section
variable {s : State} {r : GRef} {g : Group} {t : Task} (hg : s.group r = some g) (ht : s.task g.gid.task = some t) (serving : s.serving = true)
  (slot : r.slot < 8) (free : g.dispatchHeld = false) (calm : g.asyncDue = false) (fetches : ({ g with started := true } : Group).fetches = true)
include hg ht serving slot free calm fetches

/-- A fetch that goes on either checks the image, takes over its check, or loads the next overlay. -/
theorem exec_overlayLoad_fetches : exec (.overlayLoad r) s =
    if !g.started then
      match (s.core r.core).images.find? (fun i => i.image == t.launch.image && i.asid == g.asid) with
      | some i => .next (s.setGroup r { g with started := true, trap := { g.trap with vec := word i.vec } })
      | none => .next (s.checkImage r g t)
    else if (s.residentFor r g).isSome then .next s
    else .next (s.loadOverlay r g t.launch.image) := by
  have goes : (!s.serving || decide (8 ≤ r.slot) || g.dispatchHeld || g.asyncDue || !({ g with started := true } : Group).fetches) = false := by
    simp [serving, slot, free, calm, fetches]
  rw [exec_overlayLoad, execOverlayLoad, hg]
  dsimp only
  rw [ht]
  exact if_neg (Bool.eq_false_iff.mp goes)

theorem exec_overlayLoad_of_checked {i : ImageTag} (first : g.started = false)
    (checked : (s.core r.core).images.find? (fun i => i.image == t.launch.image && i.asid == g.asid) = some i) :
    exec (.overlayLoad r) s = .next (s.setGroup r { g with started := true, trap := { g.trap with vec := word i.vec } }) := by
  rw [exec_overlayLoad_fetches hg ht serving slot free calm fetches, first, checked]
  rfl

theorem exec_overlayLoad_of_unchecked (first : g.started = false)
    (unchecked : (s.core r.core).images.find? (fun i => i.image == t.launch.image && i.asid == g.asid) = none) :
    exec (.overlayLoad r) s = .next (s.checkImage r g t) := by
  rw [exec_overlayLoad_fetches hg ht serving slot free calm fetches, first, unchecked]
  rfl

theorem exec_overlayLoad_of_absent (later : g.started = true) (absent : s.residentFor r g = none) :
    exec (.overlayLoad r) s = .next (s.loadOverlay r g t.launch.image) := by
  rw [exec_overlayLoad_fetches hg ht serving slot free calm fetches, later, absent]
  rfl
end

section
variable {s : State} {r : GRef} {g : Group}

theorem State.fetchRead_of_ok {va n : Nat} {l : List Byte} (h : s.homeRead (.core r.core) g.asid va n = .ok l) (k : List Byte → State) :
    s.fetchRead r g va n k = k l := by
  rw [State.fetchRead, h]

/-- A trap of a fetch for what the image holds is taken once every earlier part has issued. -/
theorem State.fetchTrap_illegal (issued_ : g.allIssued = true) (header : g.headerHolds = false) (info addr base : Nat) :
    s.fetchTrap r g 4 info addr base = trapBundle s r g 4 info addr base := by
  rw [State.fetchTrap, issued_, header]
  rfl

theorem State.checkImage_of_bad {t : Task} {h : List Byte} (read : s.homeRead (.core r.core) g.asid t.launch.image 32 = .ok h)
    (bad : headerBad h = true) (issued_ : g.allIssued = true) (header : g.headerHolds = false) :
    s.checkImage r g t = trapBundle s r { g with trap := { g.trap with vec := 0#64 } } 4 0 0 t.launch.image := by
  refine (State.fetchRead_of_ok read _).trans ?_
  rw [if_pos bad]
  exact State.fetchTrap_illegal (g := { g with trap := { g.trap with vec := 0#64 } }) issued_ header 0 0 _

theorem State.dropBad_of_good {image k : Nat}
    (good : ∀ o ∈ (s.core r.core).store, ¬ (o.bad = true ∧ o.image = image ∧ o.asid = g.asid ∧ o.index = k)) :
    s.dropBad r g image k = s := by
  refine if_neg fun some_ => ?_
  obtain ⟨o, mem, old⟩ := List.any_eq_true.mp some_
  simp only [Bool.and_eq_true, beq_iff_eq] at old
  obtain ⟨⟨⟨bad, same⟩, asid⟩, index⟩ := old
  exact good o mem ⟨bad, same, asid, index⟩

theorem State.loadOverlay_of_found {image k : Nat} {h tb bs : List Byte} {x : Nat × Nat} {st : List Overlay}
    (header : s.homeRead (.core r.core) g.asid image 32 = .ok h)
    (table : s.homeRead (.core r.core) g.asid (image + hdrField h 16 4) (16 * hdrField h 2 2) = .ok tb)
    (found : (List.range (overlaysOf tb).length).find? (fun k => image + ((overlaysOf tb).getD k (0, 0)).1 ≤ g.pc &&
      decide (g.pc + 32 ≤ image + ((overlaysOf tb).getD k (0, 0)).1 + ((overlaysOf tb).getD k (0, 0)).2)) = some k)
    (hx : x = (overlaysOf tb).getD k (0, 0)) (bytes : s.homeRead (.core r.core) g.asid (image + x.1) x.2 = .ok bs)
    (good : ∀ o ∈ (s.core r.core).store, ¬ (o.bad = true ∧ o.image = image ∧ o.asid = g.asid ∧ o.index = k))
    (room : makeRoom (s.evictable r.core) x.2 (s.core r.core).store.length (s.core r.core).store = some st) :
    s.loadOverlay r g image = s.setCore r.core { s.core r.core with
      store := st ++ [⟨image, g.asid, k, image + x.1, bs, s.clk, false, false⟩] } := by
  subst hx
  refine (State.fetchRead_of_ok header _).trans ((State.fetchRead_of_ok table _).trans ?_)
  dsimp only
  rw [found]
  dsimp only
  rw [State.dropBad_of_good good, State.fetchRead_of_ok bytes, room]
end

/-! ### The record of a SNUFF -/

theorem State.id_of_snuffAt {s : State} {id : Nat} {u : Snuff} (h : s.snuffAt id = some u) : u.id = id := by
  simpa using List.find?_some h

theorem State.snuffAt_of_snuffs {s t : State} (h : t.snuffs = s.snuffs) (id : Nat) : t.snuffAt id = s.snuffAt id := by
  rw [State.snuffAt, State.snuffAt, h]

/-- A record written back is found under its identifier, where the state between kept the records. -/
theorem State.snuffAt_setSnuff {s t : State} {id : Nat} {u v : Snuff} (h : s.snuffAt id = some u) (kept : t.snuffs = s.snuffs) (hv : v.id = u.id) :
    (t.setSnuff v).snuffAt id = some v := by
  have named : v.id = id := hv.trans (State.id_of_snuffAt h)
  refine (find?_replace_same (key := Snuff.id) (fun y => by simp) v named t.snuffs).trans ?_
  exact congrArg (Option.map _) ((State.snuffAt_of_snuffs kept id).trans h)

@[simp] theorem State.setSnuff_group (s : State) (u : Snuff) (r : GRef) : (s.setSnuff u).group r = s.group r := State.group_of_cores rfl r

/-! ### A group that is cut (13 Table 13.7) -/

/-- What a cut leaves of a group: no load, and no part to issue. -/
def Group.cutShort (g : Group) : Prop := g.snuffed = true ∧ g.loads = [] ∧ ∀ k, g.slotQ k = []

theorem Group.cut_cutShort (g : Group) : g.cut.cutShort := ⟨rfl, rfl, fun k => by cases k <;> rfl⟩

theorem Group.settleProds_cutShort {g : Group} (h : g.cutShort) (c : Core) : (g.settleProds c).cutShort := by
  obtain ⟨snuffed, loads, parts⟩ := h
  exact ⟨snuffed, loads, fun k => (by cases k <;> rfl : (g.settleProds c).slotQ k = g.slotQ k).trans (parts k)⟩

theorem Group.setWick_cutShort {g : Group} (h : g.cutShort) (wk : Nat) (w : Wick) : (g.setWick wk w).cutShort := by
  obtain ⟨snuffed, loads, parts⟩ := h
  exact ⟨snuffed, loads, fun k => (by cases k <;> rfl : (g.setWick wk w).slotQ k = g.slotQ k).trans (parts k)⟩

theorem Group.settled_cutShort {g : Group} (h : g.cutShort) : g.settled.cutShort := by
  obtain ⟨snuffed, loads, parts⟩ := h
  exact ⟨snuffed, loads, fun k => (by cases k <;> rfl : g.settled.slotQ k = g.slotQ k).trans (parts k)⟩

/-- From one state to another the group of a slot is cut, every other group and the records of the SNUFFs stay as they are. -/
def State.cutsAt (r : GRef) (s t : State) : Prop :=
  t.snuffs = s.snuffs ∧ (∀ q, q ≠ r → t.group q = s.group q) ∧ ∃ h, t.group r = some h ∧ h.cutShort

theorem State.cutsAt.trans {r : GRef} {s t u : State} (h : s.cutsAt r t) (k : t.cutsAt r u) : s.cutsAt r u := by
  obtain ⟨snuffs, others, -⟩ := h
  obtain ⟨snuffs', others', cut⟩ := k
  exact ⟨snuffs'.trans snuffs, fun q ne => (others' q ne).trans (others q ne), cut⟩

section
variable {s : State} {r : GRef} {g₀ g : Group} (h₀ : s.group r = some g₀) (h : g.cutShort)
include h₀ h

theorem State.setGroup_cutsAt : s.cutsAt r (s.setGroup r g) :=
  ⟨s.setGroup_snuffs r g, fun q ne => s.group_setGroup_other r q g ne, g, s.group_setGroup_same r g g₀ h₀, h⟩

theorem State.stopWick_cutsAt (wk status ecode : Nat) (fva : Option (Nat × Bool)) : s.cutsAt r (s.stopWick r g wk status ecode fva) := by
  refine ⟨by simp [State.stopWick], fun q ne => ?_, _, State.stopWick_group h₀ g wk status ecode fva, Group.setWick_cutShort h ..⟩
  exact (State.releaseRun_group _ _ _ _ q).trans (s.group_setGroup_other r q _ ne)

theorem State.boundary_cutsAt (wk : Nat) : s.cutsAt r (s.boundary r g wk) := by
  unfold State.boundary
  dsimp only
  split
  · exact State.setGroup_cutsAt h₀ h
  · split
    · exact State.setGroup_cutsAt h₀ h
    · split
      · exact State.stopWick_cutsAt h₀ h ..
      · exact State.stopWick_cutsAt h₀ h ..
      · exact State.setGroup_cutsAt h₀ h
end

section
variable {s : State} {r : GRef} {g : Group} (hg : s.group r = some g) (h : g.cutShort)
include hg h

theorem State.cutWick_cutsAt (wk : Nat) : s.cutsAt r (s.cutWick r wk) := by
  unfold State.cutWick
  rw [hg]
  dsimp only
  split
  · exact State.boundary_cutsAt hg (Group.setWick_cutShort h ..) wk
  · split
    · exact State.stopWick_cutsAt hg h ..
    · exact ⟨rfl, fun _ _ => rfl, g, hg, h⟩

theorem State.cutWicks_cutsAt (l : List Nat) : s.cutsAt r (l.foldl (fun s k => s.cutWick r k) s) := by
  induction l generalizing s g with
  | nil => exact ⟨rfl, fun _ _ => rfl, g, hg, h⟩
  | cons k l ih =>
    have first := State.cutWick_cutsAt hg h k
    obtain ⟨g', hg', h'⟩ := first.2.2
    exact first.trans (ih hg' h')

theorem State.settle_cutsAt : s.cutsAt r (s.settle r) := by
  refine ⟨?_, fun q ne => ?_, _, State.settle_group hg, Group.settled_cutShort h⟩
  · unfold State.settle
    rw [hg]
    dsimp only
    rw [State.setGroup_snuffs]
    split <;> rfl
  · unfold State.settle
    rw [hg]
    dsimp only
    rw [State.group_setGroup_other _ r q _ ne]
    split
    · exact State.inval_group ..
    · rfl
end

theorem State.cutGroup_cutsAt {s : State} {r : GRef} {g : Group} (hg : s.group r = some g) : s.cutsAt r (s.cutGroup r g) := by
  have parked : (s.setCore r.core ((s.core r.core).unrequest r.slot)).group r = some g := (State.unrequest_group ..).trans hg
  have idle : s.cutsAt r ((s.setCore r.core ((s.core r.core).unrequest r.slot)).setGroup r (g.cut.settleProds (s.core r.core))) := by
    obtain ⟨snuffs, others, cut⟩ := State.setGroup_cutsAt parked (Group.settleProds_cutShort g.cut_cutShort (s.core r.core))
    exact ⟨snuffs, fun q ne => (others q ne).trans (State.unrequest_group ..), cut⟩
  obtain ⟨g₁, hg₁, cut₁⟩ := idle.2.2
  have wicks := State.cutWicks_cutsAt hg₁ cut₁ (List.range 4)
  obtain ⟨g₂, hg₂, cut₂⟩ := wicks.2.2
  exact (idle.trans wicks).trans (State.settle_cutsAt hg₂ cut₂)

/-! ### A SNUFF that reaches a core (13 R345; log 58) -/

theorem State.retireUnstarted_group (s : State) (c task code : Nat) (r : GRef) : (s.retireUnstarted c task code).group r = s.group r := by
  unfold State.retireUnstarted
  split
  · rfl
  · dsimp only
    split
    · rfl
    · exact (State.group_setCore (by rfl) (by rfl) r).trans (State.group_of_cores (by rfl) r)

theorem State.retireUnstarted_snuffs (s : State) (c task code : Nat) : (s.retireUnstarted c task code).snuffs = s.snuffs := by
  unfold State.retireUnstarted
  split
  · rfl
  · dsimp only
    split <;> rfl

/-- A group of the tasks that is still to be cut. -/
def Group.toCut (g : Group) (tasks : List Nat) : Prop := g.gid.task ∈ tasks ∧ g.ended = false ∧ g.snuffed = false

/-- The cut of one slot of a core, with its counts. -/
def State.cutSlot (c : Nat) (tasks : List Nat) (code : Nat) (x : CutCount × State) (k : Nat) : CutCount × State :=
  match x.2.group ⟨c, k⟩ with
  | none => x
  | some g =>
    if !tasks.contains g.gid.task || g.ended || g.snuffed then x
    else
      (⟨x.1.stopped + 1, x.1.performed + g.cutCounts.1, x.1.dropped + g.cutCounts.2⟩,
        match (x.2.cutGroup ⟨c, k⟩ g).task g.gid.task with
        | some t => (x.2.cutGroup ⟨c, k⟩ g).setTask (t.cancel code)
        | none => x.2.cutGroup ⟨c, k⟩ g)

theorem State.cutCore_eq (s : State) (c : Nat) (tasks : List Nat) (code : Nat) : s.cutCore c tasks code =
    (List.range 8).foldl (State.cutSlot c tasks code)
      (⟨((s.core c).saved.filter (fun g => tasks.contains g.gid.task)).length, 0, 0⟩, tasks.foldl (fun s t => s.retireUnstarted c t code) s) := by
  unfold State.cutCore
  dsimp only
  congr 1

section
variable {c k code : Nat} {tasks : List Nat} {x : CutCount × State}

theorem State.cutSlot_of_toCut {g : Group} (hg : x.2.group ⟨c, k⟩ = some g) (cut : g.toCut tasks) :
    x.2.cutsAt ⟨c, k⟩ (State.cutSlot c tasks code x k).2 := by
  obtain ⟨mine, running, whole⟩ := cut
  have goes : (!tasks.contains g.gid.task || g.ended || g.snuffed) = false := by simp [mine, running, whole]
  have cuts := State.cutGroup_cutsAt hg
  rw [State.cutSlot, hg]
  dsimp only
  rw [goes, if_neg Bool.false_ne_true]
  dsimp only
  split <;> exact cuts

theorem State.cutSlot_keeps : (State.cutSlot c tasks code x k).2.snuffs = x.2.snuffs ∧
    ∀ q, q ≠ ⟨c, k⟩ → (State.cutSlot c tasks code x k).2.group q = x.2.group q := by
  cases hg : x.2.group ⟨c, k⟩ with
  | none => simp [State.cutSlot, hg]
  | some g =>
    by_cases cut : g.toCut tasks
    · obtain ⟨snuffs, others, -⟩ := State.cutSlot_of_toCut (code := code) hg cut
      exact ⟨snuffs, others⟩
    · have stays : (!tasks.contains g.gid.task || g.ended || g.snuffed) = true := by
        by_contra goes
        simp only [Bool.not_eq_true, Bool.or_eq_false_iff, Bool.not_eq_false', List.contains_iff_mem] at goes
        obtain ⟨⟨mine, running⟩, whole⟩ := goes
        exact cut ⟨mine, running, whole⟩
      have same : State.cutSlot c tasks code x k = x := by
        rw [State.cutSlot, hg]
        exact if_pos stays
      rw [same]
      exact ⟨rfl, fun _ _ => rfl⟩
end

section
variable {c code : Nat} {tasks : List Nat}

theorem State.cutSlots_keeps (l : List Nat) (x : CutCount × State) : (l.foldl (State.cutSlot c tasks code) x).2.snuffs = x.2.snuffs ∧
    ∀ k, k ∉ l → (l.foldl (State.cutSlot c tasks code) x).2.group ⟨c, k⟩ = x.2.group ⟨c, k⟩ := by
  induction l generalizing x with
  | nil => exact ⟨rfl, fun _ _ => rfl⟩
  | cons d l ih =>
    obtain ⟨snuffs, others⟩ := State.cutSlot_keeps (c := c) (k := d) (code := code) (tasks := tasks) (x := x)
    obtain ⟨snuffs', others'⟩ := ih (State.cutSlot c tasks code x d)
    refine ⟨snuffs'.trans snuffs, fun k absent => ?_⟩
    obtain ⟨ne, rest⟩ := not_or.mp (mt List.mem_cons.mpr absent)
    exact (others' k rest).trans (others ⟨c, k⟩ (by simpa using ne))

/-- Each slot of a list without repeats loses its group of the tasks. -/
theorem State.cutSlots_cut {l : List Nat} (once : l.Nodup) {k : Nat} (mem : k ∈ l) {x : CutCount × State} {g : Group}
    (hg : x.2.group ⟨c, k⟩ = some g) (cut : g.toCut tasks) :
    ∃ h, (l.foldl (State.cutSlot c tasks code) x).2.group ⟨c, k⟩ = some h ∧ h.cutShort := by
  induction l generalizing x with
  | nil => cases mem
  | cons d l ih =>
    obtain ⟨new, rest⟩ := List.nodup_cons.mp once
    rcases List.mem_cons.mp mem with rfl | later
    · obtain ⟨-, -, h, hh, short⟩ := State.cutSlot_of_toCut (code := code) hg cut
      exact ⟨h, ((State.cutSlots_keeps l _).2 k new).trans hh, short⟩
    · have ne : k ≠ d := fun same => new (same ▸ later)
      exact ih rest later ((State.cutSlot_keeps.2 ⟨c, k⟩ (by simpa using ne)).trans hg)

theorem State.cutCore_snuffs (s : State) (c : Nat) (tasks : List Nat) (code : Nat) : (s.cutCore c tasks code).2.snuffs = s.snuffs := by
  rw [State.cutCore_eq]
  exact (State.cutSlots_keeps _ _).1.trans (foldl_keeps State.snuffs (fun s t => s.retireUnstarted_snuffs c t code) tasks s)

theorem State.cutCore_cuts {s : State} {k : Nat} {g : Group} (hk : k < 8) (hg : s.group ⟨c, k⟩ = some g) (cut : g.toCut tasks) :
    ∃ h, (s.cutCore c tasks code).2.group ⟨c, k⟩ = some h ∧ h.cutShort := by
  rw [State.cutCore_eq]
  exact State.cutSlots_cut List.nodup_range (List.mem_range.mpr hk)
    ((foldl_keeps (fun s => s.group ⟨c, k⟩) (fun s t => s.retireUnstarted_group c t code ⟨c, k⟩) tasks s).trans hg) cut
end

/-! ### A SNUFF that reaches a copy channel or a die's queues (13 R345, R351) -/

theorem State.setEngine_snuffs (s : State) (e : Nat) (x : CopyEngine) : (s.setEngine e x).snuffs = s.snuffs := by
  unfold State.setEngine
  split <;> rfl

theorem State.finishJob_snuffs (s : State) (j : CopyJob) (ok : Bool) : (s.finishJob j ok).snuffs = s.snuffs := by
  unfold State.finishJob
  cases j.node with
  | none => cases j.owner <;> rfl
  | some n => cases j.owner <;> dsimp only <;> split <;> rfl

theorem State.cutChannel_snuffs (s : State) (e ch : Nat) (tasks : List Nat) (id : Nat) : (s.cutChannel e ch tasks id).2.snuffs = s.snuffs :=
  by
  unfold State.cutChannel
  exact (foldl_keeps State.snuffs (fun s j => s.finishJob_snuffs j false) _ _).trans (s.setEngine_snuffs ..)

theorem State.releaseBarriers_cells (s : State) (l : List Nat) : s.cellsOnly (s.releaseBarriers l) :=
  State.cellsOnly_foldl (fun s pa => s.setBarrier_cells pa _) l s

theorem State.cutQueue_count (s : State) (d : Nat) (tasks : List Nat) (code : Nat) : (s.cutQueue d tasks code).1 =
    (s.tasks.filter (fun x => tasks.contains x.id && x.home == d && x.state == .queued)).length := rfl

/-- A cut of a die's queues leaves no task of those it names queued there. -/
theorem State.not_queued_of_cutQueue {s : State} {d code : Nat} {tasks : List Nat} {x : Task} (h : x ∈ (s.cutQueue d tasks code).2.tasks)
    (mine : x.id ∈ tasks) (home : x.home = d) : x.state ≠ .queued := by
  obtain ⟨y, -, made⟩ := List.mem_map.mp h
  dsimp only at made
  split at made
  · subst made
    exact nofun
  · rename_i idle
    split at made
    · subst made
      exact nofun
    · subst made
      intro queued
      exact idle (by simp [mine, home, queued])

/-! ### Arrivals (13 R345) -/

section
variable {s : State} {id : Nat} {u : Snuff} (hu : s.snuffAt id = some u) (serving : s.serving = true)
include hu serving

theorem exec_snuffArrival_at_core {c : Nat} (new : SnuffSite.core c ∉ u.reached) : ∃ n, exec (.snuffArrival id (.core c)) s =
    .next ((s.cutCore c u.tasks 1).2.setSnuff { u with
      reached := u.reached ++ [.core c]
      stopped := u.stopped + (n : CutCount).stopped
      performed := u.performed + n.performed
      dropped := u.dropped + n.dropped }) := by
  have goes : (!s.serving || u.reached.contains (SnuffSite.core c)) = false := by simp [serving, new]
  refine ⟨(s.cutCore c u.tasks 1).1, ?_⟩
  rw [exec_snuffArrival, execSnuffArrival, hu]
  dsimp only
  rw [goes, if_neg Bool.false_ne_true]

theorem exec_snuffArrival_at_channel {c ch : Nat} (after : SnuffSite.core c ∈ u.reached) (new : SnuffSite.copyChannel c ch ∉ u.reached) :
    exec (.snuffArrival id (.copyChannel c ch)) s = .next ((s.cutChannel c ch u.tasks u.id).2.setSnuff { u with
      reached := u.reached ++ [.copyChannel c ch]
      cut := u.cut + (s.cutChannel c ch u.tasks u.id).1 }) := by
  have goes : (!s.serving || u.reached.contains (SnuffSite.copyChannel c ch)) = false := by simp [serving, new]
  have reached : (u.reached ++ [SnuffSite.copyChannel c ch]).contains (SnuffSite.core c) = true := by simp [after]
  rw [exec_snuffArrival, execSnuffArrival, hu]
  dsimp only
  rw [goes, if_neg Bool.false_ne_true, reached, if_pos rfl]

theorem exec_snuffArrival_at_scheduler {d : Nat} (new : SnuffSite.scheduler d ∉ u.reached) : ∃ bars, exec (.snuffArrival id (.scheduler d)) s =
    .next (((s.cutQueue d u.tasks 1).2.releaseBarriers bars).setSnuff { u with
      reached := u.reached ++ [.scheduler d]
      removed := u.removed + (s.cutQueue d u.tasks 1).1 }) := by
  have goes : (!s.serving || u.reached.contains (SnuffSite.scheduler d)) = false := by simp [serving, new]
  refine ⟨s.snuffBarriers { u with reached := u.reached ++ [.scheduler d] } d, ?_⟩
  rw [exec_snuffArrival, execSnuffArrival, hu]
  dsimp only
  rw [goes, if_neg Bool.false_ne_true]
end

/-! ### The end of a SNUFF (13 R346) -/

theorem length_ackBytes (a b c d e f : Nat) : (ackBytes a b c d e f).length = 32 := by simp [ackBytes, length_natLE]

/-- A word that is written lay in pages that are translated. -/
theorem State.span_of_writeWord {s t : State} {u : XUnit} {asid va : Nat} {bs : List Byte} (h : s.writeWord u asid va bs = .ok t) :
    s.span u asid va bs.length true = .ok := by
  unfold State.writeWord at h
  split at h
  · cases h
  · cases h
  · assumption

theorem exec_snuffComplete_writes {s t : State} {id : Nat} {u : Snuff} (hu : s.snuffAt id = some u) (serving : s.serving = true)
    (met : s.snuffMet u = true) (alone : u.followers = [])
    (written : ({ s with snuffs := s.snuffs.filter (fun x => x.id != u.id) } : State).writeWord (s.ackUnit u) u.asid u.ack
      (ackBytes u.removed u.stopped u.cut u.refused u.performed u.dropped) = .ok t) :
    exec (.snuffComplete id) s = .next t := by
  have span : s.span (s.ackUnit u) u.asid u.ack 32 true = .ok := by
    have through := State.span_of_writeWord written
    rw [length_ackBytes] at through
    exact through
  rw [exec_snuffComplete, execSnuffComplete, hu]
  dsimp only
  rw [alone, serving, met]
  simp only [List.map_nil, List.any_cons, List.any_nil, span, List.foldl_cons, List.foldl_nil, written]
  rfl

/-! ### Lamp tests (14 R385) -/

theorem State.withdraw_lamps (s : State) (u : LampUnit) : (s.withdraw u).lamps = s.lamps := by
  unfold State.withdraw
  cases u <;> dsimp only <;> split <;> rfl

theorem State.mem_withdrawn_of_withdraw (s : State) (u : LampUnit) : u ∈ (s.withdraw u).withdrawn := by
  have added : u ∈ (if s.withdrawn.contains u then s else { s with withdrawn := s.withdrawn ++ [u] }).withdrawn := by
    split
    · rename_i present
      exact List.contains_iff_mem.mp present
    · simp
  unfold State.withdraw
  cases u <;> exact added

/-- The state once a lamp test has closed the entry that asked for it. -/
def State.closeTest (s : State) (j : LampJob) (cls : Nat) : State :=
  let s := { s with lamps := s.lamps.erase j }
  match s.task j.task with
  | none => s
  | some t =>
    match t.log.findIdx? (fun e => decide (e = j.entry)) with
    | some i => s.setTask { t with log := t.log.set i { j.entry with cls := cls } }
    | none => s

theorem State.closeTest_frame (s : State) (j : LampJob) (cls : Nat) : (s.closeTest j cls).lamps = s.lamps.erase j ∧
    (s.closeTest j cls).withdrawn = s.withdrawn ∧ (s.closeTest j cls).memories = s.memories := by
  unfold State.closeTest
  dsimp only
  split
  · exact ⟨rfl, rfl, rfl⟩
  · split <;> exact ⟨rfl, rfl, rfl⟩

theorem exec_lampTest_closes {s : State} {unit : LampUnit} {j : LampJob} (hj : s.lamps.find? (fun j => decide (j.unit = unit)) = some j)
    (pass : Bool) : exec (.lampTest unit pass) s =
      .next (if pass then s.closeTest j (if pass then 1 else 2) else (s.closeTest j (if pass then 1 else 2)).withdraw unit) := by
  rw [exec_lampTest, execLampTest, hj]
  rfl

end Sys2Proof.Machine

namespace Sys2Proof.Claims

open Sys2Proof.Machine

/-- Settles O55: a cut of one slot leaves every other slot's group, so that a core's fold over its slots cuts each group of the tasks once, and no
site's arrival touches the record it writes back. -/
theorem overlaysAndSnuffs : Obligations.OverlaysAndSnuffs := by
  refine ⟨?_, ?_, ?_, ?_, ?_, ?_⟩
  · intro s r g t hg ht serving slot free calm fetches
    refine ⟨fun i first checked => exec_overlayLoad_of_checked hg ht serving slot free calm fetches first checked,
      fun h first unchecked read bad issued_ header => ?_, fun h tb k x bs st later absent read table found hx bytes good room => ?_⟩
    · rw [exec_overlayLoad_of_unchecked hg ht serving slot free calm fetches first unchecked, State.checkImage_of_bad read bad issued_ header]
    · rw [exec_overlayLoad_of_absent hg ht serving slot free calm fetches later absent,
        State.loadOverlay_of_found read table found hx bytes good room]
  · intro s id c u hu serving new
    obtain ⟨n, arrives⟩ := exec_snuffArrival_at_core hu serving new
    refine ⟨_, _, arrives, State.snuffAt_setSnuff hu (s.cutCore_snuffs c u.tasks 1) rfl, rfl, fun k g hk hg mine running whole => ?_⟩
    obtain ⟨h, hh, snuffed, loads, parts⟩ := State.cutCore_cuts (code := 1) hk hg ⟨mine, running, whole⟩
    exact ⟨h, by rw [State.setSnuff_group, hh], snuffed, loads, parts⟩
  · intro s id c ch u hu serving after new
    exact ⟨_, _, exec_snuffArrival_at_channel hu serving after new,
      State.snuffAt_setSnuff hu (s.cutChannel_snuffs c ch u.tasks u.id) rfl, rfl, rfl⟩
  · intro s id d u hu serving new
    obtain ⟨bars, arrives⟩ := exec_snuffArrival_at_scheduler hu serving new
    have cells := (s.cutQueue d u.tasks 1).2.releaseBarriers_cells bars
    refine ⟨_, _, arrives, State.snuffAt_setSnuff hu (cells.keeps State.snuffs fun _ _ _ _ _ _ _ => rfl) rfl, rfl,
      congrArg (u.removed + ·) (State.cutQueue_count ..), fun x hx mine home => ?_⟩
    have tasks : ((s.cutQueue d u.tasks 1).2.releaseBarriers bars).tasks = (s.cutQueue d u.tasks 1).2.tasks :=
      cells.keeps State.tasks fun _ _ _ _ _ _ _ => rfl
    have left : x ∈ (s.cutQueue d u.tasks 1).2.tasks := by rw [← tasks]; exact hx
    exact State.not_queued_of_cutQueue left mine home
  · intro s t id u hu serving met alone written
    exact exec_snuffComplete_writes hu serving met alone written
  · intro s unit pass j hj
    obtain ⟨lamps, withdrawn, memories⟩ := s.closeTest_frame j (if pass then 1 else 2)
    refine ⟨_, exec_lampTest_closes hj pass, ?_⟩
    cases pass with
    | true => exact ⟨lamps, fun _ => withdrawn, nofun, State.sameBytes_of_memories memories⟩
    | false =>
      exact ⟨(State.withdraw_lamps ..).trans lamps, nofun, fun _ => State.mem_withdrawn_of_withdraw ..,
        State.sameBytes_of_memories ((State.withdraw_memories ..).trans memories)⟩

end Sys2Proof.Claims
end

section
/-!
PROOFS. The device after reset (22 R440, Tables 22.2 to 22.4; 02 Table 2.4): what a core, a die and a lantern that nothing has used hold.
-/

namespace Sys2Proof.Machine

theorem getD_replicate_same {α : Type} (d : α) (n i : Nat) : (List.replicate n d).getD i d = d := by
  rw [List.getD_eq_getElem?_getD]
  exact List.getElem?_getD_replicate_default_eq ..

theorem State.reset_core (c : Nat) : State.reset.core c = Core.reset := getD_replicate_same ..

theorem State.reset_die (d : Nat) : State.reset.die d = Die.reset := getD_replicate_same ..

theorem State.reset_lantern (k : Nat) : State.reset.lanterns.getD k Lantern.idle = Lantern.idle := getD_replicate_same ..

/-- No slot and no entry of the retirement tracker is taken. -/
theorem State.reset_group (r : GRef) : State.reset.group r = none := by
  unfold State.group
  rw [State.reset_core]
  split
  · exact getD_replicate_same ..
  · rfl

/-- No level of caches that a unit looks in holds a translation (14 R371). -/
theorem State.reset_tcLevels (u : XUnit) : ∀ l ∈ State.reset.tcLevels u, l = [] := by
  have engine (c : Nat) : ∀ l ∈ [([] : List TransEnt), (State.reset.core c).tc, (State.reset.die (dieOf c)).tc], l = [] := by
    rw [State.reset_core, State.reset_die]
    simp [Core.reset, Die.reset]
  cases u with
  | engine c e => cases e <;> simpa [State.tcLevels, State.reset_core, Core.reset] using engine c
  | lantern k =>
    rw [State.tcLevels, State.reset_lantern, State.reset_die]
    simp [Lantern.idle, Die.reset]
  | core c => simp [State.tcLevels, State.reset_core, State.reset_die, Core.reset, Die.reset]
  | die d => simp [State.tcLevels, State.reset_die, Die.reset]

end Sys2Proof.Machine

namespace Sys2Proof.Claims

open Sys2Proof.Machine

/-- Settles O47: the registers are read off the reset state, and whatever a place names holds what its unit has after reset. -/
theorem resetState : Obligations.ResetState := by
  refine ⟨rfl, rfl, rfl, rfl, rfl, rfl, rfl, State.reset_memsWf, State.reset_group, ?_⟩
  intro u l mem
  exact State.reset_tcLevels u l mem

end Sys2Proof.Claims
end

section
/-!
PROOFS. Boot, firmware slots, the recovery mailbox and power loss (22 R440, R441, R443; Tables 22.2 and 22.5): each event in the phase that takes it.
-/

namespace Sys2Proof.Machine

/-! ### Boot phases (22 R440) -/

theorem State.serving_iff {s : State} : s.serving = true ↔ s.plat.phase = 5 := beq_iff_eq

theorem exec_deviceReset_of_reset {s : State} (h : s.plat.phase = 0) : exec .deviceReset s = .next (s.onPlat (fun p => { p with phase := 1 })) :=
  if_pos h

theorem exec_deviceReset_of_running {s : State} (h : s.plat.phase ≠ 0) : exec .deviceReset s = .next s.resetDevice := if_neg h

theorem exec_bootRomHash_of_rom {s : State} (h : s.plat.phase = 1) : exec .bootRomHash s = .next (s.onPlat (fun p => { p with phase := 2 })) :=
  if_pos h

theorem exec_firmwareLoad_of_load {s : State} (h : s.plat.phase = 3) : exec .firmwareLoad s = .next (s.onPlat (fun p => { p with phase := 4 })) :=
  if_pos h

/-! ### The choice of a slot (22 R441) -/

theorem Platform.choose_eq_zero {p : Platform} (v0 : p.valid 0 = true) (v1 : p.valid 1 = true → (p.fw 1).version ≤ (p.fw 0).version) :
    p.choose = some 0 := by
  unfold Platform.choose
  cases h : p.valid 1 with
  | false => simp [v0]
  | true => simp [v0, v1 h]

theorem Platform.choose_eq_one {p : Platform} (v1 : p.valid 1 = true) (v0 : p.valid 0 = true → (p.fw 0).version < (p.fw 1).version) :
    p.choose = some 1 := by
  unfold Platform.choose
  cases h : p.valid 0 with
  | false => simp [v1]
  | true => simp [v1, v0 h]

theorem Platform.choose_eq_none {p : Platform} (v0 : p.valid 0 = false) (v1 : p.valid 1 = false) : p.choose = none := by
  simp [Platform.choose, v0, v1]

/-- The platform once authentication has ended with a choice. -/
def Platform.chosen (p : Platform) (o : Option Nat) : Platform :=
  let p' := { p with fail0 := !p.valid 0, fail1 := !p.valid 1 }
  match o with
  | some k => { p' with slot := k, phase := phLOAD }
  | none => { p' with phase := phRECOVERY }

theorem Platform.chosen_fail (p : Platform) (o : Option Nat) : (p.chosen o).fail0 = !p.valid 0 ∧ (p.chosen o).fail1 = !p.valid 1 := by
  cases o <;> exact ⟨rfl, rfl⟩

theorem exec_slotChoice_of_auth {s : State} (h : s.plat.phase = 2) :
    exec .slotChoice s = .next { s with plat := s.plat.chosen s.plat.choose } := if_neg (fun other => other h)

theorem exec_hbmTrain_of_train {s : State} (h : s.plat.phase = 4) (failed : List LampUnit) :
    exec (.hbmTrain failed) s = .next { s.onPlat (fun p => { p with
      phase := 5
      rank := p.nvRank
      part := p.nvPart
      nvFloor := max p.nvFloor (p.fw p.slot).floor }) with withdrawn := failed.dedup } := if_neg (fun other => other h)

/-! ### The mailbox (22 R443, Table 22.5) -/

theorem State.mbox_of_recovery {s : State} (h : s.plat.phase = 6) (idle : s.plat.mboxBusy = false) (k : State → State) : s.mbox k = k s := by
  have elsewhere : s.serving = false := by simp [State.serving, h]
  simp [State.mbox, elsewhere, h, idle, phRECOVERY]

theorem State.mbox_of_ready {s : State} (h : s.serving = true) (k : State → State) :
    s.mbox k = s.onPlat (fun p => { p with mboxRes := 3, perr := true }) := if_pos h

theorem testBit_bits (w : Word) (lo n j : Nat) : (bits w lo n).testBit j = (decide (j < n) && w.getLsbD (lo + j)) := by
  rw [bits, Nat.testBit_mod_two_pow, Nat.testBit_shiftRight, BitVec.testBit_toNat]

/-- MBOX.CMD keeps OP, SLOT and LEN of a value. -/
theorem mboxFields_getLsbD (v : Word) {k : Nat} (hk : k < 64) :
    (mboxFields v).getLsbD k = ((decide (k < 3) || decide (32 ≤ k)) && v.getLsbD k) := by
  have low : bits v 0 3 < 2 ^ 32 := (Nat.mod_lt _ (by decide)).trans (by decide)
  rw [mboxFields, BitVec.getLsbD_ofNat, Nat.add_comm, Nat.mul_comm, Nat.testBit_two_pow_mul_add _ low, testBit_bits, testBit_bits]
  by_cases h : k < 32
  · simp [h, hk, Nat.not_le.mpr h]
  · have place : 32 + (k - 32) = k := by omega
    have high : k - 32 < 32 := by omega
    simp [hk, place, high, Nat.not_lt.mp h, h]

section
variable {s : State} {val : Word}

theorem exec_mboxNone_of_op (op : bits val 0 2 = 0) : exec (.mboxNone val) s = .next (s.mbox id) := if_pos op

theorem exec_mboxVerifyWrite_of_op (op : bits val 0 2 = 1) : exec (.mboxVerifyWrite val) s = .next (s.mbox (fun s => s.onPlat (fun p =>
    if bits val 32 32 = 0 ∨ 1048576 < bits val 32 32 then { p with mboxCmd := mboxFields val, mboxRes := 2 }
    else { p with mboxCmd := mboxFields val, mboxBusy := true }))) := if_pos op

theorem exec_mboxClear_of_op (op : bits val 0 2 = 2) :
    exec (.mboxClear val) s = .next (s.mbox (fun s => s.onPlat (fun p => { p with mboxRes := 0 }))) := if_pos op

theorem exec_mboxRefused_of_op (op : bits val 0 2 = 3 ∨ s.serving = true) :
    exec (.mboxRefused val) s = .next (s.mbox (fun s => s.onPlat (fun p => { p with mboxRes := 3 }))) := if_pos op
end

/-! ### A staged image and a loss of power (22 R443, R444) -/

section
variable {s : State} (recovery : s.plat.phase = 6) (busy : s.plat.mboxBusy = true)
include recovery busy

theorem exec_recoveryImageVerified_eq : exec .recoveryImageVerified s =
    if s.plat.stagedValid then .next (s.onPlat (fun p => { p with slots := p.slots.set p.target (stagedSlot p.staged) })).resetDevice
    else .next (s.onPlat (fun p => { p with mboxBusy := false, mboxRes := 1 })) :=
  if_neg (by simp [recovery, busy, phRECOVERY])
end

/-- A slot whose write is cut where a valid image is being verified. -/
def Platform.cutWrite (p : Platform) (cut : Bool) (k : Nat) : Platform :=
  if p.phase = phRECOVERY ∧ p.mboxBusy = true ∧ p.stagedValid = true ∧ cut = true then { p with slots := p.slots.set p.target (p.cutSlot k) } else p

/-- A one-time key's index that is skipped where an attestation ran. -/
def Platform.skipKey (p : Platform) (n : Nat) : Platform := if p.attRun = true ∧ p.nvKey < 2 ^ 20 then { p with nvKey := p.nvKey + n % 2 } else p

theorem Platform.cutWrite_keeps (p : Platform) (cut : Bool) (k : Nat) :
    (p.cutWrite cut k).nvFloor = p.nvFloor ∧ (p.cutWrite cut k).nvKey = p.nvKey ∧
    ((p.cutWrite cut k).slots = p.slots ∨ (p.phase = 6 ∧ p.mboxBusy = true ∧ p.stagedValid = true ∧
      ∃ x : FwSlot, (p.cutWrite cut k).slots = p.slots.set p.target x ∧ x.signed = false)) := by
  unfold Platform.cutWrite
  split
  · rename_i h
    obtain ⟨phase, busy, valid, -⟩ := h
    exact ⟨rfl, rfl, .inr ⟨phase, busy, valid, p.cutSlot k, rfl, rfl⟩⟩
  · exact ⟨rfl, rfl, .inl rfl⟩

theorem Platform.skipKey_keeps (p : Platform) (n : Nat) : (p.skipKey n).nvFloor = p.nvFloor ∧ (p.skipKey n).slots = p.slots ∧
    p.nvKey ≤ (p.skipKey n).nvKey ∧ (p.skipKey n).nvKey ≤ p.nvKey + 1 := by
  unfold Platform.skipKey
  split
  · have := Nat.mod_lt n two_pos
    exact ⟨rfl, rfl, Nat.le_add_right .., by dsimp only; omega⟩
  · exact ⟨rfl, rfl, le_rfl, Nat.le_succ _⟩

theorem exec_powerLoss_eq (s : State) : ∃ cut k n, exec .powerLoss s =
    .next ({ s.onPlat (fun p => (p.cutWrite cut k).skipKey n) with free := s.free + 3 }).resetDevice := by
  refine ⟨decide (Config.freeNat (s.free + 0) % 2 = 1), Config.freeNat (s.free + 1), Config.freeNat (s.free + 2), ?_⟩
  rw [exec_powerLoss, execPowerLoss]
  simp only [Platform.cutWrite, Platform.skipKey, decide_eq_true_eq]

end Sys2Proof.Machine

namespace Sys2Proof.Claims

open Sys2Proof.Machine

/-- Settles O59: each event is one test of the phase, the choice of a slot follows which slots are valid, and a reset takes the non-volatile
store over. -/
theorem bootAndRecovery : Obligations.BootAndRecovery := by
  refine ⟨?_, ?_, ?_, ?_, ?_, ?_, ?_, ?_, ?_⟩
  · intro s
    exact ⟨exec_deviceReset_of_reset, exec_deviceReset_of_running, exec_bootRomHash_of_rom, exec_firmwareLoad_of_load⟩
  · intro s
    exact ⟨rfl, rfl, rfl, rfl, rfl⟩
  · intro s auth
    obtain ⟨fail0, fail1⟩ := s.plat.chosen_fail s.plat.choose
    refine ⟨_, exec_slotChoice_of_auth auth, fail0, fail1, fun v0 v1 => ?_, fun v1 v0 => ?_, fun v0 v1 => ?_⟩
    · rw [Platform.choose_eq_zero v0 v1]
      exact ⟨rfl, rfl⟩
    · rw [Platform.choose_eq_one v1 v0]
      exact ⟨rfl, rfl⟩
    · rw [Platform.choose_eq_none v0 v1]
      rfl
  · intro s failed train
    exact ⟨_, exec_hbmTrain_of_train train failed, rfl, rfl, rfl, le_max_left .., le_max_right .., fun u => List.mem_dedup⟩
  · intro s val recovery idle
    refine ⟨fun op => ?_, fun op wrong => ?_, fun op some_ short => ?_, fun op => ?_, fun op => ?_⟩
    · rw [exec_mboxNone_of_op op, State.mbox_of_recovery recovery idle]
      rfl
    · simp only [exec_mboxVerifyWrite_of_op op, State.mbox_of_recovery recovery idle, if_pos wrong]
    · have right : ¬ (bits val 32 32 = 0 ∨ 1048576 < bits val 32 32) := by omega
      simp only [exec_mboxVerifyWrite_of_op op, State.mbox_of_recovery recovery idle, if_neg right]
    · rw [exec_mboxClear_of_op op, State.mbox_of_recovery recovery idle]
    · rw [exec_mboxRefused_of_op (.inl op), State.mbox_of_recovery recovery idle]
  · intro val k hk
    exact mboxFields_getLsbD val hk
  · intro s val serving
    exact ⟨by rw [exec_mboxRefused_of_op (.inr serving), State.mbox_of_ready serving],
      fun op => by rw [exec_mboxVerifyWrite_of_op op, State.mbox_of_ready serving]⟩
  · intro s recovery busy
    rw [exec_recoveryImageVerified_eq recovery busy]
    refine ⟨fun invalid => by rw [invalid]; rfl, fun valid => ?_⟩
    rw [valid]
    exact ⟨_, rfl, rfl, rfl⟩
  · intro s
    obtain ⟨cut, k, n, loses⟩ := exec_powerLoss_eq s
    obtain ⟨floor, key, slots⟩ := s.plat.cutWrite_keeps cut k
    obtain ⟨floor', slots', low, high⟩ := (s.plat.cutWrite cut k).skipKey_keeps n
    rw [key] at low high
    refine ⟨_, loses, rfl, floor'.trans floor, low, high, ?_⟩
    rw [← slots'] at slots
    exact slots

end Sys2Proof.Claims
end

section
/-!
PROOFS. Management registers, attestation, power, heat and PTM (22 R437 to R439, R442, R444 to R446; Tables 22.3 and 22.4; log 35, log 68).
-/

namespace Sys2Proof.Machine

section
variable {s : State} (serving : s.serving = true)
include serving

theorem State.inReady_of_serving (k : State → State) : s.inReady k = k s := if_pos serving

/-! ### PART, RANK and PTH (22 R446) -/

/-- A die whose partition PART would change has a task admitted. -/
def State.partHeld (s : State) (val : Word) : Prop := ∃ d, d < 4 ∧ bits val (4 * d) 4 ≠ s.partition d ∧ s.dieBusy d = true

omit serving in
theorem State.any_partHeld_iff (val : Word) :
    (List.range 4).any (fun d => bits val (4 * d) 4 != s.partition d && s.dieBusy d) = true ↔ s.partHeld val := by
  simp [State.partHeld]

theorem exec_partWrite_of_right {val : Word} (right : partOk val = true) (free : ¬ s.partHeld val) :
    exec (.partWrite val) s = .next (s.onPlat (fun p => { p with part := word (bits val 0 16), nvPart := word (bits val 0 16) })) := by
  rw [exec_partWrite, execPartWrite, State.inReady_of_serving serving]
  refine congrArg _ (if_neg ?_)
  rw [right, Bool.not_true, Bool.false_or, State.any_partHeld_iff]
  exact free

theorem exec_partWrite_of_wrong {val : Word} (wrong : partOk val = false ∨ s.partHeld val) :
    exec (.partWrite val) s = .next s.refuseWrite := by
  rw [exec_partWrite, execPartWrite, State.inReady_of_serving serving]
  refine congrArg _ (if_pos ?_)
  rcases wrong with masks | held
  · simp [masks]
  · rw [(State.any_partHeld_iff val).mpr held, Bool.or_true]

theorem exec_rankWrite_eq (val : Word) : exec (.rankWrite val) s = .next
    (if s.allGroups.any Group.collective then s.refuseWrite else s.onPlat (fun p => { p with rank := bits val 0 18, nvRank := bits val 0 18 })) := by
  rw [exec_rankWrite, execRankWrite, State.inReady_of_serving serving]

theorem exec_pthWrite_eq (k : Nat) (val : Word) :
    exec (.pthWrite k val) s = .next (s.onPlat (fun x => { x with pth := x.pth.set k (bits val 0 32) })) := by
  rw [exec_pthWrite, execPthWrite, State.inReady_of_serving serving]

theorem exec_qarg0_eq (val : Word) : exec (.managementRegisterWrite .qarg0 val) s = .next (s.onPlat (fun p => { p with qarg0 := val })) :=
  congrArg Host.Outcome.next (State.inReady_of_serving serving _)

theorem exec_qarg1_eq (val : Word) : exec (.managementRegisterWrite .qarg1 val) s = .next (s.onPlat (fun p => { p with qarg1 := val })) :=
  congrArg Host.Outcome.next (State.inReady_of_serving serving _)

/-! ### Attestation (22 R444, R445) -/

theorem exec_attNonceWrite_eq (nonce : BitVec 256) : exec (.attNonceWrite nonce) s =
    .next (if s.plat.attRun then s.denied else s.onPlat (fun p => { p with nonce := nonce })) := by
  rw [exec_attNonceWrite, execAttNonceWrite, State.inReady_of_serving serving]

theorem State.attCommand_starts (idle : s.plat.attRun = false) :
    s.attCommand 1#64 = s.onPlat (fun p => { p with attCmd := 1#64, attStat := 0, attRun := true }) := by
  rw [State.attCommand, State.inReady_of_serving serving]
  refine congrArg (fun p => { s with plat := p }) (if_pos ?_)
  exact ⟨rfl, idle⟩

theorem State.attCommand_keeps {val : Word} (other : val ≠ 1#64 ∨ s.plat.attRun = true) :
    s.attCommand val = s.onPlat (fun p => { p with attCmd := val }) := by
  rw [State.attCommand, State.inReady_of_serving serving]
  refine congrArg (fun p => { s with plat := p }) (if_neg ?_)
  rintro ⟨one, idle⟩
  rcases other with ne | runs
  · exact ne one
  · exact Bool.false_ne_true (idle.symm.trans runs)

theorem exec_attestationDone_eq (runs : s.plat.attRun = true) : exec .attestationDone s =
    if 2 ^ 20 ≤ s.plat.nvKey then .next (s.onPlat (fun p => { p with attStat := 2, attRun := false }))
    else .next (s.onPlat (fun p => { p with attStat := 1, attRun := false, nvKey := p.nvKey + 1, report := some s.makeReport })) :=
  if_neg (by simp [serving, runs])

/-! ### Host reads (22 R442, R446, Table 22.3) -/

/-- In READY the host reads BAR0 as it stands. -/
theorem State.hostRead_of_serving {off : Nat} (bar0 : off < 0x10000) : s.hostRead off = s.bar0At off := by
  have reached : reaches s.plat.phase off = true := by simp [reaches, State.serving_iff.mp serving, phREADY]
  rw [State.hostRead, reached, if_neg (by decide), if_neg (Nat.not_le.mpr bar0)]
end

theorem State.hostRead_of_denied {s : State} {off : Nat} (h : reaches s.plat.phase off = false) : s.hostRead off = 0#64 := by
  rw [State.hostRead, h]
  exact if_pos rfl

/-- ID and STATUS are reached in every phase. -/
theorem State.hostRead_of_status {s : State} {off : Nat} (h : off < 0x10) : s.hostRead off = s.bar0At off := by
  have reached : reaches s.plat.phase off = true := by simp [reaches, h]
  rw [State.hostRead, reached, if_neg (by decide), if_neg (by omega)]

section
variable (s : State)

/-- A field of BAR0 with eight bytes for each of its words. -/
theorem State.bar0At_pth {k : Nat} (h : k < 4) : s.bar0At (0x28 + 8 * k) = word (s.plat.pth.getD k 0) := by
  have place : (40 + 8 * k - 40) / 8 = k := by omega
  unfold State.bar0At
  dsimp only
  iterate 5 rw [if_neg (by omega)]
  rw [if_pos (by omega), place]

theorem State.bar0At_idPub {k : Nat} (h : k < 8) : s.bar0At (0x100 + 8 * k) = word (nbits s.plat.idPub.toNat (64 * k) 64) := by
  have place : 8 * (256 + 8 * k - 256) = 64 * k := by omega
  unfold State.bar0At
  dsimp only
  iterate 11 rw [if_neg (by omega)]
  rw [if_pos (by omega), place]

theorem State.bar0At_nonce {k : Nat} (h : k < 4) : s.bar0At (0x200 + 8 * k) = word (nbits s.plat.nonce.toNat (64 * k) 64) := by
  have place : 8 * (512 + 8 * k - 512) = 64 * k := by omega
  unfold State.bar0At
  dsimp only
  iterate 12 rw [if_neg (by omega)]
  rw [if_pos (by omega), place]

theorem State.bar0At_unlisted {off : Nat} (h : (0x60 ≤ off ∧ off < 0x80) ∨ (0x140 ≤ off ∧ off < 0x200) ∨ (0x250 ≤ off ∧ off < 0x1000) ∨
    (0x2000 ≤ off ∧ off < 0x10000)) : s.bar0At off = 0#64 := by
  unfold State.bar0At
  dsimp only
  iterate 16 rw [if_neg (by omega)]
end

/-! ### STATUS (22 Table 22.4) -/

theorem flag_le (b : Bool) (k : Nat) : (if b then 2 ^ k else 0) ≤ 2 ^ k := by
  split
  · exact le_rfl
  · exact Nat.zero_le _

/-- THROT is bit 23. -/
theorem State.status_throt (s : State) : s.status.getLsbD 23 = s.throttled := by
  rw [State.status, BitVec.getLsbD_ofNat, Nat.testBit_eq_decide_div_mod_eq]
  have trip := flag_le s.plat.trip 22
  have perr := flag_le s.plat.perr 21
  have out := flag_le (!s.withdrawn.isEmpty) 20
  have fail1 := flag_le s.plat.fail1 17
  have fail0 := flag_le s.plat.fail0 16
  cases s.throttled
  · simp only [if_neg Bool.false_ne_true, Nat.reducePow] at *
    simp only [show 23 < 64 from by decide, decide_true, Bool.true_and, decide_eq_false_iff_not]
    omega
  · simp only [if_true, Nat.reducePow] at *
    simp only [show 23 < 64 from by decide, decide_true, Bool.true_and, decide_eq_true_eq]
    omega

theorem State.throttled_iff (s : State) : s.throttled = true ↔ ((s.plat.phase = 4 ∨ s.plat.phase = 5 ∨ s.plat.phase = 7) ∧
    (s.plat.throt = true ∨ ∃ d ∈ s.dies, 95 ≤ d.temp)) := by
  simp [State.throttled, phTRAIN, phREADY, phHALTED, or_assoc]

/-! ### Heat (22 R438) -/

theorem State.setTemp_eq (s : State) {d : Nat} (h : d < 4) (c : Nat) : s.setTemp d c =
    if 105 ≤ c then (s.setDie d { s.die d with temp := c }).onPlat (fun p => { p with trip := true, phase := 7 })
    else s.setDie d { s.die d with temp := c } := if_neg (Nat.not_le.mpr h)

end Sys2Proof.Machine

namespace Sys2Proof.Claims

open Sys2Proof.Machine

/-- Settles O60: each register's event is one test on the state, a host's read is one row of BAR0, and THROT is the one field of STATUS from bit 23
up to TRIP's place. -/
theorem managementEvents : Obligations.ManagementEvents := by
  refine ⟨?_, ?_, ?_, ?_, ?_, ?_, ?_, ?_, ?_, ?_, ?_⟩
  · intro s val serving
    refine ⟨fun right same => exec_partWrite_of_right serving right ?_, exec_partWrite_of_wrong serving, fun none_ => ?_, fun ⟨g, mem, runs⟩ => ?_,
      fun k => exec_pthWrite_eq serving k val, exec_qarg0_eq serving val, exec_qarg1_eq serving val, rfl⟩
    · rintro ⟨d, hd, ne, busy⟩
      rcases same d hd with eq | free
      · exact ne eq
      · exact Bool.false_ne_true (free.symm.trans busy)
    · rw [exec_rankWrite_eq serving, if_neg (by simpa using none_)]
    · rw [exec_rankWrite_eq serving, if_pos (List.any_eq_true.mpr ⟨g, mem, runs⟩)]
  · intro s acc out
    refine ⟨_, ?_, rfl⟩
    rw [exec_deniedAccess, execDeniedAccess, out]
    rfl
  · intro s nonce serving
    rw [exec_attNonceWrite_eq serving]
    exact ⟨fun idle => by rw [idle]; rfl, fun runs => by rw [runs]; rfl⟩
  · intro s serving idle
    exact congrArg Host.Outcome.next (State.attCommand_starts serving idle)
  · intro s serving runs
    rw [exec_attestationDone_eq serving runs]
    refine ⟨fun left => ?_, fun spent => if_pos spent⟩
    exact ⟨_, s.makeReport, if_neg (Nat.not_le.mpr left), rfl, rfl, rfl, rfl, rfl, rfl⟩
  · intro s val serving
    exact ⟨fun other => congrArg Host.Outcome.next (State.attCommand_keeps serving other), rfl⟩
  · intro s
    refine ⟨fun off => State.hostRead_of_denied, State.hostRead_of_status (by decide), State.hostRead_of_status (by decide), fun serving => ?_,
      fun none_ i => by rw [Platform.reportByte, none_]⟩
    have reads {off : Nat} (bar0 : off < 0x10000) := State.hostRead_of_serving serving bar0
    exact ⟨reads (by decide), reads (by decide), reads (by decide), reads (by decide), reads (by decide), reads (by decide), reads (by decide),
      reads (by decide), fun k hk => (reads (by omega)).trans (s.bar0At_pth hk), fun k hk => (reads (by omega)).trans (s.bar0At_idPub hk),
      fun k hk => (reads (by omega)).trans (s.bar0At_nonce hk), fun off hoff => (reads (by omega)).trans (s.bar0At_unlisted hoff)⟩
  · intro s
    rw [State.status_throt, State.throttled_iff]
  · intro s w phase
    exact if_pos phase
  · intro s d c hd
    have sets : exec (.thermalTrip d c) s = .next (s.setTemp d c) := rfl
    rw [sets, State.setTemp_eq s hd]
    refine ⟨fun hot => ?_, fun cool => congrArg _ (if_neg (Nat.not_le.mpr cool))⟩
    rw [if_pos hot]
    exact ⟨_, rfl, rfl, rfl, rfl⟩
  · intro s h
    rfl

end Sys2Proof.Claims
end

section
/-!
PROOFS. Taking a trap and returning from a handler (14 R362 to R366, R387, R388; 04 R109): what entering a trap leaves of its group, the base PC and
the skew, and TRAP, BRK and RTT at issue.
-/

namespace Sys2Proof.Machine

/-! ### What a trap leaves of a group (14 R364, 04 R112) -/

theorem Access.relTo_but_rel (nested : Bool) (b : Nat) (a : Access) : { a.relTo nested b with rel := none } = { a with rel := none } := by
  unfold Access.relTo
  split <;> rfl

theorem isMonw_relTo (nested : Bool) (b : Nat) (a : Access) : isMonw (a.relTo nested b) = isMonw a := by
  unfold Access.relTo
  split <;> rfl

theorem map_relTo_but_rel (nested : Bool) (b : Nat) (l : List Access) :
    (l.map (Access.relTo nested b)).map (fun (a : Access) => { a with rel := none }) = l.map (fun (a : Access) => { a with rel := none }) := by
  rw [List.map_map]
  exact List.map_congr_left fun a _ => Access.relTo_but_rel nested b a

/-- What a trap keeps of a group `g`: its registers, its accesses but for a MONW and for their distances, and no part to issue. -/
def Group.keptOverTrap (g h : Group) : Prop :=
  h.n = g.n ∧ h.e = g.e ∧ h.p = g.p ∧ h.a = g.a ∧ h.f = g.f ∧ h.vregs = g.vregs ∧ h.loops = g.loops ∧ h.spill = g.spill ∧
  h.guards = g.guards ∧ h.wicks = g.wicks ∧ h.mcfg = g.mcfg ∧ h.fpflags = g.fpflags ∧ h.ldata = g.ldata ∧ h.sdata = g.sdata ∧
  h.stores.map (fun (a : Access) => { a with rel := none }) = g.stores.map (fun (a : Access) => { a with rel := none }) ∧
  h.loads.map (fun (a : Access) => { a with rel := none }) = (g.loads.filter (fun a => !isMonw a)).map (fun (a : Access) => { a with rel := none }) ∧
  h.fly = g.fly ∧ ∀ k, h.slotQ k = []

theorem Group.relSeqs_discard_kept (g : Group) (nested : Bool) : g.keptOverTrap (g.relSeqs nested).discard := by
  refine ⟨rfl, rfl, rfl, rfl, rfl, rfl, rfl, rfl, rfl, rfl, rfl, rfl, rfl, rfl, map_relTo_but_rel nested _ _, ?_, rfl,
    fun k => by cases k <;> rfl⟩
  have loads : (g.relSeqs nested).discard.loads = (g.loads.filter (fun a => !isMonw a)).map (Access.relTo nested g.oldestSeq) := by
    refine List.filter_map.trans (congrArg _ (congrArg (List.filter · g.loads) (funext fun a => ?_)))
    exact congrArg _ (isMonw_relTo nested _ a)
  rw [loads, map_relTo_but_rel]

/-! ### Where a trap goes (14 R364 to R366) -/

@[simp] theorem State.post_group (s : State) (q : Nat) (quads : List Word) (r : GRef) : (s.post q quads).2.group r = s.group r := by
  unfold State.post
  split
  · rfl
  · exact State.group_of_cores rfl r

theorem stopGroup_group {s : State} {r : GRef} (hg : (s.group r).isSome = true) (g : Group) (base : Nat) (skew cause addr : Word) (hskip : Nat)
    (pOld : Option Before) (code : Nat) (nest abortOnly : Bool) : ∃ serial q,
    (stopGroup s r g base skew cause addr hskip pOld code nest abortOnly).group r =
      some { g.discard with stop := some ⟨base, skew, hskip, pOld, code, serial, q, abortOnly, none⟩ } := by
  obtain ⟨g₀, hg₀⟩ := Option.isSome_iff_exists.mp hg
  exact ⟨_, _, State.group_setGroup_same _ r _ g₀ ((State.post_group ..).trans hg₀)⟩

/-- TRAP.* as a trap outside a handler writes them. -/
def Group.trapRegs (g : Group) (code info addr base : Nat) (skew : Word) (hskip : Nat) (mult : Bool) : TrapRegs :=
  { g.trap with pc := base, skew := skew, hskip := hskip, pOld := g.relOld, cause := causeWord code info mult, addr := word (addr % 2 ^ 56) }

/-- The group as a trap outside a handler leaves it, before it is discarded. -/
def Group.trapped (g : Group) (code info addr base : Nat) (skew : Word) (hskip : Nat) (mult : Bool) : Group :=
  { (g.relSeqs false).holdScales with held := g.lat, trap := g.trapRegs code info addr base skew hskip mult }.clearLatches

section
variable {s : State} {r : GRef} {g : Group} (hg : (s.group r).isSome = true) (code info addr base : Nat) (skew : Word) (hskip : Nat) (mult : Bool)
include hg

theorem enterTrap_group_of_nested (nested : g.trap.inh = true) : ∃ x : StopRec, x.base = base ∧ x.skew = skew ∧ x.code = code ∧
    (enterTrap s r g code info addr base skew hskip mult).group r = some { (g.relSeqs true).relScales.discard with stop := some x } := by
  obtain ⟨serial, q, stops⟩ := stopGroup_group hg (g.relSeqs true).relScales base skew (causeWord code info mult) (word (addr % 2 ^ 56)) hskip
    g.relOld code true false
  refine ⟨_, rfl, rfl, rfl, Eq.trans ?_ stops⟩
  rw [enterTrap, nested]
  rfl

theorem enterTrap_group_of_stopped (outside : g.trap.inh = false) (h : code = 12 ∨ g.trap.vec = 0#64) :
    ∃ x : StopRec, x.base = base ∧ x.skew = skew ∧ x.code = code ∧ (enterTrap s r g code info addr base skew hskip mult).group r =
      some { (g.trapped code info addr base skew hskip mult).discard with stop := some x } := by
  obtain ⟨serial, q, stops⟩ := stopGroup_group hg (g.trapped code info addr base skew hskip mult) base skew (causeWord code info mult)
    (word (addr % 2 ^ 56)) hskip none code false false
  refine ⟨_, rfl, rfl, rfl, Eq.trans ?_ stops⟩
  rw [enterTrap, outside, if_neg Bool.false_ne_true]
  exact congrArg (State.group · r) (if_pos h)

theorem enterTrap_group_of_handled (outside : g.trap.inh = false) (h : ¬ (code = 12 ∨ g.trap.vec = 0#64)) :
    (enterTrap s r g code info addr base skew hskip mult).group r = some { (g.trapped code info addr base skew hskip mult).discard with
      trap := { g.trapRegs code info addr base skew hskip mult with inh := true }
      pc := g.trap.vec.toNat
      fetchHold := false } := by
  obtain ⟨g₀, hg₀⟩ := Option.isSome_iff_exists.mp hg
  refine Eq.trans ?_ (State.group_setGroup_same s r _ g₀ hg₀)
  rw [enterTrap, outside, if_neg Bool.false_ne_true]
  exact congrArg (State.group · r) (if_neg h)
end

/-- A breakpoint stops its group, in a handler and outside (14 R387). -/
theorem enterTrap_breakpoint_stops {s : State} {r : GRef} (hg : (s.group r).isSome = true) (g : Group) (info addr base : Nat) (skew : Word)
    (hskip : Nat) (mult : Bool) : ∃ h, (enterTrap s r g 12 info addr base skew hskip mult).group r = some h ∧ h.stop.isSome = true := by
  cases nested : g.trap.inh with
  | true =>
    obtain ⟨x, -, -, -, stops⟩ := enterTrap_group_of_nested hg 12 info addr base skew hskip mult nested
    exact ⟨_, stops, rfl⟩
  | false =>
    obtain ⟨x, -, -, -, stops⟩ := enterTrap_group_of_stopped hg 12 info addr base skew hskip mult nested (.inl rfl)
    exact ⟨_, stops, rfl⟩

/-! ### The base PC and the skew (04 R109, Table 4.3) -/

theorem foldl_min_of_least {b : Nat} (l : List Nat) (a : Nat) (least : ∀ x ∈ a :: l, b ≤ x) (mem : b ∈ a :: l) : l.foldl Nat.min a = b := by
  induction l generalizing a with
  | nil => exact (List.mem_singleton.mp mem).symm
  | cons x l ih =>
    have ha := least a (by simp)
    have hx := least x (by simp)
    refine ih (a.min x) (fun y hy => ?_) ?_
    · rcases List.mem_cons.mp hy with rfl | later
      · exact Nat.le_min.mpr ⟨ha, hx⟩
      · exact least y (by simp [later])
    · rcases List.mem_cons.mp mem with rfl | mem
      · exact List.mem_cons.mpr (.inl (Nat.min_eq_left hx).symm)
      · rcases List.mem_cons.mp mem with rfl | later
        · exact List.mem_cons.mpr (.inl (Nat.min_eq_right ha).symm)
        · exact List.mem_cons_of_mem _ later

theorem mem_slots (k : Slot) : k ∈ slots := by cases k <;> decide

theorem Group.basePC_of_least {g : Group} {base : Nat} (least : ∀ j, base ≤ g.nextAddr j) (attained : ∃ j, base = g.nextAddr j) :
    g.basePC = base := by
  obtain ⟨j, rfl⟩ := attained
  refine foldl_min_of_least _ _ (fun x hx => ?_) (List.mem_cons_of_mem _ (List.mem_map_of_mem (mem_slots j)))
  rcases List.mem_cons.mp hx with rfl | hx
  · exact least _
  · obtain ⟨i, -, rfl⟩ := List.mem_map.mp hx
    exact least i

/-- TRAP.SKEW holds its source and each slot's offset. -/
theorem bits_skewWord {f : Slot → Nat} (small : ∀ j, f j < 16) {src : Nat} (hsrc : src < 8) :
    bits (skewWord (slots.map f) src) 24 3 = src ∧ ∀ j : Slot, bits (skewWord (slots.map f) src) (4 * j.num) 4 = f j := by
  have hs := small .S
  have ha := small .A
  have hv := small .V
  have hm := small .M
  have hc := small .C
  have hk := small .K
  have value : (skewWord (slots.map f) src).toNat =
      f .S + 16 * f .A + 256 * f .V + 4096 * f .M + 65536 * f .C + 1048576 * f .K + 16777216 * src := by
    simp only [skewWord, slots, List.map_cons, List.map_nil, List.getD_cons_zero, List.getD_cons_succ, word, BitVec.toNat_ofNat]
    omega
  refine ⟨?_, fun j => ?_⟩
  · rw [bits, value, Nat.shiftRight_eq_div_pow]
    omega
  · rw [bits, value, Nat.shiftRight_eq_div_pow]
    cases j <;> simp only [Slot.num] <;> omega

theorem slotNum_lt_8 (k : Slot) : k.num < 8 := by cases k <;> decide

/-! ### Header actions before a trap (04 R105, R107; log 22) -/

theorem Group.settleHeaders_trap (g : Group) : g.settleHeaders.trap = g.trap := by
  refine foldl_keeps Group.trap (fun g h => ?_) _ g
  have loops (g : Group) : g.loopedEnd.trap = g.trap := by
    unfold Group.loopedEnd
    split
    · rfl
    · split <;> rfl
  dsimp only
  split
  · rw [loops]
    split <;> rfl
  · split <;> rfl

/-! ### The rule of RTT (14 R388) -/

theorem ownRtt_eq_go {g : Group} {skip : Bool} {offs : List Nat} (handler : g.trap.inh = true)
    (back : returnOffs g.trap.skew skip (bits g.trap.cause 0 8 == 13) = some offs) : ownRtt g skip = .go :=
  trapIf_of_false (by rw [handler, back]; rfl) 4 0 0

theorem ownRtt_of_outside {g : Group} (skip : Bool) (outside : g.trap.inh = false) : ownRtt g skip = .trap 4 0 0 :=
  trapIf_of_true (by rw [outside]; rfl) 4 0 0

end Sys2Proof.Machine

namespace Sys2Proof.Claims

open Sys2Proof.Machine

/-- Settles O50: a trap is nested, or stops its group, or enters the handler, each leaves the group with its parts discarded, and the base is the
least of the slots' next addresses. -/
theorem trapEntry : Obligations.TrapEntry := by
  refine ⟨?_, ?_, ?_, fun _ _ _ _ _ _ _ => rfl, fun _ _ => rfl⟩
  · intro s r g code info addr base skew hskip mult hg
    refine ⟨State.sameBytes_of_memories (enterTrap_memories ..), ?_⟩
    obtain ⟨n, e, p, a, f, vregs, loops, spill, guards, wicks, mcfg, fpflags, ldata, sdata, stores, loads, fly, parts⟩ :=
      g.relSeqs_discard_kept g.trap.inh
    cases inh : g.trap.inh with
    | true =>
      rw [inh] at stores loads
      obtain ⟨x, hbase, hskew, hcode, stops⟩ := enterTrap_group_of_nested hg code info addr base skew hskip mult inh
      exact ⟨_, stops, n, e, p, a, f, vregs, loops, spill, guards, wicks, mcfg, fpflags, ldata, sdata, stores, loads, fly,
        fun k => by cases k <;> rfl, nofun, fun _ => ⟨rfl, x, rfl, hbase, hskew, hcode⟩⟩
    | false =>
      rw [inh] at stores loads
      by_cases hstop : code = 12 ∨ g.trap.vec = 0#64
      · obtain ⟨x, hbase, hskew, hcode, stops⟩ := enterTrap_group_of_stopped hg code info addr base skew hskip mult inh hstop
        exact ⟨_, stops, n, e, p, a, f, vregs, loops, spill, guards, wicks, mcfg, fpflags, ldata, sdata, stores, loads, fly,
          fun k => by cases k <;> rfl, fun _ => ⟨rfl, rfl, rfl, rfl, rfl, rfl, rfl, fun hcode hvec => absurd hstop (not_or.mpr ⟨hcode, hvec⟩),
            fun _ => ⟨inh, x, rfl, hbase, hskew, hcode⟩⟩, nofun⟩
      · exact ⟨_, enterTrap_group_of_handled hg code info addr base skew hskip mult inh hstop, n, e, p, a, f, vregs, loops, spill, guards, wicks,
          mcfg, fpflags, ldata, sdata, stores, loads, fly, fun k => by cases k <;> rfl,
          fun _ => ⟨rfl, rfl, rfl, rfl, rfl, rfl, rfl, fun _ _ => ⟨rfl, rfl, rfl⟩, fun h => absurd h hstop⟩, nofun⟩
  · intro s r g k code info addr base least attained
    refine ⟨skewWord (slots.map (g.offset base)) k.num, g.rotatedFrom base, ?_, fun small => bits_skewWord small (slotNum_lt_8 k)⟩
    rw [trapPart, Group.basePC_of_least least attained]
  · intro s r g code base t least attained
    refine ⟨skewWord (slots.map (g.offset base)) 7, g.rotatedFrom base, ?_, fun small => bits_skewWord small (by decide)⟩
    rw [trapAsync, Group.basePC_of_least least attained]

/-- Settles O15: each part's own rule lets it go or traps, and a breakpoint stops its group whether or not it is in a handler. -/
theorem softwareTrapsAndReturn : Obligations.SoftwareTrapsAndReturn := by
  refine ⟨?_, ?_, ?_, ?_, ?_, ?_⟩
  · intro x s g p ⟨hh, hi⟩
    rw [exec_trap, execTrap, runPart_issues _ _ s _ g p hh hi rfl]
    rfl
  · intro x s g p ⟨hh, hi⟩
    rw [exec_brk, execBrk, runPart_issues _ _ s _ g p hh hi rfl]
  · intro s r g info addr base skew hskip mult hg
    exact enterTrap_breakpoint_stops hg g info addr base skew hskip mult
  · intro x s g p offs ⟨hh, hi⟩ handler back
    have go : own s s.cur g .S p (.rtt x) = .go := ownRtt_eq_go handler back
    have trap : (issued g .S p (.rtt x)).settleHeaders.trap = g.trap := (Group.settleHeaders_trap _).trans (issued_trap ..)
    rw [exec_rtt, execRtt, runPart_issues _ _ s _ g p hh hi go]
    dsimp only
    rw [trap, back]
    rfl
  · intro x s g p ⟨⟨hh, hi⟩, hd, hb⟩ outside
    have traps : own s s.cur g .S p (.rtt x) = .trap 4 0 0 := ownRtt_of_outside _ outside
    rw [exec_rtt, execRtt, runPart_traps _ _ s _ g p 4 0 0 hh hi traps hd hb (by decide) (by decide), Group.switchV_of_ne (by decide)]
  · intro g base offs hskip
    exact ⟨rfl, rfl, rfl, rfl, rfl, rfl, rfl⟩

end Sys2Proof.Claims
end

section
/-!
PROOFS. The instructions of the system state (14 R389, Table 14.4; 02 R34; 05 R137, R150): what a read depends on, what each write leaves of it, and
the pop of a stream whose entry is poisoned.
-/

namespace Sys2Proof.Machine

/-! ### A part whose own rule raises the data-error trap (14 R381) -/

/-- A part that nothing but its own trap holds back has that trap for its verdict. -/
theorem verdict_of_trap {s : State} {g : Group} {k : Slot} {p : Part} {i : Instr} {code info addr : Nat} (h : issuable s g k p i = true)
    (ho : own s s.cur g k p i = .trap code info addr) : verdict s s.cur g k p i = .trap code info addr := by
  obtain ⟨-, -, -, -, -, hz, hl, hp, -, -, -, hm, -, -⟩ := (issuable_iff s g k p i).mp h
  have mine : verdictAlone s s.cur g k p i true = .trap code info addr := by simp [verdictAlone, hz, hl, hp, ho, Verdict.then]
  have mates : ∀ x ∈ (syncMates g k p).map (fun x => (x.1.num, verdictAlone s s.cur g x.1 x.2 x.2.instr true)), x.2 = .go := by
    intro x hx
    obtain ⟨y, hy, rfl⟩ := List.mem_map.mp hx
    simpa using List.all_eq_true.mp hm y hy
  have noneWaits : ((syncMates g k p).map (fun x => (x.1.num, verdictAlone s s.cur g x.1 x.2 x.2.instr true))).any
      (fun x => x.2 == .wait) = false := by
    rw [List.any_eq_false]
    intro x hx
    simp [mates x hx]
  have noneBefore : ((syncMates g k p).map (fun x => (x.1.num, verdictAlone s s.cur g x.1 x.2 x.2.instr true))).any
      (fun x => x.2.traps && decide (x.1 < k.num)) = false := by
    rw [List.any_eq_false]
    intro x hx
    simp [mates x hx, Verdict.traps]
  simp only [verdict, mine, noneWaits, noneBefore]
  simp [Verdict.traps]

/-- A data-error trap is taken once the error that the part's own read met is logged (14 R384). -/
theorem runPart_traps_dataError {k : Slot} {i : Instr} {s : State} (f : State → GRef → Group → Part → State) {g : Group} {p : Part}
    {info addr : Nat} (h : s.mayTrap g k p i) (ho : own s s.cur g k p i = .trap 8 info addr) :
    runPart k i s f = .next (trapPart ((s.noteIssue s.cur).logTrap s.cur g k i info addr) s.cur (g.switchV k p) k 8 info addr) := by
  obtain ⟨⟨hh, hi⟩, hd, hf⟩ := h
  obtain ⟨hj, hs, hb, ht, -⟩ := (issuable_iff s g k p i).mp hi
  simp [runPart, hh, judged_none s k p hj, hs, hb, ht, verdict_of_trap hi ho, hd, hf]

/-! ### What an issue leaves of the flags and the streams (02 R34) -/

/-- The flags that a part of the bundle at `seq` reads. -/
def Group.flagsBefore (g : Group) (seq : Nat) : BitVec 6 :=
  match g.pOld with
  | some b => if b.seq = seq then b.flags else g.fpflags
  | none => g.fpflags

theorem Group.flagsAt_eq (g : Group) (seq : Nat) : g.flagsAt seq = { g with fpflags := g.flagsBefore seq } := by
  cases h : g.pOld with
  | none =>
    simp only [Group.flagsAt, Group.flagsBefore, h]
    rw [← h]
  | some b =>
    by_cases same : b.seq = seq
    · simp only [Group.flagsAt, Group.flagsBefore, h, if_pos same]
    · simp only [Group.flagsAt, Group.flagsBefore, h, if_neg same]
      rw [← h]

/-- An S part that writes no predicate keeps nothing of its bundle. -/
theorem issued_pOld_of_S {i : Instr} (h : predDests i = []) (g : Group) (p : Part) : (issued g .S p i).pOld = g.pOld := by
  have kept : (g.switchV .S p).keepOld .S p i = g := by
    rw [Group.switchV_of_ne (by decide)]
    refine if_neg ?_
    simp [h]
  rw [issued, kept]
  rfl

@[simp] theorem issued_ldataOf (g : Group) (k : Slot) (p : Part) (i : Instr) (n : Nat) : (issued g k p i).ldataOf n = g.ldataOf n := by
  simp [Group.ldataOf]

theorem Group.ldataOf_pop_same {g : Group} {k : Nat} (h : k < g.ldata.length) : (g.pop k).ldataOf k = (g.ldataOf k).tail := by
  simp [Group.ldataOf, Group.pop, List.getD_eq_getElem?_getD, h]

theorem Group.ldataOf_pop_other (g : Group) {j k : Nat} (h : j ≠ k) : (g.pop k).ldataOf j = g.ldataOf j := by
  simp [Group.ldataOf, Group.pop, List.getD_eq_getElem?_getD, List.getElem?_set_ne h.symm]

/-! ### What a read of the system state depends on (14 Table 14.4) -/

/-- Entry `m` reads the same of two groups that agree on everything but the entries that are written, and on that one. -/
theorem State.csr_congr (s : State) (r : GRef) {g h : Group} {m : Nat} (gid : h.gid = g.gid) (cls : h.cls = g.cls) (spill : h.spill = g.spill)
    (lim : h.spillLim = g.spillLim) (ldata : h.ldata = g.ldata) (cause : h.trap.cause = g.trap.cause) (addr : h.trap.addr = g.trap.addr)
    (state : h.trap.stateWord = g.trap.stateWord) (flags : m = 0x030 → h.fpflags = g.fpflags) (skew : m = 0x041 → h.trap.skew = g.trap.skew)
    (pc : m = 0x042 → h.trap.pc = g.trap.pc) (vec : m = 0x044 → h.trap.vec = g.trap.vec)
    (save : ∀ k, k < 8 → m = 0x048 + k → h.trap.save.getD k 0#64 = g.trap.save.getD k 0#64) : s.csr r h m = s.csr r g m := by
  unfold State.csr Group.ldataOf
  rw [gid, cls, spill, lim, ldata, cause, addr, state]
  dsimp only
  split
  · rename_i range
    exact save (m - 0x048) (by omega) (by omega)
  · split
    · rfl
    · split
      case h_9 => rw [flags rfl]
      case h_11 => rw [skew rfl]
      case h_12 => rw [pc rfl]
      case h_14 => rw [vec rfl]
      all_goals rfl

theorem State.csr_flags (s : State) (r : GRef) (g : Group) (f : BitVec 6) {m : Nat} (h : m ≠ 0x030) :
    s.csr r { g with fpflags := f } m = s.csr r g m :=
  s.csr_congr r rfl rfl rfl rfl rfl rfl rfl rfl (fun same => absurd same h) (fun _ => rfl) (fun _ => rfl) (fun _ => rfl) (fun _ _ _ => rfl)

theorem State.csr_flags_same (s : State) (r : GRef) (g : Group) (f : BitVec 6) : s.csr r { g with fpflags := f } 0x030 = word f.toNat := rfl

@[simp] theorem State.csr_issued (s : State) (r : GRef) (g : Group) (k : Slot) (p : Part) (i : Instr) (m : Nat) :
    s.csr r (issued g k p i) m = s.csr r g m := by
  refine s.csr_congr r ?_ ?_ ?_ ?_ ?_ ?_ ?_ ?_ (fun _ => ?_) (fun _ => ?_) (fun _ => ?_) (fun _ => ?_) (fun _ _ _ => ?_) <;> simp

/-- A stream's entry reads as its oldest. -/
theorem State.csr_pop (s : State) (r : GRef) {g : Group} {m : Nat} (lo : 0x060 ≤ m) (hi : m ≤ 0x06F) {d : DataEnt} {l : List DataEnt}
    (hd : g.ldataOf (m - 0x060) = d :: l) : s.csr r g m = word d.row.toNat := by
  unfold State.csr
  rw [if_neg (by omega), if_pos ⟨lo, hi⟩, hd]

theorem State.csr_save (s : State) (r : GRef) (g : Group) {k : Nat} (h : k < 8) : s.csr r g (0x048 + k) = g.trap.save.getD k 0#64 := by
  unfold State.csr
  rw [if_pos (by omega), Nat.add_sub_cancel_left]

theorem State.csr_csrEntries {s : State} {g : Group} {t : Task} (ht : s.task g.gid.task = some t) (r : GRef) :
    ∀ e ∈ Claims.csrEntries s g t, s.csr r g e.1 = e.2 := by
  intro e he
  rcases List.mem_append.mp he with fixed | saved
  · simp only [List.mem_cons, List.not_mem_nil, or_false] at fixed
    rcases fixed with rfl | rfl | rfl | rfl | rfl | rfl | rfl | rfl | rfl | rfl | rfl | rfl | rfl | rfl | rfl | rfl | rfl | rfl
    case inr.inr.inr.inr.inl =>
      dsimp only
      rw [State.csr_deadline, ht]
      rfl
    all_goals simp [State.csr, ht, TrapRegs.stateWord]
  · obtain ⟨k, hk, rfl⟩ := List.mem_map.mp saved
    exact s.csr_save r g (List.mem_range.mp hk)

/-- The entries that CSRR only reads are neither FP.FLAGS nor a stream. -/
theorem csrEntries_address {s : State} {g : Group} {t : Task} {e : Nat × Word} (he : e ∈ Claims.csrEntries s g t) :
    e.1 ≠ 0x030 ∧ ¬ (0x060 ≤ e.1 ∧ e.1 ≤ 0x06F) := by
  have addresses : (Claims.csrEntries s g t).map Prod.fst = [0x010, 0x011, 0x012, 0x013, 0x014, 0x015, 0x016, 0x020, 0x040, 0x041, 0x042, 0x043,
      0x044, 0x045, 0x050, 0x051, 0x070, 0x080, 0x048, 0x049, 0x04A, 0x04B, 0x04C, 0x04D, 0x04E, 0x04F] := rfl
  have all : ∀ n ∈ (Claims.csrEntries s g t).map Prod.fst, n ≠ 0x030 ∧ ¬ (0x060 ≤ n ∧ n ≤ 0x06F) := by
    rw [addresses]
    decide
  exact all e.1 (List.mem_map_of_mem he)

/-! ### CSRR (14 R389, 05 R137) -/

section
variable {s : State} {x : CsrRd} {g : Group} {p : Part}

theorem ownCsrr_of_entry {n : Nat} (h : ¬ (0x060 ≤ n ∧ n ≤ 0x06F)) : ownCsrr g n = .go := if_neg h

theorem ownCsrr_of_pop {n : Nat} (lo : 0x060 ≤ n) (hi : n ≤ 0x06F) {d : DataEnt} {l : List DataEnt} (hd : g.ldataOf (n - 0x060) = d :: l) :
    ownCsrr g n = d.poison.elim .go poisonTrap := by
  rw [ownCsrr, if_pos ⟨lo, hi⟩, hd]

theorem exec_csrr_reads (h : s.ready g .S p (.csrr x)) (go : ownCsrr g x.num.toNat = .go) (entry : ¬ (0x060 ≤ x.num.toNat ∧ x.num.toNat ≤ 0x06F)) :
    exec (.csrr x) s = .next (s.issueWith ((issued g .S p (.csrr x)).resultS p.seq x.dst.toNat
      (s.csr s.cur { issued g .S p (.csrr x) with fpflags := g.flagsBefore p.seq } x.num.toNat))) := by
  obtain ⟨hh, hi⟩ := h
  have flags : (issued g .S p (.csrr x)).flagsBefore p.seq = g.flagsBefore p.seq := by
    rw [Group.flagsBefore, issued_pOld_of_S rfl, issued_fpflags, Group.flagsBefore]
  rw [exec_csrr, execCsrr, runPart_issues _ _ s _ g p hh hi go]
  dsimp only
  rw [if_neg entry, Group.flagsAt_eq, flags]
  rfl

theorem exec_csrr_pops (h : s.ready g .S p (.csrr x)) (go : ownCsrr g x.num.toNat = .go) (lo : 0x060 ≤ x.num.toNat) (hi : x.num.toNat ≤ 0x06F) :
    exec (.csrr x) s = .next (s.issueWith (((issued g .S p (.csrr x)).pop (x.num.toNat - 0x060)).resultS p.seq x.dst.toNat
      (s.csr s.cur g x.num.toNat))) := by
  obtain ⟨hh, hi'⟩ := h
  rw [exec_csrr, execCsrr, runPart_issues _ _ s _ g p hh hi' go]
  dsimp only
  rw [if_pos ⟨lo, hi⟩, Group.flagsAt_eq, State.csr_flags _ _ _ _ (by omega), State.csr_issued]
  rfl
end

/-! ### Writes (14 R389) -/

theorem csrBad_eq_false_iff (n : Nat) (v : Word) :
    csrBad n v = false ↔ ((n = 0x042 ∨ n = 0x044) → v.toNat % 32 = 0 ∧ v.toNat < 2 ^ 56) := by
  rw [← jumpBad_eq_false_iff, csrBad, Bool.and_eq_false_imp, Bool.or_eq_true, beq_iff_eq, beq_iff_eq]

theorem csrBad_of_save (k : Nat) (h : k < 8) (v : Word) : csrBad (0x048 + k) v = false := by
  rw [csrBad_eq_false_iff]
  omega

section
variable {s : State} {x : CsrWr} {e : Instr × (Word → Word → Word)} (he : e ∈ Claims.stateWrites x) {g : Group} {p : Part} {v : Word}
  (hv : v = e.2 (s.csr s.cur g x.num.toNat) (s.operand g x.sa))
include he hv

theorem own_of_stateWrites : own s s.cur g .S p e.1 = trapIf (csrBad x.num.toNat v) 2 0 0 := by
  subst hv
  fin_cases he <;> rfl

theorem exec_stateWrites (h : s.ready g .S p e.1) (good : csrBad x.num.toNat v = false) :
    exec e.1 s = .next (s.issueWith ((issued g .S p e.1).setCsr x.num.toNat v)) := by
  obtain ⟨hh, hi⟩ := h
  have go : own s s.cur g .S p e.1 = .go := (own_of_stateWrites he hv).trans (trapIf_of_false good ..)
  subst hv
  fin_cases he
  · rw [exec_csrw, execCsrw, runGroup_issues _ _ s _ g p hh hi go, scalarSrc_issued]
    rfl
  · rw [exec_csrs, execCsrs, runPart_issues _ _ s _ g p hh hi go, State.csr_issued, scalarSrc_issued]
    rfl
  · rw [exec_csrc, execCsrc, runPart_issues _ _ s _ g p hh hi go, State.csr_issued, scalarSrc_issued]
    rfl

theorem exec_stateWrites_traps (h : s.mayTrap g .S p e.1) (bad : csrBad x.num.toNat v = true) :
    exec e.1 s = .next (trapPart (s.noteIssue s.cur) s.cur g .S 2 0 0) := by
  obtain ⟨⟨hh, hi⟩, hd, hb⟩ := h
  have traps : own s s.cur g .S p e.1 = .trap 2 0 0 := (own_of_stateWrites he hv).trans (trapIf_of_true bad ..)
  have slot : ∃ f, exec e.1 s = runPart .S e.1 s f := by fin_cases he <;> exact ⟨_, rfl⟩
  obtain ⟨f, runs⟩ := slot
  rw [runs, runPart_traps _ _ s _ g p 2 0 0 hh hi traps hd hb (by decide) (by decide), Group.switchV_of_ne (by decide)]
end

/-! ### What each write leaves (14 Table 14.4) -/

section
variable (g : Group) (v : Word)

theorem Group.setCsr_flags : g.setCsr 0x030 v = { g with fpflags := v.setWidth 6 } := by
  have same : v.extractLsb' 0 6 = v.setWidth 6 := BitVec.eq_of_toNat_eq (by simp)
  rw [← same]
  rfl

theorem Group.setCsr_vec : g.setCsr 0x044 v = { g with trap := { g.trap with vec := v } } := rfl

theorem Group.setCsr_save {k : Nat} (h : k < 8) : g.setCsr (0x048 + k) v = { g with trap := { g.trap with save := g.trap.save.set k v } } := by
  unfold Group.setCsr
  rw [if_pos (by omega), Nat.add_sub_cancel_left]

/-- A production of a handler's interrupted code takes its place at the base of what a written TRAP.PC leads to. -/
def Prod.forget (t : Prod) : Prod :=
  match t.rel with
  | some (false, _) => { t with rel := some (false, 0) }
  | _ => t

theorem Prod.forget_but_rel (t : Prod) : { t.forget with rel := none } = { t with rel := none } := by
  unfold Prod.forget
  split <;> rfl

theorem Access.forget_but_rel (a : Access) : { a.forget false with rel := none } = { a with rel := none } := by
  unfold Access.forget
  split <;> rfl

theorem Group.setCsr_pc : g.setCsr 0x042 v = { g with
    trap := { g.trap with pc := v.toNat, skew := word (skewSlot g.trap.skew * 2 ^ 24), hskip := 0, pOld := none }
    toks := g.toks.map Prod.forget
    loads := g.loads.map (Access.forget false)
    stores := g.stores.map (Access.forget false) } := rfl

/-- What a write of TRAP.PC leaves of a group but for TRAP.* and the distances. -/
theorem Group.setCsr_pc_frame : { g.setCsr 0x042 v with trap := g.trap, toks := g.toks, loads := g.loads, stores := g.stores } = g ∧
    (g.setCsr 0x042 v).toks.map (fun t => { t with rel := none }) = g.toks.map (fun t => { t with rel := none }) ∧
    (g.setCsr 0x042 v).loads.map (fun a => { a with rel := none }) = g.loads.map (fun a => { a with rel := none }) ∧
    (g.setCsr 0x042 v).stores.map (fun a => { a with rel := none }) = g.stores.map (fun a => { a with rel := none }) := by
  rw [Group.setCsr_pc]
  refine ⟨rfl, ?_, ?_, ?_⟩
  · exact List.map_map.trans (List.map_congr_left fun t _ => Prod.forget_but_rel t)
  · exact List.map_map.trans (List.map_congr_left fun a _ => Access.forget_but_rel a)
  · exact List.map_map.trans (List.map_congr_left fun a _ => Access.forget_but_rel a)

theorem word_extract_flags : word (v.setWidth 6).toNat = v &&& 0x3F#64 := by
  refine BitVec.eq_of_toNat_eq ?_
  rw [BitVec.toNat_and, BitVec.toNat_ofNat, BitVec.toNat_setWidth, show (0x3F#64).toNat = 2 ^ 6 - 1 from rfl, Nat.and_two_pow_sub_one_eq_mod]
  omega

/-- An entry written reads back, and every other reads as before, but for the offsets of TRAP.SKEW under a write of TRAP.PC. -/
theorem State.csr_setCsr (s : State) (r : GRef) {n : Nat} (writes : Claims.writable n) (saves : g.trap.save.length = 8) :
    s.csr r (g.setCsr n v) n = (if n = 0x030 then v &&& 0x3F#64 else v) ∧
    ∀ m, m ≠ n → ¬ (n = 0x042 ∧ m = 0x041) → s.csr r (g.setCsr n v) m = s.csr r g m := by
  rcases writes with rfl | rfl | rfl | ⟨lo, hi⟩
  · rw [Group.setCsr_flags]
    exact ⟨word_extract_flags v, fun m hm _ => s.csr_flags r g _ hm⟩
  · refine ⟨word_toNat v, fun m hm hskew => ?_⟩
    exact s.csr_congr r rfl rfl rfl rfl rfl rfl rfl rfl (fun _ => rfl) (fun same => absurd ⟨rfl, same⟩ hskew) (fun same => absurd same hm)
      (fun _ => rfl) (fun _ _ _ => rfl)
  · refine ⟨rfl, fun m hm _ => ?_⟩
    exact s.csr_congr r rfl rfl rfl rfl rfl rfl rfl rfl (fun _ => rfl) (fun _ => rfl) (fun _ => rfl) (fun same => absurd same hm) (fun _ _ _ => rfl)
  · obtain ⟨k, hk, rfl⟩ : ∃ k, k < 8 ∧ n = 0x048 + k := ⟨n - 0x048, by omega, by omega⟩
    rw [g.setCsr_save v hk, if_neg (by omega), State.csr_save _ _ _ hk]
    refine ⟨by simp [List.getD_eq_getElem?_getD, saves, hk], fun m hm _ => ?_⟩
    refine s.csr_congr r rfl rfl rfl rfl rfl rfl rfl rfl (fun _ => rfl) (fun _ => rfl) (fun _ => rfl) (fun _ => rfl) (fun j _ same => ?_)
    have ne : k ≠ j := fun eq => hm (by rw [same, eq])
    simp [List.getD_eq_getElem?_getD, List.getElem?_set_ne ne]
end

end Sys2Proof.Machine

namespace Sys2Proof.Claims

open Sys2Proof.Machine

/-- Settles O16: an entry reads a field of the group that an issue leaves, and each write leaves every field that another entry reads. -/
theorem stateInstructions : Obligations.StateInstructions := by
  refine ⟨?_, ?_, ?_, ?_, ?_, ?_, ?_⟩
  · intro x s g p t ready ht e he num
    obtain ⟨flags, entry⟩ := csrEntries_address he
    rw [← num] at flags entry
    rw [exec_csrr_reads ready (ownCsrr_of_entry entry) entry, State.csr_flags _ _ _ _ flags, State.csr_issued, num, State.csr_csrEntries ht _ e he]
  · intro x s g p ready num
    have entry : ¬ (0x060 ≤ x.num.toNat ∧ x.num.toNat ≤ 0x06F) := by omega
    rw [exec_csrr_reads ready (ownCsrr_of_entry entry) entry, num, State.csr_flags_same]
    cases h : g.pOld with
    | none => simp only [Group.flagsBefore, h]
    | some b =>
      by_cases same : b.seq = p.seq
      · simp only [Group.flagsBefore, h, if_pos same]
      · simp only [Group.flagsBefore, h, if_neg same]
  · intro x s g p d l lo hi hd
    refine ⟨fun ready sound => ?_, fun q mayTrap poisoned => ?_⟩
    · have go : ownCsrr g x.num.toNat = .go := by rw [ownCsrr_of_pop lo hi hd, sound]; rfl
      rw [exec_csrr_pops ready go lo hi, State.csr_pop _ _ lo hi hd]
    · have traps : own s s.cur g .S p (.csrr x) = .trap 8 q.unit q.addr := (ownCsrr_of_pop lo hi hd).trans (by rw [poisoned]; rfl)
      rw [exec_csrr, execCsrr, runPart_traps_dataError _ mayTrap traps, Group.switchV_of_ne (by decide)]
      rfl
  · intro g k hk
    exact ⟨Group.ldataOf_pop_same hk, fun j hj => g.ldataOf_pop_other hj, rfl⟩
  · intro x e he s g p v ready hv
    have issues := exec_stateWrites he hv ready
    refine ⟨fun num => ?_, fun num low high => ?_, fun k hk num => ?_, fun num low high => ?_⟩
    · rw [issues ((csrBad_eq_false_iff _ v).mpr (by omega)), num, Group.setCsr_flags]
    · rw [issues ((csrBad_eq_false_iff _ v).mpr fun _ => ⟨low, high⟩), num, Group.setCsr_vec, issued_trap]
    · rw [issues (num ▸ csrBad_of_save k hk v), num, Group.setCsr_save _ _ hk, issued_trap]
    · obtain ⟨frame, toks, loads, stores⟩ := (issued g .S p e.1).setCsr_pc_frame v
      rw [issued_trap, issued_toks, issued_loads, issued_stores] at frame
      rw [issued_toks] at toks
      rw [issued_loads] at loads
      rw [issued_stores] at stores
      refine ⟨_, issues ((csrBad_eq_false_iff _ v).mpr fun _ => ⟨low, high⟩), ?_⟩
      rw [num]
      refine ⟨rfl, ?_, ?_, frame, toks, loads, stores⟩
      · rw [← issued_trap g .S p e.1]
        exact congrArg (fun k => word (k * 2 ^ 24)) (by rw [skewSlot, bits, Nat.shiftRight_eq_div_pow]; rfl)
      · rw [← issued_trap g .S p e.1]
        rfl
  · intro x e he s g p v mayTrap hv num bad
    refine exec_stateWrites_traps he hv mayTrap (Bool.not_eq_false _ ▸ fun good => ?_)
    obtain ⟨low, high⟩ := (csrBad_eq_false_iff _ v).mp good num
    omega
  · intro s r g n v writes saves
    exact State.csr_setCsr g v s r writes saves

end Sys2Proof.Claims
end

section
/-!
PROOFS. The other system instructions (14 R390 to R393, Table 14.11; log 16, log 21, log 55): XLAT's word, the translations that TCINV drops, the
error log, and lamp tests.
-/

namespace Sys2Proof.Machine

/-! ### XLAT (14 R390, Table 14.11) -/

theorem homeSlice_lt (pa : Nat) : homeSlice pa < 64 := by
  have field (lo : Nat) {n : Nat} (hn : n ≤ 6) : nbits pa lo n < 2 ^ 6 :=
    (Nat.mod_lt _ (Nat.two_pow_pos n)).trans_le (Nat.pow_le_pow_right (by decide) hn)
  exact Nat.xor_lt_two_pow (field 7 le_rfl) (Nat.xor_lt_two_pow (field 13 le_rfl) (Nat.xor_lt_two_pow (field 19 le_rfl)
    (Nat.xor_lt_two_pow (field 25 le_rfl) (Nat.xor_lt_two_pow (field 31 le_rfl) (Nat.xor_lt_two_pow (field 37 le_rfl)
      (Nat.xor_lt_two_pow (field 43 le_rfl) (field 49 (by decide))))))))

/-- The number whose fields are XLAT's. -/
theorem xlatFields {decl w rdup host : Bool} {size home : Nat} (hsize : size < 4) (hhome : home < 64) :
    Claims.xlatSays (word ((if decl then 2 ^ 12 else 0) + size * 2 ^ 10 + (if rdup then 2 ^ 9 else 0) + (if host then 2 ^ 8 else 0) +
      (if w then 2 ^ 7 else 0) + 2 ^ 6 + home)) decl w rdup host size home := by
  have hd : (if decl then 2 ^ 12 else 0) = decl.toNat * 2 ^ 12 := by cases decl <;> rfl
  have hr : (if rdup then 2 ^ 9 else 0) = rdup.toNat * 2 ^ 9 := by cases rdup <;> rfl
  have hh : (if host then 2 ^ 8 else 0) = host.toNat * 2 ^ 8 := by cases host <;> rfl
  have hw : (if w then 2 ^ 7 else 0) = w.toNat * 2 ^ 7 := by cases w <;> rfl
  have ld := decl.toNat_le
  have lr := rdup.toNat_le
  have lh := host.toNat_le
  have lw := w.toNat_le
  rw [hd, hr, hh, hw]
  generalize hv : word (decl.toNat * 2 ^ 12 + size * 2 ^ 10 + rdup.toNat * 2 ^ 9 + host.toNat * 2 ^ 8 + w.toNat * 2 ^ 7 + 2 ^ 6 + home) = v
  have value : v.toNat = decl.toNat * 2 ^ 12 + size * 2 ^ 10 + rdup.toNat * 2 ^ 9 + host.toNat * 2 ^ 8 + w.toNat * 2 ^ 7 + 2 ^ 6 + home := by
    rw [← hv, BitVec.toNat_ofNat]
    omega
  have flag {b : Bool} {k : Nat} (h : v.toNat / 2 ^ k % 2 = b.toNat) : v.getLsbD k = b := by
    rw [BitVec.getLsbD, Nat.testBit_eq_decide_div_mod_eq, h]
    cases b <;> rfl
  refine ⟨by omega, flag (by omega), by omega, flag (by omega), flag (by omega), flag (by omega), flag ?_, by omega⟩
  rw [Bool.toNat_true]
  omega

theorem xlatWord_says (decl : Bool) (bits va pa : Nat) (w rdup host : Bool) : Claims.xlatSays (xlatWord decl bits va pa w rdup host) decl w rdup host
    (sizeCode bits) (if host then 0 else homeSlice (pa + va % 2 ^ bits)) := by
  refine xlatFields ?_ ?_
  · unfold sizeCode
    split
    · decide
    · split <;> decide
  · split
    · decide
    · exact homeSlice_lt _

/-- XLAT's answer by what a walk finds. -/
def xlatWalked (decl : Bool) (va : Nat) : Walk → Word
  | .leaf e => xlatWord decl e.bits va e.pa e.w e.rdup false
  | .host b w => xlatWord decl b va 0 w false true
  | .none => 0#64
  | .absent (some e) => xlatWord decl e.bits va e.pa e.w e.rdup false
  | .absent none => 0#64

section
variable {s : State} {r : GRef} {g : Group} {a : Word}

theorem State.xlat_of_local (h : isGlobal a.toNat = false) : s.xlat r g a = 0#64 := by
  unfold State.xlat
  dsimp only
  rw [h]
  rfl

theorem State.xlat_of_cached (h : isGlobal a.toNat = true) {e : TransEnt} (hit : s.cached (seqUnit r.core) g.asid a.toNat = some e) :
    s.xlat r g a = xlatWord (Claims.declaredFor s g a.toNat) e.bits a.toNat e.pa e.w e.rdup e.host := by
  unfold State.xlat
  dsimp only
  rw [h, hit]
  rfl

/-- What a walk finds where no cache answers. -/
theorem State.xlat_of_walked (h : isGlobal a.toNat = true) (miss : s.cached (seqUnit r.core) g.asid a.toNat = none) :
    s.xlat r g a = xlatWalked (Claims.declaredFor s g a.toNat) a.toNat (s.walk (dieOf r.core) g.asid a.toNat) := by
  unfold State.xlat
  dsimp only
  rw [h, miss]
  cases s.walk (dieOf r.core) g.asid a.toNat with
  | absent o => cases o <;> rfl
  | _ => rfl
end

theorem State.xlat_issued (s : State) (r : GRef) (g : Group) (k : Slot) (p : Part) (i : Instr) (a : Word) :
    s.xlat r (issued g k p i) a = s.xlat r g a := by
  simp [State.xlat]

theorem exec_xlat_issues {s : State} {x : R2} {g : Group} {p : Part} (h : s.ready g .S p (.xlat x)) :
    exec (.xlat x) s = .next (s.issueWith ((issued g .S p (.xlat x)).resultS p.seq x.dst.toNat (s.xlat s.cur g (s.operand g x.sa)))) := by
  obtain ⟨hh, hi⟩ := h
  rw [exec_xlat, execXlat, runPart_issues _ _ s _ g p hh hi rfl, scalarSrc_issued, State.xlat_issued]
  rfl

/-! ### TCINV (14 R391) -/

/-- A group and the rest of its core are written in either order. -/
theorem State.setGroup_setCore {s : State} {r : GRef} (h : r.core < s.cores.length) (g : Group) (f : Core → Core)
    (slots : ∀ (c : Core) l, f { c with slots := l } = { f c with slots := l })
    (tracker : ∀ (c : Core) l, f { c with tracker := l } = { f c with tracker := l })
    (seats : (f (s.core r.core)).slots = (s.core r.core).slots ∧ (f (s.core r.core)).tracker = (s.core r.core).tracker) :
    (s.setGroup r g).setCore r.core (f ((s.setGroup r g).core r.core)) = (s.setCore r.core (f (s.core r.core))).setGroup r g := by
  obtain ⟨hslots, htracker⟩ := seats
  unfold State.setGroup
  split
  · rw [State.core_setCore_same _ _ _ h, State.core_setCore_same _ _ _ h, State.setCore_setCore, State.setCore_setCore, slots, hslots]
  · rw [State.core_setCore_same _ _ _ h, State.core_setCore_same _ _ _ h, State.setCore_setCore, State.setCore_setCore, tracker, htracker]

/-- The translations that TCINV drops (14 R391). -/
def tcinvDrops (asid : Nat) (all : Bool) (va : Nat) (e : TransEnt) : Bool := e.asid == asid && (all || e.covers asid va)

theorem exec_tcinv_issues {s : State} {x : TcInv} {g : Group} {p : Part} (h : s.ready g .S p (.tcinv x)) (hc : s.cur.core < s.cores.length) :
    exec (.tcinv x) s = .next ((s.setCore s.cur.core ((s.core s.cur.core).dropTrans
      (tcinvDrops g.asid (x.all == 1#1) (s.operand g x.sa).toNat))).issueWith (issued g .S p (.tcinv x))) := by
  obtain ⟨hh, hi⟩ := h
  rw [exec_tcinv, execTcinv, runPart_issues _ _ s _ g p hh hi rfl, scalarSrc_issued, issued_asid]
  exact congrArg (fun t : State => Host.Outcome.next (t.afterIssue s.cur))
    (State.setGroup_setCore hc _ (fun c => c.dropTrans (tcinvDrops g.asid (x.all == 1#1) (s.operand g x.sa).toNat)) (fun _ _ => rfl)
      (fun _ _ => rfl) ⟨rfl, rfl⟩)

theorem mem_filter_tcinvDrops {asid va : Nat} {all : BitVec 1} {l : List TransEnt} {e : TransEnt} :
    e ∈ l.filter (fun e => !tcinvDrops asid (all == 1#1) va e) ↔ e ∈ l ∧ ¬ (e.asid = asid ∧ (all = 1#1 ∨ e.covers asid va = true)) := by
  rw [List.mem_filter, tcinvDrops, Bool.not_eq_true', ← Bool.not_eq_true, Bool.and_eq_true, Bool.or_eq_true, beq_iff_eq, beq_iff_eq]

/-! ### The error log (14 R392) -/

theorem bits_quad_eq_zero_iff (v : Word) : bits v 4 60 = 0 ↔ v.toNat < 16 := by
  have := v.isLt
  rw [bits, Nat.shiftRight_eq_div_pow]
  omega

theorem exec_errrd_issues {s : State} {x : ErrRd} {g : Group} {p : Part} {k : Task} (h : s.ready g .S p (.errrd x))
    (small : (s.operand g x.sa).toNat < 16) (hk : s.task g.gid.task = some k) :
    exec (.errrd x) s = .next (s.issueWith ((issued g .S p (.errrd x)).resultS p.seq x.dst.toNat
      (k.log[(s.operand g x.sa).toNat]?.elim 0#64 (·.quad x.sel.toNat)))) := by
  obtain ⟨hh, hi⟩ := h
  have go : own s s.cur g .S p (.errrd x) = .go :=
    trapIf_of_false (b := bits (s.operand g x.sa) 4 60 != 0) (by rw [(bits_quad_eq_zero_iff _).mpr small]; rfl) ..
  have index : (scalarSrc s.cur g x.sa.toNat).toNat % 16 = (s.operand g x.sa).toNat := Nat.mod_eq_of_lt small
  rw [exec_errrd, execErrrd, runPart_issues _ _ s _ g p hh hi go, scalarSrc_issued, issued_gid, hk, index]
  dsimp only [Option.map_some, Option.getD_some]
  cases k.log[(s.operand g x.sa).toNat]? <;> rfl

/-! ### Lamp tests (14 R393, R385) -/

theorem lampUnit_of_mem {c : Nat} {sa sb : Word} {e : Nat × LampUnit} (he : e ∈ Claims.lampUnits c sb) (hsa : sa.toNat = e.1) :
    lampUnit c sa sb = some e.2 := by
  unfold lampUnit
  rw [hsa]
  fin_cases he <;> rfl

theorem lampUnit_of_not_mem {c : Nat} {sa sb : Word} (h : ∀ e ∈ Claims.lampUnits c sb, sa.toNat ≠ e.1) : lampUnit c sa sb = none := by
  simp only [Claims.lampUnits, List.forall_mem_cons] at h
  obtain ⟨h0, h1, h2, h3, h4, h5, h16, -⟩ := h
  unfold lampUnit
  split
  case h_8 => rfl
  all_goals contradiction

theorem lampAllowed_iff {s : State} {g : Group} {c : Nat} {sb : Word} {e : Nat × LampUnit} (he : e ∈ Claims.lampUnits c sb) :
    s.lampAllowed g e.2 = true ↔ e.2 ∉ s.withdrawn ∧ (e.1 < 4 → g.gm.getLsbD e.1 = true) := by
  unfold State.lampAllowed
  rw [Bool.and_eq_true, Bool.not_eq_true', List.contains_eq_mem, decide_eq_false_iff_not]
  refine and_congr_right fun _ => ?_
  fin_cases he <;> simp [bankAt]

/-- A unit of a core that fails its test is withdrawn, and nothing else changes. -/
theorem withdraw_of_lampUnits {s : State} {c : Nat} {sb : Word} {e : Nat × LampUnit} (he : e ∈ Claims.lampUnits c sb) (new : e.2 ∉ s.withdrawn) :
    s.withdraw e.2 = { s with withdrawn := s.withdrawn ++ [e.2] } := by
  have added : (if s.withdrawn.contains e.2 then s else { s with withdrawn := s.withdrawn ++ [e.2] }) =
      { s with withdrawn := s.withdrawn ++ [e.2] } := if_neg (by simpa using new)
  unfold State.withdraw
  rw [added]
  fin_cases he <;> rfl

section
variable {s : State} {x : R3} {g : Group} {p : Part} (h : s.ready g .S p (.lamp x))
include h

theorem exec_lamp_issues (go : s.ownLamp s.cur g (s.operand g x.sa) (s.operand g x.sb) = .go) :
    exec (.lamp x) s = .next (((s.lampTest s.cur g (s.operand g x.sa) (s.operand g x.sb)).2.setGroup s.cur
      ((issued g .S p (.lamp x)).resultS p.seq x.dst.toNat (s.lampTest s.cur g (s.operand g x.sa) (s.operand g x.sb)).1)).afterIssue s.cur) := by
  obtain ⟨hh, hi⟩ := h
  have same : ∀ sa sb, s.lampTest s.cur (issued g .S p (.lamp x)) sa sb = s.lampTest s.cur g sa sb := by
    intro sa sb
    simp [State.lampTest, State.lampAllowed]
  rw [exec_lamp, execLamp, runPart_issues _ _ s _ g p hh hi go, scalarSrc_issued, scalarSrc_issued, same]
  rfl

variable {e : Nat × LampUnit} (he : e ∈ Claims.lampUnits s.cur.core (s.operand g x.sb)) (hsa : (s.operand g x.sa).toNat = e.1)
include he hsa

theorem exec_lamp_of_barred (barred : s.lampAllowed g e.2 = false) :
    exec (.lamp x) s = .next (s.issueWith ((issued g .S p (.lamp x)).resultS p.seq x.dst.toNat 2#64)) := by
  have unit := lampUnit_of_mem he hsa
  have go : s.ownLamp s.cur g (s.operand g x.sa) (s.operand g x.sb) = .go := by
    rw [State.ownLamp, unit]
    exact waitIf_eq_go.mpr (by rw [barred]; rfl)
  have test : s.lampTest s.cur g (s.operand g x.sa) (s.operand g x.sb) = (2#64, s) := by
    rw [State.lampTest, unit]
    exact if_neg (by rw [barred]; decide)
  rw [exec_lamp_issues h go, test]
  rfl

theorem exec_lamp_of_allowed (allowed : s.lampAllowed g e.2 = true) (idle : e.1 < 4 → (s.core s.cur.core).stepsOf g.gid = []) :
    ∃ (t : State) (v : Word), exec (.lamp x) s =
        .next ((t.setGroup s.cur ((issued g .S p (.lamp x)).resultS p.seq x.dst.toNat v)).afterIssue s.cur) ∧
      { t with withdrawn := s.withdrawn, free := s.free } = s ∧
      ((v = 0#64 ∧ t.withdrawn = s.withdrawn) ∨ (v = 1#64 ∧ t.withdrawn = s.withdrawn ++ [e.2])) := by
  have unit := lampUnit_of_mem he hsa
  obtain ⟨new, -⟩ := (lampAllowed_iff he).mp allowed
  have go : s.ownLamp s.cur g (s.operand g x.sa) (s.operand g x.sb) = .go := by
    rw [State.ownLamp, unit]
    refine waitIf_eq_go.mpr ?_
    rw [hsa]
    by_cases pane : e.1 < 4
    · simp [idle pane]
    · simp [pane]
  have test : s.lampTest s.cur g (s.operand g x.sa) (s.operand g x.sb) =
      if Config.freeLamp s.free then (0#64, { s with free := s.free + 1 })
      else (1#64, { s with free := s.free + 1, withdrawn := s.withdrawn ++ [e.2] }) := by
    rw [State.lampTest, unit]
    dsimp only
    rw [if_pos allowed, withdraw_of_lampUnits (s := { s with free := s.free + 1 }) he new]
  refine ⟨_, _, exec_lamp_issues h go, ?_⟩
  rw [test]
  split
  · exact ⟨rfl, .inl ⟨rfl, rfl⟩⟩
  · exact ⟨rfl, .inr ⟨rfl, rfl⟩⟩
end

end Sys2Proof.Machine

namespace Sys2Proof.Claims

open Sys2Proof.Machine

/-- Settles O17: XLAT's answer is one word of disjoint fields, TCINV filters each of the core's caches, and a lamp test is barred or its unit's free
value. -/
theorem systemInstructions : Obligations.SystemInstructions := by
  refine ⟨?_, ?_, ?_, ?_, ?_, ?_, ?_⟩
  · rintro x s g p va ready rfl
    refine ⟨_, exec_xlat_issues ready, State.xlat_of_local, fun global => ⟨fun e found => ?_, fun miss => ⟨fun b w walk => ?_, fun walk => ?_⟩⟩⟩
    · rcases found with hit | ⟨miss, walk, host⟩
      · rw [State.xlat_of_cached global hit]
        exact xlatWord_says ..
      · rw [State.xlat_of_walked global miss, walk, host]
        exact xlatWord_says ..
    · rw [State.xlat_of_walked global miss, walk]
      exact xlatWord_says ..
    · rw [State.xlat_of_walked global miss, walk]
      rfl
  · intro x s g p ready hc
    refine ⟨(_, _, _, _), exec_tcinv_issues ready hc, fun y hy e => ?_⟩
    fin_cases hy <;> exact mem_filter_tcinvDrops
  · intro x s g p k ready small hk
    rw [exec_errrd_issues ready small hk]
    split
    · rename_i h
      rw [List.getElem?_eq_getElem h]
      rfl
    · rename_i h
      rw [List.getElem?_eq_none (Nat.not_lt.mp h)]
      rfl
  · intro x s g p ⟨⟨hh, hi⟩, hd, hb⟩ large
    have bad : (bits (s.operand g x.sa) 4 60 != 0) = true := bne_iff_ne.mpr (mt (bits_quad_eq_zero_iff _).mp (Nat.not_lt.mpr large))
    have traps : own s s.cur g .S p (.errrd x) = .trap 2 0 0 := trapIf_of_true bad ..
    rw [exec_errrd, execErrrd, runPart_traps _ _ s _ g p 2 0 0 hh hi traps hd hb (by decide) (by decide), Group.switchV_of_ne (by decide)]
  · intro x s g p k ⟨hh, hi⟩ hk
    rw [exec_errclr, execErrclr, runPart_issues _ _ s _ g p hh hi rfl, issued_gid, hk]
    rfl
  · intro x s g p e he ready hsa
    refine ⟨fun barred => exec_lamp_of_barred ready he hsa ?_, fun new pane => exec_lamp_of_allowed ready he hsa ?_ fun h => (pane h).2⟩
    · rw [← Bool.not_eq_true, lampAllowed_iff he]
      rintro ⟨new, granted⟩
      rcases barred with old | ⟨isPane, absent⟩
      · exact new old
      · exact Bool.false_ne_true (absent.symm.trans (granted isPane))
    · exact (lampAllowed_iff he).mpr ⟨new, fun h => (pane h).1⟩
  · intro x s g p ⟨⟨hh, hi⟩, hd, hb⟩ other
    have traps : own s s.cur g .S p (.lamp x) = .trap 2 0 0 := by
      have rule : own s s.cur g .S p (.lamp x) = s.ownLamp s.cur g (s.operand g x.sa) (s.operand g x.sb) := rfl
      rw [rule, State.ownLamp, lampUnit_of_not_mem other]
      rfl
    rw [exec_lamp, execLamp, runPart_traps _ _ s _ g p 2 0 0 hh hi traps hd hb (by decide) (by decide), Group.switchV_of_ne (by decide)]

end Sys2Proof.Claims
end

section
/-!
PROOFS. Command queues as the state keeps them (15 R396): a queue written is found under its number, and what a write of its context and a mark of its
STATE leave of it.
-/

namespace Sys2Proof.Machine

theorem State.q_of_queue {s : State} {q : Nat} {cq : CmdQueue} (h : s.queue q = some cq) : cq.q = q := by
  simpa using List.find?_some h

theorem State.queue_of_queues {s t : State} (h : t.queues = s.queues) (q : Nat) : t.queue q = s.queue q := by
  rw [State.queue, State.queue, h]

/-- A queue written is found under its number, where one was. -/
theorem State.queue_setQueue_same {s : State} {q : Nat} {cq k : CmdQueue} (h : s.queue q = some cq) (named : k.q = q) :
    (s.setQueue k).queue q = some k :=
  (find?_replace_same (key := CmdQueue.q) (fun y => by simp) k named s.queues).trans (congrArg (Option.map _) h)

/-! ### Writes of a queue's context -/

theorem State.vwrite_cells (s : State) (u : XUnit) (asid va : Nat) (bs : List Byte) : s.cellsOnly (s.vwrite u asid va bs) := by
  refine State.cellsOnly_foldl (fun t x => ?_) _ s
  split
  · exact t.putGranule_cells ..
  · exact t.cellsOnly_refl

theorem State.putCtx_cells (s : State) (cq : CmdQueue) (off n v : Nat) : s.cellsOnly (s.putCtx cq off n v) := s.vwrite_cells ..

theorem State.cellsOnly.queue {s t : State} (h : s.cellsOnly t) (q : Nat) : t.queue q = s.queue q :=
  h.keeps (fun s => s.queue q) fun _ _ _ _ _ _ _ => rfl

@[simp] theorem State.putCtx_queue (s : State) (cq : CmdQueue) (off n v q : Nat) : (s.putCtx cq off n v).queue q = s.queue q :=
  (s.putCtx_cells cq off n v).queue q

/-! ### STATE, written or due (15 R405; log 70) -/

theorem State.dueState_queue {s : State} {q : Nat} {k : CmdQueue} (h : s.queue q = some k) (due : Bool) :
    (s.dueState q due).queue q = some { k with stateDue := due } := by
  have named := State.q_of_queue h
  rw [State.dueState, h]
  exact State.queue_setQueue_same h named

/-- A STATE that cannot be written is due. -/
theorem State.putState_queue {s : State} {cq k : CmdQueue} (h : s.queue cq.q = some k) :
    (s.putState cq).queue cq.q = some { k with stateDue := !s.ctxReady cq } := by
  unfold State.putState
  split
  · rename_i ready
    rw [State.putCtx_queue, ready]
    exact State.dueState_queue h false
  · rename_i wait
    rw [Bool.eq_false_iff.mpr wait]
    exact State.dueState_queue h true

theorem State.putRoot_queue {s : State} {cq k : CmdQueue} (h : s.queue cq.q = some k) :
    ∃ due, (s.putRoot cq).queue cq.q = some { k with stateDue := due } :=
  ⟨_, State.putState_queue ((s.putCtx_queue ..).trans h)⟩

/-! ### The scope table keeps the queues (13 R343) -/

theorem State.newScope_queues {s t : State} {parent maker id : Nat} (h : s.newScope parent maker = some (id, t)) : t.queues = s.queues := by
  unfold State.newScope at h
  split at h
  · cases h
  · split at h
    · cases h
    · cases h
      rfl

theorem State.closeRoot_queues (s : State) (root : Nat) : (s.closeRoot root).queues = s.queues := by
  unfold State.closeRoot
  split
  · rfl
  · exact (congrArg State.queues (State.sweepN_frame 33 _) :)

end Sys2Proof.Machine
end

section
/-!
PROOFS. QCMD's operations (15 R396, R406, R449; 22 R442; log 70): what the value must hold, each operation's own test, and what a refusal leaves.
-/

namespace Sys2Proof.Machine

/-! ### Commands accepted, refused and denied (22 R442, R446) -/

section
variable {s : State} {val : Word} {op : Nat} {k : Nat → Option CmdQueue → Option State}

theorem State.command_denied (h : s.serving = false) : s.command val op k = s.denied := by
  rw [State.command, h]
  exact if_pos rfl

variable (serving : s.serving = true) (hop : bits val 0 4 = op)
include serving hop

theorem State.command_accepts {t : State} (h : k (bits val 4 12) (s.queue (bits val 4 12)) = some t) : s.command val op k = t.qDone val := by
  rw [State.command, serving, if_neg (by decide), if_neg (fun h => h.1 hop), if_neg (fun h => h hop)]
  dsimp only
  rw [h]

theorem State.command_refuses (h : k (bits val 4 12) (s.queue (bits val 4 12)) = none) : s.command val op k = (s.qDone val).refuseWrite := by
  rw [State.command, serving, if_neg (by decide), if_neg (fun h => h.1 hop), if_neg (fun h => h hop)]
  dsimp only
  rw [h]
end

theorem State.queue_withPlat (s : State) (p : Platform) (q : Nat) : ({ s with plat := p } : State).queue q = s.queue q := rfl

theorem State.qDone_queue (s : State) (val : Word) (q : Nat) : (s.qDone val).queue q = s.queue q := s.queue_withPlat _ q

/-- QCMD reads back the low 16 bits written, and DONE. -/
theorem State.qDone_qcmd_getLsbD (s : State) (val : Word) (k : Nat) :
    (s.qDone val).plat.qcmd.getLsbD k = ((decide (k < 16) && val.getLsbD k) || k == 63) := by
  have low : bits val 0 16 < 2 ^ 63 := (Nat.mod_lt _ (by decide)).trans (by decide)
  have value : (s.qDone val).plat.qcmd = word (2 ^ 63 * 1 + bits val 0 16) := congrArg word (Nat.add_comm ..)
  rw [value, BitVec.getLsbD_ofNat, Nat.testBit_two_pow_mul_add _ low, testBit_bits, Nat.zero_add]
  by_cases h : k < 63
  · have ne : ¬ k = 63 := by omega
    simp [h, ne, show k < 64 from by omega]
  · by_cases same : k = 63
    · subst same
      simp
    · have out : ¬ k < 64 := by omega
      simp [same, out, show ¬ k < 16 from by omega]

/-! ### Op 1: registration (15 R396, R449) -/

/-- The places where a context may be looked for: none where its address is misplaced. -/
def State.ctxLooks (s : State) : List (Nat × Nat) :=
  if s.plat.qarg0.toNat % 64 = 0 ∧ isGlobal s.plat.qarg0.toNat then s.ctxPlaces else []

/-- What registration makes of the context that is found. -/
def State.register (s : State) (q : Nat) (d asid : Nat) : Option State :=
  if s.ctxBad (s.ctxQuads d asid s.plat.qarg0.toNat) then none
  else
    match s.newScope 0 0 with
    | none => none
    | some (root, t) =>
      let cq := queueOf q s.plat.qarg0.toNat root 1 (s.ctxQuads d asid s.plat.qarg0.toNat)
        (nbits ((s.ctxQuads d asid s.plat.qarg0.toNat).getD 2 0) 0 32) []
      some ({ t with queues := t.queues ++ [cq] }.putRoot cq)

/-- What registration makes of the queue with the number and of the first place that names the context. -/
def State.registerAt (s : State) (q : Nat) : Option CmdQueue → Option (Nat × Nat) → Option State
  | none, some (d, asid) => s.register q d asid
  | _, _ => none

section
variable {s : State} {val : Word}

/-- Registration waits for no context where the number is in use, or one is found, or QCMD is denied. -/
theorem exec_queueRegister_answers (h : s.serving = false ∨ (s.queue (bits val 4 12)).isSome = true ∨
    (s.ctxLooks.find? (s.ctxNamed s.plat.qarg0.toNat)).isSome = true) : exec (.queueRegister val) s =
    .next (s.command val 1 (fun q old => s.registerAt q old (s.ctxLooks.find? (s.ctxNamed s.plat.qarg0.toNat)))) := by
  have same : (fun q old => s.registerAt q old (s.ctxLooks.find? (s.ctxNamed s.plat.qarg0.toNat))) = fun q old =>
      match old, s.ctxLooks.find? (s.ctxNamed s.plat.qarg0.toNat) with
      | none, some (d, asid) => s.register q d asid
      | _, _ => none := by
    funext q old
    unfold State.registerAt
    cases old <;> cases s.ctxLooks.find? (s.ctxNamed s.plat.qarg0.toNat) <;> rfl
  rw [same]
  refine if_neg ?_
  change ¬ (s.serving && bits val 0 4 == 1 && (s.queue (bits val 4 12)).isNone &&
    (s.ctxLooks.find? (s.ctxNamed s.plat.qarg0.toNat)).isNone && s.ctxLooks.any (s.ctxWaits s.plat.qarg0.toNat)) = true
  simp only [Bool.and_eq_true, Option.isNone_iff_eq_none, not_and]
  rintro ⟨⟨⟨serving, -⟩, free⟩, none_⟩
  rcases h with out | taken | found
  · exact absurd serving (Bool.eq_false_iff.mp out)
  · rw [free] at taken
    cases taken
  · rw [none_] at found
    cases found

theorem State.ctxLooks_of_placed (aligned : s.plat.qarg0.toNat % 64 = 0) (global : isGlobal s.plat.qarg0.toNat = true) :
    s.ctxLooks = s.ctxPlaces := if_pos ⟨aligned, global⟩

theorem State.register_of_bad {q d asid : Nat} (bad : s.ctxBad (s.ctxQuads d asid s.plat.qarg0.toNat) = true) : s.register q d asid = none :=
  if_pos bad

theorem State.register_of_good {t : State} {q d asid root : Nat} (good : s.ctxBad (s.ctxQuads d asid s.plat.qarg0.toNat) = false)
    (made : s.newScope 0 0 = some (root, t)) : s.register q d asid =
      let cq := queueOf q s.plat.qarg0.toNat root 1 (s.ctxQuads d asid s.plat.qarg0.toNat)
        (nbits ((s.ctxQuads d asid s.plat.qarg0.toNat).getD 2 0) 0 32) []
      some ({ t with queues := t.queues ++ [cq] }.putRoot cq) := by
  rw [State.register, good, if_neg Bool.false_ne_true, made]
end

/-! ### Ops 2 and 3: a queue given up and a queue reset (15 R449) -/

theorem State.queueQuiet_iff (s : State) (cq : CmdQueue) : s.queueQuiet cq = true ↔ ((∀ n ∈ cq.nodes, n.fired = true → n.outcome ≠ none) ∧
    ∀ t ∈ s.tasks, t.state ≠ .ended → s.under cq.root t.scope = false) := by
  simp only [State.queueQuiet, Bool.and_eq_true, List.all_eq_true, Bool.or_eq_true, Bool.not_eq_true', Option.isSome_iff_ne_none,
    List.any_eq_false, bne_iff_ne, ne_eq, not_and, Bool.not_eq_true]
  refine and_congr_left fun _ => forall₂_congr fun n _ => ?_
  cases n.fired <;> simp

/-- A queue as its reset leaves it: its context is read again, and CONS takes PROD. -/
def State.resetQueue (s : State) (cq : CmdQueue) (q root : Nat) : CmdQueue :=
  queueOf q cq.ctx root cq.serial ((s.ctxQuads cq.home cq.pasid cq.ctx).set 4 cq.eqp)
    (nbits ((s.ctxQuads cq.home cq.pasid cq.ctx).getD 1 0) 0 32) cq.posts

/-- PROD as the context holds it. -/
theorem State.ctxQuads_prod (s : State) (cq : CmdQueue) :
    nbits ((s.ctxQuads cq.home cq.pasid cq.ctx).getD 1 0) 0 32 = s.ctxQuad cq 1 % 2 ^ 32 := by
  have prod : (s.ctxQuads cq.home cq.pasid cq.ctx).getD 1 0 = s.ctxQuad cq 1 := by
    rw [State.ctxQuads, List.getD_eq_getElem _ _ (by simp), List.getElem_map, List.getElem_range]
    rfl
  rw [prod, nbits, Nat.shiftRight_zero]

/-- A queue after its reset has nothing fetched: no node, no notification kept, and CONS and its PROD are the context's PROD. -/
theorem State.resetQueue_cons (s : State) (cq : CmdQueue) (q root : Nat) : (s.resetQueue cq q root).cons = s.ctxQuad cq 1 % 2 ^ 32 :=
  s.ctxQuads_prod cq

section
variable {s : State} {val : Word} {cq : CmdQueue} (hq : s.queue (bits val 4 12) = some cq)
include hq

theorem exec_queueReset_of_bad (serving : s.serving = true) (hop : bits val 0 4 = 3) (noisy : s.queueQuiet cq = false) :
    exec (.queueReset val) s = .next ((s.qDone val).refuseWrite) := by
  rw [exec_queueReset, execQueueReset, hq]
  dsimp only
  rw [if_neg (by simp [noisy]), State.command_refuses serving hop]
  exact if_pos (by rw [noisy]; rfl)

theorem exec_queueReset_resets {u : State} {root : Nat} (serving : s.serving = true) (hop : bits val 0 4 = 3) (quiet : s.queueQuiet cq = true)
    (ready : s.ctxReady cq = true) (good : s.ctxBad (s.ctxQuads cq.home cq.pasid cq.ctx) = false)
    (made : (s.closeRoot cq.root).newScope 0 0 = some (root, u)) : ∃ valid, exec (.queueReset val) s =
      .next ((((((u.setQueue (s.resetQueue cq (bits val 4 12) root)).putCtx cq 16 4 (s.resetQueue cq (bits val 4 12) root).cons).putCtx cq 40 1
        valid).putRoot { s.resetQueue cq (bits val 4 12) root with pasid := cq.pasid, home := cq.home })).qDone val) := by
  refine ⟨nbits ((s.ctxQuads cq.home cq.pasid cq.ctx).getD 5 0) 0 8 % 4, ?_⟩
  rw [exec_queueReset, execQueueReset, hq]
  dsimp only
  rw [if_neg (by simp [ready])]
  refine congrArg _ (State.command_accepts serving hop ?_)
  rw [if_neg (by simp [quiet, good]), made]
  rfl

theorem exec_queueUnregister_of_quiet (serving : s.serving = true) (hop : bits val 0 4 = 2) (quiet : s.queueQuiet cq = true) :
    exec (.queueUnregister val) s =
      .next (({ s with queues := s.queues.filter (fun x => x.q != cq.q) }.closeRoot cq.root).qDone val) := by
  refine congrArg Host.Outcome.next (State.command_accepts serving hop ?_)
  rw [hq]
  exact if_pos quiet

theorem exec_queueUnregister_of_noisy (serving : s.serving = true) (hop : bits val 0 4 = 2) (noisy : s.queueQuiet cq = false) :
    exec (.queueUnregister val) s = .next ((s.qDone val).refuseWrite) := by
  refine congrArg Host.Outcome.next (State.command_refuses serving hop ?_)
  rw [hq]
  exact if_neg (by simp [noisy])

/-! ### Op 4: the SNUFF of a ROOT (15 R406, R449) -/

theorem exec_queueSnuffRoot_snuffs (serving : s.serving = true) (hop : bits val 0 4 = 4) (aligned : s.plat.qarg1.toNat % 8 = 0)
    (global : isGlobal s.plat.qarg1.toNat = true) :
    exec (.queueSnuffRoot val) s = .next ((s.snuffRoot cq.root s.plat.qarg1.toNat cq.pasid cq.q).qDone val) := by
  refine congrArg Host.Outcome.next (State.command_accepts serving hop ?_)
  rw [hq]
  exact if_neg (by simp [aligned, global])
end

theorem exec_queueSnuffRoot_of_misplaced {s : State} {val : Word} (serving : s.serving = true) (hop : bits val 0 4 = 4)
    (misplaced : s.plat.qarg1.toNat % 8 ≠ 0 ∨ isGlobal s.plat.qarg1.toNat = false) :
    exec (.queueSnuffRoot val) s = .next ((s.qDone val).refuseWrite) := by
  refine congrArg Host.Outcome.next (State.command_refuses serving hop ?_)
  cases s.queue (bits val 4 12) with
  | none => rfl
  | some cq => exact if_pos (by simpa using misplaced)

/-- The ack word of a further SNUFF is kept, with an earlier SNUFF or by itself. -/
theorem State.snuffAgain_keeps_ack (s : State) (root ack asid q : Nat) :
    ∃ u ∈ (s.snuffAgain root ack asid q).snuffs, (u.ack = ack ∧ u.asid = asid) ∨ (ack, asid) ∈ u.followers := by
  unfold State.snuffAgain
  split
  · rename_i earlier
    obtain ⟨u, mem, same⟩ := List.any_eq_true.mp earlier
    exact ⟨_, List.mem_map.mpr ⟨u, mem, if_pos same⟩, .inr (by simp)⟩
  · exact ⟨Snuff.start s.ids root [] [] ack asid q, by simp, .inl ⟨rfl, rfl⟩⟩

/-- Each operation but registration refuses a queue that is not registered. -/
theorem exec_command_of_unknown {s : State} {val : Word} {e : Instr × Nat}
    (he : e ∈ [(Instr.queueUnregister val, 2), (.queueReset val, 3), (.queueSnuffRoot val, 4)]) (serving : s.serving = true)
    (hop : bits val 0 4 = e.2) (unknown : s.queue (bits val 4 12) = none) : exec e.1 s = .next ((s.qDone val).refuseWrite) := by
  fin_cases he
  · exact congrArg Host.Outcome.next (State.command_refuses serving hop (by rw [unknown]))
  · rw [exec_queueReset, execQueueReset, unknown]
    exact congrArg Host.Outcome.next (State.command_refuses serving hop rfl)
  · exact congrArg Host.Outcome.next (State.command_refuses serving hop (by rw [unknown]))

theorem exec_command_denied {s : State} {val : Word} {i : Instr}
    (hi : i ∈ [Instr.queueRegister val, .queueUnregister val, .queueReset val, .queueSnuffRoot val]) (out : s.serving = false) :
    exec i s = .next s.denied := by
  have denied {op k} : Host.Outcome.next (s.command val op k) = (.next s.denied : Host.Outcome State Fault Refusal) :=
    congrArg _ (State.command_denied out)
  fin_cases hi
  · exact (exec_queueRegister_answers (.inl out)).trans denied
  · exact denied
  · rw [exec_queueReset, execQueueReset]
    split
    · rw [if_neg (by simp [out]), denied]
    · rw [denied]
  · exact denied

end Sys2Proof.Machine

namespace Sys2Proof.Claims

open Sys2Proof.Machine

/-- Settles O58: an operation is denied, refused or made by its own test on the queue, and a reset queue keeps its postings and their SERIAL. -/
theorem queueCommands : Obligations.QueueCommands := by
  refine ⟨?_, ?_, ?_, ?_, ?_, ?_, ?_, ?_, ?_, ?_, ?_, ?_, ?_, ?_⟩
  · rintro s t val d asid root x serving hop unused aligned global found rfl good made
    rw [← State.ctxLooks_of_placed aligned global] at found
    rw [exec_queueRegister_answers (.inr (.inr (by rw [found]; rfl))), found]
    refine congrArg _ (State.command_accepts serving hop ?_)
    rw [unused]
    exact State.register_of_good good made
  · intro s val serving hop used
    rw [exec_queueRegister_answers (.inr (.inl used))]
    obtain ⟨cq, hq⟩ := Option.isSome_iff_exists.mp used
    refine congrArg _ (State.command_refuses serving hop ?_)
    rw [hq]
    rfl
  · intro s val cq serving hop hq quiet
    exact exec_queueUnregister_of_quiet hq serving hop quiet
  · intro s val cq root u serving hop hq quiet ready good made
    obtain ⟨valid, resets⟩ := exec_queueReset_resets hq serving hop quiet ready good made
    have kept : u.queue (bits val 4 12) = some cq :=
      (State.queue_of_queues ((State.newScope_queues made).trans (s.closeRoot_queues cq.root)) _).trans hq
    have written : (((u.setQueue (s.resetQueue cq (bits val 4 12) root)).putCtx cq 16 4 (s.resetQueue cq (bits val 4 12) root).cons).putCtx cq 40 1
        valid).queue (bits val 4 12) = some (s.resetQueue cq (bits val 4 12) root) := by
      rw [State.putCtx_queue, State.putCtx_queue]
      exact State.queue_setQueue_same kept rfl
    obtain ⟨due, rooted⟩ := State.putRoot_queue (cq := { s.resetQueue cq (bits val 4 12) root with pasid := cq.pasid, home := cq.home }) written
    exact ⟨_, _, resets, (State.qDone_queue _ val _).trans rooted, rfl, rfl, rfl, rfl, rfl, rfl, s.resetQueue_cons cq (bits val 4 12) root, rfl, rfl⟩
  · intro s val cq serving hop hq aligned global
    rw [exec_queueSnuffRoot_snuffs hq serving hop aligned global, State.snuffRoot]
    exact ⟨fun live => by rw [if_pos live], fun gone => by rw [gone]; rfl⟩
  · intro s root ack asid q
    exact s.snuffAgain_keeps_ack root ack asid q
  · intro s val serving hop misplaced
    exact exec_queueSnuffRoot_of_misplaced serving hop misplaced
  · intro s val cq serving hq noisy
    exact ⟨fun hop => exec_queueUnregister_of_noisy hq serving hop noisy, fun hop => exec_queueReset_of_bad hq serving hop noisy⟩
  · intro s val d asid serving hop unused aligned global found bad
    rw [← State.ctxLooks_of_placed aligned global] at found
    rw [exec_queueRegister_answers (.inr (.inr (by rw [found]; rfl))), found]
    refine congrArg _ (State.command_refuses serving hop ?_)
    rw [unused]
    exact State.register_of_bad bad
  · intro val e he s serving hop unknown
    exact exec_command_of_unknown he serving hop unknown
  · intro val i hi s out
    exact exec_command_denied hi out
  · intro s
    exact ⟨rfl, rfl⟩
  · intro s val k
    exact s.qDone_qcmd_getLsbD val k
  · intro s cq
    exact s.queueQuiet_iff cq

end Sys2Proof.Claims
end

section
/-!
PROOFS. The node records of a queue (15 R398 to R400): a node written is found under its slot, a notification counts once at its node, and a queue event
stalls its queue.
-/

namespace Sys2Proof.Machine

/-! ### Nodes by their slot -/

theorem CmdQueue.slot_of_node {cq : CmdQueue} {slot : Nat} {n : Node} (h : cq.node slot = some n) : n.slot = slot := by
  simpa using List.find?_some h

/-- A node written is found under its slot, where one was. -/
theorem CmdQueue.node_setNode_same {cq : CmdQueue} {slot : Nat} {n m : Node} (h : cq.node slot = some n) (named : m.slot = slot) :
    (cq.setNode m).node slot = some m :=
  (find?_replace_same (key := Node.slot) (fun y => by simp) m named cq.nodes).trans (congrArg (Option.map _) h)

/-- A node written is found in its queue, where the queue and the node were. -/
theorem State.node_setQueue_setNode {s : State} {cq : CmdQueue} {n m : Node} (hq : s.queue cq.q = some cq) (hn : cq.node n.slot = some n)
    (named : m.slot = n.slot) : ((s.setQueue (cq.setNode m)).queue cq.q).bind (·.node n.slot) = some m := by
  have found : (s.setQueue (cq.setNode m)).queue cq.q = some (cq.setNode m) := State.queue_setQueue_same hq rfl
  rw [found]
  exact CmdQueue.node_setNode_same hn named

/-! ### Notifications (15 R399, R400) -/

/-- A notification with the outcome counts as ran at the node. -/
def Node.countsRan (n : Node) : NodeOutcome → Bool
  | .done => true
  | .failed => !n.fskip
  | .skipped => false

/-- A node that has received a notification. -/
def Node.notified (n : Node) (o : NodeOutcome) : Node :=
  { n with
    pending := n.pending - 1
    ran := if n.countsRan o then n.ran + 1 else n.ran
    skips := if n.countsRan o then n.skips else n.skips + 1 }

theorem CmdQueue.notify_of_node {cq : CmdQueue} {slot : Nat} {n : Node} (h : cq.node slot = some n) (o : NodeOutcome) :
    cq.notify slot o = cq.setNode (n.notified o) := by
  unfold CmdQueue.notify
  rw [h]
  cases o <;> rfl

theorem CmdQueue.notify_of_none {cq : CmdQueue} {slot : Nat} (h : cq.node slot = none) (o : NodeOutcome) :
    cq.notify slot o = { cq with early := cq.early ++ [(slot, o)] } := by
  rw [CmdQueue.notify, h]

theorem CmdQueue.node_notify {cq : CmdQueue} {slot : Nat} {n : Node} (h : cq.node slot = some n) (o : NodeOutcome) :
    (cq.notify slot o).node slot = some (n.notified o) := by
  rw [CmdQueue.notify_of_node h]
  exact CmdQueue.node_setNode_same h (show n.slot = slot from CmdQueue.slot_of_node h)

theorem Node.notified_counts (n : Node) (o : NodeOutcome) : (n.notified o).ran + (n.notified o).skips = n.ran + n.skips + 1 := by
  unfold Node.notified
  cases n.countsRan o
  · exact (Nat.add_assoc ..).symm
  · exact Nat.add_right_comm ..

theorem Node.notified_ran (n : Node) (o : NodeOutcome) : (n.notified o).ran = n.ran + 1 ↔ o = .done ∨ (o = .failed ∧ n.fskip = false) := by
  cases o with
  | done => simp [Node.notified, Node.countsRan]
  | failed => cases skip : n.fskip <;> simp [Node.notified, Node.countsRan, skip]
  | skipped => simp [Node.notified, Node.countsRan]

/-- A notification moves no index of the ring: the same slots are live. -/
theorem CmdQueue.notify_live (cq : CmdQueue) (slot : Nat) (o : NodeOutcome) (y : Nat) : (cq.notify slot o).live y = cq.live y := by
  cases h : cq.node slot with
  | none => rw [CmdQueue.notify_of_none h]; rfl
  | some n => rw [CmdQueue.notify_of_node h]; rfl

/-! ### Queue events (15 R405) -/

/-- A queue with one more record to post. -/
def CmdQueue.withPosting (cq : CmdQueue) (quads : List Word) : CmdQueue :=
  { cq with serial := cq.serial + 1, posts := cq.posts ++ [⟨cq.serial, quads⟩] }

theorem State.post_of_queue {s : State} {q : Nat} {cq : CmdQueue} (h : s.queue q = some cq) (quads : List Word) :
    s.post q quads = (cq.serial, s.setQueue (cq.withPosting quads)) := by
  rw [State.post, h]
  rfl

/-- A queue with one more event that waits. -/
def CmdQueue.withEvent (cq : CmdQueue) (e : QueueEvent) : CmdQueue :=
  { cq with
    events := cq.events ++ [e]
    state := if cq.state = .aborted then .aborted else .stalled }

/-- A queue with an event neither fetches nor fires. -/
theorem CmdQueue.withEvent_running (cq : CmdQueue) (e : QueueEvent) : (cq.withEvent e).running = false := by
  simp [CmdQueue.running, CmdQueue.withEvent]

/-- An event is posted and stalls its queue; STATE is due where the context cannot be written. -/
theorem State.raiseEvent_queue {s : State} {q : Nat} {cq : CmdQueue} (h : s.queue q = some cq) (code slot addr : Nat) (w : List Byte) :
    ∃ quads, (s.raiseEvent q code slot addr w).queue q =
      some { (cq.withPosting quads).withEvent ⟨code, slot, addr, cq.serial, w⟩ with stateDue := !s.ctxReady cq } := by
  have named : cq.q = q := State.q_of_queue h
  have posted (quads : List Word) : (s.setQueue (cq.withPosting quads)).queue q = some (cq.withPosting quads) := State.queue_setQueue_same h named
  unfold State.raiseEvent
  rw [State.post_of_queue h]
  dsimp only
  rw [posted]
  dsimp only
  subst named
  exact ⟨_, State.putState_queue (State.queue_setQueue_same (posted _) rfl)⟩

end Sys2Proof.Machine
end

section
/-!
PROOFS. Fetching, the end of a node, and the exception ring (15 R397 to R399, R404, R405).
-/

namespace Sys2Proof.Machine

section
variable {s : State} {q : Nat} {cq : CmdQueue} (hq : s.queue q = some cq) (serving : s.serving = true)
include hq serving

theorem exec_prodUpdate_of_running (running : cq.running = true) (ready : s.ctxReady cq = true) :
    exec (.prodUpdate q) s = .next
      (if since32 (s.ctxQuad cq 1 % 2 ^ 32) cq.cons ≤ cq.rs ∧ since32 (s.ctxQuad cq 1 % 2 ^ 32) cq.fetched ≤ cq.rs
       then s.setQueue { cq with prod := s.ctxQuad cq 1 % 2 ^ 32 } else s.raiseEvent q 4 (cq.fetched % cq.rs) cq.ctx []) := by
  rw [exec_prodUpdate, execProdUpdate, hq]
  dsimp only
  rw [if_neg (by simp [serving, running, ready])]
  split <;> rfl

/-! ### A record fetched (15 R398, R405) -/

omit hq serving in
/-- No queue that has a record to fetch comes before the queue in turn. -/
theorem State.fetchTurn_of_first
    (first : ∀ x ∈ s.queues, x.running = true → x.fetched ≠ x.prod → (q + 4095 - s.fetchRR) % 4096 ≤ (x.q + 4095 - s.fetchRR) % 4096) :
    s.fetchTurn q = true := by
  simp only [State.fetchTurn, Bool.not_eq_true', List.any_eq_false, Bool.and_eq_true, decide_eq_true_eq, not_and, not_lt]
  intro x mem fetches
  obtain ⟨running, left⟩ := (Bool.and_eq_true _ _).mp fetches
  exact first x mem running (by simpa using left)

/-- A record as it is fetched into the next slot, before its successors are known. -/
def CmdQueue.nextNode (cq : CmdQueue) (b : List Byte) : Node := ⟨cq.slotOf cq.fetched, b, [], 0, 0, 0, false, none, none, 0, 0, false⟩

/-- The state in which the front end serves a queue. -/
def State.fetcher (s : State) (q : Nat) : State := { s with fetchRR := q }

omit hq serving in
theorem Node.arrayAt_iff (n : Node) : n.arrayAt = true ↔ 8 < nsucc n ∧ n.quad 4 % 2 = 0 ∧ isGlobal (n.quad 4) = true := by
  simp [Node.arrayAt, and_assoc]

section
variable {b : List Byte} (fetches : cq.fetches = true) (turn : s.fetchTurn q = true)
  (read : (s.fetcher q).qRead cq (cq.ring + 128 * cq.slotOf cq.fetched) 128 = .ok b)
include fetches turn read

/-- A record malformed in itself, without an array to read, keeps the successors that it holds. -/
theorem exec_recordFetch_of_headBad (bad : (cq.nextNode b).headBad = true)
    (noArray : (cq.nextNode b).arrayAt = false) : exec (.recordFetch q) s =
      .next ((s.fetcher q).malformedNode cq (cq.slotOf cq.fetched) (cq.ring + 128 * cq.slotOf cq.fetched) b
        (((cq.nextNode b).succOf []).take 8)) := by
  rw [State.fetcher] at read
  rw [CmdQueue.nextNode] at bad noArray
  rw [exec_recordFetch, execRecordFetch, hq]
  dsimp only
  rw [if_neg (by simp [serving, fetches, turn]), read]
  exact if_pos (by rw [bad, noArray]; rfl)

/-- A record whose array is read is armed, or malformed by what either holds. -/
theorem exec_recordFetch_of_array {ovf : List Byte}
    (sound : (cq.nextNode b).headBad = false ∨ (cq.nextNode b).arrayAt = true)
    (array : (s.fetcher q).qRead cq ((cq.nextNode b).quad 4)
      (2 * (nsucc (cq.nextNode b) - 8)) = .ok ovf) :
    exec (.recordFetch q) s = .next
      (if (cq.nextNode b).headBad || cq.succBad (cq.nextNode b) ((cq.nextNode b).succOf ovf)
        then (s.fetcher q).malformedNode cq (cq.slotOf cq.fetched) (cq.ring + 128 * cq.slotOf cq.fetched) b
          ((cq.nextNode b).succOf ovf)
        else (s.fetcher q).setQueue (cq.armed (cq.slotOf cq.fetched) b ((cq.nextNode b).succOf ovf))) := by
  have goes : ((cq.nextNode b).headBad && !(cq.nextNode b).arrayAt) = false := by
    rcases sound with good | good <;> simp [good]
  rw [State.fetcher] at read array
  rw [CmdQueue.nextNode] at goes array
  rw [exec_recordFetch, execRecordFetch, hq]
  dsimp only
  rw [if_neg (by simp [serving, fetches, turn]), read]
  dsimp only
  rw [if_neg (by rw [goes]; exact Bool.false_ne_true), array]
  dsimp only
  rw [apply_ite Host.Outcome.next]
  rfl
end

/-! ### The end of a node (15 R399) -/

section
variable {slot : Nat} {n : Node} {o : NodeOutcome} (hn : cq.node slot = some n) (came : cq.cameTo n = some o) (ready : s.ctxReady cq = true)
include hn came ready

theorem exec_nodeFinal_of_noWord (none_ : n.donea = 0) : exec (.nodeFinal q slot) s = .next (s.finishNode q slot o) := by
  rw [exec_nodeFinal, execNodeFinal, hq]
  dsimp only
  rw [hn]
  dsimp only
  rw [came]
  dsimp only
  rw [if_neg (by simp [serving, ready]), if_pos (.inl none_)]

theorem exec_nodeFinal_of_word {t : State} (some_ : n.donea ≠ 0) (aligned : n.donea % 8 = 0) (global : isGlobal n.donea = true)
    (written : s.writeWord cq.unit cq.pasid n.donea (natLE 8 (nodeDone n o)) = .ok t) :
    exec (.nodeFinal q slot) s = .next (t.finishNode q slot o) := by
  rw [exec_nodeFinal, execNodeFinal, hq]
  dsimp only
  rw [hn]
  dsimp only
  rw [came]
  dsimp only
  rw [if_neg (by simp [serving, ready]), if_neg (by simp [some_, aligned, global]), written]
end

/-! ### The exception ring (15 R405) -/

theorem exec_queueEventPost_of_due (ready : s.ctxReady cq = true) (due : cq.stateDue = true) :
    exec (.queueEventPost q) s = .next (s.putState cq) := by
  rw [exec_queueEventPost, execQueueEventPost, hq]
  exact if_pos (by simp [serving, ready, due])

theorem exec_queueEventPost_writes {p : Posting} {rest : List Posting} (posts : cq.posts = p :: rest) (ready : s.ctxReady cq = true)
    (written : cq.stateDue = false) (room : since32 cq.eqp (s.ctxQuad cq 4 / 2 ^ 32 % 2 ^ 32) < cq.ers)
    (mapped : s.span cq.unit cq.pasid (cq.ering + 64 * (cq.eqp % cq.ers)) 64 true = .ok) :
    exec (.queueEventPost q) s = .next
      ((((s.putPosting cq (cq.ering + 64 * (cq.eqp % cq.ers)) p).setQueue { cq with posts := rest, eqp := (cq.eqp + 1) % 2 ^ 32 }).putCtx
        { cq with posts := rest, eqp := (cq.eqp + 1) % 2 ^ 32 } 32 4 ((cq.eqp + 1) % 2 ^ 32)).putState
        { cq with posts := rest, eqp := (cq.eqp + 1) % 2 ^ 32 }) := by
  rw [exec_queueEventPost, execQueueEventPost, hq]
  dsimp only
  rw [if_neg (by simp [written]), posts]
  dsimp only
  rw [if_neg (by simp [serving, ready]), if_neg (Nat.not_le.mpr room), mapped]
end

end Sys2Proof.Machine

namespace Sys2Proof.Claims

open Sys2Proof.Machine

/-- Settles O56: the turn is the queue's where none with a record to fetch comes before it, and a queue event is seen in the queue that it stalls. -/
theorem queuesFetchAndFinish : Obligations.QueuesFetchAndFinish := by
  refine ⟨?_, ?_, ?_, ?_, ?_, ?_, ?_⟩
  · intro s q cq hq serving running ready
    exact exec_prodUpdate_of_running hq serving running ready
  · rintro s u q slot cq b ovf n hq serving running left first rfl rfl read rfl
    have fetches : cq.fetches = true := by simp [CmdQueue.fetches, running, left]
    have turn := State.fetchTurn_of_first first
    refine ⟨fun bad noArray => exec_recordFetch_of_headBad hq serving fetches turn read bad ?_, fun sound array => ?_⟩
    · exact Bool.eq_false_iff.mpr fun has => noArray ((Node.arrayAt_iff _).mp has)
    · have done := exec_recordFetch_of_array hq serving fetches turn read (sound.imp_right (Node.arrayAt_iff _).mpr) array
      refine ⟨fun bad => done.trans ?_, fun good succGood => done.trans ?_⟩
      · exact congrArg _ (if_pos ((Bool.or_eq_true _ _).mpr bad))
      · exact congrArg _ (if_neg (Bool.eq_false_iff.mp (Bool.or_eq_false_iff.mpr ⟨good, succGood⟩)))
  · intro s q code slot addr w cq hq
    obtain ⟨quads, found⟩ := State.raiseEvent_queue hq code slot addr w
    refine ⟨_, ⟨code, slot, addr, cq.serial, w⟩, found, rfl, rfl, rfl, rfl, (cq.withPosting quads).withEvent_running _, rfl,
      List.length_append, ?_⟩
    exact iff_of_eq (Bool.not_eq_false' _)
  · intro s q cq hq serving ready due
    exact exec_queueEventPost_of_due hq serving ready due
  · intro s q slot cq n o hq hn came serving ready
    exact ⟨exec_nodeFinal_of_noWord hq serving hn came ready, fun t => exec_nodeFinal_of_word hq serving hn came ready⟩
  · intro cq slot o n hn
    exact ⟨_, CmdQueue.node_notify hn o, rfl, n.notified_counts o, n.notified_ran o⟩
  · rintro s q cq cq' p rest hq posts serving ready written room mapped rfl
    exact exec_queueEventPost_writes hq serving posts ready written room mapped

end Sys2Proof.Claims
end

section
/-!
PROOFS. What a node does as it fires (15 R399 to R403): a launch, a copy, a SIGNAL, a WAIT, a COND and a LOOP.
-/

namespace Sys2Proof.Machine

/-! ### Launches (15 R401, R402) -/

section
variable {s : State} {cq : CmdQueue} {n : Node} {b : List Byte} {counts exempt : List Nat} {gb : List Byte} {l : Launch} {m : Nat}
  (read : s.nodeRead cq n = .ok b counts exempt gb)
include read

/-- A launch that the class queue takes: its task is queued, and the node is fired with the task's id. -/
theorem State.launchNode_of_taken (taken : s.nodeStatus cq n b counts exempt gb = (some 0, l, m)) :
    s.launchNode cq n = (s.enqueue ⟨cq.pasid, .command cq.q, cq.q, some (cq.q, n.slot), cq.home, m, n.kind == kOUTING, cq.root⟩ l).2.setQueue
      (cq.setNode { n with fired := true, task := s.ids }) := by
  rw [State.launchNode, read]
  dsimp only
  rw [taken]
  rfl

theorem State.launchNode_of_failed (failed : s.nodeStatus cq n b counts exempt gb = (none, l, m)) : s.launchNode cq n = s.fireEnd cq n .failed := by
  rw [State.launchNode, read]
  dsimp only
  rw [failed]
end

theorem exec_launch_fires {q slot : Nat} {e : Instr × Nat} (he : e ∈ [(Instr.launch q slot, 1), (.ilaunch q slot, 7), (.outing q slot, 8)])
    {s : State} {cq : CmdQueue} {n : Node} (fires : s.firing q slot e.2 = some (cq, n)) : exec e.1 s = .next (s.launchNode cq n) := by
  simp only [List.mem_cons, List.not_mem_nil, or_false] at he
  rcases he with rfl | rfl | rfl
  · rw [exec_launch, execLaunch, kLAUNCH, fires]
  · rw [exec_ilaunch, execIlaunch, kILAUNCH, fires]
  · rw [exec_outing, execOuting, kOUTING, fires]

section
variable {s : State} {q slot : Nat} {cq : CmdQueue} {n : Node}

/-! ### Work that goes on after the node has fired -/

/-- A fired node is not held by queue event 3 once that is answered. -/
theorem CmdQueue.unheld (answered : ∀ x ∈ cq.events, ¬ (x.code = 3 ∧ x.slot = slot)) :
    cq.events.any (fun x => x.code == 3 && x.slot == slot) = false :=
  List.any_eq_false.mpr (by simpa using answered)

section
variable (hq : s.queue q = some cq) (hn : cq.node slot = some n) (serving : s.serving = true) (fired : n.fired = true)
  (running : n.result = none) (open_ : n.outcome = none)
include hq hn serving fired running open_

theorem exec_outingRetry_tries (kind : n.kind = 8) (untaken : n.task = 0) : exec (.outingRetry q slot) s = .next (s.launchNode cq n) := by
  rw [exec_outingRetry, execOutingRetry, hq]
  dsimp only
  rw [hn]
  exact if_pos (by simp [serving, kind, kOUTING, fired, untaken, running, open_])

variable (answered : ∀ x ∈ cq.events, ¬ (x.code = 3 ∧ x.slot = slot))
include answered

theorem exec_waitSatisfied_reads {w : Nat} (kind : n.kind = 4) (read : s.nodeValue cq n = .ok w) :
    exec (.waitSatisfied q slot) s = .next (if nodeCond n w = true then s.fireEnd cq n .done else s) := by
  rw [exec_waitSatisfied, execWaitSatisfied, hq]
  dsimp only
  rw [hn]
  dsimp only
  rw [if_neg (by simp [serving, kind, kWAIT, fired, running, open_, CmdQueue.unheld answered]), read]
  exact (apply_ite Host.Outcome.next ..).symm

theorem exec_loopIteration_ends {m : Node} (kind : n.kind = 5) (hm : cq.node (loopExit n) = some m) (ended : m.outcome ≠ none) :
    exec (.loopIteration q slot) s =
      .next (if n.iter + 1 < loopN n then s.setQueue (cq.iterate n (n.iter + 1)) else s.fireEnd cq n .done) := by
  rw [exec_loopIteration, execLoopIteration, hq]
  dsimp only
  rw [hn]
  dsimp only
  rw [hm]
  dsimp only
  have some_ : m.outcome.isSome = true := Option.isSome_iff_ne_none.mpr ended
  rw [if_neg (by simp [serving, kind, kLOOP, fired, running, open_, some_, CmdQueue.unheld answered])]
  exact (apply_ite Host.Outcome.next ..).symm
end

/-! ### Copies, signals, waits and conditions as they fire (15 R401) -/

theorem exec_copyNode_fires {b : List Byte} (fires : s.firing q slot 2 = some (cq, n)) (aligned : n.p 0 % 64 = 0) (global : isGlobal (n.p 0) = true)
    (read : s.engRead ⟨160 + cq.home, cq.pasid, 0, .die cq.home⟩ (n.p 0) 64 = .ok b)
    (kind : (recOf b).kind = cpCPY ∨ (recOf b).kind = cpCPY2 ∨ (recOf b).kind = cpCPYH)
    (good : recVerdict (recOf b).kind (recOf b) none 0 0 = .go) (room : (s.engine (160 + cq.home)).depth (slot % 4) < 16) :
    exec (.copyNode q slot) s = .next ((s.fire cq n).enqueueCopy (160 + cq.home)
      { CopyJob.fresh 0 none (some (q, slot)) cq.pasid (slot % 4) .copy with recAddr := n.p 0, record := b }) := by
  have unit : engUnit (frontEngine cq.home) = .die cq.home := by simp [engUnit, frontEngine]
  rw [exec_copyNode, execCopyNode, kCOPY, fires]
  dsimp only
  rw [if_neg (by simp [aligned, global]), unit, frontEngine, read]
  dsimp only
  rw [if_neg (not_or.mpr ⟨fun none_ => by tauto, fun bad => bad good⟩), if_neg (Nat.not_le.mpr room)]

/-- A SIGNAL at a word without an error writes what its operation gives. -/
theorem State.signal_writes {pa : Nat} (f : Nat → Nat → Nat) (place : s.nodeWord cq n true = .at pa) (sound : ∀ k, s.readErr pa ≠ .bad k) :
    s.signal cq n f = (s.putGranule pa false (natLE 8 (f (s.quadAt pa) (n.p 1)))).fireEnd cq n .done := by
  unfold State.signal
  rw [place]
  dsimp only
  split
  · rename_i k bad
    exact absurd bad (sound k)
  · rfl

theorem exec_signal_fires {e : Instr × Nat × (Nat → Nat → Nat)}
    (he : e ∈ ([(.signalStore q slot, 0, fun _ v => v), (.signalAdd q slot, 1, fun w v => (w + v) % 2 ^ 64),
      (.signalOr q slot, 2, fun w v => w ||| v)] : List (Instr × Nat × (Nat → Nat → Nat))))
    (fires : s.firing q slot 3 = some (cq, n)) (op : n.op = e.2.1) : exec e.1 s = .next (s.signal cq n e.2.2) := by
  simp only [List.mem_cons, List.not_mem_nil, or_false] at he
  rcases he with rfl | rfl | rfl
  · rw [exec_signalStore, execSignalStore, kSIGNAL, fires]
    exact if_pos op
  · rw [exec_signalAdd, execSignalAdd, kSIGNAL, fires]
    exact if_pos op
  · rw [exec_signalOr, execSignalOr, kSIGNAL, fires]
    exact if_pos op

theorem exec_waitNode_fires {w : Nat} (fires : s.firing q slot 4 = some (cq, n)) (read : s.nodeValue cq n = .ok w) :
    exec (.waitNode q slot) s = .next (s.fire cq n) := by
  rw [exec_waitNode, execWaitNode, kWAIT, fires]
  dsimp only
  rw [read]

theorem exec_condNode_fires {w : Nat} (fires : s.firing q slot 6 = some (cq, n)) (read : s.nodeValue cq n = .ok w) :
    exec (.condNode q slot) s = .next (s.fireEnd cq { n with iter := if nodeCond n w = true then 1 else 2 } .done) := by
  rw [exec_condNode, execCondNode, kCOND, fires]
  dsimp only
  rw [read]

/-! ### Loops (15 R403) -/

theorem exec_loopNode_starts (fires : s.firing q slot 5 = some (cq, n)) (good : loopBad cq n = false) (fetched : ∀ b ∈ loopBody cq n, cq.node b ≠ none) :
    exec (.loopNode q slot) s = .next (if loopN n = 0 then s.fireEnd cq n .done else s.setQueue (cq.iterate n 0)) := by
  rw [exec_loopNode, execLoopNode, kLOOP, fires]
  dsimp only
  rw [if_neg (Bool.eq_false_iff.mp good), if_neg (by simpa using fetched)]
  exact (apply_ite Host.Outcome.next ..).symm
end

theorem State.finishNode_of_node {s : State} {q slot : Nat} {cq : CmdQueue} {n : Node} (hq : s.queue q = some cq) (hn : cq.node slot = some n)
    (o : NodeOutcome) : s.finishNode q slot o = (s.setQueue (cq.finalNode n o)).putCtx (cq.finalNode n o) 16 4 (cq.finalNode n o).cons := by
  rw [State.finishNode, hq]
  dsimp only
  rw [hn]

/-! ### A COND's notifications (15 R401) -/

theorem Node.condSlots_of_cond {n : Node} (kind : n.kind = 6) : n.condSlots = [nbits (n.p 4) 0 16, nbits (n.p 4) 16 16] := if_pos kind

/-- A notification of a node's successor: only another slot that is live takes one. -/
def CmdQueue.tell (n : Node) (cq : CmdQueue) (x : Nat) (o : NodeOutcome) : CmdQueue := if cq.live x && x != n.slot then cq.notify x o else cq

section
variable {n : Node} {cq : CmdQueue}

theorem CmdQueue.tell_of_live {x : Nat} (h : cq.live x = true ∧ x ≠ n.slot) (o : NodeOutcome) : cq.tell n x o = cq.notify x o := by
  obtain ⟨live, other⟩ := h
  exact if_pos (by simp [live, other])

/-- The notifications of slots that are live all arrive: none of them moves the ring. -/
theorem CmdQueue.foldl_tell {l : List Nat} (h : ∀ x ∈ l, cq.live x = true ∧ x ≠ n.slot) (o : NodeOutcome) :
    l.foldl (fun (c : CmdQueue) x => c.tell n x o) cq = l.foldl (fun (c : CmdQueue) x => c.notify x o) cq := by
  induction l generalizing cq with
  | nil => rfl
  | cons x l ih =>
    obtain ⟨first, rest⟩ := List.forall_mem_cons.mp h
    rw [List.foldl_cons, List.foldl_cons, CmdQueue.tell_of_live first]
    exact ih fun y mem => by
      rw [CmdQueue.notify_live]
      exact rest y mem

theorem CmdQueue.foldl_notify_live (l : List Nat) (o : NodeOutcome) (y : Nat) :
    (l.foldl (fun (c : CmdQueue) x => c.notify x o) cq).live y = cq.live y :=
  foldl_keeps (fun c : CmdQueue => c.live y) (fun c x => c.notify_live x o y) l cq

theorem CmdQueue.disown_of_cond (kind : n.kind = 6) (cq : CmdQueue) : cq.disown n = cq := if_neg (by rw [kind]; decide)

/-- A COND that is done tells its successors, then its two slots as its condition gave. -/
theorem CmdQueue.finalNode_of_cond {a b : Nat} (kind : n.kind = 6) (slots : n.condSlots = [a, b]) :
    cq.finalNode n .done = CmdQueue.retire
      (if n.iter = 1 then ((n.succ.foldl (fun (c : CmdQueue) x => c.tell n x .done)
          (cq.setNode { n with outcome := some .done, result := some .done })).tell n a .done).tell n b .skipped
        else ((n.succ.foldl (fun (c : CmdQueue) x => c.tell n x .done)
          (cq.setNode { n with outcome := some .done, result := some .done })).tell n a .skipped).tell n b .done) := by
  unfold CmdQueue.finalNode
  dsimp only
  rw [CmdQueue.disown_of_cond kind, slots]
  dsimp only
  rw [if_pos rfl]
  rfl

theorem CmdQueue.finalNode_of_cond_live {c : CmdQueue} {a b : Nat} (kind : n.kind = 6) (slots : n.condSlots = [a, b])
    (live : ∀ x ∈ n.succ ++ [a, b], cq.live x = true ∧ x ≠ n.slot)
    (told : c = n.succ.foldl (fun (c : CmdQueue) x => c.notify x .done) (cq.setNode { n with outcome := some .done, result := some .done })) :
    cq.finalNode n .done = CmdQueue.retire (if n.iter = 1 then (c.notify a .done).notify b .skipped else (c.notify a .skipped).notify b .done) := by
  obtain ⟨succ, both⟩ := List.forall_mem_append.mp live
  have all : n.succ.foldl (fun (c : CmdQueue) x => c.tell n x .done) (cq.setNode { n with outcome := some .done, result := some .done }) = c :=
    told ▸ CmdQueue.foldl_tell (cq := cq.setNode { n with outcome := some .done, result := some .done }) succ .done
  have kept (y : Nat) : c.live y = cq.live y := told ▸ CmdQueue.foldl_notify_live n.succ .done y
  have first : c.live a = true ∧ a ≠ n.slot := by rw [kept]; exact both a (by simp)
  have second (o : NodeOutcome) : (c.notify a o).live b = true ∧ b ≠ n.slot := by rw [CmdQueue.notify_live, kept]; exact both b (by simp)
  rw [CmdQueue.finalNode_of_cond kind slots, all, CmdQueue.tell_of_live first, CmdQueue.tell_of_live first, CmdQueue.tell_of_live (second _),
    CmdQueue.tell_of_live (second _)]
end

end Sys2Proof.Machine

namespace Sys2Proof.Claims

open Sys2Proof.Machine

/-- Settles O57: each kind's own step; a COND's notifications all arrive, as no notification moves the ring. -/
theorem nodesPerformTheirKind : Obligations.NodesPerformTheirKind := by
  refine ⟨?_, ?_, ?_, ?_, ?_, ?_, ?_, ?_, ?_, ?_, ?_, ?_, ?_⟩
  · intro q slot e he s cq n fires
    exact exec_launch_fires he fires
  · intro s q slot cq n hq hn serving kind fired untaken running open_
    exact exec_outingRetry_tries hq hn serving fired running open_ kind untaken
  · intro s cq n b counts exempt gb l m hq hn read
    refine ⟨fun taken => ?_, fun failed => State.launchNode_of_failed read failed⟩
    rw [State.launchNode_of_taken read taken]
    exact ⟨_, _, rfl, rfl, rfl, rfl, rfl, rfl, State.node_setQueue_setNode hq hn rfl, rfl, rfl⟩
  · intro s q slot cq n b fires aligned global read kind good room
    exact exec_copyNode_fires fires aligned global read kind good room
  · intro q slot e he s cq n pa fires op place sound
    rw [exec_signal_fires he fires op, State.signal_writes _ place sound]
  · intro s q slot w cq n fires read
    exact exec_waitNode_fires fires read
  · intro s q slot w cq n hq hn serving kind fired running open_ answered read
    exact exec_waitSatisfied_reads hq hn serving fired running open_ answered kind read
  · intro s q slot w cq n fires read
    exact exec_condNode_fires fires read
  · intro s q slot cq n o hq hn
    exact State.finishNode_of_node hq hn o
  · intro cq c n a b kind slots live told
    have final := CmdQueue.finalNode_of_cond_live kind slots live told
    refine ⟨fun holds => ?_, fun fails => ?_⟩
    · rw [final, if_pos holds]
    · rw [final, if_neg (by rw [fails]; decide)]
  · intro n kind
    exact Node.condSlots_of_cond kind
  · intro s q slot cq n fires good fetched
    exact exec_loopNode_starts fires good fetched
  · intro s q slot cq n m hq hn serving kind fired running open_ answered hm ended
    exact exec_loopIteration_ends hq hn serving fired running open_ answered kind hm ended

end Sys2Proof.Claims
end

section
/-!
PROOFS. The dies' records and the translation caches (14 R371): what a write of a die changes, and which operations leave the caches as they are.
-/

namespace Sys2Proof.Machine

/-! ### A die written and read -/

section
variable (s : State) (d : Nat)

theorem State.die_setDie_same (h : d < s.dies.length) (x : Die) : (s.setDie d x).die d = x := by
  simp [State.die, State.setDie, h]

theorem State.die_setDie_other {k : Nat} (h : k ≠ d) (x : Die) : (s.setDie d x).die k = s.die k := by
  simp [State.die, State.setDie, List.getElem?_set_ne h.symm]

theorem State.setDie_setDie (x y : Die) : (s.setDie d x).setDie d y = s.setDie d y := by
  simp [State.setDie]

theorem State.setDie_of_past (h : s.dies.length ≤ d) (x : Die) : s.setDie d x = s := by
  rw [State.setDie, List.set_eq_of_length_le h]

theorem State.die_of_past (h : s.dies.length ≤ d) : s.die d = Die.reset := List.getD_eq_default _ _ h

theorem State.setDie_die : s.setDie d (s.die d) = s := by
  by_cases h : d < s.dies.length
  · have same : s.dies.set d (s.die d) = s.dies := by
      rw [State.die, List.getD_eq_getElem _ _ h, List.set_getElem_self]
    rw [State.setDie, same]
  · exact s.setDie_of_past d (Nat.not_lt.mp h) _

/-- A field that a write of a die keeps is kept of every die. -/
theorem State.die_setDie_keeps {α : Type} (π : Die → α) {x : Die} (h : π x = π (s.die d)) (k : Nat) : π ((s.setDie d x).die k) = π (s.die k) := by
  by_cases hk : k = d
  · subst hk
    by_cases hd : k < s.dies.length
    · rw [s.die_setDie_same k hd, h]
    · rw [s.setDie_of_past k (Nat.not_lt.mp hd)]
  · rw [s.die_setDie_other d hk]

theorem State.die_lt_of_faults {f : DemandFault} {rest : List DemandFault} (h : (s.die d).faults = f :: rest) : d < s.dies.length := by
  refine Nat.lt_of_not_le fun past => ?_
  rw [s.die_of_past d past] at h
  cases h
end

/-- Each of the first dies changed by itself; no die past the last takes a change. -/
theorem State.die_foldl_setDie (s : State) {g : Die → Die} (fixed : g Die.reset = Die.reset) (n k : Nat) :
    ((List.range n).foldl (fun (t : State) k => t.setDie k (g (t.die k))) s).die k = if k < n then g (s.die k) else s.die k := by
  induction n with
  | zero => rfl
  | succ n ih =>
    rw [List.range_succ, List.foldl_append, List.foldl_cons, List.foldl_nil]
    by_cases hk : k = n
    · subst hk
      rw [if_neg (Nat.lt_irrefl k)] at ih
      rw [if_pos (Nat.lt_succ_self k), ← ih]
      by_cases past : k < ((List.range k).foldl (fun (t : State) k => t.setDie k (g (t.die k))) s).dies.length
      · exact State.die_setDie_same _ k past _
      · have none_ := State.die_of_past _ k (Nat.not_lt.mp past)
        rw [State.setDie_of_past _ k (Nat.not_lt.mp past), none_, fixed]
    · rw [State.die_setDie_other _ n hk, ih]
      exact if_congr (by omega) rfl rfl

/-! ### The translation caches as a whole (14 R371) -/

/-- The caches of a core: those of its engines, and its own. -/
def Core.caches (c : Core) : List TransEnt × List TransEnt × List TransEnt × List TransEnt := (c.tcAccess, c.tcCopy, c.tcSeq, c.tc)

/-- The translation caches of the package. -/
def State.caches (s : State) : List (List TransEnt × List TransEnt × List TransEnt × List TransEnt) × List (List TransEnt) × List (List TransEnt) :=
  (s.cores.map Core.caches, s.dies.map Die.tc, s.lanterns.map Lantern.tc)

/-- What a list holds at a place, seen through a view, is what the list of views holds there. -/
theorem view_getD {α β : Type} (π : α → β) (l : List α) (k : Nat) (a : α) : π (l.getD k a) = (l.map π).getD k (π a) := by
  simp only [List.getD_eq_getElem?_getD, List.getElem?_map]
  cases l[k]? <;> rfl

theorem State.core_caches (s : State) (c : Nat) : (s.core c).caches = s.caches.1.getD c ([], [], [], []) := view_getD Core.caches s.cores c Core.reset

theorem State.die_tc (s : State) (d : Nat) : (s.die d).tc = s.caches.2.1.getD d [] := view_getD Die.tc s.dies d Die.reset

theorem State.lantern_tc (s : State) (l : Nat) : (s.lanterns.getD l Lantern.idle).tc = s.caches.2.2.getD l [] :=
  view_getD Lantern.tc s.lanterns l Lantern.idle

/-- A unit looks in the same caches of two states that hold the same caches. -/
theorem State.tcLevels_of_caches {s t : State} (h : t.caches = s.caches) (u : XUnit) : t.tcLevels u = s.tcLevels u := by
  have cores (c : Nat) : (t.core c).caches = (s.core c).caches := by rw [State.core_caches, State.core_caches, h]
  have access (c : Nat) : (t.core c).tcAccess = (s.core c).tcAccess := congrArg Prod.fst (cores c)
  have copy (c : Nat) : (t.core c).tcCopy = (s.core c).tcCopy := congrArg (·.2.1) (cores c)
  have seq (c : Nat) : (t.core c).tcSeq = (s.core c).tcSeq := congrArg (·.2.2.1) (cores c)
  have own (c : Nat) : (t.core c).tc = (s.core c).tc := congrArg (·.2.2.2) (cores c)
  have dies (d : Nat) : (t.die d).tc = (s.die d).tc := by rw [State.die_tc, State.die_tc, h]
  have lanterns (l : Nat) : (t.lanterns.getD l Lantern.idle).tc = (s.lanterns.getD l Lantern.idle).tc := by
    rw [State.lantern_tc, State.lantern_tc, h]
  cases u with
  | engine c k => cases k <;> simp only [State.tcLevels, access, copy, seq, own, dies]
  | lantern l => simp only [State.tcLevels, lanterns, dies]
  | core c => simp only [State.tcLevels, own, dies]
  | die d => simp only [State.tcLevels, dies]

/-! ### Operations that leave the caches as they are -/

theorem State.setCore_caches {s : State} {c : Nat} {x : Core} (h : x.caches = (s.core c).caches) : (s.setCore c x).caches = s.caches :=
  Prod.ext (map_set_of_eq h) rfl

theorem State.setGroup_caches (s : State) (r : GRef) (g : Group) : (s.setGroup r g).caches = s.caches := by
  unfold State.setGroup
  split <;> exact State.setCore_caches rfl

theorem State.stopWick_caches (s : State) (r : GRef) (g : Group) (wk status ecode : Nat) (fva : Option (Nat × Bool)) :
    (s.stopWick r g wk status ecode fva).caches = s.caches := by
  unfold State.stopWick
  refine Eq.trans (State.setCore_caches ?_) (s.setGroup_caches ..)
  rfl

theorem State.boundary_caches (s : State) (r : GRef) (g : Group) (wk : Nat) : (s.boundary r g wk).caches = s.caches := by
  unfold State.boundary
  dsimp only
  split
  · exact s.setGroup_caches r g
  · split
    · exact s.setGroup_caches r g
    · split
      · exact s.stopWick_caches r g wk stDROPPED 0 none
      · exact s.stopWick_caches r g wk stCANCELLED 0 none
      · exact s.setGroup_caches r g

theorem State.settleRuns_caches (s : State) : s.settleRuns.caches = s.caches := by
  refine foldl_keeps State.caches (fun _ _ => foldl_keeps State.caches (fun _ _ => foldl_keeps State.caches (fun t wk => ?_) _ _) _ _) _ s
  split
  · rfl
  · split
    · exact t.boundary_caches ..
    · rfl

theorem State.discardSteps_caches (s : State) (asid : Nat) : (s.discardSteps asid).caches = s.caches := by
  refine (State.settleRuns_caches _).trans (Prod.ext ?_ rfl)
  exact List.map_map.trans (List.map_congr_left fun c _ => rfl)

/-- A list written anew at each place, seen through a view that the writes keep. -/
theorem map_map_range_getD {α β : Type} {π : α → β} {l : List α} {a : α} {g : Nat → α} (h : ∀ k, π (g k) = π (l.getD k a)) :
    ((List.range l.length).map g).map π = l.map π := by
  refine List.ext_getElem (by simp) fun n _ hn => ?_
  rw [List.getElem_map, List.getElem_map, List.getElem_range, List.getElem_map, h, List.getD_eq_getElem]

theorem State.retargetAll_caches (s : State) (x : VaRange) : (s.retargetAll x).caches = s.caches :=
  Prod.ext (map_map_range_getD (a := Core.reset) fun _ => rfl) (Prod.ext (map_map_range_getD (a := Die.reset) fun _ => rfl) rfl)

/-! ### Entries dropped (14 R376) -/

theorem State.core_dropEntries (s : State) (f : TransEnt → Bool) (c : Nat) : (s.dropEntries f).core c = (s.core c).dropTrans f :=
  (view_getD (fun x : Core => x.dropTrans f) s.cores c Core.reset).symm

/-- A die whose cache drops the entries that a test selects. -/
def Die.dropTrans (x : Die) (f : TransEnt → Bool) : Die := { x with tc := x.tc.filter (fun e => !f e) }

/-- A lantern whose cache drops the entries that a test selects. -/
def Lantern.dropTrans (x : Lantern) (f : TransEnt → Bool) : Lantern := { x with tc := x.tc.filter (fun e => !f e) }

theorem State.die_dropEntries (s : State) (f : TransEnt → Bool) (d : Nat) : (s.dropEntries f).die d = (s.die d).dropTrans f :=
  (view_getD (fun x : Die => x.dropTrans f) s.dies d Die.reset).symm

theorem State.lantern_dropEntries (s : State) (f : TransEnt → Bool) (l : Nat) :
    (s.dropEntries f).lanterns.getD l Lantern.idle = (s.lanterns.getD l Lantern.idle).dropTrans f :=
  (view_getD (fun x : Lantern => x.dropTrans f) s.lanterns l Lantern.idle).symm

theorem State.tcLevels_dropEntries (s : State) (f : TransEnt → Bool) (u : XUnit) :
    (s.dropEntries f).tcLevels u = (s.tcLevels u).map (fun l => l.filter (fun e => !f e)) := by
  cases u with
  | engine c k => cases k <;> (simp only [State.tcLevels, State.core_dropEntries, State.die_dropEntries]; rfl)
  | lantern l => simp only [State.tcLevels, State.lantern_dropEntries, State.die_dropEntries]; rfl
  | core c => simp only [State.tcLevels, State.core_dropEntries, State.die_dropEntries]; rfl
  | die d => simp only [State.tcLevels, State.die_dropEntries]; rfl

/-- No cache keeps an entry that a test has dropped. -/
theorem State.not_of_mem_dropEntries {s t : State} {f : TransEnt → Bool} (dropped : t.caches = (s.dropEntries f).caches) {u : XUnit}
    {l : List TransEnt} {e : TransEnt} (level : l ∈ t.tcLevels u) (mem : e ∈ l) : f e = false := by
  rw [State.tcLevels_of_caches dropped, State.tcLevels_dropEntries] at level
  obtain ⟨k, -, rfl⟩ := List.mem_map.mp level
  simpa using (List.mem_filter.mp mem).2

end Sys2Proof.Machine
end

section
/-!
PROOFS. The events of address translation (14 R371 to R376): walks and those that join them, the service of a demand fault, the host's answers, and the
mappings that change.
-/

namespace Sys2Proof.Machine

/-! ### Walks in flight (14 R373) -/

theorem DemandFault.at_iff (f : DemandFault) (asid va : Nat) : f.at asid va = true ↔ f.asid = asid ∧ page f.va = page va := by
  simp [DemandFault.at]

theorem DemandFault.among_iff (f : DemandFault) (l : List DemandFault) :
    f.among l = true ↔ ∃ x ∈ l, x.asid = f.asid ∧ page x.va = page f.va := by
  simp only [DemandFault.among, List.any_eq_true, DemandFault.at_iff]

theorem DemandFault.length_join (f : DemandFault) (l : List DemandFault) : (f.join l).length = l.length := List.length_map _

/-- A walk of the page that a miss has joined is for its units and its rights too. -/
theorem DemandFault.of_mem_join {f x : DemandFault} {l : List DemandFault} (mem : x ∈ f.join l) (here : x.asid = f.asid ∧ page x.va = page f.va) :
    (∀ u ∈ f.units, u ∈ x.units) ∧ (f.wr = true → x.wr = true) ∧ (f.rd = true → x.rd = true) := by
  obtain ⟨y, -, rfl⟩ := List.mem_map.mp mem
  by_cases at_ : y.at f.asid f.va = true
  · simp only [if_pos at_]
    refine ⟨fun u hu => ?_, fun wr => ?_, fun rd => ?_⟩
    · by_cases old : u ∈ y.units <;> simp [old, hu]
    · rw [wr, Bool.or_true]
    · rw [rd, Bool.or_true]
  · rw [if_neg at_] at here
    exact absurd ((y.at_iff _ _).mpr here) at_

/-- A demand fault of a page that no fault waits for is the last of its die. -/
theorem State.demandFault_of_new {s : State} {d : Nat} {f : DemandFault} (new : f.among (s.die d).faults = false) :
    s.demandFault d f = s.setDie d { s.die d with faults := (s.die d).faults ++ [f] } := by
  rw [State.demandFault, new]
  rfl

/-! ### PAGE_WALK (14 R371 to R375) -/

/-- The miss of a unit: it asks for writes, or else for reads. -/
def missOf (u : XUnit) (asid va : Nat) (wr : Bool) : DemandFault := ⟨[u], asid, va, wr, !wr⟩

section
variable (s : State) (u : XUnit) (asid va : Nat) (wr : Bool)

/-- The die whose walks have taken up a unit's miss. -/
def State.joined : Die :=
  { s.die (unitDie u) with
    faults := (missOf u asid va wr).join (s.die (unitDie u)).faults
    ats := (missOf u asid va wr).join (s.die (unitDie u)).ats
    pri := (missOf u asid va wr).join (s.die (unitDie u)).pri }

/-- A miss that a service must end: it is asked for, unless only instructions that ask for none need it. -/
def State.ask : State :=
  if s.unasked u asid va then s
  else if (missOf u asid va wr).among (s.die (unitDie u)).walks then s.setDie (unitDie u) (s.joined u asid va wr)
  else s.demandFault (unitDie u) (missOf u asid va wr)

/-- What a walk that is made gives. -/
def State.walked : Host.Outcome State Fault Refusal :=
  match s.walk (unitDie u) asid va with
  | .leaf e => if wr && !e.w then .next (s.ask u asid va wr) else .next (s.fillUnit u e)
  | .host _ w =>
    if (wr && !w) || (missOf u asid va wr).among (s.die (unitDie u)).walks then .next (s.ask u asid va wr)
    else .next (s.setDie (unitDie u) { s.die (unitDie u) with ats := (s.die (unitDie u)).ats ++ [missOf u asid va wr] })
  | .none => .next (s.ask u asid va wr)
  | .absent _ => .fault .absentPhysical
end

section
variable {s : State} {u : XUnit} {asid va : Nat} {wr : Bool}

theorem State.joined_walks : (s.joined u asid va wr).walks = (missOf u asid va wr).join (s.die (unitDie u)).walks := by
  simp [State.joined, Die.walks, DemandFault.join]

theorem State.ask_of_unasked (h : s.unasked u asid va = true) : s.ask u asid va wr = s := if_pos h

theorem State.ask_of_joins (h : s.unasked u asid va = false) (joins : (missOf u asid va wr).among (s.die (unitDie u)).walks = true) :
    s.ask u asid va wr = s.setDie (unitDie u) (s.joined u asid va wr) := by
  rw [State.ask, if_neg (Bool.eq_false_iff.mp h), if_pos joins]

theorem State.ask_of_new (h : s.unasked u asid va = false) (new : (missOf u asid va wr).among (s.die (unitDie u)).walks = false) :
    s.ask u asid va wr =
      s.setDie (unitDie u) { s.die (unitDie u) with faults := (s.die (unitDie u)).faults ++ [missOf u asid va wr] } := by
  have alone : (missOf u asid va wr).among (s.die (unitDie u)).faults = false := by
    simp only [DemandFault.among, Die.walks, List.any_append, Bool.or_eq_false_iff] at new
    exact new.1.1
  rw [State.ask, if_neg (Bool.eq_false_iff.mp h), if_neg (Bool.eq_false_iff.mp new), State.demandFault_of_new alone]

theorem State.walked_of_leaf {e : TransEnt} (leaf : s.walk (unitDie u) asid va = .leaf e) (right : wr = true → e.w = true) :
    s.walked u asid va wr = .next (s.fillUnit u e) := by
  rw [State.walked, leaf]
  exact if_neg (by cases wr <;> simp [right])

theorem State.walked_of_host {b : Nat} {w : Bool} (host : s.walk (unitDie u) asid va = .host b w) (right : wr = true → w = true)
    (new : (missOf u asid va wr).among (s.die (unitDie u)).walks = false) : s.walked u asid va wr =
      .next (s.setDie (unitDie u) { s.die (unitDie u) with ats := (s.die (unitDie u)).ats ++ [missOf u asid va wr] }) := by
  rw [State.walked, host]
  exact if_neg (by rw [new]; cases wr <;> simp [right])

theorem State.walked_of_unmapped (h : Claims.unmapped s u asid va wr) : s.walked u asid va wr = .next (s.ask u asid va wr) := by
  rcases h with none_ | ⟨write, ⟨e, leaf, readOnly⟩ | ⟨b, host⟩⟩
  · rw [State.walked, none_]
  · rw [State.walked, leaf]
    exact if_pos (by rw [write, readOnly]; rfl)
  · rw [State.walked, host]
    exact if_pos (by rw [write]; rfl)

theorem State.walked_of_host_joins {b : Nat} {w : Bool} (host : s.walk (unitDie u) asid va = .host b w)
    (joins : (missOf u asid va wr).among (s.die (unitDie u)).walks = true) : s.walked u asid va wr = .next (s.ask u asid va wr) := by
  rw [State.walked, host]
  exact if_pos (by rw [joins, Bool.or_true])

section
variable (serving : s.serving = true) (unit : unitOk u = true) (global : isGlobal va = true)
include serving unit global

theorem exec_pageWalk_of_hit {pa : Nat} {h : Bool} {e : TransEnt} (hit : s.translate u asid va wr = .hit pa h) (held : s.cached u asid va = some e) :
    exec (.pageWalk u asid va wr) s = .next (s.fillUnit u e) := by
  rw [exec_pageWalk, execPageWalk]
  dsimp only
  rw [if_neg (by simp [serving, unit, global]), hit, held]
  rfl

variable (miss : s.translate u asid va wr = .miss)
include miss

/-- A miss is walked where it joins a walk in flight, or where one more may be. -/
theorem exec_pageWalk_of_miss
    (room : (missOf u asid va wr).among (s.die (unitDie u)).walks = true ∨ (s.die (unitDie u)).walks.length < 256) :
    exec (.pageWalk u asid va wr) s = s.walked u asid va wr := by
  have goes : ((!(missOf u asid va wr).among (s.die (unitDie u)).walks) && decide (Config.walks ≤ (s.die (unitDie u)).walks.length)) = false := by
    rcases room with joins | room
    · rw [joins]; rfl
    · rw [decide_eq_false (show ¬ Config.walks ≤ _ from Nat.not_le.mpr room), Bool.and_false]
  rw [missOf] at goes
  rw [exec_pageWalk, execPageWalk]
  dsimp only
  rw [if_neg (by simp [serving, unit, global]), miss]
  dsimp only
  rw [if_neg (Bool.eq_false_iff.mp goes)]
  rfl

theorem exec_pageWalk_of_full (new : (missOf u asid va wr).among (s.die (unitDie u)).walks = false)
    (full : 256 ≤ (s.die (unitDie u)).walks.length) : exec (.pageWalk u asid va wr) s = .next s := by
  rw [missOf] at new
  rw [exec_pageWalk, execPageWalk]
  dsimp only
  rw [if_neg (by simp [serving, unit, global]), miss]
  dsimp only
  rw [if_pos (by rw [new, decide_eq_true (show Config.walks ≤ _ from full)]; rfl)]
end
end

/-! ### DEMAND_FAULT_SERVICE (14 R373, R374) -/

section
variable {s : State} {d : Nat} {f : DemandFault} {rest : List DemandFault} (faults : (s.die d).faults = f :: rest) (serving : s.serving = true)
include faults serving

theorem exec_demandFaultService_serves {u : State} {writes : List PteWrite}
    (written : (s.setDie d { s.die d with faults := rest }).serviceWrites writes = some u) (mapped : u.mapped d f.asid f.va f.wr = true)
    (agree : u.diesAgree f.asid f.va = true) (keeps : (s.setDie d { s.die d with faults := rest }).keeps u (fun _ _ => false) = true)
    (leases : ∀ t ∈ u.tasks, u.leasesHold t.asid = true) : exec (.demandFaultService d true writes) s = .next (u.restartRuns f) := by
  have held : u.tasks.all (fun t => u.leasesHold t.asid) = true := List.all_eq_true.mpr leases
  rw [exec_demandFaultService, execDemandFaultService]
  dsimp only
  rw [faults]
  dsimp only
  rw [if_neg (by simp [serving]), if_pos rfl, written]
  dsimp only
  rw [if_pos (by rw [mapped, agree, keeps, held]; rfl)]

theorem exec_demandFaultService_refuses (writes : List PteWrite) : exec (.demandFaultService d false writes) s =
    .next (s.setDie d { s.die d with faults := rest, refused := (s.die d).refused ++ s.refusals [f] }) := by
  rw [exec_demandFaultService, execDemandFaultService]
  dsimp only
  rw [faults]
  dsimp only
  rw [if_neg (by simp [serving]), if_neg Bool.false_ne_true, s.die_setDie_same d (s.die_lt_of_faults d faults), State.setDie_setDie]
end

/-- A walk that no lease covers is refused as it is. -/
theorem State.refusals_of_unleased {s : State} {f : DemandFault} (free : ∀ wr, s.leased f.asid f.va wr = false) (asks : (f.wr || f.rd) = true) :
    s.refusals [f] = [f] := by
  have same : s.unleased f = f := by simp [State.unleased, free]
  rw [State.refusals, List.map_singleton, same, List.filter_singleton, asks]
  rfl

theorem State.refusals_of_leased {s : State} {f : DemandFault} (held : ∀ wr, s.leased f.asid f.va wr = true) : s.refusals [f] = [] := by
  simp [State.refusals, State.unleased, held]

/-- Service writes end where one may not be made. -/
theorem State.serviceWrites_none (l : List PteWrite) :
    l.foldl (fun o x => o.bind (fun (s : State) => if s.mayService x then some (s.putPte x) else none)) none = none := by
  induction l with
  | nil => rfl
  | cons x l ih => exact ih

theorem State.serviceWrites_cons {s u : State} {x : PteWrite} {l : List PteWrite} (h : s.serviceWrites (x :: l) = some u) :
    s.mayService x = true ∧ (s.putPte x).serviceWrites l = some u := by
  rw [State.serviceWrites, List.foldl_cons, Option.bind_some] at h
  split at h
  · exact ⟨‹_›, h⟩
  · rw [State.serviceWrites_none] at h
    cases h

theorem State.mayService_iff (s : State) (x : PteWrite) : s.mayService x = true ↔ (leNat (s.mem.readN x.pa 8)).testBit 0 = false ∨
    leNat (s.mem.readN x.pa 8) = x.val.toNat ∨ ((leNat (s.mem.readN x.pa 8)).testBit 1 = true ∧ (leNat (s.mem.readN x.pa 8)).testBit 4 = false ∧
      x.val.toNat = leNat (s.mem.readN x.pa 8) ||| 4) := by
  simp only [State.mayService, Bool.or_eq_true, Bool.and_eq_true, Bool.not_eq_true', beq_iff_eq, decide_eq_true_eq, or_assoc, and_assoc]
  exact or_congr_right (or_congr_right (and_congr_right fun _ => and_congr_right fun _ => eq_comm))

end Sys2Proof.Machine
end

section
/-!
PROOFS. The host's answers to the walkers, its invalidations, and the mappings that change (14 R375, R376).
-/

namespace Sys2Proof.Machine

/-! ### ATS_TRANSLATION_RESPONSE (14 R375) -/

theorem State.fillDie_ats (s : State) (d : Nat) (e : TransEnt) (k : Nat) : ((s.fillDie d e).die k).ats = (s.die k).ats := by
  unfold State.fillDie
  refine s.die_setDie_keeps d Die.ats ?_ k
  rfl

theorem State.fillUnit_ats (s : State) (u : XUnit) (e : TransEnt) (k : Nat) : ((s.fillUnit u e).die k).ats = (s.die k).ats := by
  cases u with
  | engine c j => cases j <;> exact State.fillDie_ats _ (dieOf c) e k
  | lantern l => exact State.fillDie_ats _ (l / 16) e k
  | core c => exact State.fillDie_ats _ (dieOf c) e k
  | die d => exact State.fillDie_ats _ d e k

theorem State.demandFault_ats (s : State) (d : Nat) (f : DemandFault) (k : Nat) : ((s.demandFault d f).die k).ats = (s.die k).ats := by
  unfold State.demandFault
  refine s.die_setDie_keeps d Die.ats ?_ k
  rfl

/-- The host's translation at a die for one request: granted, and cached for the units that joined; one that forbids the write that was asked leaves
a demand fault. -/
def State.grant (wr : Bool) (k : Nat) (s : State) (f : DemandFault) : State :=
  match s.hostEntry k f wr with
  | some e =>
    let t := s.setDie k { s.die k with granted := (s.die k).granted.filter (fun x => !x.meets e) ++ [e] }
    let t := f.units.foldl (fun s u => s.fillUnit u e) t
    if !f.wr || e.w then t else (if f.rd then t else s).demandFault k { f with rd := false }
  | none => s

/-- The host's translation at one die: it ends the die's requests for the page. -/
def State.grantAt (asid va : Nat) (wr : Bool) (s : State) (k : Nat) : State :=
  ((s.die k).ats.filter (fun f => f.at asid va)).foldl (State.grant wr k)
    (s.setDie k { s.die k with ats := (s.die k).ats.filter (fun f => !f.at asid va) })

/-- A die after the host has no translation of a page: the walker asks for the page. -/
def Die.asksPage (asid va : Nat) (d : Die) : Die :=
  { d with ats := d.ats.filter (fun f => !f.at asid va), pri := d.pri ++ d.ats.filter (fun f => f.at asid va) }

section
variable {s : State} {asid va : Nat} {wr : Bool} (serving : s.serving = true)
include serving

theorem exec_atsTranslationResponse_found :
    exec (.atsTranslationResponse asid va true wr) s = .next ((List.range 4).foldl (State.grantAt asid va wr) s) :=
  if_neg (by simp [serving])

theorem exec_atsTranslationResponse_none : exec (.atsTranslationResponse asid va false wr) s =
    .next ((List.range 4).foldl (fun (t : State) k => t.setDie k ((t.die k).asksPage asid va)) s) :=
  if_neg (by simp [serving])
end

theorem State.grantAt_of_none {s : State} {k : Nat} (h : (s.die k).ats = []) (asid va : Nat) (wr : Bool) : s.grantAt asid va wr k = s := by
  have same : { s.die k with ats := (s.die k).ats } = s.die k := rfl
  rw [h] at same
  rw [State.grantAt, h, List.filter_nil, List.filter_nil, same]
  exact s.setDie_die k

/-- A fold whose steps leave the start. -/
theorem foldl_of_fixed {α β : Type} {f : α → β → α} {a : α} {l : List β} (h : ∀ x ∈ l, f a x = a) : l.foldl f a = a := by
  induction l with
  | nil => rfl
  | cons x l ih =>
    obtain ⟨first, rest⟩ := List.forall_mem_cons.mp h
    rw [List.foldl_cons, first, ih rest]

/-- A fold over numbers of which one alone takes a step. -/
theorem foldl_range_of_single {α : Type} {f : α → Nat → α} {a b : α} {n d : Nat} (hd : d < n) (before : ∀ k, k ≠ d → f a k = a) (at_ : f a d = b)
    (after : ∀ k, k ≠ d → f b k = b) : (List.range n).foldl f a = b := by
  obtain ⟨l, r, parts⟩ := List.append_of_mem (List.mem_range.mpr hd)
  have nodup : (l ++ d :: r).Nodup := parts ▸ List.nodup_range
  obtain ⟨-, right, apart⟩ := List.nodup_append.mp nodup
  rw [parts, List.foldl_append, List.foldl_cons, foldl_of_fixed fun k mem => before k (apart k mem d (by simp)), at_]
  exact foldl_of_fixed fun k mem => after k fun same => (List.nodup_cons.mp right).1 (same ▸ mem)

section
variable {s : State} {asid va d : Nat} {wr : Bool} {f : DemandFault} {u : XUnit} {e : TransEnt}

/-- What the translation found for a die's only request leaves, where the entry gives every right that was asked. -/
def State.granted (s : State) (d : Nat) (u : XUnit) (e : TransEnt) : State :=
  (s.setDie d { s.die d with ats := [], granted := (s.die d).granted.filter (fun x => !x.meets e) ++ [e] }).fillUnit u e

theorem State.grantAt_of_single (here : d < s.dies.length) (only : (s.die d).ats = [f]) (page_ : f.at asid va = true) (units : f.units = [u])
    (entry : s.hostEntry d f wr = some e) : s.grantAt asid va wr d =
      if !f.wr || e.w then s.granted d u e
      else (if f.rd then s.granted d u e else s.setDie d { s.die d with ats := [] }).demandFault d { f with rd := false } := by
  have cleared : (s.setDie d { s.die d with ats := [] }).die d = { s.die d with ats := [] } := s.die_setDie_same d here _
  have same : (s.setDie d { s.die d with ats := [] }).hostEntry d f wr = some e := by
    rw [← entry, State.hostEntry, State.hostEntry, State.walk, State.walk, cleared]
    rfl
  have ended : [f].filter (fun f => !f.at asid va) = [] := by simp [page_]
  have mine : [f].filter (fun f => f.at asid va) = [f] := by simp [page_]
  rw [State.grantAt, only, ended, mine, List.foldl_cons, List.foldl_nil, State.grant, same]
  dsimp only
  rw [cleared, State.setDie_setDie, units]
  rfl

section
variable (others : ∀ k, k ≠ d → (s.die k).ats = [])
include others

theorem State.granted_ats_other {k : Nat} (hk : k ≠ d) : ((s.granted d u e).die k).ats = [] := by
  rw [State.granted, State.fillUnit_ats, s.die_setDie_other d hk, others k hk]

theorem State.demandFault_ats_other {t : State} (kept : ∀ k, k ≠ d → (t.die k).ats = (s.die k).ats) {k : Nat} (hk : k ≠ d) :
    ((t.demandFault d f).die k).ats = [] := by
  rw [State.demandFault_ats, kept k hk, others k hk]

/-- The host's translation reaches the one die that asked for it. -/
theorem State.foldl_grantAt {t : State} (here : d < 4) (at_ : s.grantAt asid va wr d = t) (kept : ∀ k, k ≠ d → (t.die k).ats = []) :
    (List.range 4).foldl (State.grantAt asid va wr) s = t :=
  foldl_range_of_single here (fun k hk => State.grantAt_of_none (others k hk) asid va wr) at_
    fun k hk => State.grantAt_of_none (kept k hk) asid va wr
end
end

/-! ### PRI_RESPONSE (14 R375) -/

/-- A die after the host's answer to a page request. -/
def Die.pageAnswered (asid va : Nat) (ok : Bool) (d : Die) : Die :=
  let mine := d.pri.filter (fun f => f.at asid va)
  let d : Die := { d with pri := d.pri.filter (fun f => !f.at asid va) }
  if ok then { d with ats := d.ats ++ mine } else { d with refused := d.refused ++ mine }

theorem exec_priResponse_answers {s : State} {asid va : Nat} {ok : Bool} (serving : s.serving = true)
    (may : ok = false → ∀ wr, s.leased asid va wr = false) : exec (.priResponse asid va ok) s =
      .next ((List.range 4).foldl (fun (t : State) k => t.setDie k ((t.die k).pageAnswered asid va ok)) s) := by
  refine if_neg ?_
  cases ok with
  | true => simp [serving]
  | false => simp [serving, may rfl]

/-! ### ATS_INVALIDATION and MAPPING_CHANGE (14 R375, R376) -/

/-- A state whose host's translations of a page are taken back. -/
def State.dropGrants (s : State) (asid va : Nat) : State :=
  { s with dies := s.dies.map (fun (d : Die) => { d with granted := d.granted.filter (fun e => !e.covers asid va) }) }

theorem State.dropGrants_caches (s : State) (asid va : Nat) : (s.dropGrants asid va).caches = s.caches :=
  Prod.ext rfl (Prod.ext (List.map_map.trans (List.map_congr_left fun _ _ => rfl)) rfl)

theorem exec_atsInvalidation_of_idle {s : State} {asid va : Nat} (serving : s.serving = true)
    (cores : ∀ c ∈ s.cores, ∀ g ∈ c.active, ∀ y ∈ g.piecesIn ⟨asid, page va * 65536, 65536⟩, y.2.space ≠ .host)
    (engines : ∀ e ∈ s.engines, ∀ j ∈ e.runs, ∀ p ∈ j.putsIn ⟨asid, page va * 65536, 65536⟩, p.space ≠ .host) :
    exec (.atsInvalidation asid va) s =
      .next (((s.discardSteps asid).dropEntries (fun e => e.host && e.covers asid va)).dropGrants asid va) := by
  have idle : s.cores.any (fun c => c.active.any (fun g => (g.piecesIn ⟨asid, page va * 65536, 65536⟩).any (fun y => y.2.space == .host))) = false := by
    simpa only [List.any_eq_false, List.any_eq_true, beq_iff_eq, not_exists, not_and] using cores
  have done : s.engines.any (fun e => e.runs.any (fun j => (j.putsIn ⟨asid, page va * 65536, 65536⟩).any (fun p => p.space == .host))) = false := by
    simpa only [List.any_eq_false, List.any_eq_true, beq_iff_eq, not_exists, not_and] using engines
  refine if_neg ?_
  simp only [serving, idle, done]
  decide

theorem State.mem_of_memories_fst {s t : State} (h : t.memories.1 = s.memories.1) : t.mem = s.mem := congrArg Prod.fst h

theorem exec_mappingChange_changes {s : State} {asid va : Nat} {revoke install : List PteWrite} {move : Option (Nat × Nat × Nat)}
    {t : State} {l : List (Nat × Nat × Option PageAt × Option PageAt)} (serving : s.serving = true)
    (ht : t = (Claims.moved (s.pteWrites revoke) move).pteWrites install) (hl : l = changedPages s t (s.changeRange asid va))
    (same : sameData s (copyHostPages s t l) (s.changeRange asid va) l = true)
    (reached : (copyHostPages s t l).strands (s.changeRange asid va) = false) (leases : (copyHostPages s t l).leasesHold asid = true) :
    exec (.mappingChange asid va revoke move install) s = .next
      ((((((copyHostPages s t l).moveTies l).dropFrames l).dropEntries (fun e => e.asid == asid &&
        decide (e.va < (s.changeRange asid va).base + (s.changeRange asid va).len) &&
        decide ((s.changeRange asid va).base < e.va + 2 ^ e.bits))).retargetAll (s.changeRange asid va)).discardSteps asid) := by
  have goes : ¬ (!s.serving || !sameData s (copyHostPages s t l) (s.changeRange asid va) l || (copyHostPages s t l).strands (s.changeRange asid va) ||
      !(copyHostPages s t l).leasesHold asid) = true := by
    simp [serving, same, reached, leases]
  subst hl ht
  cases move with
  | none => exact if_neg goes
  | some m => exact if_neg goes

end Sys2Proof.Machine

namespace Sys2Proof.Claims

open Sys2Proof.Machine

/-- Settles O51: a miss joins, asks or waits by the walks in flight, each die's answer is its own, and the caches after a drop hold nothing that the
test selects. -/
theorem translationEvents : Obligations.TranslationEvents := by
  refine ⟨?_, ?_, ?_, ?_, ?_, ?_, ?_, ?_, ?_⟩
  · intro s u asid va wr serving unit global
    refine ⟨fun pa h e hit held => exec_pageWalk_of_hit serving unit global hit held, fun miss joins => ?_, fun miss new => ?_⟩
    · have joined : (missOf u asid va wr).among (s.die (unitDie u)).walks = true := (DemandFault.among_iff ..).mpr joins
      have walks := exec_pageWalk_of_miss serving unit global miss (.inl joined)
      refine ⟨fun e leaf right => walks.trans (State.walked_of_leaf leaf right), fun unmapped => ?_⟩
      have asks : s.walked u asid va wr = .next (s.ask u asid va wr) := by
        rcases unmapped with unmapped | ⟨b, w, host⟩
        · exact State.walked_of_unmapped unmapped
        · exact State.walked_of_host_joins host joined
      rw [walks, asks]
      refine ⟨fun quiet => by rw [State.ask_of_unasked quiet], fun asked => ⟨s.joined u asid va wr, ?_, rfl, ?_, fun x mem ha hp => ?_⟩⟩
      · rw [State.ask_of_joins asked joined]
      · rw [State.joined_walks, DemandFault.length_join]
      · rw [State.joined_walks] at mem
        obtain ⟨units, write, read⟩ := DemandFault.of_mem_join mem ⟨ha, hp⟩
        exact ⟨units u (List.mem_singleton.mpr rfl), write, fun rd => read (by rw [rd]; rfl)⟩
    · have alone : (missOf u asid va wr).among (s.die (unitDie u)).walks = false :=
        Bool.eq_false_iff.mpr fun joins => by
          obtain ⟨x, mem, at_⟩ := (DemandFault.among_iff ..).mp joins
          exact new x mem at_
      refine ⟨exec_pageWalk_of_full serving unit global miss alone, fun room => ?_⟩
      have walks := exec_pageWalk_of_miss serving unit global miss (.inr room)
      rw [walks]
      refine ⟨fun e => State.walked_of_leaf, fun b w host right => State.walked_of_host host right alone, fun unmapped => ?_⟩
      rw [State.walked_of_unmapped unmapped]
      exact ⟨fun asked => by rw [State.ask_of_new asked alone]; rfl, fun quiet => by rw [State.ask_of_unasked quiet]⟩
  · intro s u d writes f rest faults serving
    exact ⟨exec_demandFaultService_serves faults serving, exec_demandFaultService_refuses faults serving writes⟩
  · intro s f
    exact ⟨State.refusals_of_unleased, State.refusals_of_leased⟩
  · intro s u
    refine ⟨rfl, fun x l written => ?_⟩
    obtain ⟨may, rest⟩ := State.serviceWrites_cons written
    exact ⟨rest, (s.mayService_iff x).mp may⟩
  · rintro s asid va d wr f u e a b serving four here only others ha hp units entry rfl rfl
    have at_ := State.grantAt_of_single (four ▸ here) only ((f.at_iff asid va).mpr ⟨ha, hp⟩) units entry
    rw [exec_atsTranslationResponse_found serving]
    refine ⟨fun right => ?_, fun write readOnly => ?_⟩
    · rw [if_pos (by cases h : f.wr <;> simp [right, h])] at at_
      exact congrArg _ (State.foldl_grantAt others here at_ fun k => State.granted_ats_other others)
    · rw [if_neg (by simp [write, readOnly])] at at_
      refine congrArg _ (State.foldl_grantAt others here at_ fun k => State.demandFault_ats_other others fun j hj => ?_)
      split
      · exact (State.granted_ats_other others hj).trans (others j hj).symm
      · rw [s.die_setDie_other d hj]
  · intro s asid va wr serving
    refine ⟨_, exec_atsTranslationResponse_none serving, fun k hk => ?_⟩
    rw [s.die_foldl_setDie rfl, if_pos hk]
    exact ⟨rfl, rfl⟩
  · intro s asid va ok serving may
    have fixed : Die.reset.pageAnswered asid va ok = Die.reset := by cases ok <;> rfl
    refine ⟨_, exec_priResponse_answers serving may, fun k hk => ?_⟩
    rw [s.die_foldl_setDie fixed, if_pos hk]
    cases ok with
    | true => exact ⟨rfl, rfl, (List.append_nil _).symm⟩
    | false => exact ⟨rfl, (List.append_nil _).symm, rfl⟩
  · intro s asid va serving cores engines
    refine ⟨_, exec_atsInvalidation_of_idle serving cores engines, fun u l e level mem covered => ?_⟩
    have kept := State.not_of_mem_dropEntries (State.dropGrants_caches _ asid va) level mem
    simp [covered] at kept
  · intro s t asid va revoke install move l serving ht hl same reached leases
    refine ⟨_, exec_mappingChange_changes serving ht hl same reached leases, ?_, fun u k e level mem meets => ?_⟩
    · refine State.mem_of_memories_fst ?_
      rw [State.discardSteps_memories_fst, State.retargetAll_memories_fst, State.dropEntries_memories_fst, State.dropFrames_memories_fst,
        State.moveTies_memories_fst]
    · have kept := State.not_of_mem_dropEntries ((State.discardSteps_caches _ asid).trans (State.retargetAll_caches _ (s.changeRange asid va))) level mem
      simp [meets] at kept

end Sys2Proof.Claims
end
